-- ==== Sys2Proof/Word.lean ====
section
/-! DEFINITION. The word types and their plainest arithmetic. -/

namespace Sys2Proof

abbrev Byte := BitVec 8
abbrev Half := BitVec 16
abbrev Word := BitVec 32
abbrev Long := BitVec 64

/-- Largest value of an unsigned field of `w` bits. -/
def fieldMax (w : Nat) : Nat := 2 ^ w - 1

end Sys2Proof
end

