-- ==== Sys2Proof/Syntax.lean ====
section
/-! DEFINITION. The commands of the YK4096 as a block: one constructor per row of the table of operations and
events, with the operands the row's step needs from outside. Every command carries `t`, the device time in ns
at which the step happens (assumption log, entry 1). -/

namespace Sys2Proof

/-- Lanes of one direction of a die-to-die link that fail the ROM-stage test (R89): `data` failing data lanes
and `spare` failing spare lanes; `dir` 0 to the hub, 1 from the hub. -/
structure D2dFail where
  link : Nat
  dir : Nat
  data : Nat
  spare : Nat
deriving DecidableEq, Repr

/-- What training finds on one channel (R239, R255): density in GiB, whether it trains at MEM_RATE_MTS, and the
failing DQ lanes and DMI lane of each byte. -/
structure ChanTrain where
  channel : Nat
  density : Nat
  trains : Bool
  lanes0 : List Nat
  dmi0 : Bool
  lanes1 : List Nat
  dmi1 : Bool
deriving DecidableEq, Repr

/-- One calibration run of a lit engine in the LIGHT stage (R281, R291): dark level in 1/16 code, and whether
every fitted lane meets the precision limit. -/
structure CalRun where
  engine : Nat
  dark : Nat
  fitOk : Bool
deriving DecidableEq, Repr

/-- What the FABRIC stage finds on one port (R294, R302): lanes that pass in each direction (bit masks), and what
the identity exchange and the delay measurement give. -/
structure PortTrain where
  port : Nat
  rxMask : Nat
  txMask : Nat
  farDomain : Nat
  farDevice : Nat
  farPort : Nat
  parentClaim : Bool
  delayNs : Nat
deriving DecidableEq, Repr

/-- ROUND_MARK of Table 12.4. For tooth 0 `rev` and `epoch` are the values of its two slots. -/
structure MarkMsg where
  master : Nat
  tooth : Nat
  delayNs : Nat
  hops : Nat
  rev : Nat
  epoch : Nat
deriving DecidableEq, Repr

/-- BEACON of Table 12.4. -/
structure BeaconMsg where
  master : Nat
  epoch : Nat
  memberGen : Nat
  masterTime : Nat
deriving DecidableEq, Repr

/-- MEMBER of Table 12.4; `change` 1 admitted, 2 removed, 3 lost below a relay. -/
structure MemberMsg where
  master : Nat
  device : Nat
  change : Nat
  gen : Nat
  serial : Nat
deriving DecidableEq, Repr

/-- RECONF of Table 12.4. -/
structure ReconfMsg where
  master : Nat
  plan : Nat
  angle : Nat
  rev : Nat
deriving DecidableEq, Repr

/-- A join request (R296, R306); the 48-byte digest as a number, `hops` electrical hops already taken, `tag` its FAB_DF_TAG. -/
structure JoinReq where
  device : Nat
  digest : Nat
  serial : Nat
  sequence : Nat
  stepping : Nat
  hops : Nat
  tag : Nat
deriving DecidableEq, Repr

/-- A join answer (R296, Table 12.5): result code, domain epoch, membership bitmap as a number, and the number of
MEMBER changes the master has made. -/
structure JoinAns where
  device : Nat
  code : Nat
  epoch : Nat
  bitmap : Nat
  memberGen : Nat
deriving DecidableEq, Repr

/-- A control flit's content (R295, R301, R302). -/
inductive CtlMsg where
  | training
  | identity (domain device port : Nat) (parentClaim : Bool)
  | delay (roundTripNs turnaroundNs : Nat)
  | probe
  | probeAnswer
deriving DecidableEq, Repr

/-- A request for an event slot by an internal owner (R48, R49): owner 0 Lehr, 1 job scheduler, 2 fabric, 3 Lens,
4 supervisor. -/
structure ArmReq where
  owner : Nat
  angle : Nat
  offset : Nat
  rev : Nat
  next : Bool
  tag : Nat
deriving DecidableEq, Repr

/-- The sensors at a control tick (R67, R75, R279): power at the rails over the last tick in mW before saturation, the
junction temperature of each die in 1/16 degC before saturation, for each cluster the number of MXEs with no real work, and the
power of each comb fibre at entry in 0.01 dBm. -/
structure PowerReading where
  measuredMw : Nat
  temps : List Int
  idleMxe : List Nat
  comb : List Int
deriving DecidableEq, Repr

/-- A sync message of Table 6.2; `kind` 1 signal, 2 fill, 3 arrive, 4 release. -/
structure SyncMsg where
  kind : Nat
  device : Nat
  cluster : Nat
  tile : Nat
  index : Nat
  level : Nat
  context : Nat
  gen : Nat
  abort : Bool
  payload : Nat
deriving DecidableEq, Repr

/-- One pass of the before-and-after check of R220: how long the slot read took, and whether the entry changed
in cell, shard, version or validity meanwhile. -/
structure RowAttempt where
  nanos : Nat
  changed : Bool
deriving DecidableEq, Repr

/-- A feature-store message between parts about one row (R296 kind 4): the row, the part it concerns, and of a copy the row
bytes with their poison and the reads that earned it. -/
structure ReplicaMsg where
  table : Nat
  row : Nat
  device : Nat
  bytes : List (BitVec 8 × Bool)
  est : Nat
deriving DecidableEq, Repr

/-- What is found in one sector as it is read: nothing, a transfer that link ECC corrected (R252), or by its check code an error
that is corrected or is not correctable (R242). -/
inductive Ecc where
  | clean
  | linkCorrected
  | corrected
  | uncorrectable
deriving DecidableEq, Repr

/-- A finding at one sector of a page, by its number within the page. -/
structure EccAt where
  sector : Nat
  finding : Ecc
deriving DecidableEq, Repr

/-- What the checker of a traffic-generator run reports (R260). -/
structure TgResult where
  errors : Nat
  firstErr : Nat
  corrected : Nat
  passes : Nat
deriving DecidableEq, Repr

/-- Send data landing on VC3 (R296 kinds 0 and 1, R314): destination address or reservation offset, the sectors
with their poison, and for the last flit of a firing the done counter; the port it came in on and its sender. -/
structure SendData where
  port : Nat
  src : Nat
  toReservation : Bool
  address : Nat
  context : Nat
  cluster : Nat
  tile : Nat
  sectors : List (List (BitVec 8) × Bool)
  last : Bool
  counter : Nat
deriving DecidableEq, Repr

/-- When the part enters READY, and how many programming steps of R109 and R363 have been made by then; none where all have. -/
structure ReadyEntry where
  t : Nat
  steps : Option Nat
deriving DecidableEq, Repr

/-- The head of an SMBus transfer (R366): its moment, the 7-bit address the host sends, and whether a packet error code goes with it:
asked for by a host that reads, carried by a write. -/
structure SmbusHead where
  t : Nat
  addr : Nat
  pec : Bool
deriving DecidableEq, Repr

/-- The commands. -/
inductive Instr where
  /-- RESET_N_ASSERT, R84. -/
  | resetNAssert (t : Nat)
  /-- RESET_N_RELEASE, R32. -/
  | resetNRelease (t : Nat) (frcLow testEn : Bool) (smbAddr : Nat) (d2d : List D2dFail)
  /-- PGOOD_FALL, R85. -/
  | pgoodFall (t : Nat)
  /-- SYSCLK_LOSS, R382. -/
  | sysclkLoss (t : Nat)
  /-- REFCLK_STOP, R395. -/
  | refclkStop (t : Nat)
  /-- PCIE_LINK_UP, R87. -/
  | pcieLinkUp (t : Nat)
  /-- IMAGE_STAGE, R101. `readErrA` and `readErrB`: the check during which the slot's flash gave a read error, 0 for none
  (R97), plus 16 where its IMG_CONTAINER cannot be read as a whole. -/
  | imageStage (t : Nat) (readErrA readErrB : Nat) (logUnreadable : List Nat)
  /-- MEMORY_STAGE, R268. -/
  | memoryStage (t : Nat) (found : List ChanTrain)
  /-- LIGHT_STAGE, R291. -/
  | lightStage (t : Nat) (lost : List Nat) (runs : List CalRun)
  /-- FABRIC_STAGE, R302. -/
  | fabricStage (t : Nat) (found : List PortTrain)
  /-- ROUND_STAGE, R61. -/
  | roundStage (t : Nat)
  /-- JOIN_STAGE, R306. -/
  | joinStage (t : Nat)
  /-- RAMP_STAGE, R82. -/
  | rampStage (t : Nat)
  /-- START_STAGE_TIMEOUT, R86. -/
  | startStageTimeout (t : Nat)
  /-- READY, R109. -/
  | ready (entry : ReadyEntry)
  /-- FORCE_RECOVERY_N_FALL, R103. -/
  | forceRecoveryNFall (t : Nat)
  /-- RECOVERY_PIN_HELD, R103. -/
  | recoveryPinHeld (t : Nat)
  /-- IMG_RECOVERY_DOOR_WRITE, R105. -/
  | imgRecoveryDoorWrite (t : Nat) (requester : Nat) (word : BitVec 32)
  /-- RECOVERY_PROGRAMMING_DONE, R105. -/
  | recoveryProgrammingDone (t : Nat) (ok : Bool) (left : List (BitVec 8))
  /-- RECOVERY_TIMEOUT, R105. -/
  | recoveryTimeout (t : Nat)
  /-- GENERATED_TOOTH, R33. -/
  | generatedTooth (t : Nat)
  /-- ROUND_EDGE, R36. -/
  | roundEdge (t : Nat)
  /-- ROUND_MARK, R34. -/
  | roundMark (t : Nat) (port : Nat) (m : MarkMsg)
  /-- STALL_TIMEOUT, R36. -/
  | stallTimeout (t : Nat)
  /-- MICRO_TICK, R41. -/
  | microTick (t : Nat)
  /-- DEVICE_TIME_ANGLE_TICK, R398. -/
  | deviceTimeAngleTick (t : Nat)
  /-- ARM_REQUEST, R49. -/
  | armRequest (t : Nat) (q : ArmReq)
  /-- EVENT_SLOT_FIRE, R50. -/
  | eventSlotFire (t : Nat) (slot : Nat)
  /-- TASK_PLACEMENT, R336. -/
  | taskPlacement (t : Nat) (parcel : Nat)
  /-- SEGMENT_END, R65. -/
  | segmentEnd (t : Nat)
  /-- PLATEAU_REACHED, R82. -/
  | plateauReached (t : Nat)
  /-- CONTROL_TICK, R67. -/
  | controlTick (t : Nat) (r : PowerReading)
  /-- CLAIM_IDLE_RELEASE, R62. -/
  | claimIdleRelease (t : Nat) (partition : Nat)
  /-- POWER_HOLD_EXPIRED, R78. -/
  | powerHoldExpired (t : Nat)
  /-- PWR_ALERT_N_ASSERT, R79. -/
  | pwrAlertNAssert (t : Nat)
  /-- PWR_ALERT_N_RELEASE, R79. -/
  | pwrAlertNRelease (t : Nat)
  /-- THERMAL_TRIP, R80. -/
  | thermalTrip (t : Nat) (die : Nat)
  /-- NOP, R115. -/
  | nop (t : Nat) (tile slot : Nat)
  /-- FUSED, R116. -/
  | fused (t : Nat) (tile slot : Nat)
  /-- DRAIN, R128. -/
  | drain (t : Nat) (tile slot : Nat)
  /-- END, R115. -/
  | endTask (t : Nat) (tile slot : Nat)
  /-- FETCH_PHASE_START, R121. -/
  | fetchPhaseStart (t : Nat) (tile slot : Nat)
  /-- BUFFER_SWAP, R123. -/
  | bufferSwap (t : Nat) (tile slot : Nat)
  /-- COMMAND_COMPLETE, R121. -/
  | commandComplete (t : Nat) (tile slot : Nat)
  /-- TASK_SWITCH, R129. -/
  | taskSwitch (t : Nat) (tile : Nat)
  /-- DEADLINE_CLOSE, R132. -/
  | deadlineClose (t : Nat) (tile slot : Nat)
  /-- SIGNAL, R152. -/
  | signal (t : Nat) (m : SyncMsg)
  /-- FILL, R149. -/
  | fill (t : Nat) (m : SyncMsg)
  /-- ARRIVE, R157. -/
  | arrive (t : Nat) (m : SyncMsg)
  /-- RELEASE, R157. -/
  | release (t : Nat) (m : SyncMsg)
  /-- BARRIER_SLOW, R159. -/
  | barrierSlow (t : Nat) (level unit record : Nat)
  /-- MARVER_COMBINE, R176. -/
  | marverCombine (t : Nat) (cluster : Nat)
  /-- DONE_ACTION, R176. -/
  | doneAction (t : Nat) (cluster slot : Nat)
  /-- ROTATION, R180. -/
  | rotation (t : Nat) (cluster slot : Nat)
  /-- ROW_REQUEST, R220. -/
  | rowRequest (t : Nat) (index : Nat) (attempts : List RowAttempt)
  /-- ROW_RESPONSE, R218. -/
  | rowResponse (t : Nat) (index : Nat)
  /-- ROW_HOME_UNREACHABLE, R218. -/
  | rowHomeUnreachable (t : Nat) (tag : Nat)
  /-- LETTER_WRITE, R226. -/
  | letterWrite (t : Nat) (index : Nat)
  /-- LETTER_UNLOAD, R226. -/
  | letterUnload (t : Nat) (index : Nat)
  /-- REPLICA_COPY, R232. -/
  | replicaCopy (t : Nat) (m : ReplicaMsg)
  /-- REPLICA_INVALIDATE, R226. -/
  | replicaInvalidate (t : Nat) (m : ReplicaMsg)
  /-- INVALIDATE_ACKNOWLEDGEMENT, R226. -/
  | invalidateAcknowledgement (t : Nat) (m : ReplicaMsg)
  /-- REPLICA_DROP, R233. -/
  | replicaDrop (t : Nat) (m : ReplicaMsg)
  /-- INVALIDATION_TIMEOUT, R233. -/
  | invalidationTimeout (t : Nat) (m : ReplicaMsg)
  /-- SETTLE_EXPIRY, R226. -/
  | settleExpiry (t : Nat) (index : Nat)
  /-- LETTER_COMPLETE, R341. -/
  | letterComplete (t : Nat) (letter : Nat)
  /-- SUPERVISOR_REVIEW, R230. -/
  | supervisorReview (t : Nat)
  /-- MEMORY_REQUEST_ACCEPT, R247. -/
  | memoryRequestAccept (t : Nat) (channel : Nat)
  /-- MEMORY_READ_DONE, R252. -/
  | memoryReadDone (t : Nat) (channel slot : Nat) (ecc : List Ecc)
  /-- RETIREMENT_COPY_DONE, R253. -/
  | retirementCopyDone (t : Nat) (channel : Nat) (ecc : List EccAt)
  /-- WCB_IDLE_EVICTION, R249. -/
  | wcbIdleEviction (t : Nat) (channel : Nat)
  /-- REGULATOR_ADMIT, R258. -/
  | regulatorAdmit (t : Nat) (partition : Nat)
  /-- REFRESH, R256. -/
  | refresh (t : Nat) (channel bank : Nat)
  /-- SCRUB_READ, R256. -/
  | scrubRead (t : Nat) (channel : Nat) (ecc : Ecc)
  /-- SELF_REFRESH_ENTRY, R256. -/
  | selfRefreshEntry (t : Nat) (channel : Nat)
  /-- TG_START, R260. -/
  | tgStart (t : Nat) (requester channel : Nat) (word : BitVec 32)
  /-- TG_STOP, R260. -/
  | tgStop (t : Nat) (requester channel : Nat) (word : BitVec 32)
  /-- TG_RUN_END, R260. -/
  | tgRunEnd (t : Nat) (channel : Nat) (r : TgResult)
  /-- LENS_REQUEST, R271. -/
  | lensRequest (t : Nat) (index : Nat)
  /-- MATRIX_LOAD_DONE, R271. -/
  | matrixLoadDone (t : Nat) (engine : Nat)
  /-- INTEGRATION_WINDOW, R269. -/
  | integrationWindow (t : Nat) (engine : Nat)
  /-- ACTIVITY_MICROSECOND, R277. -/
  | activityMicrosecond (t : Nat) (engine : Nat)
  /-- CALIBRATION_DONE, R281. -/
  | calibrationDone (t : Nat) (engine dark : Nat) (fitOk : Bool)
  /-- PILOT_CORRECTION, R283. -/
  | pilotCorrection (t : Nat) (engine drift : Nat)
  /-- LIGHT_SOURCE_LOST, R279. -/
  | lightSourceLost (t : Nat) (source : Nat)
  /-- FLIT_RECEIVE, R297. -/
  | flitReceive (t : Nat) (port : Nat) (bytes : List (BitVec 8))
  /-- FLIT_SEND, R298. -/
  | flitSend (t : Nat) (port vc : Nat)
  /-- REPLAY_TIMEOUT, R297. -/
  | replayTimeout (t : Nat) (port : Nat)
  /-- ACK_TIMEOUT, R297. -/
  | ackTimeout (t : Nat) (port : Nat)
  /-- PORT_RETRAIN_DONE, R303. -/
  | portRetrainDone (t : Nat) (port rxMask txMask : Nat)
  /-- CONTROL_FLIT, R302. -/
  | controlFlit (t : Nat) (port : Nat) (m : CtlMsg)
  /-- PROBE_TIMEOUT, R301. -/
  | probeTimeout (t : Nat) (port : Nat)
  /-- PROBE_REPEAT, R301. -/
  | probeRepeat (t : Nat) (port : Nat)
  /-- RECONF, R301. -/
  | reconf (t : Nat) (port : Nat) (m : ReconfMsg)
  /-- JOIN_REQUEST_TIMER, R306. -/
  | joinRequestTimer (t : Nat)
  /-- JOIN_REQUEST, R306. -/
  | joinRequest (t : Nat) (port : Nat) (m : JoinReq)
  /-- JOIN_ANSWER, R306. -/
  | joinAnswer (t : Nat) (m : JoinAns)
  /-- BEACON_TIMER, R310. -/
  | beaconTimer (t : Nat)
  /-- BEACON, R310. -/
  | beacon (t : Nat) (port : Nat) (m : BeaconMsg)
  /-- MEMBER, R311. -/
  | member (t : Nat) (port : Nat) (m : MemberMsg)
  /-- MASTER_TIMEOUT, R311. -/
  | masterTimeout (t : Nat)
  /-- SEND_DATA, R314. -/
  | sendData (t : Nat) (d : SendData)
  /-- PART_DOOR_WRITE, R327. -/
  | partDoorWrite (t : Nat) (function : Nat) (word : BitVec 32)
  /-- DOOR_TORN, R327. -/
  | doorTorn (t : Nat) (function : Nat)
  /-- POST_RECEIVED, R334. -/
  | postReceived (t : Nat) (post : Nat) (body : List (BitVec 8))
  /-- POST_READ_TIMEOUT, R328. -/
  | postReadTimeout (t : Nat) (post : Nat)
  /-- TLS_HANDSHAKE, R329. -/
  | tlsHandshake (t : Nat) (port conn clientDigest : Nat)
  /-- NETWORK_FRAME, R330. -/
  | networkFrame (t : Nat) (port conn : Nat) (header body : List (BitVec 8))
  /-- PARCEL_LIMIT, R338. -/
  | parcelLimit (t : Nat) (parcel : Nat)
  /-- FUNCTION_LEVEL_RESET, R345. -/
  | functionLevelReset (t : Nat) (function : Nat)
  /-- STATUS_READ_LOW_HALF, R356. -/
  | statusReadLowHalf (t : Nat) (requester : Nat) (bar2 : Bool) (offset size : Nat)
  /-- STATUS_READ_HIGH_HALF, R356. -/
  | statusReadHighHalf (t : Nat) (requester : Nat) (bar2 : Bool) (offset : Nat)
  /-- BAD_SIZE_READ, R355. -/
  | badSizeRead (t : Nat) (requester offset size : Nat)
  /-- W1C_WRITE, R13. -/
  | w1cWrite (t : Nat) (requester : Nat) (bar2 : Bool) (offset : Nat) (word : BitVec 32)
  /-- REGISTER_WRITE, R13. -/
  | registerWrite (t : Nat) (requester : Nat) (bar2 : Bool) (offset size : Nat) (word : BitVec 32)
  /-- SMBUS_STATUS_READ, R366. -/
  | smbusStatusRead (head : SmbusHead) (offset count : Nat)
  /-- SMBUS_ACCESS_STATUS, R366. -/
  | smbusAccessStatus (head : SmbusHead)
  /-- SMBUS_ACCESS_CLEAR, R366. `pecOk` says that the code it carries is right. -/
  | smbusAccessClear (head : SmbusHead) (pecOk : Bool)
  /-- SMBUS_POWER_SAMPLE, R366. -/
  | smbusPowerSample (head : SmbusHead) (index : Nat)
  /-- SMBUS_SUMMARY, R366. -/
  | smbusSummary (head : SmbusHead)
  /-- EXTEST, R367. -/
  | extest (t : Nat)
  /-- SAMPLE_PRELOAD, R367. -/
  | samplePreload (t : Nat) (cells : Nat)
  /-- IDCODE, R367. -/
  | idcode (t : Nat)
  /-- STATUS_READ, R367. -/
  | statusRead (t : Nat) (offset : Nat)
  /-- ACC_CLEAR, R367. -/
  | accClear (t : Nat)
  /-- BYPASS, R367. -/
  | bypass (t : Nat) (code : Nat)
  /-- FORCE_RECOVERY_N_RISE, R103. -/
  | forceRecoveryNRise (t : Nat)
  /-- ROUND_IN_FALLING_EDGE, R35. -/
  | roundInFallingEdge (t : Nat)
  /-- CONNECTION_CLOSE, R330. -/
  | connectionClose (t : Nat) (port conn : Nat)
  /-- WRITE_TO_DEVICE_DONE, R247. -/
  | writeToDeviceDone (t : Nat) (channel slot : Nat)
deriving DecidableEq, Repr

end Sys2Proof
end

