-- ==== Sys2Proof/Config.lean ====
section
/-! DEFINITION. What a part or its surroundings fix and the manual leaves open: constants of the part and free
values. Each is opaque: nothing in Lean can evaluate it, so a statement about it holds for every value
(assumption log, entries 3 and 6). -/

namespace Sys2Proof.Config

/-- ID_VARIANT of the part: true for a YK4096-C (R1, R358). -/
opaque variantC : Bool
/-- ID_SERIAL (R358). -/
opaque serial : BitVec 64
/-- ID_SUPV_RELEASE (R358). -/
opaque supvRelease : BitVec 32
/-- ID_DEVKEY, the 97-byte point as a number, first byte least significant (R358). -/
opaque deviceKey : Nat
/-- The digest supplied with the purchase order, programmed in key slot 0 (R360). -/
opaque factoryKeyDigest : Nat

/-- The ballast change for a difference of `err` mW at the `n`-th draw: the gain of R67 is not stated. -/
opaque ballastStep : Nat → Nat → Nat
/-- The error of a measured Lens code at the `n`-th draw (R274): only its bound is stated. -/
opaque lensError : Nat → Int
/-- Which of the FP32 values within 2 units in the last place activation `fn` (3 GELU, 4 sigmoid, 5 tanh) delivers
for an FP32 bit pattern: identical on every part (R196). -/
opaque activation : Nat → BitVec 32 → BitVec 32
/-- The byte a poisoned delivery carries for a device address that no memory in service holds (R244, R257): the
manual gives it no value. -/
opaque freeByte : Nat → BitVec 8

/-- The revolution a report names when its parcel was never released, at the `n`-th draw (Table 13.7 names only the release
revolution). -/
opaque reportRev : Nat → BitVec 32

/-- SYNC_WS_ACTION of a watch slot that a combine entry occupies: the manual gives no code for it (Table 6.5, R175). -/
opaque combineAction : BitVec 2

/-- Bytes of the row that passes on with TILE_CMD_POOL 0 from a bag that does not hold exactly one row, at the `n`-th draw:
the manual states none (R116, R223). -/
opaque unpooled : Nat → Nat → BitVec 8

/-- Residence of a forwarded Round marker in ns, at the `n`-th draw: at most 200 (R310, Table 12.9). -/
opaque markerResidence : Nat → Nat

/-- What a byte of an image slot holds when its programming was cut off, at the `n`-th draw: undefined (R109). -/
opaque slotByte : Nat → Nat → BitVec 8

/-- What the boundary-scan cells capture at the `n`-th draw: the manual gives neither their number nor their order (R367). -/
opaque scanCells : Nat → Nat

/-- The word a JTAG status read at an offset that is not a multiple of 4 captures, at the `n`-th draw (R367 states none). -/
opaque strayWord : Nat → BitVec 32

end Sys2Proof.Config
end

