-- ==== Sys2Proof/Machine/State.lean ====
section
/-! DEFINITION. The state of the block: every register, queue, buffer and mode the manual gives the part, as
plain data. A unit that exists many times (event slots, tiles, channels, ports, contexts) is held in a sparse table,
`Tab`; a unit that is not listed has its reset value, which is the default of its structure. -/

namespace Sys2Proof.Machine

/-- A sparse table with rising keys. -/
abbrev Tab (α : Type) := List (Nat × α)

/-! ### The image copy (R102): every field of every record -/

/-- RND_CORE, RND_SLOT, RND_SAMPLES (Table 2.6). -/
structure ImgRound where
  source : Nat := 0
  outMode : Nat := 1
  stallTeeth : Nat := 8
  tolPct : Nat := 5
  periodUs : Nat := 256000
  lineDelay : Nat := 0
  slotAngle : Nat := 0
  samples : List (Nat × Nat) := [(0, 0xFF)]
deriving DecidableEq, Repr

/-- PWR_CORE (Table 3.1). -/
structure ImgPwr where
  floorW : Nat := 150
  ceilingW : Nat := 450
  slew : Nat := 20
  stepTeeth : Nat := 16
  holdS : Nat := 60
  idleRev : Nat := 16
  baseW : Nat := 0
  warnC : Nat := 95
deriving DecidableEq, Repr

/-- IMG_CONTAINER, IMG_IDENTITY, IMG_START (Table 4.7). -/
structure ImgStart where
  rollbackStep : Nat := 0
  rollbackAdvance : Bool := false
  keySlot : Nat := 0
  sequence : Nat := 0
  buildId : Nat := 0
  variantMask : Nat := 3
  stepping : Nat := 0
  serialBind : Nat := 0
  syncTimeoutS : Nat := 60
  joinTimeoutS : Nat := 120
  maxChannelsDown : Nat := 0
  bootAttempts : Nat := 3
deriving DecidableEq, Repr

/-- TILE_CORE and TILE_RT (Table 5.5). -/
structure ImgTile where
  islandMhz : Nat := 1500
  switchWait : Nat := 256
  rxKib : Nat := 16
  rtMask : Nat := 0
deriving DecidableEq, Repr

/-- SYNC_CORE (Table 6.4). -/
structure ImgSync where
  supvWatches : Nat := 8
  slowMs : Nat := 1000
deriving DecidableEq, Repr

/-- FS_CORE (Table 9.1). -/
structure ImgFs where
  areaMib : Nat := 0
  settleUs : Nat := 1000
  hotPct : Nat := 200
  coldPct : Nat := 75
  hotRevs : Nat := 2
  migratePairs : Nat := 4
  repIdleRevs : Nat := 8
  migrateRows : Nat := 16
  replicaMib : Nat := 1024
  ccReplicaKib : Nat := 512
  ccRepThresh : Nat := 65536
  devRepThresh : Nat := 16384
deriving DecidableEq, Repr

/-- One FS_TABLE record (Table 9.1). -/
structure FsTable where
  id : Nat := 0
  mode : Nat := 0
  live : Bool := false
  product : Bool := false
  fmt : Nat := 0
  width16 : Nat := 1
  shards : Nat := 64
  rows : Nat := 1
  devFirst : Nat := 0
  devCount : Nat := 1
  compA : Nat := 0
  compB : Nat := 0
  writer : Nat := 0
  headroom : Nat := 25
  seed : Nat := 0
  readers : Nat := 0
deriving DecidableEq, Repr

/-- MEM_CORE (Table 10.3). -/
structure ImgMem where
  rateMts : Nat := 8533
  rawGib : Nat := 8
  ceRetire : Nat := 8
  ccAtomicKib : Nat := 256
  srIdleMs : Nat := 1000
  holdOut : Nat := 0
deriving DecidableEq, Repr

/-- One MEM_REGION record (Table 10.3). -/
structure Region where
  context : Nat := 0
  index : Nat := 0
  write : Bool := true
  atomicCache : Bool := false
  wide : Bool := false
  size64k : Nat := 1
  ctxBase : Nat := 0
  devBase : Nat := 0
deriving DecidableEq, Repr

/-- LENS_CORE (Table 11.2). -/
structure ImgLens where
  comb : Bool := false
  calEvery : Nat := 4
  calAngle : Nat := 64 * 256
  engineMask : Nat := 0xFFFFFFFF
  darkThresh : Nat := 8
deriving DecidableEq, Repr

/-- FAB_CORE (Table 12.7); `present` false is an image without the record, a domain of one (R304). -/
structure ImgFab where
  present : Bool := false
  deviceId : Nat := 0
  masterId : Nat := 0
  domainSize : Nat := 1
  parentPort : Nat := 16
  altParent : Nat := 16
  spineMask : Nat := 0
  portLanes : Nat := 16
  minLanes : Nat := 14
  masterTimeoutMs : Nat := 10
  reconfLeadUs : Nat := 20
  domainId : Nat := 0
deriving DecidableEq, Repr

/-- One FAB_PLAN record: for each port its mode (0 terminated, 1 pass-through, 2 dark) and partner. -/
structure FabPlan where
  index : Nat := 0
  ports : List (Nat × Nat) := []
deriving DecidableEq, Repr

/-- One partition entry of PART_PLAN (Table 13.1). -/
structure PartEntry where
  clusterA : Nat := 0
  clusterB : Nat := 1
  rate : Nat := 0
  burstKib : Nat := 256
deriving DecidableEq, Repr

/-- One PART_CONTEXT record. Key and client digest as numbers. -/
structure CtxRec where
  id : Nat := 0
  partition : Nat := 0
  pcie : Bool := true
  net : Bool := false
  parcelMib : Nat := 64
  key : Nat := 0
  client : Nat := 0
deriving DecidableEq, Repr

/-- One PART_NET record. -/
structure NetRec where
  port : Nat := 0
  vlan : Nat := 0
  mtu : Nat := 1500
  tcp : Nat := 7040
  v4Prefix : Nat := 0
  v6Prefix : Nat := 0
  v4Addr : Nat := 0
  v6Addr : Nat := 0
  v4Gw : Nat := 0
  v6Gw : Nat := 0
deriving DecidableEq, Repr

/-- One ID_FUSE_REQ record (Table 14.9). -/
structure FuseReq where
  kind : Nat := 1
  slot : Nat := 0
  serial : Nat := 0
  value : Nat := 0
  digest : Nat := 0
deriving DecidableEq, Repr

/-- The accepted image (R102). `partPlan` holds the 32 partition entries. -/
structure Image where
  start : ImgStart := {}
  round : ImgRound := {}
  pwr : ImgPwr := {}
  tile : ImgTile := {}
  sync : ImgSync := {}
  fs : ImgFs := {}
  tables : List FsTable := []
  mem : ImgMem := {}
  regions : List Region := []
  lens : ImgLens := {}
  fab : ImgFab := {}
  plans : List FabPlan := []
  partPlan : List PartEntry := []
  contexts : List CtxRec := []
  nets : List NetRec := []
  fuseReqs : List FuseReq := []
  digest : Nat := 0
deriving DecidableEq, Repr

/-! ### What survives a reset -/

/-- One fuse-log record (Table 14.9). -/
structure FuseRec where
  kind : Nat := 0
  slot : Nat := 0
  complete : Bool := false
  factory : Bool := false
  imgSeq : Nat := 0
  old : Nat := 0
  new : Nat := 0
  bootSeq : Nat := 0
deriving DecidableEq, Repr

/-- One of the four key slots. -/
structure KeySlot where
  programmed : Bool := false
  revoked : Bool := false
  digest : Nat := 0
deriving DecidableEq, Repr

/-- The counted fuse settings (Table 14.8) and the fuse log (R364). -/
structure Fuses where
  rollback : Nat := 0
  ceilingW : Nat := 450
  planLock : Nat := 0
  keys : List KeySlot := [{}, {}, {}, {}]
  log : List FuseRec := []
deriving DecidableEq, Repr

/-- The part's own constants, its fuses, and the attached flash (bytes not listed read 0xFF), whose log area has room for
`logRoom` entries of 32 bytes: 32 MiB in a flash of 64 MiB (R90). -/
structure NonVol where
  variantC : Bool := false
  serial : Nat := 0
  supvRelease : Nat := 0
  devKey : Nat := 0
  fuses : Fuses := {}
  flash : List Host.Cell := []
  logRoom : Nat := 0x100000
deriving DecidableEq, Repr

/-- Pins as the part sees them after their filters (R384), and what it sampled at the release of RESET_N. -/
structure Pins where
  resetN : Bool := false
  pgood : Bool := true
  sysclk : Bool := true
  refclk : Bool := true
  holdReset : Bool := false
  frcLow : Bool := false
  frcSince : Nat := 0
  frcHours : Nat := 0
  alertLow : Bool := false
  roundIn : Bool := false
  roundOut : Bool := false
  smbAddr : Nat := 0
  testEn : Bool := false
deriving DecidableEq, Repr

/-! ### The Round -/

/-- RND_STATE. -/
inductive RndState where
  | reset | seek | confirm | sync | lost | stall
deriving DecidableEq, Repr

/-- RND_EV_STATE. -/
inductive EvState where
  | free | armed | timing | cancelled
deriving DecidableEq, Repr

/-- One event slot (Table 2.3), its tag in full; `due` is the revolution in which it fires, resolved where RND_EV_NEXT is set; `fireAt` the
moment recorded under R50. -/
structure EvSlot where
  angle : Nat := 0
  offset : Nat := 0
  owner : Nat := 0
  state : EvState := .free
  tag : Nat := 0
  rev : Nat := 0
  next : Bool := false
  due : Nat := 0
  fireAt : Nat := 0
deriving DecidableEq, Repr

/-- One tooth-period ring entry (Table 2.5). -/
structure RingEntry where
  interval : Nat := 0
  tooth : Nat := 0
  cls : Nat := 0
  rev : Nat := 0
deriving DecidableEq, Repr

/-- A deferred pool request (R48): the request and its moved target. -/
structure Deferred where
  req : ArmReq
  rev : Nat
deriving DecidableEq, Repr

/-- The latest tooth-0 marker (R46): carried count, carried epoch, corrected arrival timestamp. -/
structure Marker where
  rev : Nat
  epoch : Nat
  stamp : Int
deriving DecidableEq, Repr

/-- The Round unit: the registers of Table 2.7 and what R31 to R51 and R398 make it remember. Corrected edge
timestamps are integers: a delay may exceed the time since the release. `tooth0` is the last 0.0 in SYNC; `devAngle` the
device-time angle and `devBase` the moment of its last tick in 1/65536 ns; `waiting` holds requests made while an edge moves
the counter, taken afterwards (R49). -/
structure RoundSt where
  state : RndState := .reset
  refCommitted : Bool := false
  refPeriod : Nat := 0
  confirmCount : Nat := 0
  adopted : Bool := false
  angle : Nat := 0
  slotAngle : Nat := 0
  rev : Nat := 0
  epoch : Nat := 0
  lastInterval : Nat := 0
  glitches : Nat := 0
  learnRefused : Nat := 0
  losses : Nat := 0
  stalls : Nat := 0
  syncDevtime : Nat := 0
  fired : Nat := 0
  cancelled : Nat := 0
  defers : Nat := 0
  armRefused : Nat := 0
  jumps : Nat := 0
  halts : Nat := 0
  ringIdx : Nat := 0
  ring : Tab RingEntry := []
  stLost : Bool := false
  stStall : Bool := false
  stCancel : Bool := false
  stMismatch : Bool := false
  samples : Tab (Nat × Nat) := []
  slots : Tab EvSlot := []
  deferred : List Deferred := []
  lastEdge : Option Int := none
  lastArrival : Nat := 0
  position : Nat := 0
  seek : List Nat := []
  tooth0 : Option Int := none
  revMin : Nat := 0
  revMax : Nat := 0
  mismatchRaised : Bool := false
  marker : Option Marker := none
  devBase : Nat := 0
  devAngle : Nat := 0
  jumping : Bool := false
  waiting : List ArmReq := []
  synced : Bool := false
deriving DecidableEq, Repr

/-! ### Lehr -/

/-- PWR_STATE. -/
inductive PwrState where
  | reset | start | rampToFloor | govern | hold | descend | alert | tripped | quarantineIdle
deriving DecidableEq, Repr

/-- How the setpoint moves: not at all, towards a segment's end value, to the start plateau, down to the floor
after the hold limit, or down to idle power in quarantine (R65, R66, R78, R82). Values in 1/256 nW. -/
inductive Motion where
  | still
  | segment (goal : Nat)
  | plateau
  | descent (goal : Nat)
  | quarantine (goal : Nat)
deriving DecidableEq, Repr

/-- Power sample record (Table 3.3). -/
structure PwrSample where
  rev : Nat := 0
  setpoint : Nat := 0
  mean : Nat := 0
  work : Nat := 0
  ballast : Nat := 0
  temp : Int := 0
  flags : Nat := 0
  skips : Nat := 0
  revEnd : Nat := 0
deriving DecidableEq, Repr

/-- The governor: the registers of Table 3.2 and what R62 to R82 make it remember. `setpoint`, `target` and `ceilEff` are in
1/256 nW, powers measured in mW, temperatures in 1/16 degC; `window` holds setpoint and measured power of the control ticks of
the last 1 ms, latest first, `winTicks` those of the present 1 ms window and `winBad` that R69 does not bind in it; `idleMxe` the
MXEs of each cluster with no real work at the last control tick (R70). -/
structure LehrSt where
  state : PwrState := .reset
  setpoint : Nat := 0
  motion : Motion := .still
  target : Nat := 0
  measured : Nat := 0
  work : Nat := 0
  ballast : Nat := 0
  ballastAvail : Nat := 0
  idleMxe : List Nat := []
  throttle : Nat := 0
  shortfall : Bool := false
  derating : Bool := false
  ceilEff : Nat := 0
  maxTemp : Int := 0
  hotDie : Nat := 0
  floorW : Nat := 0
  ceilingW : Nat := 0
  slew : Nat := 0
  stepTeeth : Nat := 0
  holdNs : Nat := 0
  steps : Nat := 0
  stepsSkipped : Nat := 0
  shortfallTicks : Nat := 0
  throttleTicks : Nat := 0
  alerts : Nat := 0
  oob : Nat := 0
  alertNs : Nat := 0
  stAlert : Bool := false
  stHoldExpired : Bool := false
  stOob : Bool := false
  stShortfall : Bool := false
  stDerate : Bool := false
  stAdcClamp : Bool := false
  claims : Tab Nat := []
  idleRevs : Tab Nat := []
  samples : Tab PwrSample := []
  window : List (Nat × Nat) := []
  windowClamp : List Bool := []
  winTicks : Nat := 0
  winBad : Bool := false
  roundLoss : Option Nat := none
  masterLoss : Option Nat := none
  holdPending : Bool := false
  holdExpired : Bool := false
  oobRaised : Bool := false
  shortfallRaised : Bool := false
  gateIssue : Bool := false
deriving DecidableEq, Repr

/-! ### Start sequence -/

/-- The entry to READY under way (R109, R363): whether the outcome byte has been programmed, the changes not begun, and the one
under way with the step of R363 that comes next (2 the setting, 3 the completion mark). -/
structure ReadyWork where
  begun : Bool := false
  todo : List FuseReq := []
  cur : Option (FuseReq × Nat) := none
deriving DecidableEq, Repr

/-- The start and supervisor block (Table 4.9) and what R86 to R106 make it remember. `stage` is the stage code of Table 4.2, 0 in
reset; `entry` the entry to READY; `bootEntry` the place of this start's boot attempt in the log; `recSlots` the sequences of the
accepted images in the slots while in recovery, `recAt` the time of the last door word, `recTotal` the delivered image's length once
its preamble is in. -/
structure StartSt where
  stage : Nat := 0
  slotActive : Nat := 0
  fallback : Bool := false
  recoveryCause : Nat := 0
  resultA : Nat := 0
  resultB : Nat := 0
  d2dSpares : Tab Nat := []
  channelsDown : Nat := 0
  frcHeldHours : Nat := 0
  stFallback : Bool := false
  stStageTimeout : Bool := false
  stLogFull : Bool := false
  stRecoveryPin : Bool := false
  stD2dSpared : Bool := false
  stageTime : Tab Nat := []
  recResult : Nat := 0
  recTarget : Nat := 0
  recReceived : Nat := 0
  recBuf : List Byte := []
  recTotal : Nat := 0
  recAt : Nat := 0
  recSlots : Tab Nat := []
  frcSampled : Bool := false
  pcieUp : Bool := false
  ethUp : Bool := false
  timeoutRound : Bool := false
  timeoutJoin : Bool := false
  bootEntry : Option Nat := none
  bootSeq : Nat := 0
  logFullRaised : Bool := false
  unloggedRaised : Bool := false
  logBad : List Nat := []
  fuseView : Fuses := { ceilingW := 0 }
  idFilled : Bool := false
  entry : ReadyWork := {}
deriving DecidableEq, Repr

/-! ### Rows of tables on their way -/

/-- Where a row lands on this part: tile, task slot, command and address; `part` the component number of a composed row (2 where it
is a row of its own), `comp` the composed table, with the format in which it lands and whether it is pooled there (R222). -/
structure RowPlace where
  tile : Nat
  slot : Nat
  cmd : Nat
  place : Nat
  part : Nat := 2
  comp : Nat := 0
  fmt : Nat := 0
  pooled : Bool := false
deriving DecidableEq, Repr

/-- A requester of a row: a place on this part; or another part: its cluster and position, its tag, and the port on which a VC0
credit is reserved for the reply (R298). -/
inductive RowFor where
  | tile (p : RowPlace)
  | device (device cluster pos tag : Nat) (hold : Option Nat)
deriving DecidableEq, Repr

/-- A replica held by this part: of a row of another part in the device area (`cc` false), on channel `chan`, or of a row in the
cluster caches (`cc` true). -/
structure Replica where
  table : Nat
  row : Nat
  cc : Bool
  bytes : List (Byte × Bool)
  hits : Nat := 0
  lastHits : Nat := 0
  idleRevs : Nat := 0
  placed : Nat := 0
  chan : Nat := 0
deriving DecidableEq, Repr

/-- A row request (R218): table and row, bytes to read (R221), whom it is for, the requester's context, when it was issued, its tag
on the fabric, and the other places that requests merged with it are for (R125). -/
structure RowReq where
  table : Nat
  row : Nat
  bytes : Nat
  whom : RowFor
  context : Nat
  since : Nat
  tag : Nat
  also : List RowFor := []
deriving DecidableEq, Repr

/-- A row on its way back, each byte with its poison; `cause` 1 where the row was unresolved, 2 where it was torn; `id` its number
where `pending` requests to memory for its sectors are still to be answered. -/
structure RowResp where
  req : RowReq
  bytes : List (Byte × Bool)
  cause : Nat := 0
  id : Nat := 0
  pending : Nat := 0
deriving DecidableEq, Repr

/-! ### Requests to memory -/

/-- Where bytes of a read land: the task slot they are for, their offset within the request, their tile SRAM address or their
offset in the index stream, and their length. -/
structure Landing where
  slot : Nat
  src : Nat
  dst : Nat
  len : Nat
deriving DecidableEq, Repr

/-- What a request does: fetch data rows; read part of an index stream, or a command; ask the FSU for a row once it is admitted
(`metered` stands for the earlier 64-byte requests of the same row at the regulator); read the sectors of row response `row` from
byte `off` on; read what a unit has already taken as it issued the request (`seen`, assumption log, entry 27); store; add at the
memory-side adders, or in the cluster cache (`cached`); hold the slot of a write whose bytes a unit has entered as it issued it
(`written`, the marver slot it is for); store load bytes. -/
inductive ReqKind where
  | fetch (land : List Landing)
  | index (land : List Landing)
  | command
  | row (q : RowReq)
  | metered
  | sectors (row off : Nat)
  | seen
  | store (bytes : List Byte) (poison : Bool)
  | add (elems : List Nat) (fp wide : Bool) (poison : Bool)
  | cached (elems : List Nat) (fp wide : Bool) (poison : Bool)
  | written (key : Option Nat)
  | load (parcel : Nat) (bytes : List Byte)
deriving DecidableEq, Repr

/-- One request (R246, R247): its issuer, the device address (none outside every region or not permitted, R244), its length in
bytes, and its number in the order of arrival at its channel. -/
structure Req where
  tile : Nat
  slot : Nat
  cmd : Nat
  context : Nat
  queue : Nat
  dev : Option Nat
  len : Nat
  kind : ReqKind
  seq : Nat := 0
deriving DecidableEq, Repr

/-- A request in the issue queue of a tile's GE (R125): the task slot, command and context it is for, context address and length,
whether it is a 32-byte or 64-byte request of the sector path, and whether its command waited for a counter, so that it is merged
with no request of an earlier command (R145). -/
structure Pend where
  slot : Nat
  cmd : Nat
  context : Nat
  partition : Nat
  addr : Nat
  len : Nat
  sector : Bool
  fenced : Bool
  kind : ReqKind
deriving DecidableEq, Repr

/-! ### Tiles -/

/-- A row of a bag: its landing address, and whether its index was poisoned or unresolved so that it
counts as a poisoned row. -/
structure RowRef where
  place : Nat
  bad : Bool
deriving DecidableEq, Repr

/-- A bag: its rows in list order, and whether an offset that bounds it was poisoned (R117, R126). -/
structure Bag where
  rows : List RowRef
  poisoned : Bool
deriving DecidableEq, Repr

/-- Phase of a command: being read, read and not yet checked, waiting for its counter or for earlier work, reading its index
stream, fetching rows, fetched, computing, computed and waiting for acknowledgements, or at a barrier. -/
inductive Phase where
  | reading | read | waiting | indexing | fetching | fetched | computing | storing | barrier
deriving DecidableEq, Repr

/-- A row back from a Lens engine, in its place before the VXE (R270): its number, its elements as FP32 bit patterns, its
flags and its poison. -/
structure LensBack where
  row : Nat
  elems : List Nat
  flags : Nat
  poison : Bool
deriving DecidableEq, Repr

/-- A command read by a tile and not yet completed (R113 to R132). `badWords` says that its words are poisoned. Of its index
stream, `offsets` holds the CSR offsets once they are read and `chunks` what has been read of the present part, by offset. `bags`
holds the rows of each bag, `row` the next bag to compute, `got` what has been read of tile SRAM for it and `gotBack` for the next
row back from the Lens engine (R148), `rest` rows bound for held words that wait for a word to be emptied (R147), `back` rows back
from the Lens engine among the `lensOut` sent to it, `refuse` that the task ends with 0x8004 when the command completes (R284),
`late` whether its completion was stamped at or beyond the close (R131), `ring` its number among the task's ring commands (R180). -/
structure Cmd where
  index : Nat := 0
  words : List Nat := []
  badWords : Bool := false
  phase : Phase := .waiting
  group : Nat := 0
  offsets : Option (List (Int × Bool)) := none
  chunks : List (Nat × List (Byte × Bool)) := []
  bags : List Bag := []
  row : Nat := 0
  got : List (List (Byte × Bool)) := []
  gotBack : List (List (Byte × Bool)) := []
  stores : Nat := 0
  lensOut : Nat := 0
  rest : List (Nat × List Byte × Bool) := []
  useLens : Bool := false
  back : List LensBack := []
  refuse : Bool := false
  issueRev : Nat := 0
  issueAngle : Nat := 0
  issueTime : Nat := 0
  issueValid : Bool := false
  issued : Bool := false
  missed : Bool := false
  late : Option Bool := none
  abandoned : Bool := false
  gen : Nat := 0
  ring : Nat := 0
deriving DecidableEq, Repr

/-- Where a task stands: `running` holds the pipeline, `lateData` has been switched out for late data (R129). -/
inductive TaskState where
  | free | ready | running | lateData | ended
deriving DecidableEq, Repr

/-- One task slot of a tile. `group` is the group being fetched, `groupBags` counts the bags of the commands read for a
group, `opened` says that a fetch phase of the group has begun, `closed` that the one of its last command has, `composed` holds
the composed rows of a group by landing address, as FP32 or INT32 bit patterns (R222). -/
structure Task where
  state : TaskState := .free
  parcel : Nat := 0
  context : Nat := 0
  partition : Nat := 0
  ctrMask : Nat := 0
  hwFirst : Nat := 0
  hwCount : Nat := 0
  cmdBase : Nat := 0
  nextCmd : Nat := 0
  cmds : List Cmd := []
  fillHalf : Nat := 0
  useHalf : Nat := 1
  group : Nat := 0
  groupOff : Nat := 0
  groupBags : Nat := 0
  bufAddr : Nat := 0
  halfBytes : Nat := 0
  opened : Bool := false
  closed : Bool := false
  flags : Nat := 0
  drains1 : Nat := 0
  drains2 : Nat := 0
  drains3 : Nat := 0
  ringCmds : Nat := 0
  readySince : Nat := 0
  composed : List (Nat × List Nat) := []
  fault : Nat := 0
deriving DecidableEq, Repr

/-- A tile's record (Table 5.6), its tasks, and the requests its GE has yet to issue, oldest first. -/
structure Tile where
  running : Nat := 0
  cmdDone : Nat := 0
  switches : Nat := 0
  merges : Nat := 0
  poisonOut : Nat := 0
  poisonZero : Nat := 0
  misses : Nat := 0
  stPoison : Bool := false
  stMiss : Bool := false
  stInvalid : Bool := false
  tasks : Tab Task := []
  issue : List Pend := []
  lensOutstanding : Nat := 0
deriving DecidableEq, Repr

/-- Cluster registers of Tables 7.6 and 8.5 and of R263. -/
structure Cluster where
  combinesDone : Nat := 0
  rowsCombined : Nat := 0
  poisonRows : Nat := 0
  overlong : Nat := 0
  stOverlong : Bool := false
  stMvPoison : Bool := false
  rotations : Nat := 0
  nfSeen : Nat := 0
  nfInvalid : Nat := 0
  nfRange : Nat := 0
  outside : Nat := 0
  stOutside : Bool := false
deriving DecidableEq, Repr

/-- Tiles, clusters, and the tile SRAM with its poison tags (64-byte lines) and full held words. -/
structure TilesSt where
  tiles : Tab Tile := []
  clusters : Tab Cluster := []
  sram : List Host.Cell := []
  poison : List Nat := []
  full : List Nat := []
deriving DecidableEq, Repr

/-! ### Synchronisation -/

/-- Owner of a counter or held word: 0 none, otherwise 1 + parcel number; and what it counts. -/
structure Counter where
  count : Nat := 0
  owner : Nat := 0
  satRaised : Bool := false
deriving DecidableEq, Repr

/-- What a watch-like entry does when it fires: send a message (R152), make a combine due (R175), or send bytes
(R314). -/
inductive WatchAct where
  | message (m : SyncMsg)
  | combine (cluster slot : Nat)
  | send (slot : Nat)
deriving DecidableEq, Repr

/-- A registered watch (R151): its source counter (tile × 48 + number), threshold, step, firings left (none
unlimited), action code of Table 6.5, context, and owning parcel. -/
structure Watch where
  source : Nat
  threshold : Nat
  step : Nat
  left : Option Nat
  act : WatchAct
  action : Nat
  context : Nat
  parcel : Nat
deriving DecidableEq, Repr

/-- A barrier record (R156 to R158). -/
structure Barrier where
  active : Bool := false
  gen : Nat := 0
  arrived : Nat := 0
  expected : Nat := 0
  nextArrived : Nat := 0
  parcel : Nat := 0
  context : Nat := 0
  firstArrival : Option Nat := none
  lastArrival : Nat := 0
  slowRaised : Bool := false
  withheld : Bool := false
deriving DecidableEq, Repr

/-- CSU registers (Table 6.5). -/
structure Csu where
  hfqHigh : Nat := 0
  watchFired : Nat := 0
  heldDrops : Nat := 0
  satTiles : Nat := 0
  foreign : Nat := 0
  stSaturated : Bool := false
  stFillLost : Bool := false
  stForeign : Bool := false
  staleDrops : Nat := 0
  hfq : List (Nat × Nat × Nat) := []
  dropRaised : Bool := false
deriving DecidableEq, Repr

/-- Sync sample record (Table 6.6). -/
structure SyncSample where
  rev : Nat := 0
  watches : Nat := 0
  heldDrops : Nat := 0
  staleDrops : Nat := 0
  released : Nat := 0
  aborted : Nat := 0
  skips : Nat := 0
  revEnd : Nat := 0
deriving DecidableEq, Repr

/-- A translation entry (Table 6.3). -/
structure Xlate where
  kind : Nat := 0
  device : Nat := 0
  cluster : Nat := 0
  tile : Nat := 0
  index : Nat := 0
  parcel : Nat := 0
deriving DecidableEq, Repr

/-- A registered marver slot (Table 7.4), with the writes of the running combine that are not yet acknowledged. -/
structure Combine where
  context : Nat
  parcel : Nat
  fp : Bool
  members : Nat
  src : Nat
  rows : Nat
  dst : Nat
  width16 : Nat
  stride : Nat
  scale : Nat
  doneMsg : SyncMsg
  writes : Nat := 0
deriving DecidableEq, Repr

/-- A registered ring slot (Table 7.5); `ended` holds for each member how many of its first ring commands have ended their compute
phase, `early` the later ones that have, as (member, number), `landed` is the last rotation that has landed. -/
structure Ring where
  first : Nat
  size : Nat
  steps : Nat
  area : Nat
  sliceBytes : Nat
  context : Nat
  parcel : Nat
  ended : List Nat
  landed : Nat
  early : List (Nat × Nat) := []
deriving DecidableEq, Repr

/-- A registered send slot (Table 12.6), with the cluster of its ready counter. -/
structure Send where
  parcel : Nat
  context : Nat
  cluster : Nat
  toReservation : Bool
  src : Nat
  dst : Nat
  bytes256 : Nat
  doneMsg : SyncMsg
deriving DecidableEq, Repr

/-- Counters, watches, barriers, marver and ring slots, and messages in flight. Watch slots are keyed
cluster × 256 + slot; cluster barriers cluster × 16 + record; marver and ring slots cluster × 8 + slot. `due` lists the
combines that are due as (moment, slot), `combining` the slots whose done action is outstanding. Of a domain barrier,
a part that is not the master keeps by record × 65536 + generation the arrivals of its own tasks and whether they have
been passed on (`domOwn`), those of its subtree not yet passed on (`domKids`), and by record the generation (`domGen`). -/
structure SyncSt where
  counters : Tab Counter := []
  heldOwner : Tab Nat := []
  csus : Tab Csu := []
  watches : Tab Watch := []
  xlate : Tab Xlate := []
  clusterBar : Tab Barrier := []
  partBar : Tab Barrier := []
  domBar : Tab Barrier := []
  combines : Tab Combine := []
  due : List (Nat × Nat) := []
  combining : List Nat := []
  sendWatches : Tab Watch := []
  rings : Tab Ring := []
  sends : Tab Send := []
  released : Nat := 0
  aborted : Nat := 0
  slow : Nat := 0
  stAborted : Bool := false
  stSlow : Bool := false
  domLastLat : Nat := 0
  samples : Tab SyncSample := []
  flight : List SyncMsg := []
  domOwn : Tab (Nat × Bool) := []
  domKids : Tab Nat := []
  domGen : Tab Nat := []
deriving DecidableEq, Repr

/-! ### Memory -/

/-- A write-combining entry (R249): line of the channel (channel offset / 64), bytes by offset in the line, the
sectors with their poison bit set, and the time of its last write. -/
structure Wcb where
  line : Nat
  bytes : List (Nat × Byte)
  poison : List Nat
  last : Nat
deriving DecidableEq, Repr

/-- A transaction slot in use (R247): the request; for a read, the bytes and the poison of each byte that the writes
accepted before it leave (R248); whether the request is held and not yet served (R253); whether the slot is one of the 16 reserved
ones; and the sectors, by number in the channel, that have been written whole since the read was served. -/
structure Slot where
  req : Req
  data : List (Byte × Bool) := []
  held : Bool := false
  reserved : Bool := false
  stale : List Nat := []
deriving DecidableEq, Repr

/-- A retirement in progress (R253): page as coded in R254, the spare, and the cause. -/
structure Retiring where
  page : Nat
  spare : Nat
  cause : Nat
deriving DecidableEq, Repr

/-- What a traffic-generator run covers, fixed at its start (R260). -/
structure TgRun where
  mode : Nat := 0
  pattern : Nat := 0
  seed : Nat := 0
  base : Nat := 0
  len : Nat := 0
  passes : Nat := 0
deriving DecidableEq, Repr

/-- Traffic-generator controls and results (Table 10.4); `run` the run in progress or last made, `written` the runs whose pattern
stands in the channel, newest first. -/
structure Tg where
  go : Bool := false
  mode : Nat := 0
  pattern : Nat := 0
  seed : Nat := 0
  base : Nat := 0
  len : Nat := 0
  passes : Nat := 0
  busy : Bool := false
  passesDone : Nat := 0
  errors : Nat := 0
  firstErr : Nat := 0
  ce : Nat := 0
  run : TgRun := {}
  written : List TgRun := []
deriving DecidableEq, Repr

/-- Capture words of a channel. -/
structure MemSample where
  rev : Nat := 0
  rd : Nat := 0
  wr : Nat := 0
  ce : Nat := 0
  ue : Nat := 0
  revEnd : Nat := 0
deriving DecidableEq, Repr

/-- A channel (Table 10.4) and its controller. `state` is MEM_CH_STATE; `arrivals` counts the requests that have arrived. -/
structure Chan where
  state : Nat := 0
  sr : Bool := false
  spared : Nat := 0
  spareLane0 : Nat := 0
  spareLane1 : Nat := 0
  dmiFailed : Nat := 0
  rate : Nat := 0
  rawDetected : Nat := 0
  rdBytes : Nat := 0
  wrBytes : Nat := 0
  ce : Nat := 0
  ue : Nat := 0
  linkCe : Nat := 0
  retiredPages : Nat := 0
  wcbRmw : Nat := 0
  atomics : Nat := 0
  inflightHigh : Nat := 0
  stUe : Bool := false
  stRetired : Bool := false
  stExhausted : Bool := false
  smp : MemSample := {}
  tg : Tg := {}
  queues : Tab (List Req) := []
  turn : Nat := 0
  arrivals : Nat := 0
  slots : List Slot := []
  wcb : List Wcb := []
  map : List (Nat × Nat) := []
  sparesUsed : List Nat := []
  ceSectors : List Nat := []
  retiring : List Retiring := []
  ueRaised : List Nat := []
  exhaustedRaised : Bool := false
  scrubAt : Nat := 0
  idleSince : Nat := 0
  refreshes : Nat := 0
deriving DecidableEq, Repr

/-- A franking regulator (Table 10.6); tokens in tenths of a byte. -/
structure Reg where
  tokens : Nat := 0
  bytes : Nat := 0
  heldNs : Nat := 0
  smpRev : Nat := 0
  smpBytes : Nat := 0
  smpHeldUs : Nat := 0
  smpRevEnd : Nat := 0
  waiting : List Req := []
deriving DecidableEq, Repr

/-- A cluster-cache atomic line (R251): per context and device line, base and delta bytes, the elements' type and the offset in
the line of the first. -/
structure AtomicLine where
  cluster : Nat
  context : Nat
  line : Nat
  base : List Byte
  delta : List Byte
  fp : Bool
  wide : Bool
  phase : Nat
  basePoison : List Nat
  poison : List Nat
deriving DecidableEq, Repr

/-- One retirement-table entry (Table 10.5). -/
structure RtEntry where
  chan : Nat
  spare : Nat
  cause : Nat
  page : Nat
deriving DecidableEq, Repr

/-- LPDDR5X memory: cells keyed channel × 2^33 + raw offset, poisoned sectors by raw sector number, controllers,
regulators, cluster-cache lines and the retirement table. -/
structure MemSt where
  cells : List Host.Cell := []
  poison : List Nat := []
  chans : Tab Chan := []
  regs : Tab Reg := []
  lines : List AtomicLine := []
  retTable : List RtEntry := []
  generalMib : Nat := 0
  inService : Nat := 0
  stUnlogged : Bool := false
  trained : Bool := false
deriving DecidableEq, Repr

/-! ### Feature store -/

/-- A row-map entry (Table 9.2). -/
structure RowMap where
  cell : Nat := 0
  shard : Nat := 0
  ver : Bool := false
  valid : Bool := false
  replicated : Bool := false
  busy : Bool := false
deriving DecidableEq, Repr

/-- A hot-row entry (R229). -/
structure HotRow where
  row : Nat
  est : Nat
  localEst : Nat
  reqs : List (Nat × Nat)
deriving DecidableEq, Repr

/-- A shard (part shard number): counts, free cells, hot rows. -/
structure Shard where
  live : Nat := 0
  last : Nat := 0
  usedCells : List Nat := []
  hotRun : Nat := 0
  hot : List HotRow := []
  hotRead : List HotRow := []
deriving DecidableEq, Repr

/-- Holders of replicas of a row homed here (R232), and invalidations not yet acknowledged. -/
structure Holders where
  table : Nat
  row : Nat
  devices : List Nat
  awaiting : List Nat
  since : Nat
deriving DecidableEq, Repr

/-- A letter entry (R226). `stage` 0 not started, 1 slot written and invalidations outstanding, 2 forwarded to the row's
home and not yet acknowledged, 3 the row set busy while the settle time passes; `origin` the part that forwarded it here, its
tag, and the port that holds the reply's credit. -/
structure Entry where
  letter : Nat
  context : Nat
  table : Nat
  row : Nat
  unload : Bool
  bytes : List (Byte × Bool)
  stage : Nat
  origin : Option (Nat × Nat × Option Nat) := none
  tag : Nat := 0
deriving DecidableEq, Repr

/-- Storage waiting for FS_SETTLE_US (R226, R231, R232): a cell of a part shard, or a dropped replica's bytes in the device area
or (`cc`) the cluster caches, with the replica that takes its place then. -/
structure Settle where
  shard : Nat
  cell : Nat
  replicaBytes : Nat
  due : Nat
  cc : Bool := false
  next : Option Replica := none
deriving DecidableEq, Repr

/-- Bytes of a message of several flits that have arrived so far. -/
structure Partial where
  src : Nat
  tag : Nat
  kind : Nat
  bytes : List (Byte × Bool)
deriving DecidableEq, Repr

/-- Feature-store sample record (R234). -/
structure FsSample where
  rev : Nat := 0
  served : Nat := 0
  remote : Nat := 0
  repHits : Nat := 0
  rereads : Nat := 0
  migrated : Nat := 0
  skips : Nat := 0
  revEnd : Nat := 0
deriving DecidableEq, Repr

/-- The feature store unit (Table 9.4). Row maps are keyed (part shard) × 2^40 + entry; the time of a row's last entry change
likewise, and that of its last entry write by a letter (`written`); `moved` says that the present review has migrated a row. -/
structure FsSt where
  tablesActive : Nat := 0
  shardsActive : Nat := 0
  rowMap : Tab RowMap := []
  changed : Tab Nat := []
  written : Tab Nat := []
  shards : Tab Shard := []
  served : Nat := 0
  remote : Nat := 0
  repHits : Nat := 0
  rereads : Nat := 0
  torn : Nat := 0
  unresolved : Nat := 0
  unreachable : Nat := 0
  migrated : Nat := 0
  repDenied : Nat := 0
  applied : Nat := 0
  refused : Nat := 0
  stTorn : Bool := false
  stUnresolved : Bool := false
  stLetterRefused : Bool := false
  stRepDenied : Bool := false
  stUnreachable : Bool := false
  stMigrated : Bool := false
  samples : Tab FsSample := []
  reqs : List RowReq := []
  remoteReqs : List RowReq := []
  resps : List RowResp := []
  halves : List RowResp := []
  partials : List Partial := []
  entries : List Entry := []
  replicas : List Replica := []
  holders : List Holders := []
  settles : List Settle := []
  replicaPlaces : Nat := 0
  reviewDue : Bool := false
  deniedRaised : Bool := false
  nextTag : Nat := 0
  nextRow : Nat := 0
  moved : Bool := false
deriving DecidableEq, Repr

/-! ### Lens -/

/-- A Lens vector request (R270). -/
structure LensReq where
  tile : Nat
  slot : Nat
  cmd : Nat
  row : Nat
  parcel : Nat
  handle : Nat
  levels : List Int
  peak : Nat
  poison : Bool
deriving DecidableEq, Repr

/-- LENS_E_STATE. -/
inductive LensState where
  | off | startCal | serving | loading | calibrating | degraded
deriving DecidableEq, Repr

/-- The loaded matrix: parcel, context, handle, gain exponent, scale bits, weights by 64 i + j, and whether a byte of its
descriptor was poisoned when it was loaded (R126). -/
structure Matrix where
  parcel : Nat
  context : Nat
  handle : Nat
  gain : Nat
  scale : Nat
  weights : List Int
  poison : Bool := false
deriving DecidableEq, Repr

/-- Lens sample record (Table 11.4). -/
structure LensSample where
  rev : Nat := 0
  vectors : Nat := 0
  drift : Nat := 0
  state : Nat := 0
  frozen : Bool := false
  ovr : Nat := 0
  frozenUs : Nat := 0
  skips : Nat := 0
  revEnd : Nat := 0
deriving DecidableEq, Repr

/-- One engine (Table 11.4). `loading` is the matrix on its way into the mesh; `drain` the number of requests that waited
when the oldest one named another matrix, while those for the loaded one are still served (R271); `ovrLeft` holds for each
lane the windows still clamped and whether the clamp code is the lower one, `shadowLeft` the windows still shadowed;
`frozenAt` the time at which tracking froze. -/
structure Engine where
  state : LensState := .off
  frozen : Bool := false
  aborts : Nat := 0
  cause : Nat := 0
  matrix : Option Matrix := none
  vectors : Nat := 0
  ovrCount : Nat := 0
  shadowCount : Nat := 0
  loads : Nat := 0
  calDone : Nat := 0
  calAborted : Nat := 0
  dark : Nat := 0
  drift : Nat := 0
  slewDelayNs : Nat := 0
  frozenNs : Nat := 0
  calDevtime : Nat := 0
  stOvr : Bool := false
  stCalAbort : Bool := false
  stDegraded : Bool := false
  ovrLanes : Nat := 0
  shadowLanes : Nat := 0
  samples : Tab LensSample := []
  queue : List LensReq := []
  loading : Option Matrix := none
  drain : Option Nat := none
  ovrLeft : Tab (Nat × Bool) := []
  shadowLeft : Tab Nat := []
  cleanWindows : Nat := 0
  frozenAt : Nat := 0
  thisUs : Nat := 0
  lastUs : Nat := 0
  ovrRaised : Bool := false
  calPending : Bool := false
  adopted : Nat := 0
deriving DecidableEq, Repr

/-- The Lens block (Table 11.3). `flight` holds requests issued by tiles and not yet at their engine. -/
structure LensSt where
  comb : Bool := false
  bankLost : Nat := 0
  combLost : Nat := 0
  lit : Bool := false
  calTurn : Nat := 0
  combPwr0 : Int := 0
  combPwr1 : Int := 0
  stLight : Bool := false
  engines : Tab Engine := []
  flight : List LensReq := []
deriving DecidableEq, Repr

/-! ### Fabric -/

/-- FAB_P_STATE. -/
inductive PortState where
  | dark | training | up | passThrough | retraining | failed | foreign | circuitDown
deriving DecidableEq, Repr

/-- What a flit carries, before its sequence number is given. `origin` of a forwarded flit is the port, channel and credits of the
receive buffer it still occupies; `hold` of a reply the port on which its credit is reserved (R298). -/
structure Flit where
  type : Nat
  vc : Nat
  dst : Nat
  src : Nat
  hops : Nat
  count : Nat
  payload : List Byte
  origin : Option (Nat × Nat × Nat) := none
  hold : Option Nat := none
  owner : Nat := 0
deriving DecidableEq, Repr

/-- A flit in a replay buffer: its sequence number, and how often it has been replayed (R297). -/
structure Sent where
  seq : Nat
  flit : Flit
  times : Nat := 0
deriving DecidableEq, Repr

/-- A port (Table 12.8) and its link layer: sequence numbers, replay buffer with the place from which it is being replayed
(`resend`), credits used, owed and reserved for replies, queues, the VC2 requests in its receive buffer (`held`), and the number of
send flits there (`landing`). -/
structure Port where
  state : PortState := .dark
  widthTx : Nat := 0
  widthRx : Nat := 0
  laneMap : Nat := 0
  failCause : Nat := 0
  farDevice : Nat := 0
  farPort : Nat := 0
  delayNs : Nat := 0
  retrains : Nat := 0
  txFlits : Nat := 0
  rxFlits : Nat := 0
  crcErrors : Nat := 0
  replays : Nat := 0
  lostFlits : Nat := 0
  smpRev : Nat := 0
  smpTx : Nat := 0
  smpRx : Nat := 0
  smpReplays : Nat := 0
  smpRevEnd : Nat := 0
  nextSeq : Nat := 0
  expectSeq : Nat := 0
  nakSent : Bool := false
  nakDue : Bool := false
  replay : List Sent := []
  resend : Option Nat := none
  queues : Tab (List Flit) := []
  credits : Tab Nat := []
  returned : Tab Nat := []
  reserved : Nat := 0
  held : List Flit := []
  landing : Nat := 0
  child : Bool := false
  parentClaimed : Bool := false
  probing : Bool := false
  circuitRaised : Bool := false
  narrowTx : Bool := false
  narrowRx : Bool := false
  pendingMode : Option Nat := none
deriving DecidableEq, Repr

/-- A member of the domain as the master knows it. -/
structure Member where
  device : Nat
  serial : Nat
deriving DecidableEq, Repr

/-- The fabric block (Table 12.8) and the domain state of R304 to R312: `memberMap` as a number, `members` the admitted parts
with their serial numbers as the master knows them, `down` the down table, `relayed` the last join request forwarded for each
device; `joining` a request without an answer, `waitAdopt` an answer without the adoption that completes the join, `rejoin` a
new epoch not yet joined; `lastBeacon` the time from which silence counts, `beaconEpoch` the epoch of the latest beacon;
`switching` the plan that waits for replay buffers and until when; `reconfs` the domain records whose release is withheld, the
plan of each, and whether the switch to it has been made (R301). -/
structure FabSt where
  role : Nat := 0
  masterPresent : Bool := false
  plan : Nat := 0
  depth : Nat := 0
  parentActive : Nat := 0
  quarCause : Nat := 0
  epoch : Nat := 0
  memberGen : Nat := 0
  reconfCount : Nat := 0
  reconfLate : Nat := 0
  masterLostCount : Nat := 0
  stMasterLost : Bool := false
  stPort : Bool := false
  stCircuit : Bool := false
  stEpoch : Bool := false
  stSend : Bool := false
  digest : Nat := 0
  memberMap : Nat := 0
  members : List Member := []
  ports : Tab Port := []
  down : Tab Nat := []
  relayed : List JoinReq := []
  joining : Bool := false
  waitAdopt : Bool := false
  joined : Bool := false
  rejoin : Bool := false
  lastBeacon : Nat := 0
  beaconEpoch : Option Nat := none
  altTried : Bool := false
  lostRaised : Bool := false
  genMismatch : Nat := 0
  switching : Option (Nat × Nat) := none
  reconfs : List (Nat × Nat × Bool) := []
deriving DecidableEq, Repr

/-! ### Partitions, doors, parcels -/

/-- Who posted: a PCIe function, or a connection of an Ethernet port. -/
inductive Via where
  | pcie (function : Nat)
  | net (port conn : Nat)
deriving DecidableEq, Repr

/-- A post whose bytes are being read or received (R327, R328, R330). -/
structure Post where
  id : Nat
  via : Via
  context : Nat
  kind : Nat
  len : Nat
  src : Nat
  report : Nat
  tag : Nat
  since : Nat
deriving DecidableEq, Repr

/-- Where an accepted parcel stands. -/
inductive ParcelState where
  | queued | requested | waitMaster | waitSync | loading | running
deriving DecidableEq, Repr

/-- An accepted parcel (R331 to R338), its bytes at device address `base`. Section entries as (offset, count). -/
structure Parcel where
  id : Nat
  via : Via
  context : Nat
  report : Nat
  tag : Nat
  serial : Nat
  epoch : Nat
  claimW : Nat
  exact : Bool
  relAngle : Nat
  relRev : Nat
  limitRev : Nat
  base : Nat
  len : Nat
  sections : List (Nat × Nat)
  state : ParcelState := .queued
  releaseRev : Nat := 0
  revs : Nat := 0
  loadsLeft : Nat := 0
  flags : Nat := 0
  raised : List Nat := []
  tasks : List (Nat × Nat) := []
  ended : Nat := 0
  domUsed : Bool := false
  domRecord : Nat := 0
  hub : Nat := 65536
  schedule : List (Nat × Nat) := []
deriving DecidableEq, Repr

/-- An accepted letter: where it came from, its entries still to be applied, and its refusals (R341). -/
structure Letter where
  id : Nat
  via : Via
  context : Nat
  report : Nat
  tag : Nat
  serial : Nat
  epoch : Nat
  base : Nat
  len : Nat
  left : Nat
  refused : Nat
deriving DecidableEq, Repr

/-- A completion report (Table 13.7). -/
structure Report where
  via : Via
  address : Nat
  kind : Nat
  outcome : Nat
  context : Nat
  flags : Nat
  reason : Nat
  tag : Nat
  serial : Nat
  fault : Nat
  refused : Nat
  rev : Nat
  devtime : Nat
deriving DecidableEq, Repr

/-- What the part has sent to a poster: a write of a function to host memory, or bytes on a connection. -/
inductive Sending where
  | write (function address : Nat) (bytes : List Byte)
  | frame (port conn : Nat) (bytes : List Byte)
deriving DecidableEq, Repr

/-- A dead-letter entry (Table 13.9). -/
structure DeadLetter where
  reason : Nat := 0
  kind : Nat := 0
  via : Nat := 0
  context : Nat := 0
  tag : Nat := 0
  serial : Nat := 0
  epoch : Nat := 0
  fault : Nat := 0
  devtime : Nat := 0
deriving DecidableEq, Repr

/-- Staged door words of a function and the time of the first (R327). -/
structure Door where
  words : List Nat := []
  since : Nat := 0
deriving DecidableEq, Repr

/-- A context's counters (Table 13.9). -/
structure Ctx where
  lastSerial : Nat := 0
  lastLserial : Nat := 0
  reportLostRaised : Bool := false
deriving DecidableEq, Repr

/-- Doors, queues, job scheduler and the dead-letter ring (Table 13.9). -/
structure PartSt where
  doorsOpen : Bool := false
  parcelsDone : Nat := 0
  parcelsEnded : Nat := 0
  postsRefused : Nat := 0
  tlsRefused : Nat := 0
  reportLost : Nat := 0
  doorTorn : Nat := 0
  stRefused : Bool := false
  stEnded : Bool := false
  stLimit : Bool := false
  contexts : Tab Ctx := []
  doors : Tab Door := []
  posts : List Post := []
  nextId : Nat := 1
  parcels : List Parcel := []
  letters : List Letter := []
  reports : List Sending := []
  conns : List (Nat × Nat × Nat) := []
  dlRing : Tab DeadLetter := []
  dlIdx : Nat := 0
  dlWraps : Nat := 0
  granules : List Nat := []
  lastBusy : Nat := 0
deriving DecidableEq, Repr

/-! ### Faults, status access -/

/-- An event-log entry (Table 14.3). -/
structure LogEntry where
  code : Nat := 0
  sev : Nat := 0
  fuse : Bool := false
  context : Nat := 0
  ctxValid : Bool := false
  unit : Nat := 0
  angle : Nat := 0
  rev : Nat := 0
  detail : Nat := 0
  devtime : Nat := 0
  seq : Nat := 0
  seqEnd : Nat := 0
deriving DecidableEq, Repr

/-- The log registers (Table 14.5), the ring, the code counts (keyed 16 × class + number), the stamps of the entries written in
the last microsecond, and the stamp of the latest raising (R352). -/
structure FltSt where
  idx : Nat := 0
  wraps : Nat := 0
  seqNext : Nat := 1
  lastCode : Nat := 0
  lastStamp : Nat := 0
  sev : Nat := 0
  raised : Nat := 0
  dropped : Nat := 0
  ring : Tab LogEntry := []
  counts : Tab Nat := []
  recent : List Nat := []
deriving DecidableEq, Repr

/-- A requester's access status and shadow (R356, R357). -/
structure Acc where
  stale : Bool := false
  discarded : Bool := false
  badSize : Bool := false
  shadow : Nat := 0
  tag : Option Nat := none
deriving DecidableEq, Repr

/-- The JTAG port (R367): the instruction register, the status offset and the data register of STATUS_READ, and the
preloaded boundary-scan cells. -/
structure Jtag where
  ir : Nat := 0x02
  offset : Nat := 0
  data : Nat := 0
  cells : Nat := 0
deriving DecidableEq, Repr

/-! ### The whole -/

/-- Why the block stops: it never does. The manual gives every command an effect, its own error answers among them (an
event-log entry, an access-status bit, a refusal report), and those are next states. -/
inductive Fault where
deriving DecidableEq, Repr

/-- Why a command is refused. -/
inductive Refusal where
  /-- A command that has no meaning yet. Raised by an arm of exec, never by a meaning. Safe. -/
  | notModelled (mnemonic : String)
deriving DecidableEq, Repr

/-- The blocks with W1C fields as they stood when the present SYSCLK cycle began (R370). -/
structure CycleStart where
  round : RoundSt := {}
  lehr : LehrSt := {}
  start : StartSt := {}
  tiles : TilesSt := {}
  sync : SyncSt := {}
  mem : MemSt := {}
  fs : FsSt := {}
  lens : LensSt := {}
  fab : FabSt := {}
  part : PartSt := {}
  flt : FltSt := {}
  acc : Tab Acc := []
deriving DecidableEq, Repr

/-- The state of the block. `pending` is the queue of waiting commands, `now` the interpolated device time in ns
(R32), `free` the counter a free value is drawn with, `answer` the words the last read returned, `cycle` what the present
SYSCLK cycle began with; these last three and the queue are the model's own. -/
structure State where
  pending : List Instr := []
  now : Nat := 0
  free : Nat := 0
  answer : List Nat := []
  pins : Pins := {}
  nv : NonVol := {}
  img : Option Image := none
  start : StartSt := {}
  round : RoundSt := {}
  lehr : LehrSt := {}
  tiles : TilesSt := {}
  sync : SyncSt := {}
  mem : MemSt := {}
  fs : FsSt := {}
  lens : LensSt := {}
  fab : FabSt := {}
  part : PartSt := {}
  flt : FltSt := {}
  acc : Tab Acc := []
  jtag : Jtag := {}
  cycle : CycleStart := {}
deriving DecidableEq, Repr

/-- What the factory and the free constants of the part put into what survives resets (R360): anti-rollback 0,
450 W, no lock, key slot 0 programmed and recorded in the factory record 0; the flash is blank. -/
def NonVol.factory : NonVol :=
  { variantC := Config.variantC
    serial := Config.serial.toNat
    supvRelease := Config.supvRelease.toNat
    devKey := Config.deviceKey
    fuses :=
      { keys := [{ programmed := true, digest := Config.factoryKeyDigest }, {}, {}, {}]
        log := [{ kind := 2, slot := 0, complete := true, factory := true,
                  new := Config.factoryKeyDigest % 2 ^ 64 }] } }

/-- The part held in reset with good supplies, every register at its Reset column value, an empty queue. -/
def State.reset : State := { nv := NonVol.factory }

end Sys2Proof.Machine
end

