-- ==== Sys2Proof/Machine/Ops.lean ====
section
/-! DEFINITION. The named operations over tables, bytes, memory, time, faults and access status that the
commands' meanings share. -/

namespace Sys2Proof.Machine

/-! ### Tables -/

/-- The value at key `k`, `d` where the key is not listed. -/
def tget {α : Type} (m : Tab α) (k : Nat) (d : α) : α :=
  match m with
  | [] => d
  | (a, x) :: r => if a = k then x else tget r k d

/-- The value at key `k`, if it is listed. -/
def tfind {α : Type} (m : Tab α) (k : Nat) : Option α :=
  match m with
  | [] => none
  | (a, x) :: r => if a = k then some x else tfind r k

/-- Set the value at key `k`, keeping keys in rising order. -/
def tset {α : Type} (m : Tab α) (k : Nat) (v : α) : Tab α :=
  match m with
  | [] => [(k, v)]
  | (a, x) :: r =>
    if a = k then (k, v) :: r
    else if k < a then (k, v) :: (a, x) :: r
    else (a, x) :: tset r k v

/-- Change the value at key `k`, which is `d` where it is not listed. -/
def tupd {α : Type} (m : Tab α) (k : Nat) (d : α) (f : α → α) : Tab α :=
  tset m k (f (tget m k d))

/-- Drop key `k`: its value is the default again. -/
def tdel {α : Type} (m : Tab α) (k : Nat) : Tab α :=
  m.filter fun p => p.1 ≠ k

/-- Is key `k` listed? -/
def thas {α : Type} (m : Tab α) (k : Nat) : Bool := m.any fun p => p.1 = k

/-! ### Numbers and bytes -/

/-- Field of `w` bits of `n` from bit `lo` (R5). -/
def bits (n lo w : Nat) : Nat := n / 2 ^ lo % 2 ^ w

/-- Bit `i` of `n`. -/
def bit (n i : Nat) : Bool := n / 2 ^ i % 2 = 1

/-- One bit as a number. -/
def flag (b : Bool) : Nat := if b then 1 else 0

/-- `n` with bit `i` set. -/
def setBit (n i : Nat) : Nat := if bit n i then n else n + 2 ^ i

/-- A count of `w` bits rises by `k` and saturates (R397). -/
def satAdd (w a k : Nat) : Nat := min (a + k) (2 ^ w - 1)

/-- A 32-bit count rises by one (R397). -/
def bump (a : Nat) : Nat := satAdd 32 a 1

/-- Number of bits set among the low `w`. -/
def popCount (n w : Nat) : Nat := ((List.range w).filter fun i => bit n i).length

/-- Bytes, least significant first, as a number (R6). -/
def leNat (bs : List Byte) : Nat := bs.foldr (fun b acc => b.toNat + 256 * acc) 0

/-- Bytes, most significant first, as a number. -/
def beNat (bs : List Byte) : Nat := bs.foldl (fun acc b => 256 * acc + b.toNat) 0

/-- The low `k` bytes of `n`, least significant first (R6). -/
def leBytes (n : Nat) : Nat → List Byte
  | 0 => []
  | k + 1 => BitVec.ofNat 8 n :: leBytes (n / 256) k

/-- `n` bytes of `bs` from offset `o`. -/
def sub (bs : List Byte) (o n : Nat) : List Byte := (bs.drop o).take n

/-- The `w`-byte little-endian number at offset `o`. -/
def numAt (bs : List Byte) (o w : Nat) : Nat := leNat (sub bs o w)

/-- Two's complement value of the low `w` bits of `n`. -/
def toSigned (w n : Nat) : Int :=
  let m := n % 2 ^ w
  if m < 2 ^ (w - 1) then (m : Int) else (m : Int) - (2 ^ w : Nat)

/-- Low `w` bits of an integer. -/
def ofSigned (w : Nat) (i : Int) : Nat := (i % (2 ^ w : Nat)).toNat

/-- Round a quotient up. -/
def ceilDiv (a b : Nat) : Nat := (a + b - 1) / b

/-- Round up to a multiple. -/
def roundUp (a m : Nat) : Nat := ceilDiv a m * m

/-- Replace the element at place `i`. -/
def listSet {α : Type} (l : List α) (i : Nat) (x : α) : List α := l.set i x

/-- Drop the element at place `i`. -/
def dropAt {α : Type} (l : List α) (i : Nat) : List α := l.take i ++ l.drop (i + 1)

/-- Insert a number without repeats. -/
def addOnce (l : List Nat) (x : Nat) : List Nat := if l.contains x then l else l ++ [x]

/-- Element size in bytes of a format code of Table 5.3 (Table 8.1). -/
def fmtBytes (code : Nat) : Nat :=
  if code = 0 || code = 6 then 4 else if code = 1 || code = 2 then 2 else 1

/-- `b` repeated `n` times. -/
def fill (n : Nat) (b : Byte) : List Byte := List.replicate n b

/-! ### Memory in canonical form: addresses strictly rising, no entry equal to what an unlisted address reads as -/

/-- The byte at address `a`; `u` where it is not listed. -/
def cellGet (u : Byte) (m : List Host.Cell) (a : Nat) : Byte :=
  match m with
  | [] => u
  | (k, b) :: r => if k = a then b else cellGet u r a

/-- Write byte `b` at address `a`, keeping the canonical form. -/
def cellSet (u : Byte) (m : List Host.Cell) (a : Nat) (b : Byte) : List Host.Cell :=
  match m with
  | [] => if b = u then [] else [(a, b)]
  | (k, c) :: r =>
    if k = a then (if b = u then r else (a, b) :: r)
    else if a < k then (if b = u then (k, c) :: r else (a, b) :: (k, c) :: r)
    else (k, c) :: cellSet u r a b

/-- Every listed address is above `lo` and rising, and no listed byte is `u`. -/
def cellsFrom (u : Byte) (lo : Nat) : List Host.Cell → Bool
  | [] => true
  | (k, b) :: r => lo ≤ k && b != u && cellsFrom u (k + 1) r

/-- The canonical form of a memory whose unlisted bytes read `u`. -/
def cellsWf (u : Byte) (m : List Host.Cell) : Bool := cellsFrom u 0 m

/-- `n` bytes from address `a`. -/
def readBytes (u : Byte) (m : List Host.Cell) (a n : Nat) : List Byte :=
  (List.range n).map fun i => cellGet u m (a + i)

/-- Write bytes from address `a` upward. -/
def writeBytes (u : Byte) (m : List Host.Cell) (a : Nat) : List Byte → List Host.Cell
  | [] => m
  | b :: r => writeBytes u (cellSet u m a b) (a + 1) r

/-- Drop every listed byte from `a` to `a + n - 1`: they read as unlisted again. -/
def clearRange (m : List Host.Cell) (a n : Nat) : List Host.Cell :=
  m.filter fun c => c.1 < a || a + n ≤ c.1

/-- The canonical form of every byte store of the block: LPDDR5X and tile SRAM, which read 0 where nothing is listed, and the
flash, which reads 0xFF. -/
def Memory.wf (s : State) : Bool := cellsWf 0 s.mem.cells && cellsWf 0 s.tiles.sram && cellsWf 0xFF s.nv.flash

/-! ### The state's plain questions -/

/-- The image copy; the When-absent values where no image has been accepted. -/
def State.im (s : State) : Image := s.img.getD {}

/-- Is the part out of reset, with its clock running (R84, R85, R382)? -/
def State.running (s : State) : Bool := s.pins.resetN && !s.pins.holdReset

/-- The device-time count, a multiple of 20 ns (R32). -/
def State.devCount (s : State) : Nat := s.now / 20 * 20

/-- RND_ANGLE_VALID (R40). -/
def State.angleValid (s : State) : Bool := s.round.state = .sync

/-- The reference tooth period in 1/256 ns; the nominal one while none is committed (R36). -/
def State.refPeriod (s : State) : Nat :=
  if s.round.refCommitted then s.round.refPeriod else s.im.round.periodUs * 1000

/-- Is this part its domain's master (R304), or alone (R26)? -/
def State.isMaster (s : State) : Bool :=
  !s.im.fab.present || s.im.fab.deviceId = s.im.fab.masterId

/-- A domain of one: no FAB_CORE record, or FAB_DOMAIN_SIZE 1 (R26, R304). -/
def State.alone (s : State) : Bool := !s.im.fab.present || s.im.fab.domainSize = 1

/-- The device ID: 0 without FAB_CORE (R304). -/
def State.deviceId (s : State) : Nat := if s.im.fab.present then s.im.fab.deviceId else 0

/-- A master is there for releases and posts (R334, R336): a domain of one, the master itself, or FAB_MASTER_PRESENT with no
new join under way (R345). -/
def State.masterThere (s : State) : Bool := s.alone || s.isMaster || (s.fab.masterPresent && !s.fab.rejoin)

/-- READY (R88). -/
def State.isReady (s : State) : Bool := s.start.stage = 9

/-- The tile clocks run: not tripped (R80). -/
def State.clocked (s : State) : Bool := s.running && s.lehr.state != .tripped

/-- Is part `d` an admitted member of the domain? -/
def State.admitted (s : State) (d : Nat) : Bool := d = s.deviceId || bit s.fab.memberMap d

/-- A fresh draw of the free values, and the state with the counter advanced. -/
def State.draw (s : State) : Nat × State := (s.free, { s with free := s.free + 1 })

/-! ### Faults (R348 to R353) -/

/-- Severity of a code (Table 14.2). -/
def severity (code : Nat) : Nat :=
  if [0x2002, 0x3007, 0x300A, 0x300B, 0x9001, 0x9004, 0x900C].contains code then 3
  else if [0x1001, 0x1002, 0x1003, 0x2001, 0x2003, 0x2006, 0x3001, 0x3002, 0x3003, 0x3004, 0x3005, 0x3006,
      0x300C, 0x300D, 0x6003, 0x6004, 0x6005, 0x7005, 0x8003, 0x8005, 0x9002, 0x9005, 0x9006, 0x9007,
      0x9009].contains code then 1
  else if [0x4001, 0x4002, 0x4003, 0x4004, 0x5001, 0x5002, 0x5003, 0x5004, 0x5006, 0x6001, 0x7002, 0x7003,
      0x7004, 0x7006, 0x8004, 0x8006, 0x9003, 0x900B, 0x900D, 0xA001, 0xA002, 0xA003, 0xA004,
      0xA005].contains code then 2
  else 0

/-- Does log entry `a` stand before `b` of the same stamp: lower code, then lower unit (R352)? -/
def logBefore (a b : LogEntry) : Bool :=
  a.devtime = b.devtime && (a.code < b.code || (a.code = b.code && a.unit < b.unit))

/-- Move the entry at ring place `i` before entries of its own stamp that it precedes; sequence numbers stay with
the places (R352). At most 16 entries share a stamp. -/
def sinkEntry : Nat → Nat → Tab LogEntry → Tab LogEntry
  | 0, _, ring => ring
  | n + 1, i, ring =>
    let j := (i + 511) % 512
    let a := tget ring i {}
    let b := tget ring j {}
    if b.seq + 1 = a.seq && logBefore a b then
      sinkEntry n j
        (tset (tset ring i { b with seq := a.seq, seqEnd := a.seqEnd }) j { a with seq := b.seq, seqEnd := b.seqEnd })
    else ring

/-- Write one event-log entry, under the rate limit of R352. Beyond it the entry that comes last in the order of one stamp is the
one that is not written. -/
def FltSt.append (f : FltSt) (e : LogEntry) (stamp : Nat) : FltSt :=
  let near := f.recent.filter fun x => stamp < x + 1000
  if 16 ≤ near.length then
    let k := (f.idx + 511) % 512
    let last := tget f.ring k {}
    let e' := { e with devtime := stamp, seq := last.seq, seqEnd := last.seqEnd }
    { f with
      dropped := bump f.dropped, recent := near
      ring := if logBefore e' last then sinkEntry 16 k (tset f.ring k e') else f.ring }
  else
    let e' := { e with devtime := stamp, seq := f.seqNext, seqEnd := f.seqNext }
    { f with
      ring := sinkEntry 16 f.idx (tset f.ring f.idx e')
      idx := (f.idx + 1) % 512
      wraps := if f.idx = 511 then bump f.wraps else f.wraps
      seqNext := (f.seqNext + 1) % 2 ^ 32
      recent := near ++ [stamp] }

/-- FLT_LAST_CODE after a raising: of raisings with one stamp, the last in the order of R352. -/
def FltSt.lastOf (f : FltSt) (code stamp : Nat) : Nat := if f.lastStamp = stamp then max f.lastCode code else code

/-- The log entry of a raising now (Table 14.3). -/
def State.logEntry (s : State) (code unit : Nat) (ctx : Option Nat) (detail : Nat) : LogEntry :=
  { code := code, sev := severity code, context := ctx.getD 0, ctxValid := ctx.isSome, unit := unit
    angle := if s.angleValid then s.round.angle else 0xFFFF
    rev := s.round.rev, detail := detail }

/-- Raise a fault with context and detail (R349): a log entry, the code's count, FLT_LAST_CODE, FLT_ST_SEV, and
nothing else. -/
def raiseFull (code unit : Nat) (ctx : Option Nat) (detail : Nat) (s : State) : State :=
  let f := s.flt.append (s.logEntry code unit ctx detail) s.devCount
  { s with flt := { f with
      counts := tupd f.counts (16 * (code / 0x1000) + code % 0x1000) 0 bump
      lastCode := f.lastOf code s.devCount
      lastStamp := s.devCount
      sev := setBit f.sev (severity code)
      raised := bump f.raised } }

/-- Raise a fault that names a unit only. -/
def raise (code unit : Nat) (s : State) : State := raiseFull code unit none 0 s

/-- Raise a fault that names no unit. -/
def raise0 (code : Nat) (s : State) : State := raise code 0xFFFF s

/-- The event-log entry of a fuse change, kind 1, with the fuse-log index (R363). -/
def logFuse (index : Nat) (s : State) : State :=
  { s with flt := s.flt.append { s.logEntry 0 0xFFFF none index with fuse := true, sev := 0 } s.devCount }

/-! ### Access status (R356, R357) -/

def State.accOf (s : State) (r : Nat) : Acc := tget s.acc r {}

def State.setAcc (s : State) (r : Nat) (a : Acc) : State := { s with acc := tset s.acc r a }

/-- Record a discarded write (R13, R357). -/
def markDiscarded (r : Nat) (s : State) : State := s.setAcc r { s.accOf r with discarded := true }

/-- Record an access of bad size or alignment (R355). -/
def markBadSize (r : Nat) (s : State) : State := s.setAcc r { s.accOf r with badSize := true }

/-! ### The passing of device time -/

/-- One watt in the setpoint's unit, 1/256 nW. -/
def wattU : Nat := 256 * 1000000000

/-- A power in mW as the registers show it, from the setpoint's unit. -/
def uToMw (u : Nat) : Nat := u / (256 * 1000000)

/-- The start plateau of 120 W (R82). -/
def plateauU : Nat := 120 * wattU

/-- Reset and idle power, about 60 W (Table 15.11). -/
def idleU : Nat := 60 * wattU

/-- Move `x` towards `goal` by at most `d`. -/
def towards (x goal d : Nat) : Nat := if x ≤ goal then min (x + d) goal else max (x - d) goal

/-- The setpoint after `dt` ns of its motion: PWR_SLEW in a segment, 0.5 W/ms on the plateau climb, the descent and
in quarantine (R65, R66, R78, R82). -/
def LehrSt.moved (l : LehrSt) (dt : Nat) : Nat :=
  match l.motion with
  | .still => l.setpoint
  | .segment goal => towards l.setpoint goal (l.slew * 25600 * dt)
  | .plateau => towards l.setpoint plateauU (5 * 25600 * dt)
  | .descent goal => if l.setpoint ≤ goal then l.setpoint else towards l.setpoint goal (5 * 25600 * dt)
  | .quarantine goal => if l.setpoint ≤ goal then l.setpoint else towards l.setpoint goal (5 * 25600 * dt)

/-- Is a loss in force that counts towards the hold limit (R78)? -/
def LehrSt.lossNow (l : LehrSt) : Bool := l.roundLoss.isSome || l.masterLoss.isSome

/-- The states in which R78 applies. -/
def PwrState.governing (p : PwrState) : Bool :=
  match p with
  | .rampToFloor | .govern | .hold | .descend | .alert => true
  | .reset | .start | .tripped | .quarantineIdle => false

/-- What `dt` ns do to the governor; a setpoint that reaches the floor ends RAMP_TO_FLOOR (R82). -/
def LehrSt.advance (l : LehrSt) (alertLow : Bool) (dt : Nat) : LehrSt :=
  { l with
    setpoint := l.moved dt
    state := if l.state = .rampToFloor && l.floorW * wattU ≤ l.moved dt then .govern else l.state
    holdNs := if l.lossNow && l.state.governing then l.holdNs + dt else l.holdNs
    alertNs := if alertLow then l.alertNs + dt else l.alertNs }

/-- Token limit of a partition's regulator in tenths of a byte (R258). -/
def PartEntry.burst (p : PartEntry) : Nat := p.burstKib * 10240

/-- The partition entry of partition `p`; without PART_PLAN clusters 2p and 2p + 1, unmetered (Table 13.1). -/
def State.partEntry (s : State) (p : Nat) : PartEntry :=
  s.im.partPlan.getD p { clusterA := 2 * p, clusterB := 2 * p + 1 }

/-- What `dt` ns do to regulator `p` (R258): tokens rise at the rate up to the limit, and the time with a request
waiting is counted. -/
def Reg.advance (e : PartEntry) (dt : Nat) (r : Reg) : Reg :=
  { r with
    tokens := min (r.tokens + e.rate * dt) e.burst
    heldNs := if r.waiting.isEmpty then r.heldNs else satAdd 64 r.heldNs dt }

/-- Vectors an engine may process in the present microsecond (R277). -/
def Engine.limit (e : Engine) : Nat := min 2000 (e.lastUs + 250)

/-- What `dt` ns do to an engine whose drive runs: time frozen is counted (R283), and the time of every vector that waits for the next
microsecond (R277). -/
def Engine.advance (dt : Nat) (e : Engine) : Engine :=
  { e with
    frozenNs := if e.frozen then satAdd 64 e.frozenNs dt else e.frozenNs
    slewDelayNs :=
      if e.state = .serving && e.limit ≤ e.thisUs then satAdd 64 e.slewDelayNs (dt * e.queue.length)
      else e.slewDelayNs }

/-- Of `dt` ns, those in which the Lens drive runs: none after a trip (R80, R289). -/
def State.driven (s : State) (dt : Nat) : Nat := if s.lehr.state = .tripped then 0 else dt

/-- What the blocks hold as a SYSCLK cycle begins. -/
def State.cycleNow (s : State) : CycleStart :=
  { round := s.round, lehr := s.lehr, start := s.start, tiles := s.tiles, sync := s.sync, mem := s.mem, fs := s.fs, lens := s.lens
    fab := s.fab, part := s.part, flt := s.flt, acc := s.acc }

/-- Device time passes to `t` (never back); in reset no time passes (R32). -/
def State.advance (t : Nat) (s : State) : State :=
  if s.running then
    let n := max s.now t
    let dt := n - s.now
    { s with
      now := n
      cycle := if n / 20 = s.now / 20 then s.cycle else s.cycleNow
      lehr := s.lehr.advance s.pins.alertLow dt
      mem := { s.mem with regs := s.mem.regs.map fun p => (p.1, Reg.advance (s.partEntry p.1) dt p.2) }
      lens := { s.lens with engines := s.lens.engines.map fun p => (p.1, Engine.advance (s.driven dt) p.2) } }
  else s

/-- The next SYSCLK edge (R32): what a step does on an empty queue. -/
def State.sysclkEdge (s : State) : State :=
  if s.running && s.pins.sysclk then s.advance ((s.now / 20 + 1) * 20) else s

end Sys2Proof.Machine
end

