-- ==== Sys2Proof/Machine/Crypto.lean ====
section
/-! DEFINITION. The digests and signatures the part computes: SHA-384, ECDSA on P-384 (R94, R95), and the CRC-32 of
the flash log (R91). -/

namespace Sys2Proof.Machine

/-! ### SHA-384 on 64-bit words held as numbers -/

def w64 : Nat := 2 ^ 64

def rotR (x n : Nat) : Nat := (x >>> n) ||| (x <<< (64 - n) % w64)

/-- Round constants: the first 64 bits of the fractional parts of the cube roots of the first 80 primes. -/
def shaK0 : List Nat :=
  [0x428A2F98D728AE22, 0x7137449123EF65CD, 0xB5C0FBCFEC4D3B2F, 0xE9B5DBA58189DBBC,
   0x3956C25BF348B538, 0x59F111F1B605D019, 0x923F82A4AF194F9B, 0xAB1C5ED5DA6D8118,
   0xD807AA98A3030242, 0x12835B0145706FBE, 0x243185BE4EE4B28C, 0x550C7DC3D5FFB4E2,
   0x72BE5D74F27B896F, 0x80DEB1FE3B1696B1, 0x9BDC06A725C71235, 0xC19BF174CF692694]

def shaK1 : List Nat :=
  [0xE49B69C19EF14AD2, 0xEFBE4786384F25E3, 0x0FC19DC68B8CD5B5, 0x240CA1CC77AC9C65,
   0x2DE92C6F592B0275, 0x4A7484AA6EA6E483, 0x5CB0A9DCBD41FBD4, 0x76F988DA831153B5,
   0x983E5152EE66DFAB, 0xA831C66D2DB43210, 0xB00327C898FB213F, 0xBF597FC7BEEF0EE4,
   0xC6E00BF33DA88FC2, 0xD5A79147930AA725, 0x06CA6351E003826F, 0x142929670A0E6E70]

def shaK2 : List Nat :=
  [0x27B70A8546D22FFC, 0x2E1B21385C26C926, 0x4D2C6DFC5AC42AED, 0x53380D139D95B3DF,
   0x650A73548BAF63DE, 0x766A0ABB3C77B2A8, 0x81C2C92E47EDAEE6, 0x92722C851482353B,
   0xA2BFE8A14CF10364, 0xA81A664BBC423001, 0xC24B8B70D0F89791, 0xC76C51A30654BE30,
   0xD192E819D6EF5218, 0xD69906245565A910, 0xF40E35855771202A, 0x106AA07032BBD1B8]

def shaK3 : List Nat :=
  [0x19A4C116B8D2D0C8, 0x1E376C085141AB53, 0x2748774CDF8EEB99, 0x34B0BCB5E19B48A8,
   0x391C0CB3C5C95A63, 0x4ED8AA4AE3418ACB, 0x5B9CCA4F7763E373, 0x682E6FF3D6B2B8A3,
   0x748F82EE5DEFB2FC, 0x78A5636F43172F60, 0x84C87814A1F0AB72, 0x8CC702081A6439EC,
   0x90BEFFFA23631E28, 0xA4506CEBDE82BDE9, 0xBEF9A3F7B2C67915, 0xC67178F2E372532B]

def shaK4 : List Nat :=
  [0xCA273ECEEA26619C, 0xD186B8C721C0C207, 0xEADA7DD6CDE0EB1E, 0xF57D4F7FEE6ED178,
   0x06F067AA72176FBA, 0x0A637DC5A2C898A6, 0x113F9804BEF90DAE, 0x1B710B35131C471B,
   0x28DB77F523047D84, 0x32CAAB7B40C72493, 0x3C9EBE0A15C9BEBC, 0x431D67C49C100D4C,
   0x4CC5D4BECB3E42B6, 0x597F299CFC657E2A, 0x5FCB6FAB3AD6FAEC, 0x6C44198C4A475817]

/-- Initial state: the first 64 bits of the fractional parts of the square roots of the ninth to sixteenth primes. -/
def shaInit : List Nat :=
  [0xCBBB9D5DC1059ED8, 0x629A292A367CD507, 0x9159015A3070DD17, 0x152FECD8F70E5939,
   0x67332667FFC00B31, 0x8EB44A8768581511, 0xDB0C2E0D64F98FA7, 0x47B5481DBEFA4FA4]

/-- The message schedule, given the last sixteen words in order; `n` words are still to come. -/
def shaSchedule : Nat → List Nat → List Nat
  | 0, w => w
  | n + 1, w =>
    let a := w.getD 1 0
    let b := w.getD 14 0
    let s0 := rotR a 1 ^^^ rotR a 8 ^^^ (a >>> 7)
    let s1 := rotR b 19 ^^^ rotR b 61 ^^^ (b >>> 6)
    let x := (w.getD 0 0 + s0 + w.getD 9 0 + s1) % w64
    w.getD 0 0 :: shaSchedule n (w.drop 1 ++ [x])

/-- The eight working variables. -/
structure ShaVars where
  a : Nat
  b : Nat
  c : Nat
  d : Nat
  e : Nat
  f : Nat
  g : Nat
  h : Nat
deriving DecidableEq, Repr

def shaStep (v : ShaVars) (kw : Nat × Nat) : ShaVars :=
  let s1 := rotR v.e 14 ^^^ rotR v.e 18 ^^^ rotR v.e 41
  let ch := (v.e &&& v.f) ^^^ ((w64 - 1 - v.e) &&& v.g)
  let t1 := (v.h + s1 + ch + kw.1 + kw.2) % w64
  let s0 := rotR v.a 28 ^^^ rotR v.a 34 ^^^ rotR v.a 39
  let mj := (v.a &&& v.b) ^^^ (v.a &&& v.c) ^^^ (v.b &&& v.c)
  let t2 := (s0 + mj) % w64
  ⟨(t1 + t2) % w64, v.a, v.b, v.c, (v.d + t1) % w64, v.e, v.f, v.g⟩

def shaK : List Nat := shaK0 ++ shaK1 ++ shaK2 ++ shaK3 ++ shaK4

/-- One 128-byte block. -/
def shaBlock (s : ShaVars) (block : List Byte) : ShaVars :=
  let w := (List.range 16).map fun i => beNat (sub block (8 * i) 8)
  let r := (shaK.zip (shaSchedule 64 w)).foldl shaStep s
  ⟨(s.a + r.a) % w64, (s.b + r.b) % w64, (s.c + r.c) % w64, (s.d + r.d) % w64,
   (s.e + r.e) % w64, (s.f + r.f) % w64, (s.g + r.g) % w64, (s.h + r.h) % w64⟩

def shaBlocks : Nat → List Byte → ShaVars → ShaVars
  | 0, _, s => s
  | n + 1, bs, s => shaBlocks n (bs.drop 128) (shaBlock s (bs.take 128))

/-- The low `k` bytes of `n`, most significant first. -/
def beBytes (n k : Nat) : List Byte := (leBytes n k).reverse

/-- The SHA-384 digest: 48 bytes. -/
def sha384 (m : List Byte) : List Byte :=
  let z := (239 - m.length % 128) % 128
  let p := m ++ [0x80#8] ++ fill z 0 ++ beBytes (8 * m.length) 16
  let i := fun n => shaInit.getD n 0
  let s := shaBlocks (p.length / 128) p ⟨i 0, i 1, i 2, i 3, i 4, i 5, i 6, i 7⟩
  [s.a, s.b, s.c, s.d, s.e, s.f].flatMap fun x => beBytes x 8

/-! ### P-384 -/

def p384 : Nat := 2 ^ 384 - 2 ^ 128 - 2 ^ 96 + 2 ^ 32 - 1
def n384 : Nat :=
  0xFFFFFFFFFFFFFFFFFFFFFFFFFFFFFFFFFFFFFFFFFFFFFFFFC7634D81F4372DDF581A0DB248B0A77AECEC196ACCC52973
def b384 : Nat :=
  0xB3312FA7E23EE7E4988E056BE3F82D19181D9C6EFE8141120314088F5013875AC656398D8A2ED19D2A85C8EDD3EC2AEF
def gx384 : Nat :=
  0xAA87CA22BE8B05378EB1C71EF320AD746E1D3B628BA79B9859F741E082542A385502F25DBF55296C3A545E3872760AB7
def gy384 : Nat :=
  0x3617DE4A96262C6F5D9E98BF9292DC29F8F41DBD289A147CE9DA3113B5F0B8C00A60B1CE1D7E819D7A431D7C90EA0E5F

/-- A point in Jacobian coordinates; z = 0 is the point at infinity. -/
structure Pt where
  x : Nat
  y : Nat
  z : Nat
deriving DecidableEq, Repr

def fsub (a b : Nat) : Nat := (a + p384 - b) % p384

def Pt.double (a : Pt) : Pt :=
  if a.z = 0 || a.y = 0 then ⟨1, 1, 0⟩
  else
    let d := a.z * a.z % p384
    let g := a.y * a.y % p384
    let b := a.x * g % p384
    let al := 3 * (fsub a.x d) * ((a.x + d) % p384) % p384
    let x := fsub (al * al % p384) (8 * b % p384)
    let z := 2 * a.y * a.z % p384
    ⟨x, fsub (al * fsub (4 * b % p384) x % p384) (8 * g * g % p384), z⟩

def Pt.add (a b : Pt) : Pt :=
  if a.z = 0 then b
  else if b.z = 0 then a
  else
    let za := a.z * a.z % p384
    let zb := b.z * b.z % p384
    let u1 := a.x * zb % p384
    let u2 := b.x * za % p384
    let s1 := a.y * zb % p384 * b.z % p384
    let s2 := b.y * za % p384 * a.z % p384
    if u1 = u2 then (if s1 = s2 then a.double else ⟨1, 1, 0⟩)
    else
      let h := fsub u2 u1
      let r := fsub s2 s1
      let h2 := h * h % p384
      let h3 := h2 * h % p384
      let v := u1 * h2 % p384
      let x := fsub (fsub (r * r % p384) h3) (2 * v % p384)
      ⟨x, fsub (r * fsub v x % p384) (s1 * h3 % p384), a.z * b.z % p384 * h % p384⟩

/-- u G + v Q over the low `k` bits of u and v, `acc` holding the bits above. -/
def Pt.mulAdd (u v : Nat) (g q gq : Pt) : Nat → Pt → Pt
  | 0, acc => acc
  | k + 1, acc =>
    let d := acc.double
    let e :=
      match bit u k, bit v k with
      | true, true => d.add gq
      | true, false => d.add g
      | false, true => d.add q
      | false, false => d
    Pt.mulAdd u v g q gq k e

/-- a^e modulo m over the low `k` bits of e. -/
def powMod (a e m : Nat) : Nat → Nat → Nat
  | 0, acc => acc
  | k + 1, acc =>
    let s := acc * acc % m
    powMod a e m k (if bit e k then s * a % m else s)

/-- Inverse modulo a prime below 2^384. -/
def invMod (a m : Nat) : Nat := powMod (a % m) (m - 2) m 384 1

/-- A well-formed SEC1 uncompressed point of P-384 (R95). -/
def pointValid (bs : List Byte) : Bool :=
  let x := beNat (sub bs 1 48)
  let y := beNat (sub bs 49 48)
  bs.length = 97 && bs.head? = some 0x04#8 && x < p384 && y < p384
    && y * y % p384 = (x * x % p384 * x + 3 * (p384 - x) + b384) % p384

/-- ECDSA verification of a 48-byte digest; r and s are numbers. -/
def ecdsaVerify (key digest : List Byte) (r s : Nat) : Bool :=
  if r = 0 || n384 ≤ r || s = 0 || n384 ≤ s || !pointValid key then false
  else
    let w := invMod s n384
    let u := beNat digest % n384 * w % n384
    let v := r * w % n384
    let g : Pt := ⟨gx384, gy384, 1⟩
    let q : Pt := ⟨beNat (sub key 1 48), beNat (sub key 49 48), 1⟩
    let t := Pt.mulAdd u v g q (g.add q) 384 ⟨1, 1, 0⟩
    if t.z = 0 then false
    else
      let zi := invMod t.z p384
      t.x * (zi * zi % p384) % p384 % n384 = r

/-- Does `sig`, r then s of 48 bytes each, sign the message (R94)? -/
def signedBy (key msg sig : List Byte) : Bool :=
  ecdsaVerify key (sha384 msg) (beNat (sub sig 0 48)) (beNat (sub sig 48 48))

/-! ### CRC-32, IEEE 802.3 -/

def crcBits : Nat → Nat → Nat
  | 0, c => c
  | k + 1, c => crcBits k (if c % 2 = 1 then (c / 2) ^^^ 0xEDB88320 else c / 2)

def crc32 (bs : List Byte) : Nat :=
  bs.foldl (fun c b => crcBits 8 (c ^^^ b.toNat)) 0xFFFFFFFF ^^^ 0xFFFFFFFF

end Sys2Proof.Machine
end

