-- ==== Sys2Proof/Machine/Image.lean ====
section
/-! DEFINITION. The start image: its container, its records with the fields of every chapter, checks 1 to 9 of Table
4.5, the join digest (R305) and the plan fingerprint (R323). -/

namespace Sys2Proof.Machine

/-! ### Container (R92, R93) -/

/-- A record: type, payload, and whether its padding bytes are zero. -/
structure Rec where
  type : Nat
  payload : List Byte
  padOk : Bool
deriving DecidableEq, Repr

/-- The payload as one number, bit 0 first. -/
def Rec.num (r : Rec) : Nat := leNat r.payload

/-- Walk record headers to the exact end of `bs`; at most `n` records. -/
def walkRecs : Nat → List Byte → Option (List Rec)
  | 0, bs => if bs.isEmpty then some [] else none
  | n + 1, bs =>
    if bs.isEmpty then some []
    else
      let len := numAt bs 4 4
      let all := 8 + roundUp len 8
      if bs.length < 8 || numAt bs 2 2 ≠ 0 || bs.length < all then none
      else
        let r : Rec := ⟨numAt bs 0 2, sub bs 8 len, (sub bs (8 + len) (all - 8 - len)).all fun b => b = 0⟩
        (walkRecs n (bs.drop all)).map fun l => r :: l

/-- Types that may appear more than once. -/
def repeatable (t : Nat) : Bool := [0x0031, 0x0041, 0x0051, 0x0071, 0x00A0, 0x00A8].contains t

/-- Non-decreasing types, each once unless repeatable, no signature record among them (R93). -/
def orderOk : List Rec → Bool
  | [] => true
  | [r] => r.type ≠ 0x000F
  | a :: b :: r =>
    a.type ≠ 0x000F && (a.type < b.type || (a.type = b.type && repeatable a.type)) && orderOk (b :: r)

/-- The first record of a type. -/
def findRec (rs : List Rec) (t : Nat) : Option Rec := rs.find? fun r => r.type = t

/-- Every record of a type, as numbers. -/
def recNums (rs : List Rec) (t : Nat) : List Nat := (rs.filter fun r => r.type = t).map Rec.num

/-- The number of the record of a type, if present. -/
def recNum (rs : List Rec) (t : Nat) : Option Nat := (findRec rs t).map Rec.num

/-! ### Record fields: Values columns and reserved fields -/

def inR (x lo hi : Nat) : Bool := lo ≤ x && x ≤ hi

/-- IMG_CONTAINER (Table 4.7). -/
def okContainer (p : Nat) : Bool :=
  bits p 0 8 ≤ 64 && bits p 9 7 = 0 && bits p 18 14 = 0 && 1 ≤ bits p 32 32

/-- IMG_IDENTITY. -/
def okIdentity (p : Nat) : Bool :=
  inR (bits p 128 2) 1 3 && bits p 130 6 = 0 && (bits p 136 8 = 0 || bits p 136 8 = 0xB0) && bits p 144 48 = 0

/-- IMG_START. -/
def okStart (p : Nat) : Bool :=
  inR (bits p 0 16) 1 3600 && inR (bits p 16 16) 1 3600 && bits p 32 4 ≤ 8 && 1 ≤ bits p 36 4 && bits p 40 24 = 0

/-- RND_CORE (Table 2.6). -/
def okRndCore (p : Nat) : Bool :=
  bits p 0 2 ≤ 2 && bits p 2 2 ≤ 2 && bits p 4 4 = 0 && inR (bits p 8 8) 4 64 && inR (bits p 16 8) 1 20
    && bits p 24 8 = 0 && inR (bits p 32 32) 64000 4096000 && bits p 32 32 % 128 = 0 && bits p 80 48 = 0

/-- RND_SLOT. -/
def okRndSlot (p : Nat) : Bool := bits p 16 48 = 0

/-- The sample entries of RND_SAMPLES: angle and mask. -/
def sampleEntries (bs : List Byte) : List (Nat × Nat) :=
  (List.range (bs.length / 4)).map fun i => (numAt bs (4 * i) 2, numAt bs (4 * i + 2) 2)

/-- RND_SAMPLES. -/
def okRndSamples (bs : List Byte) : Bool :=
  let es := sampleEntries bs
  es.all (fun e => e.2 < 256) && (es.map Prod.fst).dedup.length = es.length

/-- PWR_CORE (Table 3.1), against the fused ceiling. -/
def okPwr (fused p : Nat) : Bool :=
  let floor := bits p 0 16
  let ceil := bits p 16 16
  inR floor 150 800 && floor ≤ ceil && ceil ≤ fused && inR (bits p 32 16) 5 1000 && inR (bits p 48 8) 1 64
    && bits p 56 8 = 0 && inR (bits p 64 16) 1 3600 && inR (bits p 80 16) 1 4096 && bits p 96 16 ≤ 800
    && inR (bits p 112 8) 70 105 && bits p 120 8 = 0

/-- TILE_CORE (Table 5.5). -/
def okTile (p : Nat) : Bool :=
  inR (bits p 0 16) 800 1600 && bits p 0 16 % 100 = 0 && 16 ≤ bits p 16 16
    && bits p 32 8 ≤ 64 && bits p 32 8 % 4 = 0 && bits p 40 24 = 0

/-- SYNC_CORE (Table 6.4). -/
def okSync (p : Nat) : Bool := inR (bits p 0 8) 4 32 && inR (bits p 8 16) 1 60000 && bits p 24 40 = 0

/-- FS_CORE (Table 9.1). -/
def okFsCore (p : Nat) : Bool :=
  bits p 0 16 ≤ 7680 && bits p 0 16 % 64 = 0 && inR (bits p 16 16) 100 60000 && 110 ≤ bits p 32 8
    && inR (bits p 40 8) 10 100 && 1 ≤ bits p 48 4 && 1 ≤ bits p 56 8 && inR (bits p 64 16) 1 16
    && bits p 80 16 ≤ 16384 && bits p 80 16 % 64 = 0 && bits p 96 16 ≤ 2048 && bits p 96 16 % 64 = 0
    && bits p 112 16 = 0 && 1024 ≤ bits p 128 32 && 1024 ≤ bits p 160 32

/-- FS_TABLE (Table 9.1). -/
def okFsTable (p : Nat) : Bool :=
  let mode := bits p 8 2
  let shards := bits p 48 16
  bits p 0 8 ≤ 63 && mode ≤ 2 && (mode = 2 || !bit p 11) && bits p 12 4 = 0 && bits p 16 3 ≤ 6 && bits p 19 13 = 0
    && inR (bits p 32 12) 1 256 && bits p 44 4 = 0
    && (if mode = 2 then shards = 0 else inR shards 64 4096 && shards % 64 = 0)
    && inR (bits p 64 64) 1 (2 ^ 48) && bits p 139 5 = 0
    && (if mode = 2 then bits p 144 12 = 0 else inR (bits p 144 12) 1 2048) && bits p 156 4 = 0
    && (if mode = 2 then bits p 160 8 ≤ 63 && bits p 168 8 ≤ 63 else bits p 160 16 = 0)
    && !bit p 183 && bits p 184 8 ≤ 100 && (mode = 1 || bits p 192 64 = 0)

/-- MEM_CORE (Table 10.3). -/
def okMemCore (p : Nat) : Bool :=
  [6400, 7500, 8533].contains (bits p 0 16) && [2, 4, 8].contains (bits p 16 4) && bits p 20 4 = 0
    && 1 ≤ bits p 24 8 && bits p 32 16 ≤ 2048 && bits p 32 16 % 64 = 0 && bits p 48 16 ≤ 60000

/-- MEM_REGION. -/
def okRegion (p : Nat) : Bool :=
  !bit p 7 && bits p 15 17 = 0 && inR (bits p 32 32) 1 7864320 && bits p 64 48 % 65536 = 0 && bits p 112 16 = 0
    && bits p 128 48 % 65536 = 0 && bits p 176 16 = 0

/-- LENS_CORE (Table 11.2), on a part of this variant. -/
def okLens (variantC : Bool) (p : Nat) : Bool :=
  bits p 0 2 ≤ 1 && (!variantC || bits p 0 2 = 1) && bits p 2 6 = 0 && inR (bits p 8 8) 1 64
    && bits p 24 8 ≤ 253 && inR (bits p 64 8) 1 64 && bits p 72 56 = 0

/-- FAB_CORE (Table 12.7). -/
def okFab (p : Nat) : Bool :=
  inR (bits p 32 12) 1 2048 && bits p 48 5 ≤ 16 && bits p 53 5 ≤ 16 && inR (bits p 80 5) 12 16
    && inR (bits p 85 5) 12 (bits p 80 5) && inR (bits p 96 16) 1 1000 && inR (bits p 112 8) 10 255
    && bits p 11 5 = 0 && bits p 27 5 = 0 && bits p 44 4 = 0 && bits p 58 6 = 0 && bits p 90 6 = 0
    && bits p 120 8 = 0 && bits p 160 32 = 0

/-- FAB_PLAN. -/
def okPlan (p : Nat) : Bool :=
  bits p 4 60 = 0 && (List.range 16).all fun n => bits p (64 + 8 * n + 4) 2 ≤ 2 && bits p (64 + 8 * n + 6) 2 = 0

/-- One PART_PLAN entry (Table 13.1). -/
def okPart (e : Nat) : Bool :=
  bits e 6 2 = 0 && bits e 14 2 = 0 && bits e 30 2 = 0 && bits e 45 19 = 0 && bits e 16 14 ≤ 10922
    && inR (bits e 32 13) 4 4096

/-- PART_CONTEXT, its bytes. -/
def okContext (bs : List Byte) : Bool :=
  let p := leNat bs
  bits p 14 18 = 0 && inR (bits p 32 16) 1 4096 && bits p 48 16 = 0 && numAt bs 105 7 = 0
    && pointValid (sub bs 8 97) && (bit p 13 || numAt bs 112 48 = 0)

/-- PART_NET. -/
def okNet (p : Nat) : Bool :=
  bits p 1 12 ≤ 4094 && inR (bits p 13 14) 1280 9198 && 1 ≤ bits p 32 16 && bits p 48 6 ≤ 32 && bits p 56 8 ≤ 128
    && bits p 27 5 = 0 && bits p 54 2 = 0

/-- ID_FUSE_REQ (Table 14.9), for a part of this serial number. -/
def okFuseReq (serial p : Nat) : Bool :=
  let kind := bits p 0 4
  inR kind 1 4 && bits p 4 4 = 0 && (kind = 2 || kind = 3 || bits p 8 2 = 0) && bits p 10 54 = 0
    && bits p 64 64 = serial && (kind = 1 || kind = 4 || bits p 128 64 = 0) && (kind = 2 || bits p 192 384 = 0)

/-- Exact payload length of each type; none for a type no chapter defines. RND_SAMPLES is checked apart. -/
def recLen (t : Nat) : Option Nat :=
  ([(0x0001, 8), (0x0002, 32), (0x0003, 8), (0x0004, 97), (0x0010, 16), (0x0011, 8), (0x0020, 16), (0x0030, 256),
    (0x0031, 160), (0x0040, 16), (0x0041, 24), (0x0050, 24), (0x0051, 48), (0x0060, 16), (0x0070, 24),
    (0x0071, 24), (0x0080, 8), (0x0090, 8), (0x0091, 16), (0x00A0, 48), (0x00A8, 72)].find?
      fun p => p.1 = t).map Prod.snd

/-- Check 8 for one record: type known, length exact, every field in range, reserved fields and padding 0. -/
def okRec (nv : NonVol) (f : Fuses) (r : Rec) : Bool :=
  let p := r.num
  r.padOk &&
  (if r.type = 0x0012 then
    4 ≤ r.payload.length && r.payload.length ≤ 64 && r.payload.length % 4 = 0 && okRndSamples r.payload
  else
    recLen r.type = some r.payload.length &&
    (match r.type with
    | 0x0001 => okContainer p
    | 0x0002 => okIdentity p
    | 0x0003 => okStart p
    | 0x0010 => okRndCore p
    | 0x0011 => okRndSlot p
    | 0x0020 => okPwr f.ceilingW p
    | 0x0030 => (List.range 32).all fun i => okPart (bits p (64 * i) 64)
    | 0x0031 => okContext r.payload
    | 0x0040 => okMemCore p
    | 0x0041 => okRegion p
    | 0x0050 => okFsCore p
    | 0x0051 => okFsTable p
    | 0x0060 => okLens nv.variantC p
    | 0x0070 => okFab p
    | 0x0071 => okPlan p
    | 0x0080 => okSync p
    | 0x0090 => okTile p
    | 0x00A0 => okNet p
    | 0x00A8 => okFuseReq nv.serial p
    | _ => true))

/-- Check 8: every record sound, and the required ones present. -/
def check8 (nv : NonVol) (f : Fuses) (rs : List Rec) : Bool :=
  rs.all (okRec nv f) && [0x0001, 0x0002, 0x0004, 0x0010, 0x0020, 0x0040].all fun t => (findRec rs t).isSome

/-! ### The image copy (R102) -/

/-- IMG_CONTAINER, IMG_IDENTITY and IMG_START. -/
def decodeStart (rs : List Rec) : ImgStart :=
  let c := (recNum rs 0x0001).getD 0
  let i := (recNum rs 0x0002).getD 0
  let base : ImgStart :=
    { rollbackStep := bits c 0 8, rollbackAdvance := bit c 8, keySlot := bits c 16 2, sequence := bits c 32 32
      buildId := bits i 0 128, variantMask := bits i 128 2, stepping := bits i 136 8, serialBind := bits i 192 64 }
  match recNum rs 0x0003 with
  | none => base
  | some p => { base with
      syncTimeoutS := bits p 0 16, joinTimeoutS := bits p 16 16, maxChannelsDown := bits p 32 4
      bootAttempts := bits p 36 4 }

/-- FAB_CORE. -/
def decodeFab (rs : List Rec) : ImgFab :=
  match recNum rs 0x0070 with
  | none => {}
  | some p =>
    { present := true, deviceId := bits p 0 11, masterId := bits p 16 11, domainSize := bits p 32 12
      parentPort := bits p 48 5, altParent := bits p 53 5, spineMask := bits p 64 16, portLanes := bits p 80 5
      minLanes := bits p 85 5, masterTimeoutMs := bits p 96 16, reconfLeadUs := bits p 112 8
      domainId := bits p 128 32 }

/-- The Round records; without RND_SLOT the slot angle is floor(device ID × 31.75) in ticks (R55). -/
def decodeRound (rs : List Rec) (device : Nat) : ImgRound :=
  let p := (recNum rs 0x0010).getD 0
  { source := bits p 0 2, outMode := bits p 2 2, stallTeeth := bits p 8 8, tolPct := bits p 16 8
    periodUs := bits p 32 32, lineDelay := bits p 64 16
    slotAngle := match recNum rs 0x0011 with | some q => bits q 0 16 | none => device * 127 / 4
    samples := match findRec rs 0x0012 with | some r => sampleEntries r.payload | none => [(0, 0xFF)] }

def decodePwr (p : Nat) : ImgPwr :=
  { floorW := bits p 0 16, ceilingW := bits p 16 16, slew := bits p 32 16, stepTeeth := bits p 48 8
    holdS := bits p 64 16, idleRev := bits p 80 16, baseW := bits p 96 16, warnC := bits p 112 8 }

def decodeTile (rs : List Rec) : ImgTile :=
  let base : ImgTile :=
    match recNum rs 0x0090 with
    | none => {}
    | some p => { islandMhz := bits p 0 16, switchWait := bits p 16 16, rxKib := bits p 32 8 }
  { base with rtMask := (recNum rs 0x0091).getD 0 }

def decodeSync (rs : List Rec) : ImgSync :=
  match recNum rs 0x0080 with
  | none => {}
  | some p => { supvWatches := bits p 0 8, slowMs := bits p 8 16 }

def decodeFs (rs : List Rec) : ImgFs :=
  match recNum rs 0x0050 with
  | none => {}
  | some p =>
    { areaMib := bits p 0 16, settleUs := bits p 16 16, hotPct := bits p 32 8, coldPct := bits p 40 8
      hotRevs := bits p 48 4, migratePairs := bits p 52 4, repIdleRevs := bits p 56 8, migrateRows := bits p 64 16
      replicaMib := bits p 80 16, ccReplicaKib := bits p 96 16, ccRepThresh := bits p 128 32
      devRepThresh := bits p 160 32 }

def decodeTable (p : Nat) : FsTable :=
  { id := bits p 0 8, mode := bits p 8 2, live := bit p 10, product := bit p 11, fmt := bits p 16 3
    width16 := bits p 32 12, shards := bits p 48 16, rows := bits p 64 64, devFirst := bits p 128 11
    devCount := bits p 144 12, compA := bits p 160 8, compB := bits p 168 8, writer := bits p 176 7
    headroom := bits p 184 8, seed := bits p 192 64, readers := bits p 256 128 }

def decodeMem (p : Nat) : ImgMem :=
  { rateMts := bits p 0 16, rawGib := bits p 16 4, ceRetire := bits p 24 8, ccAtomicKib := bits p 32 16
    srIdleMs := bits p 48 16, holdOut := bits p 64 64 }

def decodeRegion (p : Nat) : Region :=
  { context := bits p 0 7, index := bits p 8 4, write := bit p 12, atomicCache := bit p 13, wide := bit p 14
    size64k := bits p 32 32, ctxBase := bits p 64 48, devBase := bits p 128 48 }

def decodeLens (nv : NonVol) (rs : List Rec) : ImgLens :=
  match recNum rs 0x0060 with
  | none => { comb := nv.variantC }
  | some p =>
    { comb := bits p 0 2 = 1, calEvery := bits p 8 8, calAngle := bits p 16 16, engineMask := bits p 32 32
      darkThresh := bits p 64 8 }

def decodePlan (p : Nat) : FabPlan :=
  { index := bits p 0 4
    ports := (List.range 16).map fun n => (bits p (64 + 8 * n + 4) 2, bits p (64 + 8 * n) 4) }

/-- The 32 partition entries; without PART_PLAN the values of the When absent column. -/
def decodePartPlan (rs : List Rec) : List PartEntry :=
  (List.range 32).map fun i =>
    match recNum rs 0x0030 with
    | none => { clusterA := 2 * i, clusterB := 2 * i + 1 }
    | some p =>
      let e := bits p (64 * i) 64
      { clusterA := bits e 0 6, clusterB := bits e 8 6, rate := bits e 16 14, burstKib := bits e 32 13 }

def decodeContext (p : Nat) : CtxRec :=
  { id := bits p 0 7, partition := bits p 7 5, pcie := bit p 12, net := bit p 13, parcelMib := bits p 32 16
    key := bits p 64 776, client := bits p 896 384 }

def decodeNet (p : Nat) : NetRec :=
  { port := bits p 0 1, vlan := bits p 1 12, mtu := bits p 13 14, tcp := bits p 32 16, v4Prefix := bits p 48 6
    v6Prefix := bits p 56 8, v4Addr := bits p 64 32, v6Addr := bits p 96 128, v4Gw := bits p 224 32
    v6Gw := bits p 256 128 }

def decodeFuseReq (p : Nat) : FuseReq :=
  { kind := bits p 0 4, slot := bits p 8 2, serial := bits p 64 64, value := bits p 128 64, digest := bits p 192 384 }

/-! ### Join digest (R305) and plan fingerprint (R323) -/

/-- A record as it enters the digest: header and padded payload. -/
def recBytes (t : Nat) (payload : List Byte) : List Byte :=
  leBytes t 2 ++ [0, 0] ++ leBytes payload.length 4 ++ payload
    ++ fill (roundUp payload.length 8 - payload.length) 0

/-- `p` with the field of `w` bits from bit `lo` taken as 0. -/
def clearField (p lo w : Nat) : Nat := p - bits p lo w * 2 ^ lo

/-- FS_CORE's payload with the When-absent values. -/
def fsCoreAbsent : List Byte :=
  let d : ImgFs := {}
  leBytes d.areaMib 2 ++ leBytes d.settleUs 2 ++ leBytes d.hotPct 1 ++ leBytes d.coldPct 1
    ++ leBytes (d.hotRevs + 16 * d.migratePairs) 1 ++ leBytes d.repIdleRevs 1 ++ leBytes d.migrateRows 2
    ++ leBytes d.replicaMib 2 ++ leBytes d.ccReplicaKib 2 ++ [0, 0] ++ leBytes d.ccRepThresh 4
    ++ leBytes d.devRepThresh 4

/-- Insert a record by its first field, of `w` bits. -/
def insertBy (w : Nat) (r : Rec) : List Rec → List Rec
  | [] => [r]
  | a :: l => if bits r.num 0 w < bits a.num 0 w then r :: a :: l else a :: insertBy w r l

/-- Records of a type in ascending order of their first field. -/
def sortedRecs (rs : List Rec) (t w : Nat) : List Rec :=
  (rs.filter fun r => r.type = t).foldl (fun acc r => insertBy w r acc) []

/-- The byte string of R305. -/
def digestBytes (supvRelease : Nat) (rs : List Rec) : List Byte :=
  let ctxs := (sortedRecs rs 0x0031 7).flatMap fun r => recBytes r.type r.payload
  let tables := (sortedRecs rs 0x0051 8).flatMap fun r => recBytes r.type r.payload
  let rnd := match findRec rs 0x0010 with
    | some r => recBytes 0x0010 (leBytes (clearField (clearField r.num 0 4) 64 16) 16)
    | none => []
  let fs := match findRec rs 0x0050 with
    | some r => recBytes 0x0050 r.payload
    | none => recBytes 0x0050 fsCoreAbsent
  let fab := match findRec rs 0x0070 with
    | some r =>
      recBytes 0x0070
        (leBytes (clearField (clearField (clearField (clearField r.num 0 11) 48 10) 64 16) 80 10) 24)
    | none => []
  [0xB0#8] ++ leBytes supvRelease 4 ++ rnd ++ ctxs ++ fs ++ tables ++ fab

/-- The join digest as a number, first byte least significant. -/
def joinDigest (supvRelease : Nat) (rs : List Rec) : Nat := leNat (sha384 (digestBytes supvRelease rs))

/-- The plan fingerprint. -/
def planFingerprint (plan : List PartEntry) (ctxs : List CtxRec) : Nat :=
  let a := plan.flatMap fun e => [BitVec.ofNat 8 e.clusterA, BitVec.ofNat 8 e.clusterB]
  let b := (List.range 128).map fun c =>
    match ctxs.find? fun x => x.id = c with
    | some x => BitVec.ofNat 8 x.partition
    | none => 0xFF#8
  leNat ((sha384 (a ++ b)).take 8)

/-- The image copy made of the records of an image. -/
def decodeImage (nv : NonVol) (rs : List Rec) : Image :=
  let fab := decodeFab rs
  { start := decodeStart rs
    round := decodeRound rs fab.deviceId
    pwr := decodePwr ((recNum rs 0x0020).getD 0)
    tile := decodeTile rs
    sync := decodeSync rs
    fs := decodeFs rs
    tables := (sortedRecs rs 0x0051 8).map fun r => decodeTable r.num
    mem := decodeMem ((recNum rs 0x0040).getD 0)
    regions := (recNums rs 0x0041).map decodeRegion
    lens := decodeLens nv rs
    fab := fab
    plans := (recNums rs 0x0071).map decodePlan
    partPlan := decodePartPlan rs
    contexts := (sortedRecs rs 0x0031 7).map fun r => decodeContext r.num
    nets := (recNums rs 0x00A0).map decodeNet
    fuseReqs := (recNums rs 0x00A8).map decodeFuseReq
    digest := joinDigest nv.supvRelease rs }

/-! ### What the image lays out -/

def mib : Nat := 1048576

/-- Data region of a channel in bytes: 15/16 of its raw capacity (Table 10.1). -/
def Image.dataBytes (i : Image) : Nat := i.mem.rawGib * 960 * mib

/-- G: general memory of a channel (R241). -/
def Image.general (i : Image) : Nat := i.dataBytes - i.fs.areaMib * mib

/-- D: the top of general device space (R245). -/
def Image.deviceTop (i : Image) : Nat := 64 * i.general

/-- Is this part its domain's master? A domain of one is its own. -/
def Image.master (i : Image) : Bool := !i.fab.present || i.fab.deviceId = i.fab.masterId

/-- Home rows of one shard: H of R213. -/
def FsTable.homeRows (t : FsTable) : Nat := ceilDiv t.rows (t.shards * t.devCount)

/-- Cells of one shard. -/
def FsTable.cells (t : FsTable) : Nat := ceilDiv (t.homeRows * (100 + t.headroom)) 100

/-- Row bytes of a table. -/
def FsTable.rowBytes (t : FsTable) : Nat := t.width16 * 16 * fmtBytes t.fmt

/-- A slot: the row bytes rounded up to a multiple of 32. -/
def FsTable.slotBytes (t : FsTable) : Nat := roundUp t.rowBytes 32

/-- A cell: one slot, two in a live table. -/
def FsTable.cellBytes (t : FsTable) : Nat := if t.live then 2 * t.slotBytes else t.slotBytes

/-- Bytes of one shard (R213). -/
def FsTable.shardBytes (t : FsTable) : Nat := 8 * t.homeRows + t.cells * t.cellBytes

/-- Does part `d` hold shards of the table? -/
def FsTable.holds (t : FsTable) (d : Nat) : Bool := t.mode ≠ 2 && t.devFirst ≤ d && d < t.devFirst + t.devCount

def Image.table (i : Image) (id : Nat) : Option FsTable := i.tables.find? fun t => t.id = id

/-- Tables with shards on this part, in ascending table ID. -/
def Image.ownTables (i : Image) : List FsTable := i.tables.filter fun t => t.holds i.fab.deviceId

/-- Context areas in ascending context order downward from D (R325): context, base, bytes. -/
def areasFrom : Nat → List CtxRec → List (Nat × Nat × Nat)
  | _, [] => []
  | top, c :: r => (c.id, top - c.parcelMib * mib, c.parcelMib * mib) :: areasFrom (top - c.parcelMib * mib) r

def Image.areas (i : Image) : List (Nat × Nat × Nat) := areasFrom i.deviceTop i.contexts

def Region.bytes (r : Region) : Nat := r.size64k * 65536

/-- Do two ranges overlap? -/
def overlap (a n b m : Nat) : Bool := a < b + m && b < a + n

/-- A relation that holds of every two elements at different places. -/
def allPairs {α : Type} (p : α → α → Bool) : List α → Bool
  | [] => true
  | a :: r => r.all (p a) && allPairs p r

/-! ### Check 9: rules across records -/

/-- R33, R316, R299, R304. -/
def crossFabric (i : Image) : Bool :=
  let f := i.fab
  let spine := fun n => bit f.spineMask n || n = f.parentPort || n = f.altParent
  (i.round.source ≠ 0 || i.master) && (i.round.source ≠ 2 || !i.master) && (f.present || i.plans.isEmpty)
    && (!f.present ||
      (f.deviceId < f.domainSize && f.masterId < f.domainSize && ((f.parentPort = 16) == i.master)))
    && allPairs (fun (a b : FabPlan) => a.index ≠ b.index) i.plans
    && i.plans.all fun p =>
      (List.range 16).all fun n =>
        let e := p.ports.getD n (0, 0)
        let q := p.ports.getD e.2 (0, 0)
        (e.1 = 0 || !spine n) && (e.1 ≠ 1 || (!spine e.2 && e.2 ≠ n && q.1 = 1 && q.2 = n))

/-- R322, R323, R326. -/
def crossParts (f : Fuses) (i : Image) : Bool :=
  let cs := i.partPlan.flatMap fun e => [e.clusterA, e.clusterB]
  cs.dedup.length = 64 && i.partPlan.all (fun e => e.clusterA / 16 = e.clusterB / 16)
    && allPairs (fun (a b : CtxRec) => a.id ≠ b.id) i.contexts
    && allPairs (fun (a b : NetRec) => a.port ≠ b.port) i.nets
    && (f.planLock = 0 || planFingerprint i.partPlan i.contexts = f.planLock)

/-- R257, R261, R325. -/
def crossMemory (i : Image) : Bool :=
  i.fs.areaMib * mib ≤ i.dataBytes && i.fs.ccReplicaKib + i.mem.ccAtomicKib ≤ 4096
    && popCount i.mem.holdOut 64 ≤ i.start.maxChannelsDown
    && i.regions.all (fun r => r.devBase + r.bytes ≤ i.deviceTop)
    && allPairs (fun (a b : Region) =>
        (a.context ≠ b.context || (a.index ≠ b.index && !overlap a.ctxBase a.bytes b.ctxBase b.bytes))
          && (!overlap a.devBase a.bytes b.devBase b.bytes || (a.atomicCache = b.atomicCache && a.wide = b.wide)))
      i.regions
    && (i.contexts.map fun c => c.parcelMib * mib).sum ≤ i.deviceTop
    && i.regions.all fun r => i.areas.all fun a => !overlap r.devBase r.bytes a.2.1 a.2.2

/-- Bytes a channel must hold for the feature store: its share of the replica area and its shards. Without an area
there is no replica area (DEDUCED, assumption log, entry 7). -/
def Image.channelNeeds (i : Image) : Nat :=
  (if i.fs.areaMib = 0 then 0 else i.fs.replicaMib * mib / 64)
    + (i.ownTables.map fun t => t.shards / 64 * t.shardBytes).sum

/-- R213. -/
def crossTables (i : Image) : Bool :=
  allPairs (fun (a b : FsTable) => a.id ≠ b.id) i.tables && (i.tables.isEmpty || i.fs.areaMib ≠ 0)
    && i.tables.all (fun t =>
      t.devFirst + t.devCount ≤ 2048 &&
      (t.mode ≠ 2 ||
        match i.table t.compA, i.table t.compB with
        | some a, some b =>
          a.mode ≠ 2 && b.mode ≠ 2 && a.fmt = t.fmt && b.fmt = t.fmt && a.width16 = t.width16
            && b.width16 = t.width16 && t.rows ≤ a.rows * b.rows
        | _, _ => false))
    && (i.ownTables.map FsTable.shards).sum ≤ 4096 && i.channelNeeds ≤ i.fs.areaMib * mib

/-! ### Fuse requests (R361 to R364) -/

/-- Records with their completion mark set, of a kind, the factory record apart. -/
def Fuses.changes (f : Fuses) (kind : Nat) : Nat :=
  (f.log.filter fun r => r.complete && !r.factory && r.kind = kind).length

/-- Is the request already in effect? -/
def Fuses.inEffect (f : Fuses) (r : FuseReq) : Bool :=
  let k := f.keys.getD r.slot {}
  match r.kind with
  | 1 => f.ceilingW = r.value
  | 2 => k.programmed && k.digest = r.digest
  | 3 => k.revoked
  | _ => f.planLock = r.value

/-- The setting after a change; none moves back (R359). -/
def Fuses.apply (f : Fuses) (r : FuseReq) : Fuses :=
  let k := f.keys.getD r.slot {}
  match r.kind with
  | 1 => { f with ceilingW := max f.ceilingW r.value }
  | 2 => { f with keys := listSet f.keys r.slot (if k.programmed then k else { k with programmed := true, digest := r.digest }) }
  | 3 => { f with keys := listSet f.keys r.slot { k with revoked := true } }
  | _ => { f with planLock := r.value }

/-- ID_FL_OLD: the value before the change; for a key the first 8 bytes of the digest its slot held, or 0 (Table 14.9). -/
def Fuses.oldOf (f : Fuses) (r : FuseReq) : Nat :=
  match r.kind with
  | 1 => f.ceilingW
  | 4 => f.planLock
  | _ => if (f.keys.getD r.slot {}).programmed then (f.keys.getD r.slot {}).digest % 2 ^ 64 else 0

/-- ID_FL_NEW: the new value; the first 8 bytes of a programmed digest, 1 for a revocation (Table 14.9). -/
def FuseReq.newOf (r : FuseReq) : Nat := if r.kind = 2 then r.digest % 2 ^ 64 else if r.kind = 3 then 1 else r.value

/-- May the change be made (R362)? `fp` is the image's fingerprint, `keySlot` IMG_KEY_SLOT. -/
def Fuses.permits (f : Fuses) (serial fp keySlot : Nat) (r : FuseReq) : Bool :=
  let k := f.keys.getD r.slot {}
  let others := (List.range 4).any fun j =>
    j ≠ r.slot && (f.keys.getD j {}).programmed && !(f.keys.getD j {}).revoked
  r.serial = serial &&
  match r.kind with
  | 1 => f.ceilingW < r.value && r.value % 25 = 0 && r.value ≤ 900 && f.changes 1 < 8
  | 2 => !k.programmed && !k.revoked
  | 3 => k.programmed && r.slot ≠ keySlot && others
  | _ => (r.value = fp || r.value = 0) && f.changes 4 < 4

/-- Judge the requests in record order, each against the state the earlier ones leave; answer those not skipped. -/
def judgeReqs (serial fp keySlot : Nat) : Fuses → List FuseReq → Option (List FuseReq)
  | _, [] => some []
  | f, r :: l =>
    if f.inEffect r then (if r.serial = serial then judgeReqs serial fp keySlot f l else none)
    else if f.permits serial fp keySlot r then
      (judgeReqs serial fp keySlot
        { f.apply r with log := f.log ++ [{ kind := r.kind, complete := true }] } l).map fun q => r :: q
    else none

/-- Does the image advance anti-rollback on READY (R96)? -/
def Image.advances (i : Image) (f : Fuses) : Bool := i.start.rollbackAdvance && f.rollback < i.start.rollbackStep

/-- R361, R362: the number and kinds of requests, each one's admissibility, and room in the fuse log. -/
def crossFuses (nv : NonVol) (f : Fuses) (i : Image) : Bool :=
  let adv := i.advances f
  let f' := if adv then { f with rollback := i.start.rollbackStep } else f
  i.fuseReqs.length ≤ 8 && (i.fuseReqs.filter fun r => r.kind = 1).length ≤ 1
    && (i.fuseReqs.filter fun r => r.kind = 4).length ≤ 1
    && match judgeReqs nv.serial (planFingerprint i.partPlan i.contexts) i.start.keySlot f' i.fuseReqs with
      | none => false
      | some l => f.log.length + flag adv + l.length ≤ 128

/-- Check 9. -/
def check9 (nv : NonVol) (f : Fuses) (i : Image) : Bool :=
  crossFabric i && crossParts f i && crossMemory i && crossTables i && crossFuses nv f i

/-! ### Checks 1 to 9 (Table 4.5) -/

/-- What the checks of an image give: the first check that failed (0 none) and the image copy. -/
structure ImgCheck where
  failed : Nat := 1
  seq : Nat := 0
  image : Image := {}
deriving DecidableEq, Repr

/-- Result code of a failing check; 1 for an accepted image. -/
def ImgCheck.code (c : ImgCheck) : Nat :=
  match c.failed with
  | 0 => 1
  | 1 => 8
  | 4 => 3
  | 5 => 4
  | 6 => 5
  | 7 => 6
  | _ => 2

/-- The fault a failing check raises for a slot. -/
def ImgCheck.fault (c : ImgCheck) : Option Nat :=
  match c.failed with
  | 0 => none
  | 1 => none
  | 4 => some 0x3004
  | 5 => some 0x3001
  | 6 => some 0x3002
  | 7 => some 0x3005
  | _ => some 0x3003

/-- Check 1 on a preamble: IMG_MAGIC and IMG_FORMAT. -/
def magicOk (pre : List Byte) : Bool := numAt pre 0 4 = 0x49344B59 && numAt pre 4 2 = 1

/-- Preamble lengths and reserved field (R92). -/
def preambleOk (pre : List Byte) : Bool :=
  let total := numAt pre 8 4
  let signed := numAt pre 12 4
  numAt pre 6 2 = 0 && total = signed + 104 && total ≤ 16777216 && signed % 8 = 0 && 16 ≤ signed

/-- The records of a whole image (check 2). -/
def imageRecs (bs : List Byte) : Option (List Rec) :=
  let signed := numAt bs 12 4
  if !preambleOk bs || bs.length < signed + 104 then none
  else if numAt bs signed 2 ≠ 0x000F || numAt bs (signed + 2) 2 ≠ 0 || numAt bs (signed + 4) 4 ≠ 96 then none
  else
    match walkRecs (signed / 8) (sub bs 16 (signed - 16)) with
    | none => none
    | some rs =>
      if orderOk rs && (rs.isEmpty || (rs.map Rec.type).head? = some 0x0001) then some rs else none

/-- Check 4: the key slot of R95. -/
def keyOk (f : Fuses) (slot : Nat) (key : List Byte) : Bool :=
  let k := f.keys.getD slot {}
  k.programmed && !k.revoked && k.digest = leNat (sha384 key)

/-- Check 7: IMG_IDENTITY's target. -/
def targetOk (nv : NonVol) (rs : List Rec) : Bool :=
  match findRec rs 0x0002 with
  | none => true
  | some r =>
    let p := r.num
    r.payload.length ≠ 32 ||
      (bit p (if nv.variantC then 129 else 128) && (bits p 136 8 = 0 || bits p 136 8 = 0xB0)
        && (bits p 192 64 = 0 || bits p 192 64 = nv.serial))

/-- Checks 1 to 9 in order, stopping at the first that fails; `readErr` is the check during which the flash gave a read
error, 0 for none (R97), plus 16 where IMG_CONTAINER could not be read, which fails check 3 (R101). -/
def checkImage (nv : NonVol) (f : Fuses) (readErr : Nat) (bs : List Byte) : ImgCheck :=
  let err := readErr % 16
  if err = 1 || !magicOk bs then { failed := 1 }
  else
    match imageRecs bs with
    | none => { failed := 2 }
    | some rs =>
      if err = 2 then { failed := 2 }
      else
        match findRec rs 0x0001, findRec rs 0x0004 with
        | some c, some k =>
          let seq := bits c.num 32 32
          let signed := numAt bs 12 4
          if err = 3 || 16 ≤ readErr || c.payload.length ≠ 8 || !pointValid k.payload then
            { failed := 3, seq := seq }
          else if err = 4 || !keyOk f (bits c.num 16 2) k.payload then { failed := 4, seq := seq }
          else if err = 5 || !signedBy k.payload (bs.take signed) (sub bs (signed + 8) 96) then
            { failed := 5, seq := seq }
          else if err = 6 || bits c.num 0 8 < f.rollback then { failed := 6, seq := seq }
          else if err = 7 || !targetOk nv rs then { failed := 7, seq := seq }
          else if err = 8 || !check8 nv f rs then { failed := 8, seq := seq }
          else
            let i := decodeImage nv rs
            if err = 9 || !check9 nv f i then { failed := 9, seq := seq, image := i }
            else { failed := 0, seq := seq, image := i }
        | _, _ => { failed := 3 }

end Sys2Proof.Machine
end

