-- ==== Sys2Proof/Machine/Flash.lean ====
section
/-! DEFINITION. The flash device's log area (R91): entries, scanning, appending. -/

namespace Sys2Proof.Machine

/-- First address of the log area (Table 4.3). -/
def logBase : Nat := 0x2000000

/-- First address of an image slot. -/
def slotBase (slot : Nat) : Nat := slot * 0x1000000

/-- `n` bytes of flash from `a`; a byte not listed reads 0xFF. -/
def NonVol.flashRead (nv : NonVol) (a n : Nat) : List Byte := readBytes 0xFF#8 nv.flash a n

/-- Program bytes. -/
def State.flashWrite (a : Nat) (bs : List Byte) (s : State) : State :=
  { s with nv := { s.nv with flash := writeBytes 0xFF#8 s.nv.flash a bs } }

/-- Entry `i` of the log area. -/
def NonVol.logEntry (nv : NonVol) (i : Nat) : List Byte := nv.flashRead (logBase + 32 * i) 32

/-- Bytes 0 to 27 of an entry as its CRC covers them: byte 9 of a boot attempt taken as 0xFF (R100). -/
def crcView (e : List Byte) : List Byte :=
  if numAt e 0 1 = 3 then e.take 9 ++ [0xFF#8] ++ sub e 10 18 else e.take 28

/-- Does the entry's CRC match? -/
def entryValid (e : List Byte) : Bool := crc32 (crcView e) = numAt e 28 4

/-- Place of the last listed flash byte in the log area, as a count of entries that may be used. -/
def NonVol.logUsed (nv : NonVol) : Nat :=
  (nv.flash.foldl (fun acc c => if logBase ≤ c.1 then max acc ((c.1 - logBase) / 32 + 1) else acc) 0)

/-- Is entry `i` free: readable, and its first byte 0xFF? -/
def logFree (nv : NonVol) (bad : List Nat) (i : Nat) : Bool :=
  !bad.contains i && cellGet 0xFF#8 nv.flash (logBase + 32 * i) = 0xFF#8

/-- First free entry among `n` from entry `i`. -/
def firstFree (nv : NonVol) (bad : List Nat) : Nat → Nat → Option Nat
  | 0, _ => none
  | n + 1, i => if logFree nv bad i then some i else firstFree nv bad n (i + 1)

/-- Used and readable entries whose CRC matches, oldest first, with their places. -/
def validEntries (nv : NonVol) (bad : List Nat) : List (Nat × List Byte) :=
  ((List.range (min nv.logUsed nv.logRoom)).filter fun i => !bad.contains i && !logFree nv bad i).filterMap fun i =>
    if entryValid (nv.logEntry i) then some (i, nv.logEntry i) else none

/-- The sequence number the next entry carries. -/
def State.nextLogSeq (s : State) : Nat :=
  (validEntries s.nv s.start.logBad).foldl (fun acc e => max acc (numAt e.2 4 4)) 0 + 1

/-- Raise 0x300D and set IMG_ST_LOG_FULL, once per start. -/
def raiseLogFull (s : State) : State :=
  if s.start.logFullRaised then s
  else raise0 0x300D { s with start := { s.start with logFullRaised := true, stLogFull := true } }

/-- The 32 bytes of an entry: frame, 20 bytes of payload, CRC. -/
def logBytes (kind seq : Nat) (payload : List Byte) : List Byte :=
  let b := [BitVec.ofNat 8 kind, 0, 0, 0] ++ leBytes seq 4 ++ payload
  b ++ leBytes (crc32 (crcView b)) 4

/-- Append an entry to the first free one, and answer its place; a full log writes nothing (R91). -/
def appendLog (kind : Nat) (payload : List Byte) (s : State) : Option Nat × State :=
  match firstFree s.nv s.start.logBad s.nv.logRoom 0 with
  | none => (none, raiseLogFull s)
  | some i => (some i, s.flashWrite (logBase + 32 * i) (logBytes kind s.nextLogSeq payload))

end Sys2Proof.Machine
end

