-- ==== Sys2Proof/Machine/Fuse.lean ====
section
/-! DEFINITION. The steps of a fuse change on the entry to READY (R96, R361 to R365), and what a thermal trip does to them (R370). -/

namespace Sys2Proof.Machine

/-- The anti-rollback advance as a change of kind 5. -/
def Image.rollbackReq (i : Image) : FuseReq := { kind := 5, value := i.start.rollbackStep }

/-- May a change be begun, as check 9 judged it (R362)? The advance only ever raises anti-rollback (R96). -/
def State.mayChange (s : State) (r : FuseReq) : Bool :=
  let f := s.nv.fuses
  if r.kind = 5 then f.rollback < r.value
  else !f.inEffect r
    && f.permits s.nv.serial (planFingerprint s.im.partPlan s.im.contexts) s.im.start.keySlot r

/-- The setting after a change; none moves back (R359). -/
def Fuses.change (f : Fuses) (r : FuseReq) : Fuses :=
  if r.kind = 5 then { f with rollback := max f.rollback r.value } else f.apply r

/-- ID_FL_OLD of a change. -/
def Fuses.wasOf (f : Fuses) (r : FuseReq) : Nat := if r.kind = 5 then f.rollback else f.oldOf r

def State.setEntry (e : ReadyWork) (s : State) : State := { s with start := { s.start with entry := e } }

/-- Step 1 of R363: a fuse-log record without its completion mark. -/
def beginChange (r : FuseReq) (s : State) : State :=
  let f := s.nv.fuses
  let slot := if r.kind = 2 || r.kind = 3 then r.slot else 0
  let x : FuseRec := { kind := r.kind, slot := slot, complete := false, imgSeq := s.im.start.sequence, old := f.wasOf r
                       new := r.newOf, bootSeq := s.start.bootSeq }
  { s with nv := { s.nv with fuses := { f with log := f.log ++ [x] } } }

/-- Step 2: the setting. -/
def setFuse (r : FuseReq) (s : State) : State := { s with nv := { s.nv with fuses := s.nv.fuses.change r } }

/-- The completion mark of the record written last. -/
def Fuses.marked (f : Fuses) : Fuses :=
  { f with log := f.log.dropLast ++ f.log.getLast?.toList.map fun x => { x with complete := true } }

/-- Steps 3 to 5: the completion mark, the event-log entry and the flash mirror (R363, R365). -/
def endChange (r : FuseReq) (s : State) : State :=
  let index := s.nv.fuses.log.length - 1
  let slot := if r.kind = 2 || r.kind = 3 then r.slot else 0
  let s := logFuse index { s with nv := { s.nv with fuses := s.nv.fuses.marked } }
  (appendLog 2 ([BitVec.ofNat 8 index, BitVec.ofNat 8 r.kind, BitVec.ofNat 8 slot, 0] ++ leBytes r.newOf 8
    ++ leBytes s.im.start.sequence 4 ++ leBytes s.start.bootSeq 4) s).2

/-- A trip during the entry to READY: no further change starts, one that has its record completes (R370). -/
def stopEntry (s : State) : State :=
  let e := s.start.entry
  match e.cur with
  | some (r, 2) => (endChange r (setFuse r s)).setEntry { e with cur := none, todo := [] }
  | some (r, _) => (endChange r s).setEntry { e with cur := none, todo := [] }
  | none => s.setEntry { e with todo := [] }

end Sys2Proof.Machine
end

