-- ==== Sys2Proof/Machine/Flags.lean ====
section
/-! DEFINITION. The number formats of the part (R187 to R201): values, rounding, the sticky stream flags, and the
arithmetic every engine uses. A result is a value with the flags it sets, as the flag word of Table 8.4. -/

namespace Sys2Proof.Machine

/-! ### Flag word (Table 8.4) -/

def nfInvalid : Nat := 1
def nfOverflow : Nat := 2
def nfSaturated : Nat := 4
def nfUnderflow : Nat := 8
def nfNanSeen : Nat := 16
def nfLensOvr : Nat := 32
def nfLensShadow : Nat := 64

/-- `w` where the condition holds, no flag otherwise. -/
def flagIf (c : Bool) (w : Nat) : Nat := if c then w else 0

/-! ### Values -/

/-- A floating-point value: NaN, an infinity, or ± m × 2^e (zero keeps its sign). -/
inductive FVal where
  | nan
  | inf (neg : Bool)
  | fin (neg : Bool) (m : Nat) (e : Int)
deriving DecidableEq, Repr

/-- An element in the pipeline: floating point, or an integer of INT8 or INT32. -/
inductive Num where
  | f (v : FVal)
  | i (n : Int)
deriving DecidableEq, Repr

def FVal.zero : FVal := .fin false 0 0

def FVal.isNan (v : FVal) : Bool :=
  match v with
  | .nan => true
  | .inf _ | .fin _ _ _ => false

def FVal.isZero (v : FVal) : Bool :=
  match v with
  | .fin _ m _ => m = 0
  | .nan | .inf _ => false

def FVal.isInf (v : FVal) : Bool :=
  match v with
  | .inf _ => true
  | .nan | .fin _ _ _ => false

/-- The sign bit; a NaN has none. -/
def FVal.isNeg (v : FVal) : Bool :=
  match v with
  | .nan => false
  | .inf n => n
  | .fin n _ _ => n

def Num.isNan (x : Num) : Bool :=
  match x with
  | .f v => v.isNan
  | .i _ => false

/-- Magnitude of a value. -/
def FVal.mag (v : FVal) : FVal :=
  match v with
  | .nan => .nan
  | .inf _ => .inf false
  | .fin _ m e => .fin false m e

/-- Opposite sign. -/
def FVal.flip (v : FVal) : FVal :=
  match v with
  | .nan => .nan
  | .inf n => .inf !n
  | .fin n m e => .fin (!n) m e

/-! ### Formats (Table 8.1, codes of Table 5.3) -/

/-- A floating-point format: exponent and mantissa bits, bias, largest finite value as mantissa and exponent, whether
it has an infinity, and its canonical NaN. -/
structure Fmt where
  ebits : Nat
  mbits : Nat
  bias : Nat
  maxM : Nat
  maxE : Int
  hasInf : Bool
  nanBits : Nat
deriving DecidableEq, Repr

def fp32 : Fmt := ⟨8, 23, 127, 2 ^ 24 - 1, 104, true, 0x7FC00000⟩
def fp16 : Fmt := ⟨5, 10, 15, 2 ^ 11 - 1, 5, true, 0x7E00⟩
def bf16 : Fmt := ⟨8, 7, 127, 2 ^ 8 - 1, 120, true, 0x7FC0⟩
def e4m3 : Fmt := ⟨4, 3, 7, 14, 5, false, 0x7F⟩
def e5m2 : Fmt := ⟨5, 2, 15, 7, 13, true, 0x7E⟩

/-- Codes 0 to 4 of Table 5.3. -/
def fmtOf (code : Nat) : Fmt :=
  if code = 1 then fp16 else if code = 2 then bf16 else if code = 3 then e4m3 else if code = 4 then e5m2 else fp32

/-- Is the format code a floating-point one (Table 5.3)? -/
def isFloat (code : Nat) : Bool := code < 5

/-- Exponent of the last place of the subnormals and of the least normal binade. -/
def Fmt.lastPlace (f : Fmt) : Int := 1 - (f.bias : Int) - f.mbits

/-! ### Exact comparisons and rounding (R190) -/

/-- a × 2^x ≤ b × 2^y for non-negative a and b. -/
def scaledLe (a : Nat) (x : Int) (b : Nat) (y : Int) : Bool :=
  if x ≤ y then a ≤ b * 2 ^ (y - x).toNat else a * 2 ^ (x - y).toNat ≤ b

/-- Quotient rounded to the nearest integer, ties to even. -/
def divRne (a b : Nat) : Nat :=
  let q := a / b
  let r := a % b
  if 2 * r < b then q else if b < 2 * r then q + 1 else if q % 2 = 0 then q else q + 1

/-- (num / den) × 2^(-q) as a fraction. -/
def scaleDown (num den : Nat) (q : Int) : Nat × Nat :=
  if 0 ≤ q then (num, den * 2 ^ q.toNat) else (num * 2 ^ (-q).toNat, den)

/-- Floor of the base-2 logarithm of num / den, both positive. -/
def floorLog (num den : Nat) : Int :=
  let g : Int := (Nat.log2 num : Int) - Nat.log2 den
  if scaledLe den g num 0 then g else g - 1

/-- A result of the rounding step. -/
abbrev Rounded := FVal × Nat

/-- What a finite value beyond the range of a format becomes (Table 8.3). -/
def Fmt.beyond (f : Fmt) (neg : Bool) : Rounded :=
  if f.mbits ≤ 3 then (.fin neg f.maxM f.maxE, nfSaturated) else (.inf neg, nfOverflow)

/-- Round ± num/den × 2^e to a format under R190: first with an unbounded exponent, then tested for overflow and for
being tiny. -/
def Fmt.round (f : Fmt) (neg : Bool) (num den : Nat) (e : Int) : Rounded :=
  if num = 0 then (.fin neg 0 0, 0)
  else
    let q := floorLog num den + e - f.mbits
    let s := scaleDown num den (q - e)
    let n := divRne s.1 s.2
    if !scaledLe n q f.maxM f.maxE then f.beyond neg
    else if !scaledLe (2 ^ f.mbits) f.lastPlace n q then
      let u := scaleDown num den (f.lastPlace - e)
      (.fin neg (divRne u.1 u.2) f.lastPlace, flagIf (u.1 % u.2 ≠ 0) nfUnderflow)
    else (.fin neg n q, 0)

/-- Convert a value to a floating-point format (Table 8.3). -/
def Fmt.convert (f : Fmt) (v : FVal) : Rounded :=
  match v with
  | .nan => (.nan, 0)
  | .inf n => if f.hasInf then (.inf n, 0) else (.fin n f.maxM f.maxE, nfSaturated)
  | .fin n m e => f.round n m 1 e

/-! ### Arithmetic in FP32: each operation rounds once -/

/-- Sum of two values before rounding; the sum of +0 and -0 is +0 (R200). -/
def exactAdd (a b : FVal) : Rounded :=
  match a, b with
  | .nan, _ => (.nan, 0)
  | _, .nan => (.nan, 0)
  | .inf x, .inf y => if x = y then (.inf x, 0) else (.nan, nfInvalid)
  | .inf x, .fin _ _ _ => (.inf x, 0)
  | .fin _ _ _, .inf y => (.inf y, 0)
  | .fin na ma ea, .fin nb mb eb =>
    let e := min ea eb
    let x : Int := (ma * 2 ^ (ea - e).toNat : Nat)
    let y : Int := (mb * 2 ^ (eb - e).toNat : Nat)
    let z := (if na then -x else x) + (if nb then -y else y)
    if z = 0 then (.fin (na && nb) 0 0, 0) else (.fin (z < 0) z.natAbs e, 0)

/-- Product before rounding; the sign of a zero product is the exclusive-or of the signs (R200). -/
def exactMul (a b : FVal) : Rounded :=
  match a, b with
  | .nan, _ => (.nan, 0)
  | _, .nan => (.nan, 0)
  | .inf x, .inf y => (.inf (x != y), 0)
  | .inf x, .fin y m _ => if m = 0 then (.nan, nfInvalid) else (.inf (x != y), 0)
  | .fin x m _, .inf y => if m = 0 then (.nan, nfInvalid) else (.inf (x != y), 0)
  | .fin na ma ea, .fin nb mb eb => (.fin (na != nb) (ma * mb) (ea + eb), 0)

/-- Round an exact result to FP32, keeping its flags. -/
def roundFp32 (r : Rounded) : Rounded :=
  let q := fp32.convert r.1
  (q.1, r.2 ||| q.2)

/-- One rounded FP32 addition. -/
def fadd (a b : FVal) : Rounded := roundFp32 (exactAdd a b)

/-- One rounded FP32 product. -/
def fmul (a b : FVal) : Rounded := roundFp32 (exactMul a b)

/-- One rounded FP32 quotient of finite a by finite non-zero b; other cases as IEEE 754 gives them. -/
def fdiv (a b : FVal) : Rounded :=
  match a, b with
  | .nan, _ => (.nan, 0)
  | _, .nan => (.nan, 0)
  | .inf _, .inf _ => (.nan, nfInvalid)
  | .inf x, .fin y _ _ => (.inf (x != y), 0)
  | .fin x _ _, .inf y => (.fin (x != y) 0 0, 0)
  | .fin x ma ea, .fin y mb eb =>
    if mb = 0 then (if ma = 0 then (.nan, nfInvalid) else (.inf (x != y), nfOverflow))
    else fp32.round (x != y) ma mb (ea - eb)

/-- Integer square root, by `k` binary digits from the top. -/
def isqrtFrom (n : Nat) : Nat → Nat → Nat
  | 0, r => r
  | k + 1, r =>
    let c := r + 2 ^ k
    isqrtFrom n k (if c * c ≤ n then c else r)

def isqrt (n : Nat) : Nat := isqrtFrom n (Nat.log2 n / 2 + 1) 0

/-- One rounded FP32 square root of a non-negative value. -/
def fsqrt (a : FVal) : Rounded :=
  match a with
  | .nan => (.nan, 0)
  | .inf n => if n then (.nan, nfInvalid) else (.inf false, 0)
  | .fin n m e =>
    if m = 0 then (.fin n 0 0, 0)
    else if n then (.nan, nfInvalid)
    else
      let e' := if e % 2 = 0 then e - 64 else e - 65
      let x := m * 2 ^ (e - e').toNat
      let r := isqrt x
      fp32.round false (if r * r = x then 2 * r else 2 * r + 1) 1 (e' / 2 - 1)

/-- An integer as an exact value. -/
def FVal.ofInt (n : Int) : FVal := .fin (n < 0) n.natAbs 0

/-- Round a value to an integer (R190) and saturate it to [lo, hi] (Table 8.3). -/
def toIntSat (lo hi : Int) (v : FVal) : Int × Nat :=
  match v with
  | .nan => (0, nfInvalid)
  | .inf n => (if n then lo else hi, nfSaturated)
  | .fin n m e =>
    let s := scaleDown m 1 (-e)
    let k : Int := divRne s.1 s.2
    let z := if n then -k else k
    if hi < z then (hi, nfSaturated) else if z < lo then (lo, nfSaturated) else (z, 0)

def int32Min : Int := -2147483648
def int32Max : Int := 2147483647

/-- One saturating INT32 addition (R194). -/
def iadd (a b : Int) : Int × Nat :=
  let z := a + b
  if int32Max < z then (int32Max, nfSaturated) else if z < int32Min then (int32Min, nfSaturated) else (z, 0)

/-- A value below another; NaN is below nothing. -/
def FVal.lt (a b : FVal) : Bool :=
  match a, b with
  | .nan, _ => false
  | _, .nan => false
  | .inf x, .inf y => x && !y
  | .inf x, .fin _ _ _ => x
  | .fin _ _ _, .inf y => !y
  | .fin na ma ea, .fin nb mb eb =>
    if ma = 0 && mb = 0 then false
    else if ma = 0 then !nb
    else if mb = 0 then na
    else if na && !nb then true
    else if !na && nb then false
    else if na then !scaledLe ma ea mb eb
    else !scaledLe mb eb ma ea

/-! ### Bit patterns (R187, R188) -/

/-- The value of a floating-point bit pattern. -/
def Fmt.decode (f : Fmt) (n : Nat) : FVal :=
  let neg := bit n (f.ebits + f.mbits)
  let ex := bits n f.mbits f.ebits
  let m := bits n 0 f.mbits
  if ex = 2 ^ f.ebits - 1 && f.hasInf then (if m = 0 then .inf neg else .nan)
  else if ex = 2 ^ f.ebits - 1 && m = 2 ^ f.mbits - 1 then .nan
  else if ex = 0 then .fin neg m f.lastPlace
  else .fin neg (m + 2 ^ f.mbits) (f.lastPlace + ex - 1)

/-- The bit pattern of a value that the format holds exactly; every NaN is the canonical one (R199). -/
def Fmt.encode (f : Fmt) (v : FVal) : Nat :=
  let sgn := fun (n : Bool) => if n then 2 ^ (f.ebits + f.mbits) else 0
  match v with
  | .nan => f.nanBits
  | .inf n => sgn n + (2 ^ f.ebits - 1) * 2 ^ f.mbits
  | .fin n m e =>
    if m = 0 then sgn n
    else
      let q := max ((Nat.log2 m : Int) + e - f.mbits) f.lastPlace
      let s := scaleDown m 1 (q - e)
      let k := s.1 / s.2
      if k < 2 ^ f.mbits then sgn n + k
      else sgn n + (q - f.lastPlace + 1).toNat * 2 ^ f.mbits + (k - 2 ^ f.mbits)

/-- The element of format `code` whose stored bits are `n` (R187). -/
def decodeElem (code n : Nat) : Num :=
  if code = 5 then .i (toSigned 8 n)
  else if code = 6 then .i (toSigned 32 n)
  else .f ((fmtOf code).decode n)

/-- Convert an element to format `code` and give its stored bits (Table 8.3). -/
def encodeElem (code : Nat) (x : Num) : Nat × Nat :=
  match x with
  | .f v =>
    if code = 5 then let r := toIntSat (-128) 127 v; (ofSigned 8 r.1, r.2)
    else if code = 6 then let r := toIntSat int32Min int32Max v; (ofSigned 32 r.1, r.2)
    else let r := (fmtOf code).convert v; ((fmtOf code).encode r.1, r.2)
  | .i n =>
    if code = 5 then let r := toIntSat (-128) 127 (.ofInt n); (ofSigned 8 r.1, r.2)
    else if code = 6 then (ofSigned 32 n, 0)
    else let r := (fmtOf code).convert (.ofInt n); ((fmtOf code).encode r.1, r.2)

/-- An element as an FP32 value (Table 8.3). -/
def Num.toFp32 (x : Num) : Rounded :=
  match x with
  | .f v => fp32.convert v
  | .i n => fp32.convert (.ofInt n)

/-- The exact value of an element. -/
def Num.exact (x : Num) : FVal :=
  match x with
  | .f v => v
  | .i n => .ofInt n

/-! ### Lists of results -/

/-- The values of a list of results, and the flags of all of them. -/
def collect {α : Type} (l : List (α × Nat)) : List α × Nat :=
  (l.map Prod.fst, l.foldl (fun acc p => acc ||| p.2) 0)

/-- Elements of format `code` in a row of bytes. -/
def decodeRow (code : Nat) (bs : List Byte) (count : Nat) : List Num :=
  let w := fmtBytes code
  (List.range count).map fun i => decodeElem code (numAt bs (i * w) w)

/-- NAN_SEEN for a row just read from storage (R199). -/
def nanSeen (row : List Num) : Nat := flagIf (row.any Num.isNan) nfNanSeen

/-- A row converted to format `code`, as bytes, with its flags. -/
def encodeRow (code : Nat) (row : List Num) : List Byte × Nat :=
  let r := collect (row.map (encodeElem code))
  (r.1.flatMap fun n => leBytes n (fmtBytes code), r.2)

/-! ### Pooling (R191) -/

/-- One pooling addition: rounded in FP32, saturating in INT32. -/
def numAdd (a b : Num) : Num × Nat :=
  match a, b with
  | .i x, .i y => let r := iadd x y; (.i r.1, r.2)
  | .f x, .f y => let r := fadd x y; (.f r.1, r.2)
  | .f x, .i y => let r := fadd x (fp32.convert (.ofInt y)).1; (.f r.1, r.2)
  | .i x, .f y => let r := fadd (fp32.convert (.ofInt x)).1 y; (.f r.1, r.2)

/-- Add two rows element by element. -/
def rowAdd (a b : List Num) : List Num × Nat := collect ((a.zip b).map fun p => numAdd p.1 p.2)

/-! ### Matrix engine (R193) -/

/-- Zero as +0: an element whose exact value is zero and whose operands are not all -0 (R200). -/
def FVal.plusZero (v : FVal) : FVal := if v.isZero then .zero else v

/-- Is it -0? -/
def FVal.isMinusZero (v : FVal) : Bool := v.isZero && v.isNeg

/-- Exact sum of a list of products. One that is zero is +0: its operands are not all -0, or else every product is +0 (R200). -/
def exactSum (l : List Rounded) : Rounded :=
  match l with
  | [] => (.zero, 0)
  | p :: r =>
    let z := r.foldl (fun acc q => let z := exactAdd acc.1 q.1; (z.1, acc.2 ||| q.2 ||| z.2)) p
    (z.1.plusZero, z.2)

/-- A block sum: the exact sum of up to 16 products. NaN where any operand is NaN, where zero meets infinity, and
where infinities of opposite sign meet; INVALID in the last two cases. -/
def blockSum (l : List (FVal × FVal)) : Rounded :=
  let ps := l.map fun p => exactMul p.1 p.2
  let opposed := ps.any (fun p => p.1 = .inf true) && ps.any (fun p => p.1 = .inf false)
  let r := exactSum ps
  (r.1, r.2 ||| flagIf opposed nfInvalid)

/-- Add block sums in ascending order into an FP32 accumulator; block 0 initialises it. -/
def accFp32 (blocks : List Rounded) : Rounded :=
  match blocks with
  | [] => (.zero, 0)
  | b :: r =>
    r.foldl (fun acc q =>
        let x := roundFp32 q
        let z := fadd acc.1 x.1
        (z.1, acc.2 ||| x.2 ||| z.2))
      (roundFp32 b)

/-- The contribution of an exact block sum to an INT32 accumulator: rounded and saturated, a NaN as 0 with INVALID. -/
def blockInt (b : Rounded) : Int × Nat :=
  let r := toIntSat int32Min int32Max b.1
  (r.1, b.2 ||| r.2)

/-- Add block sums in ascending order into an INT32 accumulator. -/
def accInt32 (blocks : List Rounded) : Int × Nat :=
  blocks.foldl (fun acc q =>
      let x := blockInt q
      let z := iadd acc.1 x.1
      (z.1, acc.2 ||| x.2 ||| z.2))
    (0, 0)

/-- A list cut into pieces of 16. -/
def blocks16 {α : Type} (l : List α) : Nat → List (List α)
  | 0 => []
  | k + 1 => l.take 16 :: blocks16 (l.drop 16) k

/-- One output element: the vector times one weight column, through the accumulator that `int` selects. -/
def mxeDot (int : Bool) (x w : List FVal) : Num × Nat :=
  let bs := (blocks16 (x.zip w) (ceilDiv (x.zip w).length 16)).map blockSum
  if int then let r := accInt32 bs; (.i r.1, r.2) else let r := accFp32 bs; (.f r.1, r.2)

/-! ### Activation functions (R196, R197) -/

/-- Fixed-point scale of the transcendental functions. -/
def fixOne : Nat := 2 ^ 512

/-- Taylor terms of exp(-y), y and the result scaled by `fixOne`. -/
def expTerms (y : Nat) : Nat → Nat → Int → Int → Int
  | 0, _, _, acc => acc
  | k + 1, n, term, acc => expTerms y k (n + 1) (-(term * y) / (fixOne * n)) (acc + term)

/-- Square `k` times in fixed point. -/
def squareTimes : Nat → Nat → Nat
  | 0, x => x
  | k + 1, x => squareTimes k (x * x / fixOne)

/-- exp(-y) scaled by `fixOne`; 0 from y = 400 on, where it lies below every FP32 step. -/
def expNeg (y : Nat) : Nat :=
  if 400 * fixOne ≤ y then 0
  else squareTimes 12 (expTerms (y / 2 ^ 12) 60 1 fixOne 0).toNat

/-- A magnitude scaled by `fixOne`, at most 2^12 (beyond it every function has its limit). -/
def fixOf (m : Nat) (e : Int) : Nat :=
  let s := scaleDown (m * fixOne) 1 (-e)
  min (s.1 / s.2) (2 ^ 12 * fixOne)

/-- A scaled number strictly between 0 and 1: no exact value of the functions reaches a limit. -/
def inside (x : Nat) : Nat := max 1 (min x (fixOne - 1))

/-- The logistic function of ± y, scaled. -/
def fixSigmoid (neg : Bool) (y : Nat) : Nat :=
  let ex := expNeg y
  inside ((if neg then ex * fixOne else fixOne * fixOne) / (fixOne + ex))

/-- sqrt(2/π) scaled by 10^40. -/
def gelu0 : Nat := 7978845608028653558798921198687637369517

/-- 2 sqrt(2/π) (y + 0.044715 y³), scaled, at most 2^12. -/
def geluArg (y : Nat) : Nat :=
  let cube := y * y / fixOne * y / fixOne
  min (2 * gelu0 * (y + 44715 * cube / 1000000) / 10 ^ 40) (2 ^ 12 * fixOne)

/-- Magnitude of the exact function `fn` (3 GELU, 4 sigmoid, 5 tanh) of ± m × 2^e, as a number scaled by
`fixOne` with its own exponent, and its sign (R196). -/
def exactAct (fn : Nat) (neg : Bool) (m : Nat) (e : Int) : Bool × Nat × Int :=
  let y := fixOf m e
  if fn = 4 then (false, fixSigmoid neg y, -512)
  else if fn = 5 then
    let ex := expNeg (2 * y)
    (neg, inside ((fixOne - ex) * fixOne / (fixOne + ex)), -512)
  else (neg, m * fixSigmoid neg (geluArg y), e - 512)

/-- Place of an FP32 magnitude among the FP32 magnitudes: its bit pattern, rounded down, at most the largest
finite one. -/
def fp32Floor (m : Nat) (e : Int) : Nat :=
  if m = 0 then 0
  else
    let q := max ((Nat.log2 m : Int) + e - 23) (-149)
    let s := scaleDown m 1 (q - e)
    min (fp32.encode (.fin false (s.1 / s.2) q)) 0x7F7FFFFF

/-- The FP32 value at a place; places below 0 have the opposite sign. -/
def placeVal (place : Int) : FVal :=
  let v := fp32.decode place.natAbs
  if place < 0 then v.flip else v

/-- Does a value lie within 2 units in the last place of the magnitude m × 2^e (R196)? -/
def withinTwo (v : FVal) (m : Nat) (e : Int) : Bool :=
  match (exactAdd v (.fin true m e)).1 with
  | .fin _ d x => scaledLe d x 2 (max ((Nat.log2 m : Int) + e - 23) (-149))
  | .nan | .inf _ => false

/-- Places of the finite FP32 values within 2 units in the last place of a magnitude: a binade below has places half as far
apart. -/
def nearPlaces (m : Nat) (e : Int) : List Int :=
  ((List.range 8).map fun (i : Nat) => (fp32Floor m e : Int) - 5 + i).filter fun p =>
    p ≤ 0x7F7FFFFF && withinTwo (placeVal p) m e

/-- Codes 3, 4 and 5 on a finite non-zero input: one of the FP32 values within 2 units in the last place of the
exact function, which one being fixed for every part (`Config.activation`, R196). -/
def actFree (fn : Nat) (neg : Bool) (m : Nat) (e : Int) : Rounded :=
  let x := exactAct fn neg m e
  let ps := nearPlaces x.2.1 x.2.2
  let place := ps.getD ((Config.activation fn (BitVec.ofNat 32 (fp32.encode (.fin neg m e)))).toNat % ps.length)
    (fp32Floor x.2.1 x.2.2)
  let v := placeVal place
  (if x.1 then v.flip else v, flagIf (place.natAbs < 0x800000) nfUnderflow)

/-- Codes 3, 4 and 5 of Table 5.4. -/
def actSmooth (fn : Nat) (v : FVal) : Rounded :=
  match v with
  | .nan => (.nan, 0)
  | .inf n =>
    if fn = 3 then (if n then .fin true 0 0 else .inf false, 0)
    else if fn = 4 then (if n then .zero else .fin false 1 0, 0)
    else (.fin n 1 0, 0)
  | .fin n m e =>
    if m = 0 then (if fn = 4 then .fin false 1 (-1) else .fin n 0 0, 0) else actFree fn n m e

/-- Codes 0 to 5 of Table 5.4 on one FP32 element; `param` the leaky slope. -/
def actElem (fn : Nat) (param v : FVal) : Rounded :=
  if fn = 1 then (if v.isNan || FVal.lt .zero v then v else .zero, 0)
  else if fn = 2 then (if FVal.lt v .zero || v.isNan then fmul v param else (v, 0))
  else if fn = 3 || fn = 4 || fn = 5 then actSmooth fn v
  else (v, 0)

/-- L2 normalisation of a row (R197). -/
def l2norm (row : List FVal) : List FVal × Nat :=
  if row.any FVal.isNan then (row.map fun _ => .nan, 0)
  else
    let s := row.foldl (fun acc v =>
        let q := fmul v v
        let z := fadd acc.1 q.1
        (z.1, acc.2 ||| q.2 ||| z.2))
      (FVal.zero, 0)
    let zeros := row.map fun v => FVal.fin v.isNeg 0 0
    if s.1.isZero then (zeros, s.2)
    else if s.1.isInf then (zeros, s.2 ||| nfOverflow)
    else
      let n := fsqrt s.1
      let r := fdiv (.fin false 1 0) n.1
      let out := collect (row.map fun v => fmul v r.1)
      (out.1, s.2 ||| n.2 ||| r.2 ||| out.2)

/-! ### Lens scaling (R202, R203) -/

/-- The largest magnitude of a row without NaN. -/
def rowPeak (row : List FVal) : FVal :=
  row.foldl (fun acc v => if FVal.lt acc v.mag then v.mag else acc) .zero

/-- What R202 makes of a row bound for a Lens engine. -/
inductive Drive where
  | zero
  | refused
  | levels (peak : FVal) (ds : List Int) (flags : Nat)
deriving DecidableEq, Repr

/-- Drive levels of a row (R202): 64 of them, those beyond the row 0. -/
def lensDrive (row : List FVal) : Drive :=
  if row.any FVal.isNan then .refused
  else
    let m := rowPeak row
    if m.isInf then .refused
    else if m.isZero then .zero
    else
      let q := fdiv (.fin false 127 0) m
      let ds := collect (row.map fun v =>
        let p := fmul v q.1
        let d := toIntSat (-127) 127 p.1
        (d.1, p.2))
      .levels m (ds.1 ++ List.replicate (64 - row.length) 0) (q.2 ||| ds.2)

/-- Read-out codes as FP32 elements (R203): c × (m × s), +0 where the code or the scale is zero (R200). -/
def lensScale (peak scale : FVal) (codes : List Int) : List FVal × Nat :=
  let t := fmul peak scale
  let r := collect (codes.map fun c =>
    let y := fmul (.ofInt c) t.1
    (if c = 0 || scale.isZero then y.1.plusZero else y.1, y.2))
  (r.1, t.2 ||| r.2)

end Sys2Proof.Machine
end

