-- ==== Sys2Proof/Machine/Operands.lean ====
section
/-! DEFINITION. The fields of a stream command (Table 5.2), a command given as its sixteen 64-bit words, and what
makes one invalid (R114, R123). -/

namespace Sys2Proof.Machine

/-- Field of `w` bits from bit `lo` of word `n`. -/
def wfield (ws : List Nat) (n lo w : Nat) : Nat := bits (ws.getD n 0) lo w

/-- The words of 8-byte little-endian text. -/
def toWords (bs : List Byte) : Nat → List Nat
  | 0 => []
  | k + 1 => leNat (bs.take 8) :: toWords (bs.drop 8) k

def opOf (ws : List Nat) : Nat := wfield ws 0 0 4
def gatherOf (ws : List Nat) : Bool := wfield ws 0 4 1 = 1
def xformOf (ws : List Nat) : Nat := wfield ws 0 5 2
def storeOf (ws : List Nat) : Nat := wfield ws 0 8 2
def swapAfter (ws : List Nat) : Bool := wfield ws 0 10 1 = 1
def poolOf (ws : List Nat) : Nat := wfield ws 0 11 2
def poisonMode (ws : List Nat) : Nat := wfield ws 0 13 2
def missAbandon (ws : List Nat) : Bool := wfield ws 0 15 1 = 1
def deadlineTicks (ws : List Nat) : Nat := wfield ws 0 16 16
def cmdTag (ws : List Nat) : Nat := wfield ws 0 32 8
def drainScope (ws : List Nat) : Nat := wfield ws 0 40 2
def drainFlush (ws : List Nat) : Bool := wfield ws 0 42 1 = 1
def waitCtr (ws : List Nat) : Nat := wfield ws 1 0 6
def signalCtr (ws : List Nat) : Nat := wfield ws 1 6 6
def signalInc (ws : List Nat) : Nat := wfield ws 1 16 16
def waitValue (ws : List Nat) : Nat := wfield ws 1 32 32
def idxOffsets (ws : List Nat) : Nat := wfield ws 2 0 48
def idxSram (ws : List Nat) : Bool := wfield ws 2 48 1 = 1
def offBytes (ws : List Nat) : Nat := if wfield ws 2 49 1 = 1 then 8 else 4
def idxBytes (ws : List Nat) : Nat := if wfield ws 2 50 1 = 1 then 8 else 4
def idxMode (ws : List Nat) : Nat := wfield ws 2 51 2
def idxList (ws : List Nat) : Nat := wfield ws 3 0 48
def idxFirst (ws : List Nat) : Nat := wfield ws 4 0 32
def idxCount (ws : List Nat) : Nat := wfield ws 4 32 32
def dataTable (ws : List Nat) : Nat := wfield ws 5 0 8
def viaFs (ws : List Nat) : Bool := wfield ws 5 8 1 = 1
def dataFmt (ws : List Nat) : Nat := wfield ws 5 9 3
def width16Of (ws : List Nat) : Nat := wfield ws 5 16 12
def dataStride (ws : List Nat) : Nat := wfield ws 5 32 32
def dataBase (ws : List Nat) : Nat := wfield ws 6 0 48
def bufAddrOf (ws : List Nat) : Nat := wfield ws 7 0 18
def halfBytesOf (ws : List Nat) : Nat := wfield ws 7 18 18
def weightAddr (ws : List Nat) : Nat := wfield ws 8 0 18
def xfK16 (ws : List Nat) : Nat := wfield ws 8 18 8
def xfN16 (ws : List Nat) : Nat := wfield ws 8 26 8
def weightFmt (ws : List Nat) : Nat := wfield ws 8 34 3
def accInt (ws : List Nat) : Bool := wfield ws 8 37 1 = 1
def xfRing (ws : List Nat) : Bool := wfield ws 8 38 1 = 1
def lensHandle (ws : List Nat) : Nat := wfield ws 8 39 8
def actFn (ws : List Nat) : Nat := wfield ws 9 0 4
def outFmt (ws : List Nat) : Nat := wfield ws 9 4 3
def actBias (ws : List Nat) : Bool := wfield ws 9 7 1 = 1
def biasAddr (ws : List Nat) : Nat := wfield ws 9 8 18
def actParam (ws : List Nat) : Nat := wfield ws 9 26 16
def stAddr (ws : List Nat) : Nat := wfield ws 10 0 48
def stAtomic (ws : List Nat) : Bool := wfield ws 10 48 1 = 1
def stStride (ws : List Nat) : Nat := wfield ws 11 0 32
def stIdxAddr (ws : List Nat) : Nat := wfield ws 12 0 48

/-- Bytes of one data row (R118). -/
def rowBytes (ws : List Nat) : Nat := width16Of ws * 16 * fmtBytes (dataFmt ws)

/-- A row's place in the half: padded to a multiple of 64 bytes (R118). -/
def rowPlace (ws : List Nat) : Nat := roundUp (rowBytes ws) 64

/-- Elements of an output row: N of the transform, else the row's width. -/
def outWidth (ws : List Nat) : Nat := if xformOf ws = 0 then width16Of ws * 16 else xfN16 ws * 16

/-- Bags of a FUSED command (R117). -/
def bagCount (ws : List Nat) : Nat := if gatherOf ws && idxMode ws = 2 then 1 else idxCount ws

/-- Is a counter field a counter, or 63 for none? -/
def ctrOk (n : Nat) : Bool := n < 48 || n = 63

/-- Reserved fields of Table 5.2 are zero. -/
def reservedZero (ws : List Nat) : Bool :=
  wfield ws 0 7 1 = 0 && wfield ws 0 43 21 = 0 && wfield ws 1 12 4 = 0 && wfield ws 2 53 11 = 0
    && wfield ws 3 48 16 = 0 && wfield ws 5 12 4 = 0 && wfield ws 5 28 4 = 0 && wfield ws 6 48 16 = 0
    && wfield ws 7 36 28 = 0 && wfield ws 8 47 17 = 0 && wfield ws 9 42 22 = 0 && wfield ws 10 49 15 = 0
    && wfield ws 11 32 32 = 0 && wfield ws 12 48 16 = 0 && ws.getD 13 0 = 0 && ws.getD 14 0 = 0 && ws.getD 15 0 = 0

/-- Each field lies in its Values column (Table 5.2). -/
def valuesOk (ws : List Nat) : Bool :=
  opOf ws ≤ 3 && poolOf ws ≤ 2 && poisonMode ws ≤ 2 && ctrOk (waitCtr ws) && ctrOk (signalCtr ws)
    && 1 ≤ signalInc ws && idxMode ws ≤ 2 && 1 ≤ idxCount ws
    && idxCount ws ≤ (if gatherOf ws && idxMode ws = 2 then 65536 else 4096)
    && dataFmt ws ≤ 6 && 1 ≤ width16Of ws && width16Of ws ≤ 256 && dataStride ws % 32 = 0
    && bufAddrOf ws % 64 = 0 && halfBytesOf ws % 64 = 0 && 64 ≤ halfBytesOf ws && halfBytesOf ws ≤ 131072
    && weightAddr ws % 64 = 0 && 1 ≤ xfK16 ws && xfK16 ws ≤ 64 && 1 ≤ xfN16 ws && xfN16 ws ≤ 64
    && weightFmt ws ≤ 6 && actFn ws ≤ 6 && outFmt ws ≤ 6 && biasAddr ws % 64 = 0
    && stStride ws % (if storeOf ws = 0 then 1 else if storeOf ws = 1 then 64 else 32) = 0

/-- R114: reserved fields, Values columns, and the shape of the transform. -/
def cmdShapeOk (ws : List Nat) : Bool :=
  reservedZero ws && valuesOk ws && (xformOf ws = 0 || xfK16 ws = width16Of ws)
    && (xformOf ws < 2 || (xfK16 ws ≤ 4 && xfN16 ws ≤ 4))

end Sys2Proof.Machine
end

