-- ==== Sys2Proof/Machine/Tasks.lean ====
section
/-! DEFINITION. Tiles, task slots, commands and tile SRAM: reading and changing them (R110 to R113, R126, R148,
R173). -/

namespace Sys2Proof.Machine

/-! ### Places -/

def clusterOfTile (t : Nat) : Nat := t / 64

/-- The partition a cluster belongs to (R322). -/
def State.partitionOf (s : State) (c : Nat) : Nat :=
  ((List.range 32).find? fun p => (s.partEntry p).clusterA = c || (s.partEntry p).clusterB = c).getD 0

def State.tile (s : State) (t : Nat) : Tile := tget s.tiles.tiles t {}

def State.setTile (s : State) (t : Nat) (x : Tile) : State :=
  { s with tiles := { s.tiles with tiles := tset s.tiles.tiles t x } }

def State.updTile (t : Nat) (f : Tile → Tile) (s : State) : State := s.setTile t (f (s.tile t))

def State.task (s : State) (t k : Nat) : Task := tget (s.tile t).tasks k {}

def State.updTask (t k : Nat) (f : Task → Task) (s : State) : State :=
  s.updTile t fun x => { x with tasks := tupd x.tasks k {} f }

def State.cluster (s : State) (c : Nat) : Cluster := tget s.tiles.clusters c {}

def State.updCluster (c : Nat) (f : Cluster → Cluster) (s : State) : State :=
  { s with tiles := { s.tiles with clusters := tupd s.tiles.clusters c {} f } }

/-- Is a task in its slot with work to do? -/
def TaskState.live (t : TaskState) : Bool :=
  match t with
  | .ready | .running | .lateData => true
  | .free | .ended => false

/-- The command of a task with index `i`, as read and not yet completed. -/
def Task.cmd (k : Task) (i : Nat) : Option Cmd := k.cmds.find? fun c => c.index = i

/-- Change the command with index `i`. -/
def Task.updCmd (k : Task) (i : Nat) (f : Cmd → Cmd) : Task :=
  { k with cmds := k.cmds.map fun c => if c.index = i then f c else c }

def State.updCmd (t k i : Nat) (f : Cmd → Cmd) (s : State) : State := s.updTask t k fun x => x.updCmd i f

/-- OR flags into a task's flag word (R205). -/
def State.taskFlags (t k w : Nat) (s : State) : State :=
  if w = 0 then s else s.updTask t k fun x => { x with flags := x.flags ||| w }

/-- Is the context real-time (R131)? -/
def State.isRt (s : State) (ctx : Nat) : Bool := bit s.im.tile.rtMask ctx

/-- Every task slot in use, as tile and slot. -/
def State.liveTasks (s : State) : List (Nat × Nat × Task) :=
  s.tiles.tiles.flatMap fun p => (p.2.tasks.filter fun q => q.2.state ≠ .free).map fun q => (p.1, q.1, q.2)

/-- Set MEM_OUTSIDE_COUNT and MEM_ST_OUTSIDE of a cluster (R244). -/
def State.countOutside (c : Nat) (s : State) : State :=
  s.updCluster c fun x => { x with outside := bump x.outside, stOutside := true }

/-! ### Tile SRAM -/

/-- Key of an SRAM byte; addresses are formed modulo 0x4_0000 (R173). -/
def sramKey (t a : Nat) : Nat := t * 0x40000 + a % 0x40000

def State.sramByte (s : State) (t a : Nat) : Byte := cellGet 0#8 s.tiles.sram (sramKey t a)

def State.sramBytes (s : State) (t a n : Nat) : List Byte := (List.range n).map fun i => s.sramByte t (a + i)

/-- Is the 64-byte line that holds address `a` poisoned? -/
def State.linePoison (s : State) (t a : Nat) : Bool := s.tiles.poison.contains (sramKey t a / 64)

/-- Is any line of a range poisoned? -/
def State.sramPoisoned (s : State) (t a n : Nat) : Bool :=
  (List.range (a % 64 + n + 63)).any fun i => i % 64 = 0 && i < a % 64 + n && s.linePoison t (a - a % 64 + i)

def State.sramPut (t a : Nat) (b : Byte) (s : State) : State :=
  { s with tiles := { s.tiles with sram := cellSet 0#8 s.tiles.sram (sramKey t a) b } }

/-- Write bytes from address `a` upward, wrapping modulo 0x4_0000. -/
def State.sramWrite (t a : Nat) : List Byte → State → State
  | [], s => s
  | b :: r, s => State.sramWrite t (a + 1) r (s.sramPut t a b)

/-- Tag or clear the line that holds address `a`. -/
def State.tagLine (t a : Nat) (poison : Bool) (s : State) : State :=
  let k := sramKey t a / 64
  { s with tiles := { s.tiles with
      poison := if poison then addOnce s.tiles.poison k else s.tiles.poison.filter fun x => x ≠ k } }

/-- Tag or clear every line that a range touches. -/
def State.tagRange (t a n : Nat) (poison : Bool) (s : State) : State :=
  (List.range ((a % 64 + n + 63) / 64)).foldl (fun s i => s.tagLine t (a - a % 64 + 64 * i) poison) s

/-- A store into SRAM: poison tags every line the row touches; a clean store clears the lines it covers whole
(DEDUCED, assumption log, entry 8). -/
def State.sramStore (t a : Nat) (bs : List Byte) (poison : Bool) (s : State) : State :=
  let s := s.sramWrite t a bs
  if poison then s.tagRange t a bs.length true
  else
    let first := roundUp a 64
    s.tagRange t first ((a + bs.length) / 64 * 64 - first) false

/-! ### Held words (R146 to R149) -/

/-- Does an address lie in the held-word region (R112)? -/
def inHeld (a : Nat) : Bool := 0x3F000 ≤ a % 0x40000

/-- Number of the held word at an address. -/
def heldIdx (a : Nat) : Nat := (a % 0x40000 - 0x3F000) / 8

def heldAddr (i : Nat) : Nat := 0x3F000 + 8 * i

def State.heldFull (s : State) (t i : Nat) : Bool := s.tiles.full.contains (t * 512 + i)

def State.setFull (t i : Nat) (full : Bool) (s : State) : State :=
  let k := t * 512 + i
  { s with tiles := { s.tiles with
      full := if full then addOnce s.tiles.full k else s.tiles.full.filter fun x => x ≠ k } }

end Sys2Proof.Machine
end

