-- ==== Sys2Proof/Machine/Memory.lean ====
section
/-! DEFINITION. The LPDDR5X memory system: regions and interleave (R243 to R245), channels with their retirement
map, write combining (R249), adders and cluster-cache lines (R250, R251), errors and retirement (R252 to R254),
regulators (R258), and the commands about memory. -/

namespace Sys2Proof.Machine

/-! ### Addresses -/

/-- The region of a context that holds a context address (R243). -/
def State.region (s : State) (ctx a : Nat) : Option Region :=
  s.im.regions.find? fun r => r.context = ctx && r.ctxBase ≤ a && a < r.ctxBase + r.bytes

/-- Device address of a context address; none outside every region. -/
def State.devOf (s : State) (ctx a : Nat) : Option Nat :=
  (s.region ctx a).map fun r => r.devBase + (a - r.ctxBase)

/-- Device address a store or an add reaches: none outside every region and where writes are not permitted (R244). -/
def State.devForWrite (s : State) (ctx a : Nat) : Option Nat :=
  match s.region ctx a with
  | none => none
  | some r => if r.write then some (r.devBase + (a - r.ctxBase)) else none

/-- Channel of a device address (R245). -/
def devChan (d : Nat) : Nat := bits d 8 6 ^^^ bits d 14 6 ^^^ bits d 20 6

/-- Channel offset of a device address (R245). -/
def devOff (d : Nat) : Nat := d / 16384 * 256 + d % 256

/-- The address at which the interleave of R245 reaches a channel offset. Offsets in the feature-store area have addresses from D
on, which no region maps. -/
def devAt (c off : Nat) : Nat :=
  let r := off / 256
  r * 16384 + ((c % 64) ^^^ bits r 0 6 ^^^ bits r 6 6) * 256 + off % 256

/-- Key of a raw address of a channel in the memory of the part. -/
def rawKeyOf (c raw : Nat) : Nat := c * 2 ^ 33 + raw

/-- Raw address of spare page 0: after the data region and the check region (R241). -/
def State.spareBase (s : State) : Nat := s.im.dataBytes + s.im.dataBytes / 16

/-- Raw address of the first of the two check bytes of data sector `n` (R241). -/
def State.checkRaw (s : State) (n : Nat) : Nat := s.im.dataBytes + 32 * (n / 16) + 2 * (n % 16)

/-- Raw address of the check bytes of sector `t` of spare page `j` (R241): the spare check area follows the 64 spare pages. -/
def State.spareCheckRaw (s : State) (j t : Nat) : Nat := s.spareBase + 64 * 65536 + 4096 * j + 2 * t

def State.chan (s : State) (c : Nat) : Chan := tget s.mem.chans c {}

def State.updChan (c : Nat) (f : Chan → Chan) (s : State) : State :=
  { s with mem := { s.mem with chans := tupd s.mem.chans c {} f } }

def State.inService (s : State) (c : Nat) : Bool := (s.chan c).state = 1

/-- Code of spare page `j` (R254). -/
def spareCode (j : Nat) : Nat := 0x80000000 + j

/-- The page that now holds a page, following spares that were retired into other spares (R253). -/
def followMap (m : List (Nat × Nat)) : Nat → Nat → Nat
  | 0, code => code
  | n + 1, code =>
    match m.find? fun p => p.1 = code with
    | none => code
    | some p => followMap m n (spareCode p.2)

/-- The page, as coded in R254, that holds channel offset `off`. -/
def Chan.pageOf (ch : Chan) (off : Nat) : Nat := followMap ch.map 64 (off / 65536)

/-- Raw address of the first byte of a page. -/
def State.pageRaw (s : State) (code : Nat) : Nat :=
  if code < 0x80000000 then code * 65536 else s.spareBase + (code - 0x80000000) * 65536

/-- Key of the byte at a channel offset, through the retirement map. -/
def State.rawKey (s : State) (c off : Nat) : Nat :=
  rawKeyOf c (s.pageRaw ((s.chan c).pageOf off) + off % 65536)

/-- Is the page that holds a channel offset under retirement? -/
def Chan.holding (ch : Chan) (off : Nat) : Bool := ch.retiring.any fun r => r.page = ch.pageOf off

/-! ### Bytes of a channel, through the write-combining buffer (R248, R249) -/

def Chan.wcbAt (ch : Chan) (line : Nat) : Option Wcb := ch.wcb.find? fun w => w.line = line

/-- Does an entry hold every byte of sector `q` of its line? -/
def Wcb.covers (w : Wcb) (q : Nat) : Bool := (w.bytes.filter fun p => p.1 / 32 = q).length = 32

/-- The byte at a channel offset, and whether its sector is poisoned, as a read accepted now finds them. -/
def State.chanByte (s : State) (c off : Nat) : Byte × Bool :=
  let key := s.rawKey c off
  let m := cellGet 0#8 s.mem.cells key
  let p := s.mem.poison.contains (key / 32)
  match (s.chan c).wcbAt (off / 64) with
  | none => (m, p)
  | some w =>
    let b := match w.bytes.find? fun q => q.1 = off % 64 with | some q => q.2 | none => m
    (b, w.poison.contains (off % 64 / 32) || (p && !w.covers (off % 64 / 32)))

/-- The byte at a device address; poisoned where its channel is not in service (R257). -/
def State.devByte (s : State) (d : Nat) : Byte × Bool :=
  if s.inService (devChan d) then s.chanByte (devChan d) (devOff d) else (Config.freeByte d, true)

/-- `n` bytes from a device address. -/
def State.devRead (s : State) (d n : Nat) : List (Byte × Bool) := (List.range n).map fun i => s.devByte (d + i)

/-- The byte at a context address; poisoned outside every region (R244). -/
def State.ctxByte (s : State) (ctx a : Nat) : Byte × Bool :=
  match s.devOf ctx a with
  | some d => s.devByte d
  | none => (Config.freeByte a, true)

def State.ctxRead (s : State) (ctx a n : Nat) : List (Byte × Bool) :=
  (List.range n).map fun i => s.ctxByte ctx (a + i)

/-- Set or clear the poison of a sector, by its number in the memory of the part. -/
def State.setPoison (k : Nat) (poison : Bool) (s : State) : State :=
  { s with mem := { s.mem with
      poison := if poison then addOnce s.mem.poison k else s.mem.poison.filter fun x => x ≠ k } }

/-- Write one byte of a channel's device. -/
def State.putByte (c off : Nat) (b : Byte) (s : State) : State :=
  { s with mem := { s.mem with cells := cellSet 0#8 s.mem.cells (s.rawKey c off) b } }

/-- Read-modify-writes an eviction takes (R249). -/
def Wcb.rmw (w : Wcb) (spared : Bool) : Nat :=
  let full := w.bytes.length = 64
  let partials := ((List.range 2).filter fun q => (w.bytes.any fun p => p.1 / 32 = q) && !w.covers q).length
  if spared then (if full then 1 else 2) else if full then 0 else partials

/-! ### Slots (R247) -/

/-- Slots that requests hold, of 112. -/
def Chan.requests (ch : Chan) : Nat := (ch.slots.filter fun x => !x.reserved).length

/-- Slots of the 16 reserved ones in use: the reads of evictions and adds, and one while a page is copied. -/
def Chan.reservedUsed (ch : Chan) : Nat := (ch.slots.filter Slot.reserved).length + (if ch.retiring.isEmpty then 0 else 1)

def Chan.reservedFree (ch : Chan) : Bool := ch.reservedUsed < 16

/-- The high water of the slots in use, `n` of them for a moment only. -/
def Chan.noteHigh (n : Nat) (ch : Chan) : Chan :=
  { ch with inflightHigh := max ch.inflightHigh (ch.requests + ch.reservedUsed + n) }

/-- Take a slot. -/
def takeSlot (c : Nat) (x : Slot) (s : State) : State :=
  s.updChan c fun ch => Chan.noteHigh 0 { ch with slots := ch.slots ++ [x] }

/-- A request of no task: its data were taken as it was issued. -/
def seenReq (queue d n : Nat) : Req :=
  { tile := 4096, slot := 4, cmd := 0, context := 0, queue := queue, dev := some d, len := n, kind := .seen }

/-- The controller's own read of `n` bytes from a channel offset, in a reserved slot. -/
def reservedRead (c off n : Nat) (s : State) : State :=
  takeSlot c { req := seenReq 32 (devAt c off) n, reserved := true } s

/-! ### Write combining (R249) -/

/-- Sectors of an entry that it holds in part. -/
def Wcb.partials (w : Wcb) : List Nat :=
  (List.range 2).filter fun q => (w.bytes.any fun p => p.1 / 32 = q) && !w.covers q

/-- Numbers in the channel of the sectors that an entry writes whole. -/
def Wcb.wholes (w : Wcb) : List Nat := ((List.range 2).filter w.covers).map fun q => 2 * w.line + q

/-- Note at a read that is under way which of its sectors are written whole meanwhile. -/
def Slot.overwritten (x : Slot) (ws : List Nat) : Slot :=
  match x.req.dev with
  | some d =>
    let first := devOff d / 32
    { x with stale := x.stale ++ ws.filter fun n => first ≤ n && 32 * n < devOff d + x.req.len }
  | none => x

/-- Write an evicted entry to the device (R249): whole sectors take its poison bit, partial ones keep theirs. -/
def writeEntry (c : Nat) (w : Wcb) (s : State) : State :=
  let touched := (List.range 2).filter fun q => w.bytes.any fun p => p.1 / 32 = q
  let s := touched.foldl (fun s q =>
      let k := s.rawKey c (64 * w.line + 32 * q) / 32
      let old := s.mem.poison.contains k
      s.setPoison k (w.poison.contains q || (old && !w.covers q))) s
  let s := w.bytes.foldl (fun s p => s.putByte c (64 * w.line + p.1) p.2) s
  s.updChan c fun ch => { ch with
    slots := ch.slots.map fun x => x.overwritten w.wholes
    wrBytes := satAdd 64 ch.wrBytes (32 * touched.length)
    wcbRmw := satAdd 32 ch.wcbRmw (w.rmw (ch.spared ≠ 0)) }

/-- The read of an eviction's read-modify-write: the line where a byte of the channel is spared, else its partial sectors. -/
def evictRead (c : Nat) (w : Wcb) (s : State) : State :=
  if w.rmw ((s.chan c).spared ≠ 0) = 0 then s
  else if (s.chan c).spared ≠ 0 then reservedRead c (64 * w.line) 64 s
  else reservedRead c (64 * w.line + 32 * w.partials.headD 0) (32 * w.partials.length) s

/-- May an entry be evicted now: its page is not under retirement (R266), and a reserved slot is free for its read? -/
def Chan.canEvict (ch : Chan) (w : Wcb) : Bool :=
  !ch.holding (64 * w.line) && (w.rmw (ch.spared ≠ 0) = 0 || ch.reservedFree)

/-- Drop an entry from the buffer and write it. -/
def evictEntry (c : Nat) (w : Wcb) (s : State) : State :=
  writeEntry c w (evictRead c w (s.updChan c fun ch => { ch with wcb := ch.wcb.filter fun x => x.line ≠ w.line }))

/-- Evict the entry of a line, if that can be done now. -/
def evictLine (c line : Nat) (s : State) : State :=
  match (s.chan c).wcbAt line with
  | none => s
  | some w => if (s.chan c).canEvict w then evictEntry c w s else s

/-- Merge bytes into an entry: a write of a whole sector sets its poison bit to that of the data, a partial one only
ever sets it. -/
def Wcb.merge (w : Wcb) (off : Nat) (bs : List Byte) (poison : Bool) (now : Nat) : Wcb :=
  let news := (List.range bs.length).map fun i => (off + i, bs.getD i 0)
  let whole := fun q => (news.filter fun p => p.1 / 32 = q).length = 32
  let hit := (List.range 2).filter fun q => news.any fun p => p.1 / 32 = q
  { w with
    bytes := (w.bytes.filter fun p => p.1 < off || off + bs.length ≤ p.1) ++ news
    poison := hit.foldl (fun l q =>
      if poison then addOnce l q else if whole q then l.filter fun x => x ≠ q else l) w.poison
    last := now }

/-- Make room for a new entry: the oldest that can be evicted goes, or else the oldest, whose bytes the copy of its page under
retirement then takes along. -/
def makeRoom (c : Nat) (s : State) : State :=
  if (s.chan c).wcb.length < 256 then s
  else
    match ((s.chan c).wcb.find? (s.chan c).canEvict).orElse fun _ => (s.chan c).wcb.head? with
    | some w => evictEntry c w s
    | none => s

/-- A write of bytes within one 64-byte line enters the write-combining buffer (R249). -/
def wcbWrite (c off : Nat) (bs : List Byte) (poison : Bool) (s : State) : State :=
  let line := off / 64
  let s := if ((s.chan c).wcbAt line).isNone then makeRoom c s else s
  let s := s.updChan c fun ch =>
    match ch.wcbAt line with
    | some w => { ch with
        wcb := ch.wcb.map fun x => if x.line = line then w.merge (off % 64) bs poison s.now else x }
    | none => { ch with wcb := ch.wcb ++ [(Wcb.mk line [] [] s.now).merge (off % 64) bs poison s.now] }
  if (((s.chan c).wcbAt line).map fun w => w.bytes.length) = some 64 then evictLine c line s else s

/-- Must a write of a line wait: the buffer is full and no entry can be evicted? -/
def Chan.wcbFull (ch : Chan) (line : Nat) : Bool :=
  (ch.wcbAt line).isNone && 256 ≤ ch.wcb.length && !ch.wcb.any ch.canEvict

/-- A write of bytes at a device address, line by line; discarded on a channel that is not in service (R257). The
first argument bounds the number of lines. -/
def devWriteLines : Nat → Nat → List Byte → Bool → State → State
  | 0, _, _, _, s => s
  | n + 1, d, bs, poison, s =>
    if bs.isEmpty then s
    else
      let k := 64 - d % 64
      let s' := if s.inService (devChan d) then wcbWrite (devChan d) (devOff d) (bs.take k) poison s else s
      devWriteLines n (d + k) (bs.drop k) poison s'

def devWrite (d : Nat) (bs : List Byte) (poison : Bool) (s : State) : State :=
  devWriteLines (bs.length / 64 + 2) d bs poison s

/-! ### Requests on their way to a channel (R246, R247) -/

/-- The channel a request goes to. -/
def Req.channel (r : Req) : Nat := match r.dev with | some d => devChan d | none => 0

/-- A request arrives at its channel, in the queue of its partition or of service traffic; a channel in self-refresh leaves it
(R256). -/
def pushReq (r : Req) (s : State) : State :=
  s.updChan r.channel fun ch => { ch with
    queues := tupd ch.queues r.queue [] fun q => q ++ [{ r with seq := ch.arrivals }]
    arrivals := ch.arrivals + 1, sr := false, idleSince := s.now }

/-- Requests for `n` bytes from a device address whose data a unit takes as it issues them, within aligned 256 bytes each; the
first argument bounds them. -/
def seeRuns (queue : Nat) : Nat → Nat → Nat → State → State
  | 0, _, _, s => s
  | k + 1, d, n, s =>
    if n = 0 then s
    else
      let m := min n (256 - d % 256)
      seeRuns queue k (d + m) (n - m) (pushReq (seenReq queue d m) s)

def seeDev (queue d n : Nat) (s : State) : State := seeRuns queue (n / 256 + 2) d n s

/-- A write of a running combine is issued (by 1) or acknowledged (by -1) (R176). -/
def countWrites (key : Nat) (d : Int) (s : State) : State :=
  { s with sync := { s.sync with
      combines := s.sync.combines.map fun p =>
        if p.1 = key then (p.1, { p.2 with writes := (p.2.writes + d).toNat }) else p } }

/-- The slot of a write of `n` bytes within one line, whose bytes a unit has entered in the write-combining buffer as it issued
it; `key` the marver slot it is for. -/
def noteWrite (queue d n : Nat) (key : Option Nat) (s : State) : State :=
  pushReq { seenReq queue d n with kind := .written key }
    (match key with
      | some k => countWrites k 1 s
      | none => s)

/-- A write through a context address, line by line, entered as it is issued; a line outside every region or not permitted is
discarded and counted at the cluster (R244). -/
def ctxWriteLines (cluster queue ctx : Nat) (key : Option Nat) : Nat → Nat → List Byte → Bool → State → State
  | 0, _, _, _, s => s
  | n + 1, a, bs, poison, s =>
    if bs.isEmpty then s
    else
      let k := 64 - a % 64
      let s' := match s.devForWrite ctx (a % 2 ^ 48) with
        | some d => noteWrite queue d (bs.take k).length key (devWrite d (bs.take k) poison s)
        | none => s.countOutside cluster
      ctxWriteLines cluster queue ctx key n (a + k) (bs.drop k) poison s'

/-- A direct write by a unit that issues whole rows: marver, send receiver. -/
def ctxWrite (cluster queue ctx a : Nat) (key : Option Nat) (bs : List Byte) (poison : Bool) (s : State) : State :=
  ctxWriteLines cluster queue ctx key (bs.length / 64 + 2) a bs poison s

/-- Requests as of `seeRuns` for bytes from a context address: one outside every region of the context is counted at the cluster
(R244). -/
def seeCtxRuns (cluster queue ctx : Nat) : Nat → Nat → Nat → State → State
  | 0, _, _, s => s
  | k + 1, a, n, s =>
    if n = 0 then s
    else
      let m := min n (256 - a % 256)
      let s' := match s.devOf ctx (a % 2 ^ 48) with
        | some d => pushReq (seenReq queue d m) s
        | none => s.countOutside cluster
      seeCtxRuns cluster queue ctx k (a + m) (n - m) s'

def seeCtx (cluster queue ctx a n : Nat) (s : State) : State := seeCtxRuns cluster queue ctx (n / 256 + 2) a n s

/-! ### Adders (R250) -/

/-- Sum of a destination element and an element: FP32, INT32, or INT32 into INT64; and the flags it sets. -/
def addElem (fp wide : Bool) (old e : Nat) (fromStorage : Bool) : Nat × Nat :=
  if fp then
    let a := fp32.decode old
    let b := fp32.decode e
    let r := fadd a b
    (fp32.encode r.1, r.2 ||| flagIf (fromStorage && a.isNan) nfNanSeen)
  else if wide then
    let z := toSigned 64 old + toSigned 32 e
    if z < -(2 ^ 63 : Nat) then (2 ^ 63, nfSaturated)
    else if (2 ^ 63 : Nat) ≤ z then (2 ^ 63 - 1, nfSaturated)
    else (ofSigned 64 z, 0)
  else
    let r := iadd (toSigned 32 old) (toSigned 32 e)
    (ofSigned 32 r.1, r.2)

/-- Bytes of a destination element. -/
def destBytes (wide : Bool) : Nat := if wide then 8 else 4

/-- One memory-side add at a device address; nothing happens on a channel that is not in service. -/
def memAdd (fp wide poison : Bool) (d e : Nat) (s : State) : Nat × State :=
  if !s.inService (devChan d) then (0, s)
  else
    let n := destBytes wide
    let old := s.devRead d n
    let bad := poison || old.any Prod.snd
    let r := addElem fp wide (leNat (old.map Prod.fst)) e true
    let s := (devWrite d (leBytes r.1 n) bad s).updChan (devChan d) fun ch => { ch with atomics := bump ch.atomics }
    (if bad then 0 else r.2, s)

/-- Adds of successive elements from a device address; the flags of all. -/
def memAdds (fp wide poison : Bool) : Nat → List Nat → State → Nat × State
  | _, [], s => (0, s)
  | d, e :: r, s =>
    let x := memAdd fp wide poison d e s
    let y := memAdds fp wide poison (d + destBytes wide) r x.2
    (x.1 ||| y.1, y.2)

/-! ### Cluster-cache atomic lines (R251) -/

/-- Lines the area of one cluster cache holds: 128 bytes each. -/
def State.atomicRoom (s : State) : Nat := s.im.mem.ccAtomicKib * 8

/-- Offsets in a line of the elements that it holds: those that do not straddle its end. -/
def AtomicLine.places (l : AtomicLine) : List Nat :=
  let n := destBytes l.wide
  (List.range ((64 - l.phase) / n)).map fun i => l.phase + n * i

/-- Sum of a destination element in memory and the delta of a line: as `addElem`, but the delta of a wide line is 8 bytes long. -/
def flushElem (l : AtomicLine) (old e : Nat) : Nat × Nat :=
  if l.wide then
    let z := toSigned 64 old + toSigned 64 e
    if z < -(2 ^ 63 : Nat) then (2 ^ 63, nfSaturated)
    else if (2 ^ 63 : Nat) ≤ z then (2 ^ 63 - 1, nfSaturated)
    else (ofSigned 64 z, 0)
  else addElem l.fp false old e true

/-- The memory-side add of one element of a line that is flushed. -/
def flushAdd (l : AtomicLine) (acc : Nat × State) (o : Nat) : Nat × State :=
  let n := destBytes l.wide
  let d := 64 * l.line + o
  if !acc.2.inService (devChan d) then acc
  else
    let old := acc.2.devRead d n
    let bad := l.poison.contains (o / 32) || old.any Prod.snd
    let r := flushElem l (leNat (old.map Prod.fst)) (numAt l.delta o n)
    (acc.1 ||| (if bad then 0 else r.2),
      (devWrite d (leBytes r.1 n) bad acc.2).updChan (devChan d) fun ch => { ch with atomics := bump ch.atomics })

/-- Flush one line: its delta goes out as a memory-side add; the flags it raises. -/
def flushLine (l : AtomicLine) (s : State) : Nat × State :=
  let s := { s with mem := { s.mem with
    lines := s.mem.lines.filter fun x => !(x.cluster = l.cluster && x.context = l.context && x.line = l.line) } }
  l.places.foldl (flushAdd l) (0, s)

/-- Flush every line of a context in a cluster; the flags raised. -/
def flushContext (cluster ctx : Nat) (s : State) : Nat × State :=
  (s.mem.lines.filter fun l => l.cluster = cluster && l.context = ctx).foldl (fun acc l =>
      let r := flushLine l acc.2
      (acc.1 ||| r.1, r.2)) (0, s)

/-- The line a cluster holds for a device line, of this element type and at this place in the line; a line of another kind is
flushed first, and the oldest goes when the area is full. The base is read from memory. The flags of the flushes come with it. -/
def touchLine (cluster ctx queue line phase : Nat) (fp wide : Bool) (s : State) : Nat × State :=
  let mine := fun (l : AtomicLine) => l.cluster = cluster && l.context = ctx && l.line = line
  let fresh := fun (acc : Nat × State) =>
    let full := acc.2.mem.lines.filter fun l => l.cluster = cluster
    let acc := match full.head? with
      | some l => if acc.2.atomicRoom ≤ full.length then
          let r := flushLine l acc.2
          (acc.1 ||| r.1, r.2) else acc
      | none => acc
    let base := acc.2.devRead (64 * line) 64
    let l : AtomicLine :=
      { cluster := cluster, context := ctx, line := line, base := base.map Prod.fst, delta := fill 64 0
        fp := fp, wide := wide, phase := phase
        basePoison := (List.range 2).filter fun q => ((base.drop (32 * q)).take 32).any Prod.snd
        poison := [] }
    let s := seeDev queue (64 * line) 64 acc.2
    (acc.1, { s with mem := { s.mem with lines := s.mem.lines ++ [l] } })
  match s.mem.lines.find? mine with
  | none => fresh (0, s)
  | some l =>
    if l.fp = fp && l.wide = wide && l.phase = phase then (0, s)
    else
      let r := flushLine l s
      fresh r

/-- Add one element into a cluster-cache line that holds it whole. -/
def lineAdd (cluster ctx queue d e : Nat) (fp wide poison : Bool) (s : State) : Nat × State :=
  let n := destBytes wide
  let o := d % 64
  let r := touchLine cluster ctx queue (d / 64) (o % n) fp wide s
  match r.2.mem.lines.find? fun l => l.cluster = cluster && l.context = ctx && l.line = d / 64 with
  | none => r
  | some l =>
    let a := addElem fp wide (numAt l.delta o n) e false
    let l' := { l with
      delta := l.delta.take o ++ leBytes a.1 n ++ l.delta.drop (o + n)
      poison := if poison then addOnce l.poison (o / 32) else l.poison }
    (r.1 ||| (if poison then 0 else a.2),
      { r.2 with mem := { r.2.mem with
          lines := r.2.mem.lines.map fun x =>
            if x.cluster = cluster && x.context = ctx && x.line = d / 64 then l' else x } })

/-- Adds of successive elements in the cluster cache; the flags of all. -/
def lineAdds (cluster ctx queue : Nat) (fp wide poison : Bool) : Nat → List Nat → State → Nat × State
  | _, [], s => (0, s)
  | d, e :: r, s =>
    let x := lineAdd cluster ctx queue d e fp wide poison s
    let y := lineAdds cluster ctx queue fp wide poison (d + destBytes wide) r x.2
    (x.1 ||| y.1, y.2)

/-- Base plus delta of the element at offset `o` of a line, formed with one rounding. -/
def AtomicLine.sum (l : AtomicLine) (o : Nat) : Nat :=
  let n := destBytes l.wide
  if l.wide then
    let z := toSigned 64 (numAt l.base o n) + toSigned 64 (numAt l.delta o n)
    ofSigned 64 (max (-(2 ^ 63 : Nat)) (min z (2 ^ 63 - 1 : Nat)))
  else (addElem l.fp false (numAt l.base o n) (numAt l.delta o n) false).1

/-- A byte as a tile of a cluster reads it: base plus delta where the cluster holds the line (R251). -/
def State.clusterByte (s : State) (cluster ctx d : Nat) : Byte × Bool :=
  match s.mem.lines.find? fun l => l.cluster = cluster && l.context = ctx && l.line = d / 64 with
  | none => s.devByte d
  | some l =>
    let n := destBytes l.wide
    let x := d % 64
    let o := x - (x - l.phase) % n
    let b := if l.places.contains o then (leBytes (l.sum o) n).getD (x - o) 0 else l.base.getD x 0
    (b, l.poison.contains (x / 32) || l.basePoison.contains (x / 32))

/-! ### Errors and retirement (R252 to R254) -/

/-- A page qualifies: its copy into the lowest free spare begins, unless it is already under retirement or no spare
is left (R253). A spare page that is retired is no longer free. -/
def beginRetire (c page cause : Nat) (s : State) : State :=
  let ch := s.chan c
  if ch.retiring.any (fun r => r.page = page) || ch.map.any (fun p => p.1 = page) then s
  else
    match (List.range 64).find? fun j => !ch.sparesUsed.contains j && spareCode j ≠ page with
    | some j => s.updChan c fun ch => Chan.noteHigh 0 { ch with
        retiring := ch.retiring ++ [⟨page, j, cause⟩]
        sparesUsed := (if page < 0x80000000 then ch.sparesUsed else addOnce ch.sparesUsed (page - 0x80000000)) ++ [j] }
    | none =>
      if ch.exhaustedRaised then s
      else raise 0x6004 c (s.updChan c fun ch => { ch with exhaustedRaised := true, stExhausted := true })

/-- A corrected sector: counted, and its page retired at MEM_CE_RETIRE distinct sectors (R252, R253). `raw` is the raw
address, `page` the page that holds it. -/
def foundCe (c raw page : Nat) (s : State) : State :=
  let s := s.updChan c fun ch => { ch with ce := bump ch.ce, ceSectors := addOnce ch.ceSectors (raw / 32) }
  let base := s.pageRaw page
  let n := ((s.chan c).ceSectors.filter fun x => base ≤ 32 * x && 32 * x < base + 65536).length
  if s.im.mem.ceRetire ≤ n then beginRetire c page 2 s else s

/-- An uncorrectable sector: written back poisoned, unless it has been written whole meanwhile; counted, raised once per page per
revolution (R252). -/
def foundUe (c raw page : Nat) (stale retire : Bool) (s : State) : State :=
  let s := if stale then s else s.setPoison (rawKeyOf c raw / 32) true
  let again := (s.chan c).ueRaised.contains page
  let s := s.updChan c fun ch => { ch with ue := bump ch.ue, stUe := true, ueRaised := addOnce ch.ueRaised page }
  let s := if again then s else raiseFull 0x6001 c none page s
  if retire then beginRetire c page 1 s else s

/-- A transfer that link ECC corrected: counted, and no retirement event (R252). -/
def foundLink (c : Nat) (s : State) : State := s.updChan c fun ch => { ch with linkCe := bump ch.linkCe }

/-- What is found in the sector at a channel offset (R242, R252). -/
def foundAt (c off : Nat) (e : Ecc) (stale : Bool) (s : State) : State :=
  let page := (s.chan c).pageOf off
  let raw := s.pageRaw page + off % 65536
  match e with
  | .clean => s
  | .linkCorrected => foundLink c s
  | .corrected => foundCe c raw page s
  | .uncorrectable => foundUe c raw page stale true s

/-- Log a retirement (R254). -/
def logRetirement (c spare cause page : Nat) (s : State) : State :=
  let body := [BitVec.ofNat 8 c, BitVec.ofNat 8 spare, BitVec.ofNat 8 cause, 0] ++ leBytes page 4
    ++ leBytes s.devCount 8 ++ leBytes s.round.rev 4
  let r := appendLog 1 body s
  match r.1 with
  | some _ => r.2
  | none =>
    let s := { r.2 with mem := { r.2.mem with stUnlogged := true } }
    if s.start.unloggedRaised then s
    else raise 0x6006 c { s with start := { s.start with unloggedRaised := true } }

/-- Copy a page's bytes and poison into a spare page. -/
def copyPage (c page spare : Nat) (s : State) : State :=
  let a := rawKeyOf c (s.pageRaw page)
  let b := rawKeyOf c (s.pageRaw (spareCode spare))
  let moved := s.mem.cells.filter fun x => a ≤ x.1 && x.1 < a + 65536
  let tags := s.mem.poison.filter fun k => a ≤ 32 * k && 32 * k < a + 65536
  { s with mem := { s.mem with
      cells := moved.foldl (fun m x => cellSet 0#8 m (x.1 - a + b) x.2) (clearRange s.mem.cells b 65536)
      poison := tags.foldl (fun l k => addOnce l (k - a / 32 + b / 32))
        (s.mem.poison.filter fun k => 32 * k < b || b + 65536 ≤ 32 * k) } }

/-- One sector's finding while a page is copied (R253): a sector that reads as poison is counted nowhere. -/
def copyFinding (c spare page : Nat) (e : EccAt) (s : State) : State :=
  let raw := s.pageRaw (spareCode spare) + 32 * e.sector
  if e.sector ≥ 2048 then s
  else
    match e.finding with
    | .clean => s
    | .linkCorrected => foundLink c s
    | .corrected =>
      if s.mem.poison.contains (rawKeyOf c raw / 32) then s else s.updChan c fun ch => { ch with ce := bump ch.ce }
    | .uncorrectable =>
      let s := s.setPoison (rawKeyOf c raw / 32) true
      let again := (s.chan c).ueRaised.contains page
      let s := s.updChan c fun ch => { ch with ue := bump ch.ue, stUe := true, ueRaised := addOnce ch.ueRaised page }
      if again then s else raiseFull 0x6001 c none page s

/-! ### Requests -/

/-- The bytes of a request that no memory in service answers: poisoned (R244, R257). -/
def poisonData (r : Req) : List (Byte × Bool) :=
  (List.range r.len).map fun i => (Config.freeByte (r.dev.getD 0 + i), true)

/-- A store of a command is acknowledged, with the flags of an add (R250, R121). -/
def storeDone (r : Req) (w : Nat) (s : State) : State :=
  let s := s.updCmd r.tile r.slot r.cmd fun c => { c with stores := c.stores - 1 }
  if (s.task r.tile r.slot).state.live then s.taskFlags r.tile r.slot w else s

/-- A load's bytes are acknowledged (R336). -/
def loadDone (id : Nat) (s : State) : State :=
  { s with part := { s.part with
      parcels := s.part.parcels.map fun p => if p.id = id then { p with loadsLeft := p.loadsLeft - 1 } else p } }

/-- Bytes land in a tile's SRAM as a read response: written, a poisoned sector's bytes tagging their lines, full and
empty bits of held words unchanged (R126, R173). -/
def landBytes (t dst : Nat) (bs : List (Byte × Bool)) (s : State) : State :=
  let s := s.sramWrite t dst (bs.map Prod.fst)
  (List.range bs.length).foldl (fun s i => if (bs.getD i (0, false)).2 then s.tagLine t (dst + i) true else s) s

/-- The part of an answer that a landing takes. -/
def Landing.part (l : Landing) (data : List (Byte × Bool)) : List (Byte × Bool) := (data.drop l.src).take l.len

/-- A read of data rows answers: every landing of a task that still runs takes its bytes. -/
def landRead (r : Req) (land : List Landing) (data : List (Byte × Bool)) (s : State) : State :=
  land.foldl (fun s l =>
    if (s.task r.tile l.slot).state.live then landBytes r.tile l.dst (l.part data) s else s) s

/-- A read of an index stream answers: the command's GE keeps the bytes. -/
def landIndex (r : Req) (land : List Landing) (data : List (Byte × Bool)) (s : State) : State :=
  s.updCmd r.tile r.slot r.cmd fun c =>
    if c.phase = .indexing then { c with chunks := c.chunks ++ land.map fun l => (l.dst, l.part data) } else c

/-- The words of a command arrive (R113). -/
def landCommand (r : Req) (data : List (Byte × Bool)) (s : State) : State :=
  s.updCmd r.tile r.slot r.cmd fun c =>
    if c.phase = .reading then
      { c with words := toWords (data.map Prod.fst) 16, badWords := data.any Prod.snd, phase := .read }
    else c

/-- Sectors of a row arrive at the FSU: a poisoned byte poisons it. -/
def landSectors (row off : Nat) (data : List (Byte × Bool)) (s : State) : State :=
  { s with fs := { s.fs with resps := s.fs.resps.map fun x =>
      if x.id = row && x.pending ≠ 0 then
        { x with
          pending := x.pending - 1
          bytes := (List.range x.bytes.length).map fun i =>
            let b := x.bytes.getD i (0, false)
            (b.1, b.2 || (off ≤ i && (data.getD (i - off) (0, false)).2)) }
      else x } }

/-- The answer to a read. -/
def answerRead (r : Req) (data : List (Byte × Bool)) (s : State) : State :=
  match r.kind with
  | .fetch land => landRead r land data s
  | .index land => landIndex r land data s
  | .command => landCommand r data s
  | .sectors row off => landSectors row off data s
  | .row _ | .metered | .seen | .store _ _ | .add _ _ _ _ | .cached _ _ _ _ | .written _ | .load _ _ => s

/-- The acknowledgement of a write, with the flags of an add. -/
def ackWrite (r : Req) (w : Nat) (s : State) : State :=
  match r.kind with
  | .store _ _ | .add _ _ _ _ | .cached _ _ _ _ => storeDone r w s
  | .written (some key) => countWrites key (-1) s
  | .load id _ => loadDone id s
  | .fetch _ | .index _ | .command | .row _ | .metered | .sectors _ _ | .seen
  | .written none => s

/-- A request that no memory in service serves: a read is answered poisoned, a write is acknowledged and discarded. -/
def discardAck (r : Req) (s : State) : State := ackWrite r 0 (answerRead r (poisonData r) s)

/-- A request outside every region of its context, or not permitted: counted and answered at its cluster (R243, R244). -/
def answerOutside (r : Req) (s : State) : State :=
  discardAck r (if r.tile < 4096 then s.countOutside (clusterOfTile r.tile) else s)

/-- An admitted request goes on: a row to the FSU, an add to the cluster cache, the others to their channel. -/
def enqueueReq (r : Req) (s : State) : State :=
  match r.kind with
  | .metered => s
  | .row q => { s with fs := { s.fs with reqs := s.fs.reqs ++ [{ q with since := s.now }] } }
  | .cached es fp wide poison =>
    match r.dev with
    | none => answerOutside r s
    | some d =>
      let x := lineAdds (clusterOfTile r.tile) r.context r.queue fp wide poison d es s
      ackWrite r x.1 x.2
  | .fetch _ | .index _ | .command | .sectors _ _ | .seen | .store _ _ | .add _ _ _ _ | .written _ | .load _ _ =>
    if r.dev.isNone then answerOutside r s else pushReq r s

/-- Issue a request of a partition: counted and queued at once where the partition is unmetered, else waiting at the
regulator (R258). -/
def issueReq (r : Req) (s : State) : State :=
  if 32 ≤ r.queue then enqueueReq r s
  else if (s.partEntry r.queue).rate = 0 then
    enqueueReq r { s with mem := { s.mem with
      regs := tupd s.mem.regs r.queue {} fun g => { g with bytes := satAdd 64 g.bytes r.len } } }
  else { s with mem := { s.mem with
      regs := tupd s.mem.regs r.queue {} fun g => { g with waiting := g.waiting ++ [r] } } }

def issueReqs (rs : List Req) (s : State) : State := rs.foldl (fun s r => issueReq r s) s

/-! ### Service at a controller (R248) -/

/-- The bytes of a request as they stand at its controller: a tile reads its cluster's atomic lines (R251). -/
def State.reqBytes (s : State) (r : Req) (d : Nat) : List (Byte × Bool) :=
  (List.range r.len).map fun i =>
    if r.tile < 4096 then s.clusterByte (clusterOfTile r.tile) r.context (d + i) else s.devByte (d + i)

/-- What serving a request does: a read takes its data in arrival order, a write enters the write-combining buffer and is
acknowledged, an add is performed, its read in a reserved slot. -/
def serveNow (c : Nat) (r : Req) (d : Nat) (s : State) : List (Byte × Bool) × State :=
  match r.kind with
  | .fetch _ | .index _ | .command | .sectors _ _ => (s.reqBytes r d, s)
  | .store bs poison => ([], ackWrite r 0 (devWrite d bs poison s))
  | .written _ => ([], ackWrite r 0 s)
  | .load _ bs => ([], ackWrite r 0 (devWrite d bs false s))
  | .add es fp wide poison =>
    let off := devOff d / 32 * 32
    let x := memAdds fp wide poison d es (reservedRead c off (roundUp (devOff d - off + r.len) 32) s)
    ([], ackWrite r x.1 x.2)
  | .row _ | .metered | .seen | .cached _ _ _ _ => ([], s)

/-- Do two requests touch one aligned 64-byte line of a channel? -/
def Req.touches (a b : Req) : Bool :=
  match a.dev, b.dev with
  | some x, some y =>
    devOff x / 64 < (devOff y + b.len + 63) / 64 && devOff y / 64 < (devOff x + a.len + 63) / 64
  | _, _ => false

/-- Does a request write through the write-combining buffer? -/
def Req.writes (r : Req) : Bool :=
  match r.kind with
  | .store _ _ | .add _ _ _ _ | .written _ | .load _ _ => true
  | .fetch _ | .index _ | .command | .row _ | .metered | .sectors _ _ | .seen | .cached _ _ _ _ => false

/-- Is it an add at the memory-side adders? -/
def Req.isAdd (r : Req) : Bool :=
  match r.kind with
  | .add _ _ _ _ => true
  | .fetch _ | .index _ | .command | .row _ | .metered | .sectors _ _ | .seen | .store _ _ | .cached _ _ _ _
  | .written _ | .load _ _ => false

/-- Is a request held: its page is under retirement (R253), an earlier one that is held touches its line (R248), the
write-combining buffer has no room for it, or no reserved slot is free for the read of an add? -/
def Chan.holds (ch : Chan) (earlier : List Slot) (r : Req) (d : Nat) : Bool :=
  ch.holding (devOff d) || (earlier.any fun x => x.held && x.req.touches r) || (r.writes && ch.wcbFull (devOff d / 64))
    || (r.isAdd && !ch.reservedFree)

/-- A controller has accepted a request: it takes a slot, and is served or held. -/
def serveReq (c : Nat) (r : Req) (s : State) : State :=
  match r.dev with
  | none => s
  | some d =>
    if !s.inService c then discardAck r s
    else if (s.chan c).holds (s.chan c).slots r d then takeSlot c { req := r, held := true } s
    else
      let x := serveNow c r d s
      takeSlot c { req := r, data := x.1 } x.2

/-- The held request in slot `i` is served if it can be. -/
def resumeSlot (c : Nat) (s : State) (i : Nat) : State :=
  match (s.chan c).slots[i]? with
  | none => s
  | some x =>
    match x.held, x.req.dev with
    | true, some d =>
      if (s.chan c).holds ((s.chan c).slots.take i) x.req d then s
      else
        let y := serveNow c x.req d s
        y.2.updChan c fun ch => { ch with slots := listSet ch.slots i { x with data := y.1, held := false } }
    | _, _ => s

/-- Held requests are served in arrival order, as far as they can be. -/
def resumeHeld (c : Nat) (s : State) : State := (List.range (s.chan c).slots.length).foldl (resumeSlot c) s

/-- May a request at the head of its queue be taken: no request that touches one of its lines arrived before it (R248)? -/
def Chan.eligible (ch : Chan) (r : Req) : Bool :=
  ch.queues.all fun p => p.2.all fun x => r.seq ≤ x.seq || !x.touches r

/-- First queue from queue `i` on, among `n`, whose head can be taken. -/
def Chan.nextQueue (ch : Chan) : Nat → Nat → Option (Nat × Req)
  | 0, _ => none
  | n + 1, i =>
    match tget ch.queues (i % 33) [] with
    | r :: _ => if ch.eligible r then some (i % 33, r) else ch.nextQueue n (i + 1)
    | [] => ch.nextQueue n (i + 1)

/-- MEMORY_REQUEST_ACCEPT: the next queue in turn gives its oldest request a free slot of the 112 (R247). -/
def doMemoryRequestAccept (c : Nat) (s : State) : State :=
  let ch := s.chan c
  if 112 ≤ ch.requests then s
  else
    match ch.nextQueue 33 ch.turn with
    | none => s
    | some (q, r) =>
      serveReq c r (s.updChan c fun ch => { ch with
        queues := tupd ch.queues q [] (List.drop 1), turn := (q + 1) % 33 })

/-- Findings on the sectors of a read; `stale` names those written whole meanwhile. -/
def foundSectors (c off : Nat) (stale : List Nat) : List Ecc → State → State
  | [], s => s
  | e :: r, s => foundSectors c (off + 32) stale r (foundAt c off e (stale.contains (off / 32)) s)

/-- Poison that a read's own findings add to its data. -/
def withFindings (off : Nat) (ecc : List Ecc) (data : List (Byte × Bool)) : List (Byte × Bool) :=
  (List.range data.length).map fun i =>
    let x := data.getD i (0, false)
    (x.1, x.2 || ecc.getD ((off + i) / 32 - off / 32) .clean = .uncorrectable)

/-- MEMORY_READ_DONE: the data of the read in a slot arrives, is decoded and answers its requester; held while its page is under
retirement (R252, R253). -/
def doMemoryReadDone (c slot : Nat) (ecc : List Ecc) (s : State) : State :=
  match (s.chan c).slots[slot]? with
  | none => s
  | some x =>
    match x.req.dev with
    | none => s
    | some d =>
      let off := devOff d
      if x.held || x.req.writes || (s.chan c).holding off then s
      else
        let n := (off + x.req.len + 31) / 32 - off / 32
        let s := s.updChan c fun ch => { ch with
          slots := dropAt ch.slots slot, rdBytes := satAdd 64 ch.rdBytes (32 * n) }
        let s := foundSectors c (off / 32 * 32) x.stale (ecc.take n) s
        resumeHeld c (answerRead x.req (withFindings off ecc x.data) s)

/-- WRITE_TO_DEVICE_DONE: a write whose lines have left the write-combining buffer frees its slot (R247). -/
def doWriteToDeviceDone (c slot : Nat) (s : State) : State :=
  match (s.chan c).slots[slot]? with
  | none => s
  | some x =>
    match x.req.dev with
    | none => s
    | some d =>
      let off := devOff d
      let lines := (List.range ((off % 64 + x.req.len + 63) / 64)).map fun i => off / 64 + i
      if x.held || !x.req.writes || lines.any (fun l => ((s.chan c).wcbAt l).isSome) then s
      else s.updChan c fun ch => { ch with slots := dropAt ch.slots slot }

/-- The entries of a page leave the write-combining buffer, for the spare that now holds it (R266). -/
def evictPage (c code : Nat) (s : State) : State :=
  ((s.chan c).wcb.filter fun w => (s.chan c).pageOf (64 * w.line) = code).foldl (fun s w => evictLine c w.line s) s

/-- RETIREMENT_COPY_DONE: the oldest page under retirement of a channel is copied, remapped, released and logged. -/
def doRetirementCopyDone (c : Nat) (ecc : List EccAt) (s : State) : State :=
  match (s.chan c).retiring with
  | [] => s
  | r :: rest =>
    let s := copyPage c r.page r.spare s
    let s := ecc.foldl (fun s e => copyFinding c r.spare r.page e s) s
    let bad := ecc.filter fun e => e.finding = .uncorrectable
    let s := s.updChan c fun ch => { ch with
      slots := ch.slots.map fun x =>
        match x.req.dev with
        | some d =>
          if ch.pageOf (devOff d) = r.page then
            { x with data := (List.range x.data.length).map fun i =>
                let y := x.data.getD i (0, false)
                (y.1, y.2 || bad.any fun e => e.sector = (devOff d + i) % 65536 / 32) }
          else x
        | none => x }
    let s := s.updChan c fun ch => { ch with
      retiring := rest
      map := ch.map ++ [(r.page, r.spare)]
      retiredPages := min (ch.retiredPages + 1) 127
      stRetired := true }
    let s := { s with mem := { s.mem with retTable := s.mem.retTable ++ [⟨c, r.spare, r.cause, r.page⟩] } }
    let s := evictPage c (spareCode r.spare) s
    resumeHeld c (logRetirement c r.spare r.cause r.page (raiseFull 0x6002 c none r.page s))

/-- WCB_IDLE_EVICTION: every entry without a write for 2 µs is evicted (R249). -/
def doWcbIdleEviction (c : Nat) (s : State) : State :=
  resumeHeld c (((s.chan c).wcb.filter fun w => w.last + 2000 ≤ s.now).foldl (fun s w => evictLine c w.line s) s)

/-- REGULATOR_ADMIT: the oldest waiting request is admitted when the tokens hold its size (R258). -/
def doRegulatorAdmit (p : Nat) (s : State) : State :=
  let g := tget s.mem.regs p {}
  match g.waiting with
  | [] => s
  | r :: rest =>
    if (s.partEntry p).rate ≠ 0 && g.tokens < 10 * r.len then s
    else
      let g' := { g with tokens := g.tokens - 10 * r.len, bytes := satAdd 64 g.bytes r.len, waiting := rest }
      enqueueReq r { s with mem := { s.mem with regs := tset s.mem.regs p g' } }

/-- REFRESH: a bank of a channel in service is refreshed; nothing a reader can see changes (R256). -/
def doRefresh (c : Nat) (s : State) : State :=
  if s.inService c then s.updChan c fun ch => { ch with refreshes := ch.refreshes + 1 } else s

/-- Sectors a scrub pass reads: the data region, then the spare pages. -/
def State.scrubSectors (s : State) : Nat := s.im.dataBytes / 32 + 64 * 2048

/-- SCRUB_READ: the next sector of a channel in service is read under R252 and R253, in a reserved slot (R256). -/
def doScrubRead (c : Nat) (e : Ecc) (s : State) : State :=
  if !s.inService c || !(s.chan c).reservedFree then s
  else
    let i := (s.chan c).scrubAt
    let data := s.im.dataBytes / 32
    let raw := if i < data then 32 * i else s.spareBase + 32 * (i - data)
    let page := if i < data then 32 * i / 65536 else spareCode ((i - data) / 2048)
    let s := s.updChan c fun ch => Chan.noteHigh 1 { ch with
      scrubAt := (i + 1) % s.scrubSectors, sr := false, idleSince := s.now, rdBytes := satAdd 64 ch.rdBytes 32 }
    match e with
    | .clean => s
    | .linkCorrected => foundLink c s
    | .corrected => foundCe c raw page s
    | .uncorrectable => foundUe c raw page false true s

/-- Is the condition of R256 met that lets channels enter self-refresh: no claim, no parcel, no letter, no service? -/
def State.quiet (s : State) : Bool :=
  s.lehr.claims.all (fun p => p.2 = 0) && s.part.parcels.isEmpty && s.part.letters.isEmpty && s.fs.reqs.isEmpty
    && s.fs.entries.isEmpty

/-- SELF_REFRESH_ENTRY (R256). -/
def doSelfRefreshEntry (c : Nat) (s : State) : State :=
  let ms := s.im.mem.srIdleMs
  let since := max (s.chan c).idleSince s.part.lastBusy
  if s.inService c && ms ≠ 0 && s.quiet && since + ms * 1000000 ≤ s.now && (s.chan c).slots.isEmpty
      && (s.chan c).queues.all (fun q => q.2.isEmpty) then
    s.updChan c fun ch => { ch with sr := true }
  else s

/-! ### Traffic generator (R260) -/

/-- Is a channel held out of service, so that its controls can be written? -/
def State.heldOut (s : State) (c : Nat) : Bool := c < 64 && 2 ≤ (s.chan c).state

/-- Write the control word of a channel's generator: mode and pattern, and MEM_TG_GO, which starts or stops a run. -/
def tgControl (c w : Nat) (s : State) : State :=
  s.updChan c fun ch =>
    let g := { ch.tg with mode := bits w 1 2, pattern := bits w 3 2, go := bit w 0 }
    let g :=
      if bit w 0 && !ch.tg.busy then
        { g with
          busy := true, passesDone := 0, errors := 0, firstErr := 0, ce := 0
          run := { mode := g.mode, pattern := g.pattern, seed := g.seed, base := g.base, len := g.len, passes := g.passes } }
      else g
    { ch with tg := g }

/-- TG_START: a write of the control word that sets MEM_TG_GO. -/
def doTgStart (r c : Nat) (w : BitVec 32) (s : State) : State :=
  if r < 128 && !s.start.pcieUp then s
  else if r = 0 && s.heldOut c && bit w.toNat 0 then tgControl c w.toNat s else markDiscarded r s

/-- TG_STOP: a write of the control word that clears MEM_TG_GO. -/
def doTgStop (r c : Nat) (w : BitVec 32) (s : State) : State :=
  if r < 128 && !s.start.pcieUp then s
  else if r = 0 && s.heldOut c && !bit w.toNat 0 then tgControl c w.toNat s else markDiscarded r s

/-- Bytes a run covers. -/
def TgRun.bytes (r : TgRun) : Nat := 65536 * r.len

/-- The generator after a run: passes up to MEM_TG_PASSES, counts that saturate, a first mismatch within the bytes covered, and the
pattern left behind by a run that writes. -/
def Tg.ended (g : Tg) (x : TgResult) : Tg :=
  let r := g.run
  let errors := if r.len = 0 then 0 else min x.errors (2 ^ 32 - 1)
  { g with
    go := false, busy := false
    passesDone := min (if r.passes = 0 then x.passes else min x.passes r.passes) 65535
    errors := errors
    firstErr := if errors = 0 then 0 else if r.base ≤ x.firstErr && x.firstErr < r.base + r.bytes then x.firstErr else r.base
    ce := min x.corrected (2 ^ 32 - 1)
    written := if r.mode = 1 || r.len = 0 then g.written else r :: g.written }

/-- TG_RUN_END: the run ends and the checker's results stand in the channel's status. -/
def doTgRunEnd (c : Nat) (x : TgResult) (s : State) : State :=
  if !(s.chan c).tg.busy then s else s.updChan c fun ch => { ch with tg := ch.tg.ended x }

/-! ### Commands -/

/-- WRITE_TO_DEVICE_DONE. -/
def execWriteToDeviceDone (t channel slot : Nat) (s : State) : Host.Outcome State Fault Refusal :=
  .next (doWriteToDeviceDone channel slot (s.advance t))

/-- REFRESH. -/
def execRefresh (t channel bank : Nat) (s : State) : Host.Outcome State Fault Refusal :=
  .next (if bank < 32 then doRefresh channel (s.advance t) else s.advance t)

/-- SCRUB_READ. -/
def execScrubRead (t channel : Nat) (ecc : Ecc) (s : State) : Host.Outcome State Fault Refusal :=
  .next (doScrubRead channel ecc (s.advance t))

/-- SELF_REFRESH_ENTRY. -/
def execSelfRefreshEntry (t channel : Nat) (s : State) : Host.Outcome State Fault Refusal :=
  .next (doSelfRefreshEntry channel (s.advance t))

/-- TG_START. -/
def execTgStart (t requester channel : Nat) (word : BitVec 32) (s : State) : Host.Outcome State Fault Refusal :=
  .next (doTgStart requester channel word (s.advance t))

/-- TG_STOP. -/
def execTgStop (t requester channel : Nat) (word : BitVec 32) (s : State) : Host.Outcome State Fault Refusal :=
  .next (doTgStop requester channel word (s.advance t))

/-- TG_RUN_END. -/
def execTgRunEnd (t channel : Nat) (r : TgResult) (s : State) : Host.Outcome State Fault Refusal :=
  .next (doTgRunEnd channel r (s.advance t))

end Sys2Proof.Machine
end

