-- ==== Sys2Proof/Machine/Net.lean ====
section
/-! DEFINITION. Flits and routes (R295, R300, R315): what a part queues for its ports, and the layouts of sync messages
(Tables 6.2 and 12.4). -/

namespace Sys2Proof.Machine

def State.port (s : State) (n : Nat) : Port := tget s.fab.ports n {}

def State.updPort (n : Nat) (f : Port → Port) (s : State) : State :=
  { s with fab := { s.fab with ports := tupd s.fab.ports n {} f } }

/-- Does a port carry traffic beside control flits? -/
def Port.carries (p : Port) : Bool :=
  match p.state with
  | .up | .retraining => true
  | .dark | .training | .passThrough | .failed | .foreign | .circuitDown => false

/-- Ports to parts below this one in the release tree that carry traffic. -/
def State.childPorts (s : State) : List Nat :=
  (List.range 16).filter fun n => (s.port n).child && (s.port n).carries

/-- Direct circuits to a part, in port order. -/
def State.directPorts (s : State) (dst : Nat) : List Nat :=
  (List.range 16).filter fun n => (s.port n).farDevice = dst && (s.port n).carries

/-- Quarantined: neither sends nor accepts data and sync flits (R308). -/
def State.quarantined (s : State) : Bool := s.fab.role = 3

/-- The port of the tree towards a part (R300): its down-table entry, else the active parent. -/
def State.treePort (s : State) (dst : Nat) : Nat := tget s.fab.down dst s.fab.parentActive

/-- The port of a flit that originates here: a direct circuit where one is up, VC1 over the lowest, the others by
cluster (R300, R315). -/
def State.routeFor (s : State) (vc cluster dst : Nat) : Nat :=
  let ds := s.directPorts dst
  if ds.isEmpty then s.treePort dst
  else ds.getD (if vc = 1 then 0 else cluster % ds.length) 0

/-- The sub-header of a data flit (Table 12.2); `poison` has a bit for each sector. -/
def dfHead (addr ctx kind cluster tile poison table sub tag : Nat) : List Byte :=
  leBytes (addr % 2 ^ 48 + ctx % 128 * 2 ^ 48 + kind % 8 * 2 ^ 55) 8
    ++ leBytes (cluster % 64 + tile % 64 * 2 ^ 6 + poison % 128 * 2 ^ 12 + table % 256 * 2 ^ 19 + sub % 32 * 2 ^ 27
      + tag % 2 ^ 32 * 2 ^ 32) 8

/-- FAB_DF_POISON of up to 7 sectors of 32 bytes: a sector with a poisoned byte is poisoned. -/
def sectorPoison (bs : List (Byte × Bool)) : Nat :=
  (List.range 7).foldl (fun n i => if ((bs.drop (32 * i)).take 32).any Prod.snd then setBit n i else n) 0

/-- Credits of a receive buffer are owed to the sender again. -/
def oweCredits (port vc k : Nat) (s : State) : State :=
  s.updPort port fun p => { p with returned := tupd p.returned vc 0 fun n => n + k }

/-- A forwarded flit leaves the receive buffer it came in by (R298). -/
def leaveBuffer (f : Flit) (s : State) : State :=
  match f.origin with
  | some (port, vc, k) => oweCredits port vc k s
  | none => s

/-- Queue a flit at a port's virtual channel; control flits wait apart, under number 4. -/
def queueFlit (port : Nat) (f : Flit) (s : State) : State :=
  if 16 ≤ port || (s.quarantined && f.type ≠ 3) then leaveBuffer f s
  else s.updPort port fun p =>
    { p with queues := tupd p.queues (if f.type = 3 then 4 else f.vc) [] fun q => q ++ [f] }

/-- Send a flit that originates here to an admitted member; to another it is not sent (R300). A reply with a credit reserved goes
out on it. -/
def sendReply (hold : Option Nat) (type vc cluster dst count : Nat) (payload : List Byte) (s : State) : State :=
  if !s.admitted dst then s
  else queueFlit (s.routeFor vc cluster dst)
    { type := type, vc := vc, dst := dst, src := s.deviceId, hops := 0, count := count, payload := payload, hold := hold } s

/-- Send a flit that is no reply. -/
def sendFlit (type vc cluster dst count : Nat) (payload : List Byte) (s : State) : State :=
  sendReply none type vc cluster dst count payload s

/-- Queue a sync flit of one or two messages on a port, for the part at its far end. -/
def sendSyncOn (port count : Nat) (payload : List Byte) (s : State) : State :=
  queueFlit port
    { type := 2, vc := 1, dst := (s.port port).farDevice, src := s.deviceId, hops := 0, count := count
      payload := payload } s

/-- Queue sync messages on every port to a child. -/
def toChildren (count : Nat) (payload : List Byte) (s : State) : State :=
  s.childPorts.foldl (fun s n => sendSyncOn n count payload s) s

/-- The 16 bytes of a sync message (Table 6.2). -/
def syncBytes (m : SyncMsg) : List Byte :=
  leBytes (m.kind % 16 + m.device % 2 ^ 11 * 2 ^ 4 + m.cluster % 64 * 2 ^ 15 + m.tile % 64 * 2 ^ 21
      + m.index % 512 * 2 ^ 27 + m.level % 8 * 2 ^ 36 + m.context % 128 * 2 ^ 39 + m.gen % 65536 * 2 ^ 46
      + flag m.abort * 2 ^ 62) 8
    ++ leBytes m.payload 8

/-- A sync message from its 16 bytes. -/
def syncOfBytes (bs : List Byte) : SyncMsg :=
  let w := numAt bs 0 8
  { kind := bits w 0 4, device := bits w 4 11, cluster := bits w 15 6, tile := bits w 21 6, index := bits w 27 9
    level := bits w 36 3, context := bits w 39 7, gen := bits w 46 16, abort := bit w 62, payload := numAt bs 8 8 }

/-- ROUND_MARK in one slot, or in two for tooth 0 (Table 12.4, R313). -/
def markBytes (m : MarkMsg) : List Byte :=
  let w := fun tooth => 8 + m.master % 2 ^ 11 * 2 ^ 4 + tooth % 256 * 2 ^ 15 + min m.delayNs 65535 * 2 ^ 23
    + m.hops % 8 * 2 ^ 39
  if m.tooth = 0 then leBytes (w 0) 8 ++ leBytes m.rev 8 ++ leBytes (w 255) 8 ++ leBytes m.epoch 8
  else leBytes (w m.tooth) 8 ++ leBytes 0 8

def beaconBytes (m : BeaconMsg) : List Byte :=
  leBytes (9 + m.master % 2 ^ 11 * 2 ^ 4 + m.epoch % 2 ^ 32 * 2 ^ 15 + m.memberGen % 2 ^ 16 * 2 ^ 47) 8
    ++ leBytes m.masterTime 8

def memberBytes (m : MemberMsg) : List Byte :=
  leBytes (10 + m.master % 2 ^ 11 * 2 ^ 4 + m.device % 2 ^ 11 * 2 ^ 15 + m.change % 4 * 2 ^ 26
      + m.gen % 2 ^ 16 * 2 ^ 28) 8
    ++ leBytes m.serial 8

def reconfBytes (m : ReconfMsg) : List Byte :=
  leBytes (11 + m.master % 2 ^ 11 * 2 ^ 4 + m.plan % 16 * 2 ^ 15 + m.angle % 2 ^ 16 * 2 ^ 19) 8 ++ leBytes m.rev 8

/-- Send a sync message: on this part it is in flight at once, to another part it goes on VC1 (R153). -/
def sendSync (cluster : Nat) (m : SyncMsg) (s : State) : State :=
  if m.device = s.deviceId then { s with sync := { s.sync with flight := s.sync.flight ++ [m] } }
  else sendFlit 2 1 cluster m.device 1 (syncBytes m) s

end Sys2Proof.Machine
end

