-- ==== Sys2Proof/Machine/Slots.lean ====
section
/-! DEFINITION. Event slots: arming, deferring and refusing (R47 to R49), and the owners' requests that other units
make (R301, R335). -/

namespace Sys2Proof.Machine

/-- What became of a request, as its owner is told. -/
inductive Armed where
  | slot (n : Nat)
  | deferred
  | refused
deriving DecidableEq, Repr

def State.evSlot (s : State) (n : Nat) : EvSlot := tget s.round.slots n {}

def State.setSlot (n : Nat) (e : EvSlot) (s : State) : State :=
  { s with round := { s.round with slots := tset s.round.slots n e } }

/-- First slot and number of slots of an owner's range (R48). -/
def slotRange (owner : Nat) : Nat × Nat :=
  if owner = 0 then (0, 8) else if owner = 2 then (8, 4) else if owner = 3 then (12, 4) else (16, 48)

/-- The lowest FREE slot of an owner's range. -/
def State.freeSlot (s : State) (owner : Nat) : Option Nat :=
  ((List.range (slotRange owner).2).map fun i => (slotRange owner).1 + i).find? fun n =>
    (s.evSlot n).state = .free

/-- Revolution in which a request's angle comes next, or the one it names. -/
def State.targetRev (s : State) (q : ArmReq) : Nat :=
  if q.next then (if s.round.angle < q.angle then s.round.rev else (s.round.rev + 1) % 2 ^ 32) else q.rev

/-- Has a revolution and angle been reached? Revolutions compare as plain numbers, also where the counter is about to wrap
(DESIGN CHOICE, assumption log, entry 88). -/
def State.reached (s : State) (rev angle : Nat) : Bool :=
  rev * 65536 + angle ≤ s.round.rev * 65536 + s.round.angle

/-- Arm slot `n` for a request. -/
def armIn (n : Nat) (q : ArmReq) (s : State) : State :=
  s.setSlot n
    { angle := q.angle, offset := q.offset, owner := q.owner, state := .armed, tag := q.tag, rev := q.rev
      next := q.next, due := s.targetRev q, fireAt := 0 }

/-- A request for a slot (R48, R49). -/
def takeRequest (q : ArmReq) (s : State) : Armed × State :=
  if !s.angleValid then (.refused, s)
  else if !q.next && s.reached q.rev q.angle then
    (.refused, { s with round := { s.round with armRefused := bump s.round.armRefused } })
  else
    match s.freeSlot q.owner with
    | some n => (.slot n, armIn n q s)
    | none =>
      if q.owner = 1 || q.owner = 4 then
        (.deferred, { s with round := { s.round with
          defers := bump s.round.defers
          deferred := s.round.deferred ++ [⟨q, (s.targetRev q + 1) % 2 ^ 32⟩] } })
      else (.refused, s)

/-- A request by an owner; one made while an edge moves the counter is taken once the move is complete (R49). -/
def requestSlot (q : ArmReq) (s : State) : Armed × State :=
  if s.round.jumping then (.deferred, { s with round := { s.round with waiting := s.round.waiting ++ [q] } })
  else takeRequest q s

/-- A pool slot has become FREE: the oldest deferred request takes it, for its moved target (R48), which it names in RND_EV_REV
with RND_EV_NEXT 0 (DESIGN CHOICE, assumption log, entry 89). -/
def armDeferred (s : State) : State :=
  match s.round.deferred, s.freeSlot 1 with
  | d :: rest, some n =>
    armIn n { d.req with rev := d.rev, next := false } { s with round := { s.round with deferred := rest } }
  | _, _ => s

/-- Return slot `n` to FREE. -/
def releaseSlot (n : Nat) (s : State) : State :=
  let s := s.setSlot n { s.evSlot n with state := .free }
  if 16 ≤ n then armDeferred s else s

/-- Deferred requests whose moved target is reached with no slot free move by one revolution (R48). -/
def moveDeferred (angle : Nat) (s : State) : State :=
  let due := fun (d : Deferred) => d.req.angle = angle && d.rev = s.round.rev
  let n := (s.round.deferred.filter due).length
  { s with round := { s.round with
      defers := satAdd 32 s.round.defers n
      deferred := s.round.deferred.map fun d => if due d then { d with rev := (s.round.rev + 1) % 2 ^ 32 } else d } }

/-! ### Circuit reconfiguration by the master (R301, steps 1 and 2) -/

/-- The first whole-tick angle at least `lead` ns after the present, as ticks from 0.0 of the present revolution. -/
def State.leadTicks (s : State) (lead : Nat) : Nat :=
  let e := (s.round.lastEdge.getD 0).toNat
  s.round.position * 256 + ceilDiv ((s.now + lead - e) * 65536) s.refPeriod

/-- Each part arms the first FREE slot of 8 to 11; one that cannot is told so. -/
def armReconf (plan angle rev : Nat) (s : State) : Armed × State :=
  requestSlot { owner := 2, angle := angle, offset := 0, rev := rev, next := false, tag := plan } s

/-- Raise 0x9007 and leave the plan as it is. -/
def skipReconf (s : State) : State := raise0 0x9007 s

end Sys2Proof.Machine
end

