-- ==== Sys2Proof/Machine/Circuit.lean ====
section
/-! DEFINITION. Circuit plans (R299) and the switch from one to another (R301, step 4). -/

namespace Sys2Proof.Machine

/-- Spine ports (R299). -/
def State.isSpine (s : State) (n : Nat) : Bool :=
  let f := s.im.fab
  bit f.spineMask n || n = f.parentPort || n = f.altParent || (s.port n).child || (s.port n).parentClaimed

/-- Mode and partner that a plan gives port `n`; every port terminated where the image carries no such plan. -/
def Image.planPort (i : Image) (plan n : Nat) : Nat × Nat :=
  match i.plans.find? fun p => p.index = plan with
  | some p => p.ports.getD n (0, 0)
  | none => (0, 0)

/-- Mode of a port in a plan (R299): spine ports are terminated, the partner of a spine port is dark. -/
def State.portMode (s : State) (plan n : Nat) : Nat :=
  if s.isSpine n then 0
  else
    let m := s.im.planPort plan n
    if m.1 = 1 && s.isSpine m.2 then 2 else m.1

/-- Is a port terminated or passed through in some plan (R302, step 1)? -/
def State.litPort (s : State) (n : Nat) : Bool :=
  s.portMode 0 n ≠ 2 || s.im.plans.any fun p => s.portMode p.index n ≠ 2

/-- Ports that a plan leaves failed or foreign. -/
def Port.stuck (p : Port) : Bool :=
  match p.state with
  | .failed | .foreign => true
  | .dark | .training | .up | .passThrough | .retraining | .circuitDown => false

/-- Is the port terminated now? -/
def Port.terminated (p : Port) : Bool :=
  match p.state with
  | .up | .retraining | .circuitDown | .training => true
  | .dark | .passThrough | .failed | .foreign => false

/-- Raise 0x9009 once for each direction that runs on fewer than FAB_PORT_LANES lanes (R294). -/
def noteNarrow (n : Nat) (s : State) : State :=
  let p := s.port n
  let s :=
    if p.widthRx < s.im.fab.portLanes && !p.narrowRx then
      raise 0x9009 n (s.updPort n fun p => { p with narrowRx := true })
    else s
  if p.widthTx < s.im.fab.portLanes && !p.narrowTx then
    raise 0x9009 n (s.updPort n fun p => { p with narrowTx := true })
  else s

/-- Discard a port's unacknowledged flits (R301, R303). -/
def dropReplay (p : Port) : Port :=
  { p with lostFlits := satAdd 32 p.lostFlits p.replay.length, replay := [], resend := none }

/-- A probe control flit for the far end of a circuit (R301): the first payload byte is 4, an answer's 5. -/
def probeFlit (src kind : Nat) : Flit :=
  { type := 3, vc := 0, dst := 0, src := src, hops := 0, count := 0, payload := [BitVec.ofNat 8 kind] }

/-- A newly terminated port: link state fresh, a probe on its way, the lanes of its stored map locked again; PORT_RETRAIN_DONE
tells of a lane that no longer locks. -/
def terminatePort (n : Nat) (s : State) : State :=
  let s := s.updPort n fun p => { dropReplay p with
    state := .training, probing := true, circuitRaised := false
    nextSeq := 0, expectSeq := 0, nakSent := false, nakDue := false, credits := [], returned := [], reserved := 0, landing := 0 }
  noteNarrow n (queueFlit n (probeFlit s.deviceId 4) s)

/-- Flits that wait at a port, control flits aside. -/
def Port.waiting (p : Port) : List Flit := (List.range 4).flatMap fun v => tget p.queues v []

/-- Flits that waited at port `n` follow the tree; they go nowhere where the tree too leads over that port (R300). -/
def reroute (n : Nat) (fs : List Flit) (s : State) : State :=
  fs.foldl (fun s f => if s.treePort f.dst = n then leaveBuffer f s else queueFlit (s.treePort f.dst) f s) s

/-- Flits that wait at a port whose circuit goes away follow the tree (R300). -/
def rerouteQueue (n : Nat) (s : State) : State :=
  reroute n (s.port n).waiting (s.updPort n fun p => { p with queues := [] })

/-- Set one port to its mode in a plan, dark where no plan uses it; one that retrains takes it when the retrain ends (R319). -/
def setPort (plan : Nat) (s : State) (n : Nat) : State :=
  let p := s.port n
  if p.stuck then s
  else
    let m := if s.litPort n then s.portMode plan n else 2
    if p.state = .retraining then s.updPort n fun p => { p with pendingMode := if m = 0 then none else some m }
    else if m = 0 then (if p.terminated then s else terminatePort n s)
    else
      let st : PortState := if m = 1 then .passThrough else .dark
      if p.state = st then s
      else rerouteQueue n (s.updPort n fun p => { dropReplay p with state := st, probing := false })

/-- Set every port to a plan: the part's switch (R301, step 4); the records whose release waits for it are marked. -/
def switchPlan (plan : Nat) (s : State) : State :=
  let s := (List.range 16).foldl (setPort plan) s
  { s with fab := { s.fab with
    plan := plan, switching := none, reconfCount := bump s.fab.reconfCount
    reconfs := s.fab.reconfs.map fun r => if r.2.1 = plan then (r.1, plan, true) else r } }

/-- Are the replay buffers of the ports that are not spine ports empty? -/
def State.drained (s : State) : Bool := (List.range 16).all fun n => s.isSpine n || (s.port n).replay.isEmpty

/-- Make the switch that waits. -/
def completeSwitch (s : State) : State :=
  match s.fab.switching with
  | some x => switchPlan x.1 s
  | none => s

/-- Make the switch that waits once the replay buffers are empty, or 2 µs have passed (R301, step 4). -/
def dueSwitch (s : State) : State :=
  match s.fab.switching with
  | some x => if x.2 ≤ s.now || s.drained then switchPlan x.1 s else s
  | none => s

/-- The part's switch to a plan begins: no new flit leaves on a port that is not a spine port until it is made. -/
def beginSwitch (plan : Nat) (s : State) : State :=
  let s := completeSwitch s
  dueSwitch { s with fab := { s.fab with switching := some (plan, s.now + 2000) } }

/-- Is the part's own switch complete: none waiting, no probe outstanding? -/
def State.switchDone (s : State) : Bool :=
  s.fab.switching.isNone && (List.range 16).all fun n => !(s.port n).probing

end Sys2Proof.Machine
end

