-- ==== Sys2Proof/Machine/Sync.lean ====
section
/-! DEFINITION. Synchronisation: counters (R139 to R141), held-word fills (R149), watches (R151, R152), send firings
(R314), messages (R153) and barriers (R156 to R159). -/

namespace Sys2Proof.Machine

/-! ### Parcels, as faults and flags name them -/

def State.parcel (s : State) (id : Nat) : Option Parcel := s.part.parcels.find? fun p => p.id = id

def State.updParcel (id : Nat) (f : Parcel → Parcel) (s : State) : State :=
  { s with part := { s.part with parcels := s.part.parcels.map fun p => if p.id = id then f p else p } }

/-- Raise a fault that concerns a parcel: its context, and the low 32 bits of its serial as detail. -/
def raiseFor (code unit pid : Nat) (s : State) : State :=
  match s.parcel pid with
  | some p => raiseFull code unit (some p.context) (p.serial % 2 ^ 32) s
  | none => raise code unit s

/-- Raise a fault once per parcel. -/
def raiseOnce (code unit pid : Nat) (s : State) : State :=
  match s.parcel pid with
  | some p =>
    if p.raised.contains code then s
    else raiseFor code unit pid (s.updParcel pid fun p => { p with raised := p.raised ++ [code] })
  | none => s

/-- A report of flags of a task or combine in a cluster (R206, R210). -/
def reportFlags (cluster pid w : Nat) (s : State) : State :=
  let invalid := bit w 0
  let range := bit w 1 || bit w 2
  let s := s.updCluster cluster fun c => { c with
    nfSeen := c.nfSeen ||| w
    nfInvalid := if invalid then bump c.nfInvalid else c.nfInvalid
    nfRange := if range then bump c.nfRange else c.nfRange }
  let s := s.updParcel pid fun p => { p with flags := p.flags ||| w }
  let s := if invalid then raiseOnce 0xB001 cluster pid s else s
  if range then raiseOnce 0xB002 cluster pid s else s

/-! ### Registers of a CSU -/

def State.csu (s : State) (c : Nat) : Csu := tget s.sync.csus c {}

def State.updCsu (c : Nat) (f : Csu → Csu) (s : State) : State :=
  { s with sync := { s.sync with csus := tupd s.sync.csus c {} f } }

/-- A message to a counter or word that no parcel of its context owns is discarded and counted (R153). -/
def staleDrop (cluster : Nat) (s : State) : State :=
  s.updCsu cluster fun c => { c with staleDrops := bump c.staleDrops }

/-- Context of the parcel that an owner code names (0 none, 1 + parcel). -/
def State.ownerContext (s : State) (owner : Nat) : Option Nat :=
  if owner = 0 then none else (s.parcel (owner - 1)).map Parcel.context

def ctrKey (tile n : Nat) : Nat := tile * 48 + n

def State.counter (s : State) (tile n : Nat) : Counter := tget s.sync.counters (ctrKey tile n) {}

/-! ### Barrier records -/

def State.barGen (s : State) (level cluster index : Nat) : Nat :=
  if level = 0 then (tget s.sync.clusterBar (cluster * 16 + index) {}).gen
  else if level = 1 then (tget s.sync.partBar index {}).gen
  else if s.isMaster then (tget s.sync.domBar index {}).gen
  else tget s.sync.domGen index 0

def State.bar (s : State) (level cluster index : Nat) : Barrier :=
  if level = 0 then tget s.sync.clusterBar (cluster * 16 + index) {}
  else if level = 1 then tget s.sync.partBar index {}
  else tget s.sync.domBar index {}

def State.setBar (level cluster index : Nat) (b : Barrier) (s : State) : State :=
  { s with sync :=
      if level = 0 then { s.sync with clusterBar := tset s.sync.clusterBar (cluster * 16 + index) b }
      else if level = 1 then { s.sync with partBar := tset s.sync.partBar index b }
      else { s.sync with domBar := tset s.sync.domBar index b } }

/-- The record of a parcel at a scope on this part, if it has one. -/
def State.recordOf (s : State) (level cluster pid : Nat) : Option Nat :=
  if level = 0 then
    (List.range 16).find? fun k => (s.bar 0 cluster k).active && (s.bar 0 cluster k).parcel = pid
  else if level = 1 then (List.range 128).find? fun k => (s.bar 1 0 k).active && (s.bar 1 0 k).parcel = pid
  else match s.parcel pid with
    | some p => if p.domUsed then some p.domRecord else none
    | none => none

/-! ### Sends (R314) -/

/-- The sectors of a list of bytes with their poison. -/
def sectorsOf : Nat → List (Byte × Bool) → List (List Byte × Bool)
  | 0, _ => []
  | n + 1, bs => ((bs.take 32).map Prod.fst, (bs.take 32).any Prod.snd) :: sectorsOf n (bs.drop 32)

/-- The payload of a send data flit: sub-header of Table 12.2 and up to 7 sectors. The tag carries the done counter and,
in bit 6, the mark of the last flit (DESIGN CHOICE, assumption log, entry 24). -/
def dataPayload (kind addr ctx cluster tile counter : Nat) (last : Bool) (sec : List (List Byte × Bool)) : List Byte :=
  let poison := (List.range sec.length).foldl (fun acc i => if (sec.getD i ([], false)).2 then setBit acc i else acc) 0
  dfHead addr ctx kind cluster tile poison 0 0 (counter + 64 * flag last) ++ sec.flatMap Prod.fst

/-- Queue the data flits of one firing for a member of the domain, 7 sectors each, the first argument bounding their number. -/
def sendFlits (e : Send) : Nat → Nat → List (List Byte × Bool) → State → State
  | 0, _, _, s => s
  | n + 1, addr, sec, s =>
    if sec.isEmpty then s
    else
      let m := e.doneMsg
      let last := (sec.drop 7).isEmpty
      let body := dataPayload (if e.toReservation then 1 else 0) addr e.context m.cluster m.tile m.index last (sec.take 7)
      let f : Flit :=
        { type := 1, vc := 3, dst := m.device, src := s.deviceId, hops := 0, count := (sec.take 7).length, payload := body
          owner := e.parcel + 1 }
      sendFlits e n (addr + 224) (sec.drop 7) (queueFlit (s.routeFor 3 e.cluster m.device) f s)

/-- Bytes of a tile's fabric reservation, and its first address (R112). -/
def State.rxBytes (s : State) : Nat := s.im.tile.rxKib * 1024

def State.rxBase (s : State) : Nat := 0x3F000 - s.rxBytes

/-- Send bytes land in a tile's reservation, sector by sector, at an offset modulo its size (R314). -/
def landReserved (tile : Nat) : Nat → List (List Byte × Bool) → State → State
  | _, [], s => s
  | off, b :: r, s =>
    let a := s.rxBase + off % s.rxBytes
    let s' := s.sramWrite tile a b.1
    landReserved tile (off + 32) r (if b.2 then s'.tagLine tile a true else s')

/-- Send bytes land in memory through the context's regions (R243, R244). -/
def landMemory (cluster ctx : Nat) : Nat → List (List Byte × Bool) → State → State
  | _, [], s => s
  | a, b :: r, s => landMemory cluster ctx (a + 32) r (ctxWrite cluster (s.partitionOf cluster) ctx a none b.1 b.2 s)

/-- A send that goes nowhere: raised once per parcel (R314). -/
def discardSend (pid : Nat) (s : State) : State :=
  raiseOnce 0x900B 0xFFFF pid { s with fab := { s.fab with stSend := true } }

/-- One firing of a send entry. -/
def fireSend (e : Send) (s : State) : State :=
  let m := e.doneMsg
  let n := 8 * e.bytes256
  let data := sectorsOf n (s.ctxRead e.context e.src (256 * e.bytes256))
  if !s.admitted m.device then discardSend e.parcel s
  else if m.device = s.deviceId && e.toReservation && s.rxBytes = 0 then discardSend e.parcel s
  else
    let s := seeCtx e.cluster (s.partitionOf e.cluster) e.context e.src (256 * e.bytes256) s
    if m.device ≠ s.deviceId then sendFlits e (n + 1) e.dst data s
    else if e.toReservation then sendSync e.cluster m (landReserved (m.cluster * 64 + m.tile) e.dst data s)
    else sendSync e.cluster m (landMemory m.cluster e.context e.dst data s)

/-! ### Watches (R151) -/

/-- Firings due when the source counter reads `c`. -/
def Watch.firings (w : Watch) (c : Nat) : Nat :=
  if c < w.threshold then 0
  else
    let n := if w.step = 0 then 1 else (c - w.threshold) / w.step + 1
    match w.left with
    | some k => min n k
    | none => n

/-- A watch that has fired its last time: it is freed, but the slot of a combine entry stays occupied until its parcel ends
(R175). -/
def Watch.spent (w : Watch) : Option Watch :=
  match w.act with
  | .combine _ _ => some { w with left := some 0 }
  | .message _ | .send _ => none

/-- The watch after `n` firings; none when it is freed. -/
def Watch.after (w : Watch) (n : Nat) : Option Watch :=
  if n = 0 then some w
  else if w.step = 0 then w.spent
  else
    let thr := w.threshold + n * w.step
    if w.left = some n || 0xFFFFFFFF < thr then w.spent
    else some { w with threshold := thr, left := w.left.map fun k => k - n }

def watchKey (cluster slot : Nat) : Nat := cluster * 256 + slot

/-- Put a due combine behind those that became due before it, the lower slot first on a tie (R177). -/
def insertDue (x : Nat × Nat) : List (Nat × Nat) → List (Nat × Nat)
  | [] => [x]
  | y :: r => if x.1 < y.1 || (x.1 = y.1 && x.2 < y.2) then x :: y :: r else y :: insertDue x r

/-- The action of one firing. An arrival carries the generation of its record as this part knows it; the home of a cluster or
partition record on another part counts it in the generation it finds (DESIGN CHOICE, assumption log, entry 108). -/
def watchAct (cluster : Nat) (act : WatchAct) (s : State) : State :=
  match act with
  | .message m =>
    sendSync cluster (if m.kind = 3 then { m with gen := s.barGen m.level m.cluster m.index } else m) s
  | .combine c slot => { s with sync := { s.sync with due := insertDue (s.now, c * 8 + slot) s.sync.due } }
  | .send slot => match tfind s.sync.sends slot with
    | some e => fireSend e s
    | none => s

/-- `n` firings, in ascending threshold order. -/
def watchActs (cluster : Nat) (act : WatchAct) : Nat → State → State
  | 0, s => s
  | n + 1, s => watchActs cluster act n (watchAct cluster act s)

/-- Check a watch slot and fire it for every threshold reached. -/
def checkWatch (key : Nat) (s : State) : State :=
  match tfind s.sync.watches key with
  | none => s
  | some w =>
    let n := w.firings (tget s.sync.counters w.source {}).count
    if n = 0 then s
    else
      let s := { s with sync := { s.sync with
        watches := match w.after n with
          | some w' => tset s.sync.watches key w'
          | none => tdel s.sync.watches key } }
      let s := s.updCsu (key / 256) fun c => { c with watchFired := satAdd 32 c.watchFired n }
      watchActs (key / 256) w.act n s

/-- A send slot becomes free after its entry's last firing (R314). -/
def endSend (slot : Nat) (last : Bool) (s : State) : State :=
  if last then { s with sync := { s.sync with sends := tdel s.sync.sends slot } } else s

/-- Check a send entry's counter and fire it for every threshold reached (R314). -/
def checkSend (slot : Nat) (s : State) : State :=
  match tfind s.sync.sendWatches slot with
  | none => s
  | some w =>
    let n := w.firings (tget s.sync.counters w.source {}).count
    if n = 0 then s
    else
      let s := { s with sync := { s.sync with
        sendWatches := match w.after n with
          | some w' => tset s.sync.sendWatches slot w'
          | none => tdel s.sync.sendWatches slot } }
      endSend slot (w.after n).isNone (watchActs (w.source / 48 / 64) w.act n s)

/-- After a change of a counter: its watches in slot order, then its send entries. -/
def checkSource (key : Nat) (s : State) : State :=
  let ws := (s.sync.watches.filter fun p => p.2.source = key).map Prod.fst
  let es := (s.sync.sendWatches.filter fun p => p.2.source = key).map Prod.fst
  es.foldl (fun s k => checkSend k s) (ws.foldl (fun s k => checkWatch k s) s)

/-! ### Counters -/

/-- A counter reaches 0xFFFF_FFFF (R141). -/
def noteSaturated (tile n : Nat) (s : State) : State :=
  let c := clusterOfTile tile
  let x := s.counter tile n
  let s := s.updCsu c fun u => { u with satTiles := setBit u.satTiles (tile % 64), stSaturated := true }
  if x.satRaised then s
  else
    let s := { s with sync := { s.sync with counters := tset s.sync.counters (ctrKey tile n) { x with satRaised := true } } }
    raiseFor 0x5001 c (x.owner - 1) s

/-- Add an increment to a counter; it saturates, and what watches it acts (R140, R141, R151). -/
def addCounter (tile n inc : Nat) (s : State) : State :=
  let x := s.counter tile n
  let v := min (x.count + inc) 0xFFFFFFFF
  let s := { s with sync := { s.sync with counters := tset s.sync.counters (ctrKey tile n) { x with count := v } } }
  let s := if v = 0xFFFFFFFF && x.count ≠ v then noteSaturated tile n s else s
  checkSource (ctrKey tile n) s

/-- Does the part consume sync messages: from the FABRIC stage on (R165), until a thermal trip (R164)? -/
def State.takesSync (s : State) : Bool := s.clocked && 5 ≤ s.start.stage && s.start.stage ≤ 9

/-- Remove a message from those in flight, if it is there. -/
def landed (m : SyncMsg) (s : State) : State := { s with sync := { s.sync with flight := s.sync.flight.erase m } }

/-- A signal message arrives (R152, R153). -/
def takeSignal (m : SyncMsg) (s : State) : State :=
  let tile := m.cluster * 64 + m.tile
  if s.isReady && m.index < 48 && s.ownerContext (s.counter tile m.index).owner = some m.context then
    addCounter tile m.index m.payload s
  else staleDrop m.cluster s

/-! ### Held words -/

def State.heldOwnerOf (s : State) (tile i : Nat) : Nat := tget s.sync.heldOwner (tile * 512 + i) 0

/-- Fill an empty word. -/
def fillWord (tile i v : Nat) (s : State) : State :=
  (s.sramWrite tile (heldAddr i) (leBytes v 8)).setFull tile i true

/-- A fill finds the held-fill queue full: dropped, counted, raised at the first of the revolution (R149). -/
def dropFill (cluster pid : Nat) (s : State) : State :=
  let again := (s.csu cluster).dropRaised
  let s := s.updCsu cluster fun c => { c with heldDrops := bump c.heldDrops, stFillLost := true, dropRaised := true }
  if again then s else raiseFor 0x5002 cluster pid s

/-- A remote fill for an owned word: it fills an empty word, queues for a full one, or is dropped. -/
def remoteFill (tile i v : Nat) (s : State) : State :=
  let c := clusterOfTile tile
  if !s.heldFull tile i then fillWord tile i v s
  else if 64 ≤ (s.csu c).hfq.length then dropFill c (s.heldOwnerOf tile i - 1) s
  else s.updCsu c fun u => { u with hfq := u.hfq ++ [(tile, i, v)], hfqHigh := max u.hfqHigh (u.hfq.length + 1) }

/-- A fill message arrives (R149, R153). -/
def takeFill (m : SyncMsg) (s : State) : State :=
  let tile := m.cluster * 64 + m.tile
  if s.isReady && s.ownerContext (s.heldOwnerOf tile m.index) = some m.context then remoteFill tile m.index m.payload s
  else staleDrop m.cluster s

/-- A take empties a word; the oldest queued fill for it lands next (R148, R164). -/
def emptyWord (tile i : Nat) (s : State) : State :=
  let c := clusterOfTile tile
  let s := s.setFull tile i false
  match (s.csu c).hfq.find? fun q => q.1 = tile && q.2.1 = i with
  | none => s
  | some q => fillWord tile i q.2.2 (s.updCsu c fun u => { u with hfq := u.hfq.erase q })

/-! ### Releases -/

/-- Clusters in which a parcel has tasks, ascending. -/
def Parcel.clusters (p : Parcel) : List Nat :=
  (List.range 64).filter fun c => p.tasks.any fun t => clusterOfTile t.1 = c

/-- A release message of a record. -/
def releaseMsg (dev cluster level index gen ctx : Nat) (abort : Bool) : SyncMsg :=
  { kind := 4, device := dev, cluster := cluster, tile := 0, index := index, level := level, context := ctx, gen := gen
    abort := abort, payload := 0 }

/-- Send a domain release down the release tree (R157). -/
def releaseBelow (index gen ctx : Nat) (abort : Bool) (s : State) : State :=
  s.childPorts.foldl (fun s n =>
    sendSyncOn n 1 (syncBytes (releaseMsg (s.port n).farDevice 0 2 index gen ctx abort)) s) s

/-- The home broadcasts the release of a record's generation to its own part and, for a domain, below (R157). -/
def broadcastRelease (level cluster index gen ctx pid : Nat) (s : State) : State :=
  let here := fun (s : State) (c : Nat) =>
    { s with sync := { s.sync with flight := s.sync.flight ++ [releaseMsg s.deviceId c level index gen ctx false] } }
  if level = 0 then here s cluster
  else if level = 1 then
    match s.parcel pid with
    | some p => p.clusters.foldl here s
    | none => s
  else releaseBelow index gen ctx false (here s 0)

/-- A record's generation is released: the count clears to the next generation's, which becomes current (R157, R158). -/
def releaseBar (level cluster index : Nat) (s : State) : State :=
  let b := s.bar level cluster index
  let left := b.nextArrived + (b.arrived - b.expected)
  let s := s.setBar level cluster index { b with
    gen := (b.gen + 1) % 65536, arrived := left, nextArrived := 0, slowRaised := false, withheld := false
    firstArrival := if left = 0 then none else some s.now }
  let s := if level = 0 then s else { s with sync := { s.sync with released := bump s.sync.released } }
  let s := if level = 2 then { s with sync := { s.sync with domLastLat := s.now - b.lastArrival } } else s
  broadcastRelease level cluster index b.gen b.context b.parcel s

/-- Generation `gen` of a domain record names another plan: the master withholds the release and drives the change, or
skips it (R301). True when the release is to be made now. -/
def startReconf (index plan : Nat) (s : State) : Bool × State :=
  if !s.angleValid then (true, skipReconf s)
  else
    let ticks := s.leadTicks (s.im.fab.reconfLeadUs * 1000)
    let angle := ticks % 65536
    let rev := s.round.rev + ticks / 65536
    let s := s.setBar 2 0 index { s.bar 2 0 index with withheld := true }
    let s := { s with fab := { s.fab with reconfs := s.fab.reconfs ++ [(index, plan, false)] } }
    let s := toChildren 1 (reconfBytes { master := s.deviceId, plan := plan, angle := angle, rev := rev }) s
    match armReconf plan angle rev s with
    | (.refused, s) =>
      let s := beginSwitch plan { s with fab := { s.fab with reconfLate := bump s.fab.reconfLate } }
      if s.switchDone then
        (true, { s with fab := { s.fab with reconfs := s.fab.reconfs.filter fun r => r.1 ≠ index } })
      else (false, s)
    | (_, s) => (false, s)

/-- The plan that the circuit schedule of a record's parcel names for its present generation, if another than the one
in force. -/
def State.scheduledPlan (s : State) (index : Nat) : Option Nat :=
  let b := s.bar 2 0 index
  match s.parcel b.parcel with
  | some p =>
    match p.schedule.find? fun e => e.1 = b.gen with
    | some e => if e.2 = s.fab.plan then none else some e.2
    | none => none
  | none => none

/-- Release a record for as long as its arrivals cover the expected count; the first argument bounds the releases. -/
def settleBar (level cluster index : Nat) : Nat → State → State
  | 0, s => s
  | n + 1, s =>
    let b := s.bar level cluster index
    if !b.active || b.withheld || b.expected = 0 || b.arrived < b.expected then s
    else if level = 2 then
      match s.scheduledPlan index with
      | some plan =>
        let r := startReconf index plan s
        if r.1 then settleBar level cluster index n (releaseBar level cluster index r.2) else r.2
      | none => settleBar level cluster index n (releaseBar level cluster index s)
    else settleBar level cluster index n (releaseBar level cluster index s)

/-- Arrivals at a record (R157, R158). -/
def arriveAt (level cluster index gen n : Nat) (s : State) : State :=
  let b := s.bar level cluster index
  if !b.active then
    if level = 2 then s.setBar level cluster index { b with nextArrived := b.nextArrived + n }
    else if level = 0 then staleDrop cluster s
    else s
  else if gen = b.gen then
    let s := s.setBar level cluster index { b with
      arrived := b.arrived + n, lastArrival := s.now
      firstArrival := match b.firstArrival with | some t => some t | none => some s.now }
    settleBar level cluster index (b.arrived + n + b.nextArrived + 1) s
  else if gen = (b.gen + 1) % 65536 then s.setBar level cluster index { b with nextArrived := b.nextArrived + n }
  else s

/-! ### Domain arrivals on a part that is not the master (R157) -/

/-- Parcels of this part that use a domain record. -/
def State.domParcel (s : State) (index : Nat) : Option Parcel :=
  s.part.parcels.find? fun p => p.state = .running && p.domUsed && p.domRecord = index

/-- One arrive message of `n` arrivals to the master. -/
def arriveMsg (dev cluster level index gen ctx n : Nat) : SyncMsg :=
  { kind := 3, device := dev, cluster := cluster, tile := 0, index := index, level := level, context := ctx, gen := gen
    abort := false, payload := n }

/-- Pass arrivals of a domain record on to the parent part, in one message, when the part's own tasks have all arrived or it has
none there; what arrives from below later goes on as it comes (DESIGN CHOICE, assumption log, entry 110). -/
def passArrivals (index gen ctx : Nat) (s : State) : State :=
  let key := index * 65536 + gen
  let own := tget s.sync.domOwn key (0, false)
  let kids := tget s.sync.domKids key 0
  let need := match s.domParcel index with | some p => p.tasks.length | none => 0
  if own.1 < need then s
  else
    let n := if own.2 then kids else own.1 + kids
    if n = 0 then s
    else
      let s := { s with sync := { s.sync with
        domOwn := tset s.sync.domOwn key (own.1, true), domKids := tdel s.sync.domKids key } }
      sendSyncOn s.fab.parentActive 1 (syncBytes (arriveMsg s.im.fab.masterId 0 2 index gen ctx n)) s

/-- An arrive message (R157): at the record's home it counts; for a domain barrier elsewhere it joins the part's own. -/
def takeArrive (m : SyncMsg) (s : State) : State :=
  if !s.isReady then (if m.level = 0 then staleDrop m.cluster s else s)
  else if 2 < m.level then s
  else if m.level < 2 then arriveAt m.level m.cluster m.index m.gen m.payload s
  else if s.isMaster then arriveAt 2 0 m.index m.gen m.payload s
  else
    let key := m.index * 65536 + m.gen
    let s :=
      if m.device = s.deviceId then
        { s with sync := { s.sync with domOwn := tupd s.sync.domOwn key (0, false) fun x => (x.1 + m.payload, x.2) } }
      else { s with sync := { s.sync with domKids := tupd s.sync.domKids key 0 fun x => x + m.payload } }
    passArrivals m.index m.gen m.context s

/-! ### Aborts (R159) -/

/-- Does a task of a parcel wait in generation `gen` of its barrier of a level? -/
def State.waitsAt (s : State) (pid level cluster gen : Nat) : Bool :=
  s.liveTasks.any fun t =>
    t.2.2.parcel = pid && (level ≠ 0 || clusterOfTile t.1 = cluster)
      && t.2.2.cmds.any fun c => c.phase = .barrier && drainScope c.words = level + 1 && c.gen = gen

/-- Is a record pending: an arrival counted, or a task of its parcel waiting in its present generation? -/
def State.barPending (s : State) (level cluster : Nat) (b : Barrier) : Bool :=
  b.arrived ≠ 0 || b.nextArrived ≠ 0 || s.waitsAt b.parcel level cluster b.gen

/-- An aborted barrier is counted and raised (R159). -/
def noteAbort (level index pid : Nat) (s : State) : State :=
  raiseFor 0x5004 (index + 0x100 * level) pid
    { s with sync := { s.sync with aborted := bump s.sync.aborted, stAborted := true } }

/-- What is pending of a parcel that ends (R159): its records (level, cluster, index), cluster records first; and, on a part other
than the master, the generation of the domain barrier at which its tasks wait. -/
structure Pending where
  bars : List (Nat × Nat × Nat)
  far : Option Nat
deriving DecidableEq, Repr

def State.pendingBars (s : State) (p : Parcel) : Pending :=
  let gen := tget s.sync.domGen p.domRecord 0
  let all := s.sync.clusterBar.map (fun x => (0, x.1 / 16, x.1 % 16)) ++ s.sync.partBar.map (fun x => (1, 0, x.1))
    ++ s.sync.domBar.map fun x => (2, 0, x.1)
  { bars := all.filter fun k =>
      let b := s.bar k.1 k.2.1 k.2.2
      b.active && b.parcel = p.id && s.barPending k.1 k.2.1 b
    far := if !s.isMaster && p.domUsed && s.waitsAt p.id 2 0 gen then some gen else none }

/-- Release a pending record with the abort mark: counted and raised. -/
def abortBar (s : State) (k : Nat × Nat × Nat) : State :=
  let b := s.bar k.1 k.2.1 k.2.2
  let s := noteAbort k.1 k.2.2 b.parcel s
  if k.1 = 2 then releaseBelow k.2.2 b.gen b.context true s else s

/-- The domain barrier of a parcel that ends on a part other than the master, where its tasks waited at it: the home is told by a
release with the abort mark (DESIGN CHOICE, assumption log, entry 109). -/
def abortFar (p : Parcel) (gen : Nat) (s : State) : State :=
  sendSync 0 (releaseMsg s.im.fab.masterId 0 2 p.domRecord gen p.context true) (noteAbort 2 p.domRecord p.id s)

/-- The home of a domain record learns that one of its parcels has ended: the record's barrier is released with the abort mark,
here and below (entry 109). -/
def abortHome (m : SyncMsg) (s : State) : State :=
  let b := s.bar 2 0 m.index
  if !b.active || b.gen ≠ m.gen then s
  else
    let s := noteAbort 2 m.index b.parcel s
    releaseBelow m.index b.gen b.context true
      (s.setBar 2 0 m.index { b with arrived := 0, nextArrived := 0, firstArrival := none, withheld := false })

/-- Abort what was pending of a parcel whose tasks have been stopped (R338). -/
def abortBarriers (p : Parcel) (x : Pending) (s : State) : State :=
  let s := x.bars.foldl abortBar s
  match x.far with
  | some gen => abortFar p gen s
  | none => s

/-- BARRIER_SLOW: a record has been pending for SYNC_BARRIER_SLOW_MS since its first arrival (R159). -/
def doBarrierSlow (level unit record : Nat) (s : State) : State :=
  let b := s.bar level unit record
  match b.firstArrival with
  | none => s
  | some t =>
    if level ≤ 2 && b.active && !b.slowRaised && t + s.im.sync.slowMs * 1000000 ≤ s.now then
      let s := s.setBar level unit record { b with slowRaised := true }
      raiseFor 0x5005 (record + 0x100 * level) b.parcel
        { s with sync := { s.sync with slow := bump s.sync.slow, stSlow := true } }
    else s

/-- The sync sample record at a sample angle (R162). -/
def syncSample (i : Nat) (s : State) : State :=
  let sum := fun (f : Csu → Nat) => (s.sync.csus.foldl (fun acc p => acc + f p.2) 0) % 2 ^ 32
  { s with sync := { s.sync with samples := tupd s.sync.samples i {} fun r =>
      { r with rev := s.round.rev, watches := sum Csu.watchFired, heldDrops := sum Csu.heldDrops
               staleDrops := sum Csu.staleDrops, released := s.sync.released, aborted := s.sync.aborted
               revEnd := s.round.rev } } }

/-- BARRIER_SLOW. -/
def execBarrierSlow (t level unit record : Nat) (s : State) : Host.Outcome State Fault Refusal :=
  .next (doBarrierSlow level unit record (s.advance t))

/-- ARRIVE. -/
def doArrive (m : SyncMsg) (s : State) : State := if m.kind = 3 && s.takesSync then takeArrive m (landed m s) else s

/-- ARRIVE. -/
def execArrive (t : Nat) (m : SyncMsg) (s : State) : Host.Outcome State Fault Refusal := .next (doArrive m (s.advance t))

end Sys2Proof.Machine
end

