-- ==== Sys2Proof/Machine/Matrix.lean ====
section
/-! DEFINITION. The bytes of a parcel as it lies in memory (R325), and the matrices of the Lens engines: which one an engine
holds, and when it loads another (R269, R271, R272). -/

namespace Sys2Proof.Machine

/-! ### The bytes of a parcel -/

/-- Bytes of an accepted parcel with their poison. -/
def State.parcelRead (s : State) (p : Parcel) (off n : Nat) : List (Byte × Bool) := s.devRead (p.base + off) n

/-- Bytes of an accepted parcel. -/
def State.parcelBytes (s : State) (p : Parcel) (off n : Nat) : List Byte := (s.parcelRead p off n).map Prod.fst

/-- A word of 64 bits of an accepted parcel. -/
def State.parcelWord (s : State) (p : Parcel) (off : Nat) : Nat := leNat (s.parcelBytes p off 8)

/-! ### Engines -/

def State.engine (s : State) (e : Nat) : Engine := tget s.lens.engines e {}

def State.updEngine (e : Nat) (f : Engine → Engine) (s : State) : State :=
  { s with lens := { s.lens with engines := tupd s.lens.engines e {} f } }

/-- The partition, and so the engine, of a tile (R269). -/
def State.engineOf (s : State) (tile : Nat) : Nat := s.partitionOf (clusterOfTile tile)

/-! ### Matrices (R271, R272) -/

/-- Is the request for this matrix? -/
def Matrix.serves (m : Matrix) (q : LensReq) : Bool := m.parcel = q.parcel && m.handle = q.handle

/-- Is the request for the loaded matrix? -/
def Engine.ready (e : Engine) (q : LensReq) : Bool := (e.matrix.map fun m => m.serves q).getD false

/-- The matrix that a parcel's descriptor `handle` gives (Table 11.1), and whether any byte of it was poisoned (R126). -/
def State.matrixOf (s : State) (p : Parcel) (handle : Nat) : Matrix :=
  let off := (p.sections.getD 5 (0, 0)).1 + 4112 * handle
  let w := s.parcelWord p off
  { parcel := p.id, context := p.context, handle := handle, gain := bits w 0 4, scale := bits w 32 32
    weights := (s.parcelBytes p (off + 16) 4096).map BitVec.toInt, poison := (s.parcelRead p off 4112).any Prod.snd }

/-- The tracking and recovery marks have passed: a load or calibration takes longer than they do (R283, R289). -/
def Engine.quieted (e : Engine) : Engine :=
  { e with ovrLeft := [], shadowLeft := [], frozen := false, cleanWindows := 0 }

/-- Load the matrix of the oldest request. -/
def startLoad (n : Nat) (q : LensReq) (s : State) : State :=
  match s.parcel q.parcel with
  | none => s
  | some p =>
    let m := s.matrixOf p q.handle
    let off := (p.sections.getD 5 (0, 0)).1 + 4112 * q.handle
    seeDev n (p.base + off) 4112 (s.updEngine n fun e => { e with state := .loading, loading := some m, drain := none })

/-- What a serving engine does next while its drive runs: serve in order of arrival; when the oldest request names another matrix,
first serve those waiting now for the loaded one, then load (R271). -/
def nextMatrix (n : Nat) (s : State) : State :=
  let e := s.engine n
  if e.state ≠ .serving || !s.clocked then s
  else
    match e.queue with
    | [] => s.updEngine n fun e => { e with drain := none }
    | q :: _ =>
      if e.ready q then s.updEngine n fun e => { e with drain := none }
      else
        let k := e.drain.getD e.queue.length
        if (e.queue.take k).any e.ready then s.updEngine n fun e => { e with drain := some k }
        else startLoad n q s

end Sys2Proof.Machine
end

