-- ==== Sys2Proof/Machine/Parcel.lean ====
section
/-! DEFINITION. Parcels: reports (R340), dead letters (R342), the end of a parcel (R338), and the arming of releases
(R335). -/

namespace Sys2Proof.Machine

/-! ### Contexts -/

def State.ctxRec (s : State) (c : Nat) : Option CtxRec := s.im.contexts.find? fun r => r.id = c

/-- The partition of a context. -/
def State.ctxPartition (s : State) (c : Nat) : Nat := ((s.ctxRec c).map CtxRec.partition).getD 0

def State.ctx (s : State) (c : Nat) : Ctx := tget s.part.contexts c {}

def State.updCtx (c : Nat) (f : Ctx → Ctx) (s : State) : State :=
  { s with part := { s.part with contexts := tupd s.part.contexts c {} f } }

/-! ### Reports and dead letters -/

/-- Can a report reach its poster? -/
def State.canDeliver (s : State) (v : Via) : Bool :=
  match v with
  | .pcie _ => s.start.pcieUp
  | .net p c => s.part.conns.any fun x => x.1 = p && x.2.1 = c

/-- The 32 bytes of a completion report (Table 13.7). -/
def Report.bytes (r : Report) : List Byte :=
  leBytes (r.kind % 16 + r.outcome % 16 * 2 ^ 4 + r.context % 128 * 2 ^ 8 + r.flags % 128 * 2 ^ 15 + r.reason % 256 * 2 ^ 22) 4
    ++ leBytes r.tag 4 ++ leBytes r.serial 8 ++ leBytes (r.fault % 65536 + min r.refused 65535 * 65536) 4 ++ leBytes r.rev 4
    ++ leBytes r.devtime 8

/-- How a report goes out: as a write to host memory, or in a frame of type 3 with its 16-byte header (R328, R330). -/
def Report.sending (r : Report) : Sending :=
  match r.via with
  | .pcie f => .write f r.address r.bytes
  | .net p c => .frame p c (leBytes 3 4 ++ leBytes r.tag 4 ++ leBytes 32 4 ++ leBytes 0 4 ++ r.bytes)

/-- Send a completion report; one that cannot be delivered is lost (R328, R330). -/
def sendReport (r : Report) (s : State) : State :=
  if s.canDeliver r.via then { s with part := { s.part with reports := s.part.reports ++ [r.sending] } }
  else
    let again := (s.ctx r.context).reportLostRaised
    let s := { s with part := { s.part with reportLost := bump s.part.reportLost } }
    if again then s
    else raiseFull 0xA006 0xFFFF (some r.context) (r.serial % 2 ^ 32)
      (s.updCtx r.context fun c => { c with reportLostRaised := true })

/-- Write a dead-letter entry whole and advance the index (R342). -/
def deadLetter (e : DeadLetter) (s : State) : State :=
  { s with part := { s.part with
      dlRing := tset s.part.dlRing s.part.dlIdx { e with devtime := s.devCount }
      dlIdx := (s.part.dlIdx + 1) % 512
      dlWraps := if s.part.dlIdx = 511 then bump s.part.dlWraps else s.part.dlWraps } }

def Via.code (v : Via) : Nat := match v with | .pcie _ => 0 | .net _ _ => 1

/-- The revolution of a report about work that was never released: the manual gives it none, so it is free. -/
def freeRev (s : State) : Nat × State := ((Config.reportRev s.draw.1).toNat, s.draw.2)

/-- Refuse a post or a queued item: a dead-letter entry and a report with outcome 1 (R334, R339). -/
def refuse (p : Post) (serial epoch reason : Nat) (s : State) : State :=
  let s := { s with part := { s.part with postsRefused := bump s.part.postsRefused, stRefused := true } }
  let s := deadLetter
    { reason := reason, kind := flag (p.kind = 2), via := p.via.code, context := p.context, tag := p.tag, serial := serial
      epoch := epoch, fault := 0xA001 } s
  let r := freeRev s
  sendReport
    { via := p.via, address := p.report, kind := p.kind, outcome := 1, context := p.context, flags := 0
      reason := reason, tag := p.tag, serial := serial, fault := 0xA001, refused := 0, rev := r.1
      devtime := r.2.devCount } r.2

/-- A refusal with its fault, raised once (R334). -/
def refusePost (p : Post) (serial epoch reason : Nat) (s : State) : State :=
  raiseFull 0xA001 0xFFFF (some p.context) (serial % 2 ^ 32) (refuse p serial epoch reason s)

/-- The post that a queued parcel came from. -/
def Parcel.post (p : Parcel) : Post :=
  { id := p.id, via := p.via, context := p.context, kind := 1, len := p.len, src := 0, report := p.report, tag := p.tag
    since := 0 }

def Letter.post (l : Letter) : Post :=
  { id := l.id, via := l.via, context := l.context, kind := 2, len := l.len, src := 0, report := l.report, tag := l.tag
    since := 0 }

/-! ### Parcel areas (R325) -/

/-- First granule and number of granules of a context's area. -/
def State.areaOf (s : State) (c : Nat) : Nat × Nat :=
  match s.im.areas.find? fun a => a.1 = c with
  | some a => (a.2.1 / 65536, a.2.2 / 65536)
  | none => (0, 0)

/-- First granule from `g` on with `n` free ones in a row; the first argument bounds the search. -/
def firstFit (used : List Nat) (n : Nat) : Nat → Nat → Option Nat
  | 0, _ => none
  | k + 1, g =>
    if (List.range n).all fun i => !used.contains (g + i) then some g else firstFit used n k (g + 1)

/-- The device address at which `len` bytes of a context are held. -/
def State.findArea (s : State) (c len : Nat) : Option Nat :=
  let a := s.areaOf c
  let n := ceilDiv len 65536
  if a.2 < n then none else (firstFit s.part.granules n (a.2 - n + 1) a.1).map fun g => g * 65536

def takeArea (base len : Nat) (s : State) : State :=
  { s with part := { s.part with
      granules := s.part.granules ++ (List.range (ceilDiv len 65536)).map fun i => base / 65536 + i } }

def freeArea (base len : Nat) (s : State) : State :=
  { s with part := { s.part with
      granules := s.part.granules.filter fun g => g < base / 65536 || base / 65536 + ceilDiv len 65536 ≤ g } }

/-! ### The pipeline of a tile -/

/-- Does task `a` go before `b`: real-time first, then ready longest, then the lower slot (R129, R137)? -/
def State.taskBefore (s : State) (a b : Nat × Task) : Bool :=
  let ra := s.isRt a.2.context
  let rb := s.isRt b.2.context
  if ra != rb then ra
  else a.2.readySince < b.2.readySince || (a.2.readySince = b.2.readySince && a.1 < b.1)

/-- The ready task of a tile that goes next. -/
def State.nextReady (s : State) (tile : Nat) : Option Nat :=
  (((s.tile tile).tasks.filter fun p => p.2.state = .ready).foldl (fun acc p =>
      match acc with
      | none => some p
      | some q => if s.taskBefore p q then some p else some q) none).map Prod.fst

/-- Give the pipeline of a tile to a ready task when none holds it. -/
def fillPipeline (tile : Nat) (s : State) : State :=
  if (s.tile tile).tasks.any fun p => p.2.state = .running then s
  else
    match s.nextReady tile with
    | some k => s.updTile tile fun x => { x with running := k, tasks := tupd x.tasks k {} fun t => { t with state := .running } }
    | none => s

/-! ### The end of a task -/

def RowFor.from (w : RowFor) (tile slot : Nat) : Bool :=
  match w with
  | .tile p => p.tile = tile && p.slot = slot
  | .device _ _ _ _ _ => false

def LensReq.from (r : LensReq) (tile slot : Nat) : Bool := r.tile = tile && r.slot = slot

/-- Drop a task's requests that wait at an engine. -/
def Engine.purge (tile slot : Nat) (e : Engine) : Engine :=
  { e with
    queue := e.queue.filter fun r => !r.from tile slot
    drain := e.drain.map fun n => ((e.queue.take n).filter fun r => !r.from tile slot).length }

/-- A row request without the places of a task; none where it has no other. -/
def RowReq.without (tile slot : Nat) (q : RowReq) : Option RowReq :=
  match (q.whom :: q.also).filter fun w => !w.from tile slot with
  | [] => none
  | w :: r => some { q with whom := w, also := r }

/-- A row on its way without the places of a task. -/
def RowResp.without (tile slot : Nat) (r : RowResp) : Option RowResp :=
  (r.req.without tile slot).map fun q => { r with req := q }

/-- What a request of a tile does without a task: its landings elsewhere, its rows for others; none where it was the task's own. -/
def ReqKind.without (tile slot owner : Nat) (k : ReqKind) : Option ReqKind :=
  match k with
  | .fetch land =>
    let rest := land.filter fun l => l.slot ≠ slot
    if rest.isEmpty then none else some (.fetch rest)
  | .row q => (q.without tile slot).map .row
  | .index _ | .command | .metered | .sectors _ _ | .seen | .store _ _ | .add _ _ _ _ | .cached _ _ _ _
  | .written _ | .load _ _ => if owner = slot then none else some k

/-- A request without what it does for a task. -/
def Req.without (tile slot : Nat) (r : Req) : Option Req :=
  if r.tile ≠ tile then some r else (r.kind.without tile slot r.slot).map fun k => { r with kind := k }

/-- A request of the issue queue of a tile without what it does for a task. -/
def Pend.without (tile slot : Nat) (p : Pend) : Option Pend :=
  (p.kind.without tile slot p.slot).map fun k => { p with kind := k }

/-- A slot whose request has lost its requester: a read or a write that has been served ends as it would, one that is held does
nothing (R338). -/
def Slot.lost (x : Slot) : Slot :=
  { x with req := { x.req with
    slot := 4
    kind := if !x.held then x.req.kind else if x.req.writes then .written none else .seen } }

/-- A request that a controller has accepted, without what it does for a task. -/
def Slot.orphan (tile slot : Nat) (x : Slot) : Slot :=
  match x.req.without tile slot with
  | some r => { x with req := r }
  | none => x.lost

/-- Discard a task's work in flight: requests not yet accepted, reads under way, row and Lens requests (R338). -/
def dropFlight (tile slot : Nat) (s : State) : State :=
  let keep := fun (l : List Req) => l.filterMap (Req.without tile slot)
  let lensGone := (s.lens.flight.filter fun r => r.from tile slot).length
    + (s.lens.engines.map fun p => (p.2.queue.filter fun r => r.from tile slot).length).sum
  let s := s.updTile tile fun x => { x with
    lensOutstanding := x.lensOutstanding - lensGone, issue := x.issue.filterMap (Pend.without tile slot) }
  { s with
    mem := { s.mem with
      regs := s.mem.regs.map fun p => (p.1, { p.2 with waiting := keep p.2.waiting })
      chans := s.mem.chans.map fun p => (p.1, { p.2 with
        queues := p.2.queues.map fun q => (q.1, keep q.2)
        slots := p.2.slots.map (Slot.orphan tile slot) }) }
    fs := { s.fs with
      reqs := s.fs.reqs.filterMap (RowReq.without tile slot)
      remoteReqs := s.fs.remoteReqs.filterMap (RowReq.without tile slot)
      resps := s.fs.resps.filterMap (RowResp.without tile slot)
      halves := s.fs.halves.filterMap (RowResp.without tile slot) }
    lens := { s.lens with
      flight := s.lens.flight.filter fun r => !r.from tile slot
      engines := s.lens.engines.map fun p => (p.1, p.2.purge tile slot) } }

/-- The work of a task in flight is discarded, and its engine goes on with the requests that are left (R271). -/
def purgeTask (tile slot : Nat) (s : State) : State := nextMatrix (s.engineOf tile) (dropFlight tile slot s)

/-- A task's slot becomes free, its flags are reported (R206), and another task may take the pipeline. -/
def freeTask (tile slot : Nat) (s : State) : State :=
  let t := s.task tile slot
  let s := reportFlags (clusterOfTile tile) t.parcel t.flags s
  fillPipeline tile ((purgeTask tile slot s).updTile tile fun x => { x with tasks := tdel x.tasks slot })

/-- A task ends without running another command, by a fault or (0) by an aborted barrier: it stays ended in its slot until its parcel
ends. -/
def endTask (tile slot fault : Nat) (s : State) : State :=
  let t := s.task tile slot
  let s := reportFlags (clusterOfTile tile) t.parcel t.flags s
  fillPipeline tile ((purgeTask tile slot s).updTask tile slot fun t =>
    { t with state := .ended, cmds := [], flags := 0, fault := fault })

/-! ### The end of a parcel (R338) -/

/-- Step 1: stop every task of the parcel. -/
def stopTasks (p : Parcel) (s : State) : State :=
  p.tasks.foldl (fun s t =>
    if (s.task t.1 t.2).parcel = p.id && (s.task t.1 t.2).state ≠ .free then freeTask t.1 t.2 s else s) s

/-- Step 3: flush the context's cluster-cache atomic lines (R251); their flags go to the parcel. -/
def flushParcel (p : Parcel) (s : State) : State :=
  (List.range 64).foldl (fun s c =>
    let r := flushContext c p.context s
    if r.1 = 0 then r.2 else r.2.updParcel p.id fun x => { x with flags := x.flags ||| r.1 }) s

/-- A freed barrier record is no longer active; its generation and counts read on until it is allocated again. -/
def freeBars (pid : Nat) (m : Tab Barrier) : Tab Barrier :=
  m.map fun p => if p.2.active && p.2.parcel = pid then (p.1, { gen := p.2.gen, arrived := p.2.arrived, expected := p.2.expected }) else p

/-- Step 1 for what belongs to the parcel itself: its loads not yet acknowledged, and its send flits not yet sent. -/
def dropParcelFlight (pid : Nat) (s : State) : State :=
  let mine := fun (r : Req) => match r.kind with
    | .load id _ => id = pid
    | .fetch _ | .index _ | .command | .row _ | .metered | .sectors _ _ | .seen | .store _ _ | .add _ _ _ _ | .cached _ _ _ _
    | .written _ => false
  { s with
    mem := { s.mem with chans := s.mem.chans.map fun p => (p.1, { p.2 with
      queues := p.2.queues.map fun q => (q.1, q.2.filter fun r => !mine r)
      slots := p.2.slots.map fun x => if mine x.req then x.lost else x }) }
    fab := { s.fab with ports := s.fab.ports.map fun p => (p.1, { p.2 with
      queues := p.2.queues.map fun q => (q.1, q.2.filter fun f => f.owner ≠ pid + 1) }) } }

/-- The writes under way for marver slots that are freed serve no combine any longer. -/
def dropWrites (slots : List Nat) (s : State) : State :=
  let cut := fun (r : Req) => match r.kind with
    | .written (some k) => if slots.contains k then { r with kind := .written none } else r
    | .written none | .fetch _ | .index _ | .command | .row _ | .metered | .sectors _ _ | .seen | .store _ _ | .add _ _ _ _
    | .cached _ _ _ _ | .load _ _ => r
  { s with mem := { s.mem with chans := s.mem.chans.map fun p => (p.1, { p.2 with
      queues := p.2.queues.map fun q => (q.1, q.2.map cut)
      slots := p.2.slots.map fun x => { x with req := cut x.req } }) } }

/-- Step 4: free what the parcel held. -/
def freeParcel (p : Parcel) (s : State) : State :=
  let owner := p.id + 1
  let words := (s.sync.heldOwner.filter fun w => w.2 = owner).map Prod.fst
  let slots := (s.sync.combines.filter fun x => x.2.parcel = p.id).map Prod.fst
  let s := dropWrites slots s
  let s := { s with sync := { s.sync with
    counters := s.sync.counters.filter fun c => c.2.owner ≠ owner
    heldOwner := s.sync.heldOwner.filter fun w => w.2 ≠ owner
    csus := s.sync.csus.map fun c => (c.1, { c.2 with
      hfq := c.2.hfq.filter fun q => !words.contains (q.1 * 512 + q.2.1) })
    watches := s.sync.watches.filter fun w => w.2.parcel ≠ p.id
    sendWatches := s.sync.sendWatches.filter fun w => w.2.parcel ≠ p.id
    xlate := s.sync.xlate.filter fun x => x.2.parcel ≠ p.id
    clusterBar := freeBars p.id s.sync.clusterBar
    partBar := freeBars p.id s.sync.partBar
    domBar := freeBars p.id s.sync.domBar
    combines := s.sync.combines.filter fun x => x.2.parcel ≠ p.id
    due := s.sync.due.filter fun x => !slots.contains x.2
    combining := s.sync.combining.filter fun x => !slots.contains x
    rings := s.sync.rings.filter fun x => x.2.parcel ≠ p.id
    sends := s.sync.sends.filter fun x => x.2.parcel ≠ p.id } }
  freeArea p.base p.len s

/-- The end of a parcel, outcome and fault given; `reason` 16 when it ends at release before placement. The next release
of its context is not yet armed. -/
def endCore (id outcome fault reason : Nat) (s : State) : State :=
  match s.parcel id with
  | none => s
  | some p =>
    let s := if outcome = 0 then s else raiseFor 0xA002 0xFFFF id s
    let bars := s.pendingBars p
    let s := abortBarriers p bars (dropParcelFlight id (stopTasks p s))
    let s := if outcome = 5 then s else flushParcel p s
    let flags := ((s.parcel id).map Parcel.flags).getD 0
    let s := freeParcel p s
    let s := { s with part := { s.part with
      parcels := s.part.parcels.filter fun x => x.id ≠ id
      parcelsDone := if outcome = 0 then bump s.part.parcelsDone else s.part.parcelsDone
      parcelsEnded := if outcome = 0 then s.part.parcelsEnded else bump s.part.parcelsEnded
      stEnded := s.part.stEnded || outcome ≠ 0
      stLimit := s.part.stLimit || outcome = 3
      lastBusy := s.now } }
    let s :=
      if reason = 16 then
        deadLetter { reason := 16, kind := 0, via := p.via.code, context := p.context, tag := p.tag, serial := p.serial
                     epoch := p.epoch, fault := fault } s
      else s
    let r :=
      if p.state = .running || p.state = .loading then (p.releaseRev, s)
      else if reason = 16 then (s.round.rev, s)
      else freeRev s
    sendReport
      { via := p.via, address := p.report, kind := 1, outcome := outcome, context := p.context, flags := flags
        reason := reason, tag := p.tag, serial := p.serial, fault := fault, refused := 0, rev := r.1
        devtime := r.2.devCount } r.2

/-! ### Arming releases (R335) -/

/-- Parcels not yet released. -/
def Parcel.waiting (p : Parcel) : Bool :=
  match p.state with
  | .running => false
  | .queued | .requested | .waitMaster | .waitSync | .loading => true

/-- The oldest unreleased parcel of a context, if its release is to be requested now. -/
def State.toArm (s : State) (c : Nat) : Option Parcel :=
  match s.part.parcels.find? fun p => p.context = c && p.waiting with
  | some p =>
    match p.state with
    | .queued => some p
    | .waitSync => if s.angleValid then some p else none
    | .waitMaster => if s.masterThere then some p else none
    | .requested | .loading | .running => none
  | none => none

/-- Request a pool slot for a parcel's release; true when the release is missed. -/
def requestRelease (p : Parcel) (s : State) : Bool × State :=
  let set := fun (st : ParcelState) (s : State) => s.updParcel p.id fun x => { x with state := st }
  if !s.angleValid then (false, set .waitSync s)
  else
    match requestSlot { owner := 1, angle := p.relAngle, offset := 0, rev := p.relRev, next := !p.exact
                        tag := p.id } s with
    | (.refused, s) => (true, s)
    | (_, s) => (false, set .requested s)

/-- A mode 1 release that has passed or lacks resources: outcome 4 with 0xA004 (R335, R336). -/
def missRelease (id : Nat) (s : State) : State := endCore id 4 0xA004 0 (raiseFor 0xA004 0xFFFF id s)

/-- Arm the release of a context's oldest unreleased parcel; the first argument bounds the parcels missed on the way. -/
def armContext : Nat → Nat → State → State
  | 0, _, s => s
  | n + 1, c, s =>
    match s.toArm c with
    | none => s
    | some p =>
      match requestRelease p s with
      | (true, s) => armContext n c (missRelease p.id s)
      | (false, s) => s

/-- Queue room of a context bounds its parcels (Table 13.11). -/
def armNext (c : Nat) (s : State) : State := armContext 65 c s

/-- Arm every context that waits: at entry to SYNC, or when the master is back (R336, R345). -/
def armAll (s : State) : State := (List.range 128).foldl (fun s c => armNext c s) s

/-- A parcel ends; the next of its context is requested if this one was not yet released. -/
def endParcel (id outcome fault reason : Nat) (s : State) : State :=
  match s.parcel id with
  | none => s
  | some p => armNext p.context (endCore id outcome fault reason s)

/-- A missed release, and the next of its context. -/
def missParcel (id : Nat) (s : State) : State :=
  match s.parcel id with
  | none => s
  | some p => armNext p.context (missRelease id s)

/-- The parcel of a task that a fault has ended ends with it (R338). -/
def reapTask (s : State) (k : Nat × Nat) : State :=
  let t := s.task k.1 k.2
  if t.state = .ended && t.fault ≠ 0 then endParcel t.parcel 2 t.fault 0 s else s

/-- The parcels whose tasks faults have ended end, each with the fault of the lowest tile (R345). -/
def reap (s : State) : State :=
  (s.tiles.tiles.flatMap fun p => (p.2.tasks.filter fun q => q.2.fault ≠ 0).map fun q => (p.1, q.1)).foldl reapTask s

/-- A letter ends: its report, and its granules free (R341). -/
def endLetter (l : Letter) (s : State) : State :=
  let s := { s with part := { s.part with
    letters := s.part.letters.filter fun x => x.id ≠ l.id, lastBusy := s.now } }
  freeArea l.base l.len s

/-- LETTER_COMPLETE: every entry has been applied or refused (R341). -/
def doLetterComplete (id : Nat) (s : State) : State :=
  match s.part.letters.find? fun l => l.id = id with
  | none => s
  | some l =>
    if l.left ≠ 0 then s
    else
      sendReport
        { via := l.via, address := l.report, kind := 2, outcome := 0, context := l.context, flags := 0, reason := 0
          tag := l.tag, serial := l.serial, fault := 0
          refused := min l.refused 65535, rev := s.round.rev, devtime := s.devCount }
        (endLetter l s)

/-- Refuse every queued parcel and pending letter with a reason; 0xA001 once for the event (R339). Entries of a refused letter
that are under way end; those not begun are not applied (assumption log, entry 86). -/
def refuseAll (reason : Nat) (s : State) : State :=
  let ps := s.part.parcels.filter fun p => p.waiting && p.state ≠ .loading
  let ls := s.part.letters
  let s := ps.foldl (fun s p =>
    freeArea p.base p.len (refuse p.post p.serial p.epoch reason
      { s with part := { s.part with parcels := s.part.parcels.filter fun x => x.id ≠ p.id } })) s
  let s := ls.foldl (fun s l => endLetter l (refuse l.post l.serial l.epoch reason s)) s
  let s := { s with fs := { s.fs with entries := s.fs.entries.filter fun e => e.origin.isSome || e.stage ≠ 0 } }
  if ps.isEmpty && ls.isEmpty then s else raise0 0xA001 s

/-- LETTER_COMPLETE. -/
def execLetterComplete (t letter : Nat) (s : State) : Host.Outcome State Fault Refusal :=
  .next (doLetterComplete letter (s.advance t))

end Sys2Proof.Machine
end

