-- ==== Sys2Proof/Machine/Lehr.lean ====
section
/-! DEFINITION. The Lehr governor (R62 to R82): targets and steps, the control law, hold and descent, the alert, thermal trip and
the start plateau. -/

namespace Sys2Proof.Machine

def State.setLehr (l : LehrSt) (s : State) : State := { s with lehr := l }

/-! ### Targets (R63, R65) -/

/-- Sum of the 32 claims, W. -/
def LehrSt.claimSum (l : LehrSt) : Nat := (l.claims.map Prod.snd).sum

/-- The device target (R63), in 1/256 nW. -/
def State.deviceTarget (s : State) : Nat :=
  min (max ((s.im.pwr.baseW + s.lehr.claimSum) * wattU) (s.lehr.floorW * wattU)) s.lehr.ceilEff

/-- The step limit dmax = PWR_SLEW × PWR_STEP_TEETH × RND_REF_PERIOD (R65), exactly. -/
def State.stepLimit (s : State) : Nat := s.lehr.slew * 100 * s.lehr.stepTeeth * s.refPeriod

/-- Is a segment in progress? -/
def LehrSt.segmentActive (l : LehrSt) : Bool :=
  match l.motion with
  | .segment goal => l.setpoint ≠ goal
  | .still | .plateau | .descent _ | .quarantine _ => false

/-- The segment end of a step: the difference to the target, clamped to dmax (R65). -/
def segmentEndOf (setpoint target dmax : Nat) : Nat := towards setpoint target dmax

/-! ### Slot 0 (R65, R78) -/

/-- Is one of the governor's slots in use, or asked for by a request that waits for a move to end (R49)? -/
def State.lehrSlotBusy (s : State) : Bool :=
  ((List.range 8).any fun n => (s.evSlot n).state = .armed || (s.evSlot n).state = .timing)
    || s.round.waiting.any fun q => q.owner = 0

/-- Arm slot 0 at the slot angle, next occurrence, where the governor steps and no slot of its own is armed. -/
def armLehr (s : State) : State :=
  if !s.lehr.state.governing || s.lehrSlotBusy then s
  else (requestSlot { owner := 0, angle := s.round.slotAngle, offset := 0, rev := 0, next := true, tag := 0 } s).2

/-! ### Hold and descent (R78) -/

/-- The state that follows HOLD, DESCEND or ALERT with no loss in force. -/
def LehrSt.resumed (l : LehrSt) : PwrState := if l.floorW * wattU ≤ l.setpoint then .govern else .rampToFloor

/-- Enter DESCEND: a setpoint above the floor falls to it. -/
def LehrSt.descend (l : LehrSt) : LehrSt := { l with state := .descend, motion := .descent (l.floorW * wattU) }

/-- Enter HOLD, or DESCEND where the hold limit has expired. -/
def LehrSt.enterHold (l : LehrSt) : LehrSt :=
  let l := { l with holdPending := false, motion := .still }
  if l.holdExpired then l.descend else { l with state := .hold }

/-- A loss is in force: HOLD at once, or when the segment in progress has completed. -/
def LehrSt.heldBack (l : LehrSt) : LehrSt :=
  match l.state with
  | .rampToFloor | .govern => if l.segmentActive then { l with holdPending := true } else l.enterHold
  | .reset | .start | .hold | .descend | .alert | .tripped | .quarantineIdle => l

/-- A new loss restarts the hold time when none was in force. -/
def LehrSt.restart (l : LehrSt) : LehrSt := if l.lossNow then l else { l with holdNs := 0, holdExpired := false }

/-- The angle has stopped being valid. -/
def roundLost (s : State) : State :=
  let l := s.lehr
  s.setLehr { l.restart with roundLoss := some (l.roundLoss.getD s.now) }.heldBack

/-- The master has been lost (0x9002). -/
def masterLost (s : State) : State :=
  let l := s.lehr
  s.setLehr { l.restart with masterLoss := some (l.masterLoss.getD s.now) }.heldBack

/-- Entry to RAMP_TO_FLOOR: no loss counts from before it (R78). -/
def State.rampTime (s : State) : Nat := tget s.start.stageTime 8 0

/-- A loss has ended: with none left the governor resumes and slot 0 is armed again; else the time counts from the earliest
loss still in force. -/
def lossEnded (s : State) : State :=
  let l := s.lehr
  match l.roundLoss, l.masterLoss with
  | none, none =>
    let l := { l with holdPending := false, holdExpired := false }
    let l :=
      if l.state = .hold || l.state = .descend then { l with motion := .still, state := l.resumed } else l
    armLehr (s.setLehr l)
  | a, b =>
    let since := max (min (a.getD s.now) (b.getD s.now)) s.rampTime
    if l.state.governing then s.setLehr { l with holdNs := s.now - since } else s

/-- SYNC has been entered. -/
def roundBack (s : State) : State :=
  if s.lehr.roundLoss.isNone then armLehr s else lossEnded (s.setLehr { s.lehr with roundLoss := none })

/-- The master is back (R312, R78). -/
def masterBack (s : State) : State :=
  if s.lehr.masterLoss.isNone then s else lossEnded (s.setLehr { s.lehr with masterLoss := none })

/-- POWER_HOLD_EXPIRED: the hold limit is reached (R78, step 2). -/
def doPowerHoldExpired (s : State) : State :=
  let l := s.lehr
  if !l.lossNow || !l.state.governing || l.holdExpired || l.holdNs < s.im.pwr.holdS * 1000000000 then s
  else
    let l := { l with holdExpired := true, stHoldExpired := true }
    raise0 0x2003 (s.setLehr (if l.state = .hold then l.descend else l))

/-! ### Steps (R65, R81) -/

/-- Thermal derating at a step (R81). PWR_ST_DERATE is set at every derating step, not at the first of an episode only (DESIGN
CHOICE, assumption log, entry 94). -/
def derate (dmax : Nat) (s : State) : State :=
  let l := s.lehr
  let warn : Int := (s.im.pwr.warnC : Int) * 16
  if warn ≤ l.maxTemp then
    let l' := { l with
      ceilEff := max (l.floorW * wattU) (l.setpoint - dmax), derating := true, stDerate := true }
    if l.derating then s.setLehr l' else raise 0x2006 l.hotDie (s.setLehr l')
  else if warn - 80 ≤ l.maxTemp then s
  else
    let c := min (l.ceilEff + dmax) (l.ceilingW * wattU)
    s.setLehr { l with ceilEff := c, derating := l.derating && c < l.ceilingW * wattU }

/-- One step: a segment towards the target begins. -/
def lehrStep (s : State) : State :=
  let dmax := s.stepLimit
  let s := derate dmax s
  let l := s.lehr
  s.setLehr { l with
    steps := bump l.steps, target := s.deviceTarget
    motion := .segment (segmentEndOf l.setpoint s.deviceTarget dmax) }

/-- Slot 0 has fired (R65, R77, R78, R80, R82). -/
def fireLehr (s : State) : State :=
  match s.lehr.state with
  | .rampToFloor | .govern =>
    let s := armLehr s
    if s.lehr.holdPending then s.setLehr { s.lehr with stepsSkipped := bump s.lehr.stepsSkipped } else lehrStep s
  | .hold | .descend | .alert =>
    let s := armLehr s
    s.setLehr { s.lehr with stepsSkipped := bump s.lehr.stepsSkipped }
  | .reset | .start | .tripped | .quarantineIdle => s

/-- SEGMENT_END: the setpoint has reached the end value; a hold that waited for it begins (R78). -/
def doSegmentEnd (s : State) : State :=
  let l := s.lehr
  match l.motion with
  | .segment goal =>
    if l.setpoint ≠ goal then s
    else
      let l := { l with motion := .still }
      s.setLehr (if l.holdPending then l.enterHold else l)
  | .still | .plateau | .descent _ | .quarantine _ => s

/-! ### The control law (R67 to R70, R75) -/

/-- Saturate a reading to its limits (R75). -/
def saturateInt (lo hi x : Int) : Int := max lo (min hi x)

/-- The hottest of the dies, the lowest on a tie: its number and temperature. -/
def hottest (temps : List Int) : Nat × Int :=
  match temps with
  | [] => (0, 0)
  | t :: _ =>
    (List.range temps.length).foldl (fun acc i =>
      if acc.2 < temps.getD i 0 then (i, temps.getD i 0) else acc) (0, t)

/-- Stages that step island clocks down before the last one gates the issue of commands (R68). -/
def State.clockStages (s : State) : Nat := (s.im.tile.islandMhz - 800) / 100

/-- Set the throttle stage. -/
def State.setThrottle (n : Nat) (s : State) : State :=
  s.setLehr { s.lehr with throttle := n, gateIssue := s.clockStages < n }

/-- The rules of R67 on the readings of a tick, powers in mW: below the setpoint an engaged throttle is relaxed and ballast waits
for it; above it ballast falls, and with none left the throttle tightens one stage at every tick. -/
def controlLaw (measured : Nat) (s : State) : State :=
  let l := s.lehr
  let goal := uToMw l.setpoint
  let avail := l.ballastAvail
  if measured < goal && 0 < l.throttle then
    let s := s.setLehr { l with ballast := min l.ballast avail }
    if measured * 100 < goal * 99 then s.setThrottle (l.throttle - 1) else s
  else
    let step := Config.ballastStep (if measured < goal then goal - measured else measured - goal) s.free
    let s := { s with free := s.free + 1 }
    if measured < goal then s.setLehr { l with ballast := min (l.ballast + min step (goal - measured)) avail }
    else
      let b := min (l.ballast - min step (measured - goal)) avail
      let s := s.setLehr { l with ballast := b }
      if b = 0 && goal * 101 < measured * 100 then s.setThrottle (min (l.throttle + 1) (s.clockStages + 1)) else s

/-- A shortfall: the setpoint exceeds the power measured with all available ballast applied, `applied` over that tick (R69). -/
def noteShortfall (applied measured : Nat) (s : State) : State :=
  let l := s.lehr
  let short := l.ballastAvail ≤ applied && measured < uToMw l.setpoint
  let s := s.setLehr { l with
    shortfall := short, stShortfall := l.stShortfall || short
    shortfallTicks := l.shortfallTicks + flag short, throttleTicks := l.throttleTicks + flag (0 < l.throttle) }
  if short && !l.shortfallRaised then raise0 0x2005 (s.setLehr { s.lehr with shortfallRaised := true }) else s

/-- Sum of one column of the window. -/
def windowSum (f : Nat × Nat → Nat) (w : List (Nat × Nat)) : Nat := (w.map f).sum

/-- Idle MXEs of cluster `c` at the last control tick: a cluster has 64. -/
def LehrSt.idleOf (l : LehrSt) (c : Nat) : Nat := min (l.idleMxe.getD c 0) 64

/-- MXEs with no real work in all 64 clusters. -/
def LehrSt.idleSum (l : LehrSt) : Nat := ((List.range 64).map l.idleOf).sum

/-- Ballast of cluster `c` in nW: the governor spreads it in proportion to the idle MXEs (R70). -/
def LehrSt.clusterBallast (l : LehrSt) (c : Nat) : Nat := l.ballast * 1000000 * l.idleOf c / max l.idleSum 1

/-- Ballast of each idle MXE of cluster `c` in nW; an MXE with real work carries none (R70). -/
def LehrSt.tileBallast (l : LehrSt) (c : Nat) : Nat := l.clusterBallast c / max (l.idleOf c) 1

/-- A tick enters the 1 ms window; a whole window in GOVERN without shortfall is judged against ±3 % (R69). The windows judged are
the consecutive blocks of 1,000 control ticks, none overlapping another (DESIGN CHOICE, assumption log, entry 95). -/
def noteWindow (measured : Nat) (clamp : Bool) (s : State) : State :=
  let l := s.lehr
  let w := ((uToMw l.setpoint, measured) :: l.window).take 1000
  let bad := l.winBad || l.state ≠ .govern || l.shortfall
  let l := { l with
    window := w, windowClamp := (clamp :: l.windowClamp).take 1000
    measured := windowSum Prod.snd w / w.length
    winTicks := (l.winTicks + 1) % 1000, winBad := bad && l.winTicks + 1 < 1000 }
  let sp := windowSum Prod.fst w
  let me := windowSum Prod.snd w
  if l.winTicks = 0 && !bad && (me * 100 < sp * 97 || sp * 103 < me * 100) then
    let s := s.setLehr { l with oob := bump l.oob, stOob := true, oobRaised := true }
    if l.oobRaised then s else raise0 0x2004 s
  else s.setLehr l

/-- Does the governor hold a setpoint: from the verified image on, until a trip (R80, R82)? -/
def State.governs (s : State) : Bool := s.img.isSome && s.lehr.state ≠ .reset && s.lehr.state ≠ .tripped

/-- The monitors of the comb fibres: LENS_COMB_PWR0 and LENS_COMB_PWR1 show the readings of the last control tick (DESIGN CHOICE,
assumption log, entry 100). -/
def noteComb (p : List Int) (s : State) : State :=
  let f := fun (i : Nat) (old : Int) => saturateInt (-32768) 32767 (p.getD i old)
  { s with lens := { s.lens with combPwr0 := f 0 s.lens.combPwr0, combPwr1 := f 1 s.lens.combPwr1 } }

/-- CONTROL_TICK: the readings are taken, and ballast and throttle adjusted (R67). -/
def doControlTick (r : PowerReading) (s : State) : State :=
  if !s.running then s
  else
    let measured := min r.measuredMw 1100000
    let temps := r.temps.map (saturateInt (-640) 2400)
    let clamp := measured ≠ r.measuredMw || temps ≠ r.temps
    let hot := hottest temps
    let l := s.lehr
    let l := { l with
      maxTemp := if temps.isEmpty then l.maxTemp else hot.2, hotDie := if temps.isEmpty then l.hotDie else hot.1
      work := measured - l.ballast, stAdcClamp := l.stAdcClamp || clamp }
    let s := noteComb r.comb (s.setLehr l)
    if s.governs then
      let l := { l with idleMxe := r.idleMxe.take 64 }
      let s := s.setLehr { l with ballastAvail := 630000 * l.idleSum / 4096 }
      noteWindow measured clamp (noteShortfall (min l.ballast (630000 * l.idleSum / 4096)) measured (controlLaw measured s))
    else noteWindow measured clamp s

/-! ### Claims (R62) -/

/-- Has a partition a running or queued parcel? -/
def State.partitionBusy (s : State) (p : Nat) : Bool := s.part.parcels.any fun x => s.ctxPartition x.context = p

/-- One 0.0: every partition without a parcel counts it. -/
def countIdle (s : State) : State :=
  if s.img.isNone then s
  else
    (List.range 32).foldl (fun s p =>
      s.setLehr { s.lehr with
        idleRevs := tset s.lehr.idleRevs p (if s.partitionBusy p then 0 else tget s.lehr.idleRevs p 0 + 1) }) s

/-- CLAIM_IDLE_RELEASE: a partition has been idle at PWR_IDLE_RELEASE_REV consecutive 0.0 angles. -/
def doClaimIdleRelease (p : Nat) (s : State) : State :=
  if tget s.lehr.idleRevs p 0 < s.im.pwr.idleRev || s.partitionBusy p then s
  else s.setLehr { s.lehr with claims := tset s.lehr.claims p 0 }

/-! ### The alert (R79) -/

/-- The alert setpoint is in force. -/
def LehrSt.alerted (l : LehrSt) : LehrSt :=
  { l with
    state := .alert, motion := .still, setpoint := min (l.floorW * wattU) l.setpoint, ballast := 0, holdPending := false }

/-- PWR_ALERT_N_ASSERT. -/
def doPwrAlertNAssert (s : State) : State :=
  if s.pins.alertLow then s
  else
    let s := { s with pins := { s.pins with alertLow := true } }
    if !s.running then s
    else
      let l := { s.lehr with alerts := bump s.lehr.alerts, stAlert := true }
      raise0 0x2001 (s.setLehr (if l.state.governing && l.state ≠ .alert then l.alerted else l))

/-- PWR_ALERT_N_RELEASE. -/
def doPwrAlertNRelease (s : State) : State :=
  let s := { s with pins := { s.pins with alertLow := false } }
  if s.lehr.state ≠ .alert then s
  else
    let l := s.lehr
    if l.lossNow then s.setLehr l.enterHold else armLehr (s.setLehr { l with state := l.resumed })

/-! ### Thermal trip (R80, R339) -/

/-- Ports that have not failed go dark with the bonded banks (R319); a failed one stays so until RESET_N (Table 12.10). -/
def darkenPorts (s : State) : State :=
  if s.im.lens.comb then s
  else { s with fab := { s.fab with ports := s.fab.ports.map fun p =>
    if p.2.state = .failed then p else (p.1, { p.2 with state := .dark, probing := false, pendingMode := none }) } }

/-- Lens drive, heaters and the bonded banks stop; every engine stays as it is until RESET_N (R80, R289). -/
def stopLight (s : State) : State := darkenPorts { s with lens := { s.lens with lit := false } }

/-- THERMAL_TRIP: clocks, ballast and light stop; running parcels end, queued ones and letters are refused, the doors close. The
throttle keeps its stage, and PWR_THROTTLING reads on, while PWR_THROTTLE_MS no longer counts: the manual says of neither what a
trip does to it (DESIGN CHOICE, assumption log, entry 101). -/
def doThermalTrip (die : Nat) (s : State) : State :=
  if !s.running || s.lehr.state = .tripped then s
  else
    let s := if s.start.stage = 8 then stopEntry s else s
    let l := s.lehr
    let s := raise 0x2002 die (s.setLehr { l with
      state := .tripped, motion := .still, target := if s.img.isSome then s.deviceTarget else 0, ballast := 0
      holdPending := false, shortfall := false })
    let s := stopLight { s with part := { s.part with doorsOpen := false } }
    let running := s.part.parcels.filter fun p => !p.waiting || p.state = .loading
    let s := running.foldl (fun s p => endCore p.id 5 0x2002 0 s) s
    refuseAll 11 s

/-! ### Start (R82) -/

/-- The image is verified: the setpoint leaves reset and idle power for the start plateau. -/
def powerImage (s : State) : State :=
  let p := s.im.pwr
  s.setLehr { s.lehr with
    floorW := p.floorW, ceilingW := p.ceilingW, slew := p.slew, stepTeeth := p.stepTeeth
    ceilEff := p.ceilingW * wattU, setpoint := idleU, motion := .plateau }

/-- PLATEAU_REACHED. -/
def doPlateauReached (s : State) : State :=
  if s.lehr.motion = .plateau && s.lehr.setpoint = plateauU then s.setLehr { s.lehr with motion := .still } else s

/-- RAMP_TO_FLOOR begins: slot 0 is armed; a loss in force puts the governor in HOLD, a low PWR_ALERT_N in ALERT. -/
def beginRamp (s : State) : State :=
  let s := armLehr (s.setLehr { s.lehr with state := .rampToFloor, motion := .still, holdNs := 0, holdExpired := false })
  if s.pins.alertLow then s.setLehr s.lehr.alerted
  else if s.lehr.lossNow then s.setLehr s.lehr.heldBack
  else s

/-- QUARANTINE_IDLE: the setpoint descends to idle power. -/
def quarantineLehr (s : State) : State :=
  if s.lehr.state = .tripped then s
  else s.setLehr { s.lehr with state := .quarantineIdle, motion := .quarantine idleU, holdPending := false }

/-! ### Samples (R74) -/

/-- PWR_SMP_FLAGS; [19] is the level of PWR_ALERT_N after its filter, in every state (DESIGN CHOICE, assumption log, entry 96). -/
def State.powerFlags (s : State) : Nat :=
  let l := s.lehr
  flag (l.windowClamp.any id) + 2 * flag (0 < l.throttle) + 4 * flag l.shortfall + 8 * flag s.pins.alertLow
    + 16 * flag (l.state = .hold || l.state = .descend) + 32 * flag l.derating

/-- Fill power sample record `i` for the subscribers in the mask; PWR_SMP_FLAGS, for which Table 3.3 names no subscriber, with
either of the two (DESIGN CHOICE, assumption log, entry 96). -/
def powerSample (i mask : Nat) (s : State) : State :=
  let l := s.lehr
  if bits mask 0 2 = 0 then s
  else
    s.setLehr { l with samples := tupd l.samples i {} fun r =>
      let r := if bit mask 0 then { r with
          setpoint := uToMw l.setpoint, mean := l.measured, work := l.work, ballast := l.ballast } else r
      let r := if bit mask 1 then { r with temp := l.maxTemp } else r
      { r with rev := s.round.rev, flags := s.powerFlags, revEnd := s.round.rev } }

/-! ### Commands -/

/-- SEGMENT_END. -/
def execSegmentEnd (t : Nat) (s : State) : Host.Outcome State Fault Refusal := .next (doSegmentEnd (s.advance t))

/-- PLATEAU_REACHED. -/
def execPlateauReached (t : Nat) (s : State) : Host.Outcome State Fault Refusal := .next (doPlateauReached (s.advance t))

/-- CONTROL_TICK. -/
def execControlTick (t : Nat) (r : PowerReading) (s : State) : Host.Outcome State Fault Refusal :=
  .next (doControlTick r (s.advance t))

/-- CLAIM_IDLE_RELEASE. -/
def execClaimIdleRelease (t partition : Nat) (s : State) : Host.Outcome State Fault Refusal :=
  .next (doClaimIdleRelease partition (s.advance t))

/-- POWER_HOLD_EXPIRED. -/
def execPowerHoldExpired (t : Nat) (s : State) : Host.Outcome State Fault Refusal :=
  .next (doPowerHoldExpired (s.advance t))

/-- PWR_ALERT_N_ASSERT. -/
def execPwrAlertNAssert (t : Nat) (s : State) : Host.Outcome State Fault Refusal := .next (doPwrAlertNAssert (s.advance t))

/-- PWR_ALERT_N_RELEASE. -/
def execPwrAlertNRelease (t : Nat) (s : State) : Host.Outcome State Fault Refusal :=
  .next (doPwrAlertNRelease (s.advance t))

/-- THERMAL_TRIP. -/
def execThermalTrip (t die : Nat) (s : State) : Host.Outcome State Fault Refusal := .next (doThermalTrip die (s.advance t))

end Sys2Proof.Machine
end

