-- ==== Sys2Proof/Machine/Rows.lean ====
section
/-! DEFINITION. Rows of tables: from index to row and home (R214 to R216), and where a shard keeps its map and cells. -/

namespace Sys2Proof.Machine

/-- The hash of R215. -/
def rowHash (seed rows index : Nat) : Nat :=
  let m := 2 ^ 64
  let z0 := index % m ^^^ seed
  let z1 := (z0 ^^^ z0 >>> 31) * 0x8A5CD789635D2DFF % m
  let z2 := (z1 ^^^ z1 >>> 29) * 0x9D3B4E1F6C27A8B5 % m
  (z2 ^^^ z2 >>> 32) * rows / m

/-- The row of an index in a table with rows of its own (R214): none where the index is not valid. -/
def FsTable.rowOf (t : FsTable) (index : Int) : Option Nat :=
  if t.mode = 1 then some (rowHash t.seed t.rows (ofSigned 64 index))
  else if 0 ≤ index && index < t.rows then some index.toNat
  else none

/-- Home of a row (R216): device, shard of the table, entry of the row map. -/
def FsTable.home (t : FsTable) (r : Nat) : Nat × Nat × Nat :=
  let g := r % (t.shards * t.devCount)
  (t.devFirst + g / t.shards, g % t.shards, r / (t.shards * t.devCount))

/-- Part shard number of a table's shard 0 (R235). -/
def State.firstShard (s : State) (id : Nat) : Nat :=
  (s.im.ownTables.filter fun t => t.id < id).foldl (fun acc t => acc + t.shards) 0

/-- The table a part shard belongs to, with the shard's number in it. -/
def State.shardTable (s : State) (n : Nat) : Option (FsTable × Nat) :=
  match s.im.ownTables.find? fun t => s.firstShard t.id ≤ n && n < s.firstShard t.id + t.shards with
  | some t => some (t, n - s.firstShard t.id)
  | none => none

/-- Bytes of a shard's row map, up to the 32-byte boundary at which its cells start (assumption log, entry 7). -/
def FsTable.mapBytes (t : FsTable) : Nat := roundUp (8 * t.homeRows) 32

/-- Channel offset at which a part shard begins: its channel's shards follow one another from G. -/
def State.shardBase (s : State) (n : Nat) : Nat :=
  (List.range n).foldl (fun acc m =>
    if m % 64 = n % 64 then
      match s.shardTable m with
      | some (t, _) => acc + t.mapBytes + t.cells * t.cellBytes
      | none => acc
    else acc) s.im.general

/-- Channel of a part shard: shard k of a table lies on channel k mod 64, and every table has a multiple of 64. -/
def shardChan (n : Nat) : Nat := n % 64

/-- Channel offset of a slot of a cell of a part shard. -/
def State.slotOff (s : State) (n cell ver : Nat) : Nat :=
  match s.shardTable n with
  | some (t, _) => s.shardBase n + t.mapBytes + cell * t.cellBytes + ver * t.slotBytes
  | none => 0

/-- Key of a row-map entry: part shard and entry number. -/
def rmKey (n e : Nat) : Nat := n * 2 ^ 40 + e

def State.rowMap (s : State) (n e : Nat) : RowMap := tget s.fs.rowMap (rmKey n e) {}

/-- A row-map entry as the 64 bits of Table 9.2. -/
def RowMap.word (m : RowMap) : Nat :=
  m.cell + m.shard * 2 ^ 28 + flag m.ver * 2 ^ 40 + flag m.valid * 2 ^ 41 + flag m.replicated * 2 ^ 42
    + flag m.busy * 2 ^ 43

/-- Write a row-map entry, by a single 64-bit write (R219). -/
def State.setRowMap (n e : Nat) (m : RowMap) (s : State) : State :=
  { s with fs := { s.fs with rowMap := tset s.fs.rowMap (rmKey n e) m } }

def State.shard (s : State) (n : Nat) : Shard := tget s.fs.shards n {}

def State.updShard (n : Nat) (f : Shard → Shard) (s : State) : State :=
  { s with fs := { s.fs with shards := tupd s.fs.shards n {} f } }

/-- The lowest free cell of a part shard. -/
def State.freeCell (s : State) (n : Nat) : Option Nat :=
  match s.shardTable n with
  | some (t, _) => (List.range t.cells).find? fun c => !(s.shard n).usedCells.contains c
  | none => none

/-! ### Letters (R224, R225, R341) -/

/-- Is an entry refused whatever state its row is in (R225)? `word` is its first header word, `index` its second. -/
def State.entryBad (s : State) (ctx word index : Nat) : Bool :=
  match s.im.table (bits word 0 8) with
  | none => true
  | some t =>
    t.mode = 2 || t.writer ≠ ctx || bits word 9 7 ≠ 0 || bits word 32 32 ≠ 0
      || (t.rowOf (toSigned 64 index)).isNone
      || bits word 16 16 ≠ (if bit word 8 then 0 else t.rowBytes)

/-- Header words and data of a letter's entries; none where they do not end exactly with the bytes. -/
def walkEntries : Nat → List Byte → Option (List (Nat × Nat × List Byte))
  | 0, bs => if bs.isEmpty then some [] else none
  | n + 1, bs =>
    if bs.length < 16 then none
    else
      let w := numAt bs 0 8
      let len := roundUp (bits w 16 16) 16
      if bs.length < 16 + len then none
      else (walkEntries n (bs.drop (16 + len))).map fun r => (w, numAt bs 8 8, sub bs 16 (bits w 16 16)) :: r

/-- A refused entry: counted; the first of its letter is raised (R225). -/
def refuseEntry (letter table : Nat) (s : State) : State :=
  let s := { s with fs := { s.fs with refused := bump s.fs.refused } }
  match s.part.letters.find? fun l => l.id = letter with
  | none => s
  | some l =>
    let s := { s with part := { s.part with letters := s.part.letters.map fun x =>
      if x.id = letter then { x with refused := x.refused + 1, left := x.left - 1 } else x } }
    if l.refused = 0 then
      raiseFull 0x7004 table (some l.context) (l.serial % 2 ^ 32) { s with fs := { s.fs with stLetterRefused := true } }
    else s

/-- What the flits of a message about a row say beside its bytes (Table 12.2): where they go, and the port on which the credit of
a reply is reserved. -/
structure RowHead where
  kind : Nat
  sub : Nat
  table : Nat
  row : Nat
  context : Nat := 0
  cluster : Nat := 0
  pos : Nat := 0
  tag : Nat := 0
  dst : Nat
  vc : Nat
  hold : Option Nat := none
deriving DecidableEq, Repr

/-- Data flits of a message about a row: its bytes 7 sectors a flit, the poison of each sector in FAB_DF_POISON; at least one
flit. -/
def rowFlits (h : RowHead) : Nat → List (Byte × Bool) → State → State
  | 0, _, s => s
  | n + 1, bs, s =>
    let part := bs.take 224
    let body := dfHead h.row h.context h.kind h.cluster h.pos (sectorPoison part) h.table h.sub h.tag ++ part.map Prod.fst
    let s := sendReply h.hold 1 h.vc h.cluster h.dst (ceilDiv part.length 32) body s
    if (bs.drop 224).isEmpty then s else rowFlits h n (bs.drop 224) s

/-- Send a message about a row. -/
def sendRow (h : RowHead) (bs : List (Byte × Bool)) (s : State) : State := rowFlits h (bs.length / 224 + 1) bs s

/-- Bytes without poison. -/
def cleanBytes (bs : List Byte) : List (Byte × Bool) := bs.map fun b => (b, false)

/-- A fresh tag for a request to another part. -/
def State.freshTag (s : State) : Nat × State :=
  (s.fs.nextTag, { s with fs := { s.fs with nextTag := (s.fs.nextTag + 1) % 2 ^ 32 } })

/-- One entry of an accepted letter: refused at once, queued at this part, or forwarded to the row's home (R226). -/
def addEntry (l : Letter) (e : Nat × Nat × List Byte) (s : State) : State :=
  let id := bits e.1 0 8
  if s.entryBad l.context e.1 e.2.1 then refuseEntry l.id id s
  else
    match s.im.table id with
    | none => s
    | some t =>
      match t.rowOf (toSigned 64 e.2.1) with
      | none => s
      | some row =>
        let x : Entry := { letter := l.id, context := l.context, table := id, row := row, unload := bit e.1 8
                           bytes := cleanBytes e.2.2, stage := 0 }
        if (t.home row).1 = s.deviceId then { s with fs := { s.fs with entries := s.fs.entries ++ [x] } }
        else
          let g := s.freshTag
          let s := sendRow
            { kind := 4, sub := flag x.unload, table := id, row := row, context := l.context, tag := g.1, dst := (t.home row).1
              vc := 2 } x.bytes g.2
          { s with fs := { s.fs with entries := s.fs.entries ++ [{ x with stage := 2, tag := g.1 }] } }

end Sys2Proof.Machine
end

