-- ==== Sys2Proof/Machine/Post.lean ====
section
/-! DEFINITION. Doors (R327 to R330) and the acceptance of posts (R331, R334, R341). -/

namespace Sys2Proof.Machine

/-! ### Check 4: the form of a parcel or letter -/

/-- Entry size of the sections whose entries have one, in header order: tasks, sync map, watches, barriers, mapping, Lens
matrices, sends, circuit schedule, loads (Table 13.4); and the least and greatest count. -/
def sectionShape : List (Nat × Nat × Nat) :=
  [(16, 1, 128), (8, 0, 4096), (24, 0, 4096), (16, 0, 1), (8, 1, 1), (4112, 0, 256), (32, 0, 16), (4, 0, 32), (16, 0, 256)]

/-- Do `n` load entries from offset `o` lie within the signed bytes, well formed? -/
def loadsOk (bs : List Byte) (signed : Nat) : Nat → Nat → Bool
  | 0, o => o ≤ signed
  | n + 1, o =>
    let w0 := numAt bs o 8
    let w1 := numAt bs (o + 8) 8
    o + 16 ≤ signed && bits w0 48 16 = 0 && bits w0 0 48 % 32 = 0 && bits w1 32 32 = 0
      && loadsOk bs signed n (o + 16 + roundUp (bits w1 0 32) 8)

/-- Is section `i` of a parcel within bounds and counts? -/
def sectionOk (bs : List Byte) (signed i : Nat) : Bool :=
  let w := numAt bs (40 + 8 * i) 8
  let off := bits w 0 32
  let n := bits w 32 16
  let k := sectionShape.getD i (0, 0, 0)
  bits w 48 16 = 0 && off % 8 = 0 && k.2.1 ≤ n && n ≤ k.2.2
    && (n = 0 || (128 ≤ off && off + n * k.1 ≤ signed))
    && (if i = 4 then
          let h := numAt bs off 8
          off + 8 + 40 * bits h 32 5 + 16 * bits h 48 5 ≤ signed
        else if i = 7 then (List.range n).all fun j => bits (numAt bs (off + 4 * j) 4) 20 12 = 0
        else if i = 8 then n = 0 || loadsOk bs signed n off
        else true)

/-- Magic and format of a parcel or letter. -/
def headerRead (kind : Nat) (bs : List Byte) : Bool :=
  numAt bs 0 4 = (if kind = 2 then 0x4C344B59 else 0x50344B59) && numAt bs 4 2 = 1

/-- Check 4 for a parcel (Tables 13.3 and 13.4). -/
def parcelOk (len : Nat) (bs : List Byte) : Bool :=
  let w2 := numAt bs 16 8
  let w3 := numAt bs 24 8
  let signed := numAt bs 12 4
  headerRead 1 bs && 128 ≤ signed && bits (numAt bs 0 8) 55 9 = 0 && signed % 8 = 0 && numAt bs 8 4 = signed + 96
    && len = signed + 96 && bits w2 60 4 = 0 && bits w2 42 2 ≤ 1 && bits w2 52 8 ≤ 253
    && bits w3 48 16 = 0 && numAt bs 112 8 = 0 && numAt bs 120 8 = 0
    && (List.range 9).all fun i => sectionOk bs signed i

/-- Check 4 for a letter (Table 13.8). -/
def letterOk (len : Nat) (bs : List Byte) : Bool :=
  let n := numAt bs 12 4
  headerRead 2 bs && bits (numAt bs 0 8) 55 9 = 0 && numAt bs 8 4 = len && 64 ≤ len && len ≤ 16777216 && 1 ≤ n
    && numAt bs 20 4 = 0 && numAt bs 32 8 = 0 && numAt bs 40 8 = 0
    && n ≤ len && (walkEntries n (bs.drop 48)).isSome

/-! ### Acceptance (R334) -/

/-- Checks 1 and 2: the reason, 0 when both pass. -/
def State.doorReason (s : State) : Nat :=
  if !s.isReady then 1
  else if s.lehr.state = .tripped then 11
  else if !s.part.doorsOpen then 1
  else if !s.masterThere then 9
  else 0

/-- Is the transport of a post permitted for its context? -/
def State.transportOk (s : State) (v : Via) (c : Nat) : Bool :=
  match s.ctxRec c with
  | none => false
  | some r => match v with
    | .pcie _ => r.pcie
    | .net _ _ => r.net

/-- Checks 4 to 10: the reason, 0 when all pass. -/
def State.bodyReason (s : State) (p : Post) (bs : List Byte) : Nat :=
  let letter := p.kind = 2
  let serial := numAt bs (if letter then 24 else 32) 8
  let key := match s.ctxRec p.context with | some r => leBytes r.key 97 | none => []
  let signed := numAt bs 12 4
  if !(if letter then letterOk p.len bs else parcelOk p.len bs) then 2
  else if bits (numAt bs 0 8) 48 7 ≠ p.context || !s.transportOk p.via p.context then 3
  else if !letter && !signedBy key (bs.take signed) (sub bs signed 96) then 4
  else if numAt bs 16 4 ≠ s.fab.epoch then 5
  else if serial ≤ (if letter then (s.ctx p.context).lastLserial else (s.ctx p.context).lastSerial) then 6
  else if (if letter then 16 ≤ (s.part.letters.filter fun l => l.context = p.context).length
           else 64 ≤ (s.part.parcels.filter fun x => x.context = p.context).length) then 7
  else if (s.findArea p.context p.len).isNone then 8
  else 0

/-- The parcel of an accepted post. -/
def parcelOf (p : Post) (bs : List Byte) (base : Nat) : Parcel :=
  let w2 := numAt bs 16 8
  let w3 := numAt bs 24 8
  { id := p.id, via := p.via, context := p.context, report := p.report, tag := p.tag, serial := numAt bs 32 8
    epoch := bits w2 0 32, claimW := bits w2 32 10, exact := bits w2 42 2 = 1, relAngle := bits w2 44 16
    relRev := bits w3 0 32, limitRev := bits w3 32 16, base := base, len := p.len
    sections := (List.range 9).map fun i => (numAt bs (40 + 8 * i) 4, numAt bs (44 + 8 * i) 2) }

/-- Accept a post: its serial becomes the context's last, its bytes go into the context's area; a parcel is queued, a
letter's entries go to the feature store (R325, R334, R341). -/
def acceptPost (p : Post) (bs : List Byte) (base : Nat) (s : State) : State :=
  let s := takeArea base p.len (devWrite base bs false s)
  let s := { s with part := { s.part with lastBusy := s.now } }
  if p.kind = 2 then
    let l : Letter :=
      { id := p.id, via := p.via, context := p.context, report := p.report, tag := p.tag, serial := numAt bs 24 8
        epoch := numAt bs 16 4, base := base, len := p.len, left := numAt bs 12 4, refused := 0 }
    let s := s.updCtx p.context fun c => { c with lastLserial := l.serial }
    let s := { s with part := { s.part with letters := s.part.letters ++ [l] } }
    ((walkEntries l.left (bs.drop 48)).getD []).foldl (fun s e => addEntry l e s) s
  else
    let x := parcelOf p bs base
    let s := s.updCtx p.context fun c => { c with lastSerial := x.serial }
    armNext p.context { s with part := { s.part with parcels := s.part.parcels ++ [x] } }

/-- A post's bytes have arrived: the checks in the order of Table 13.6. -/
def checkPost (p : Post) (bs : List Byte) (s : State) : State :=
  let read := bs.length = p.len && headerRead p.kind bs
  let serial := if read then numAt bs (if p.kind = 2 then 24 else 32) 8 else 0
  let epoch := if read then numAt bs 16 4 else 0
  if s.doorReason ≠ 0 then refusePost p serial epoch s.doorReason s
  else if bs.length ≠ p.len then refusePost p 0 0 10 s
  else
    let r := s.bodyReason p bs
    if r ≠ 0 then refusePost p serial epoch r s
    else
      match s.findArea p.context p.len with
      | some base => acceptPost p bs base s
      | none => s

/-- A fresh number for a post; it stays with the parcel or letter. -/
def State.freshId (s : State) : Nat × State :=
  (s.part.nextId, { s with part := { s.part with nextId := s.part.nextId + 1 } })

/-! ### Doors on PCIe -/

/-- A whole descriptor (Table 13.2): the read of the bytes begins, or the post is refused at the door. -/
def takeDescriptor (f : Nat) (ws : List Nat) (s : State) : State :=
  let g := s.freshId
  let w := fun i => ws.getD i 0
  let p : Post :=
    { id := g.1, via := .pcie f, context := f, kind := bits (w 2) 28 4, len := bits (w 2) 0 28
      src := w 0 + w 1 * 2 ^ 32, report := w 3 + w 4 * 2 ^ 32, tag := w 5, since := s.now }
  let s := g.2
  if s.doorReason ≠ 0 then refusePost p 0 0 s.doorReason s
  else if (p.kind ≠ 1 && p.kind ≠ 2) || p.len < 64 || p.src % 8 ≠ 0 || p.report % 32 ≠ 0 then refusePost p 0 0 2 s
  else { s with part := { s.part with posts := s.part.posts ++ [p] } }

/-- PART_DOOR_WRITE: a word of a descriptor (R327); in recovery it is discarded (R104). -/
def doPartDoorWrite (f : Nat) (w : BitVec 32) (s : State) : State :=
  if !s.start.pcieUp then s
  else if s.start.stage = 10 then markDiscarded f s
  else
    let d := tget s.part.doors f {}
    let ws := d.words ++ [w.toNat]
    if ws.length < 6 then
      let d' : Door := { words := ws, since := if d.words.isEmpty then s.now else d.since }
      { s with part := { s.part with doors := tset s.part.doors f d' } }
    else takeDescriptor f ws { s with part := { s.part with doors := tdel s.part.doors f } }

/-- DOOR_TORN: 1 ms after the first word of an unfinished descriptor. -/
def doDoorTorn (f : Nat) (s : State) : State :=
  let d := tget s.part.doors f {}
  if d.words.isEmpty || s.now < d.since + 1000000 then s
  else { s with part := { s.part with doors := tdel s.part.doors f, doorTorn := bump s.part.doorTorn } }

/-- POST_RECEIVED: the bytes of a post are here, or the read has failed short. -/
def doPostReceived (id : Nat) (body : List Byte) (s : State) : State :=
  match s.part.posts.find? fun p => p.id = id with
  | none => s
  | some p => checkPost p body { s with part := { s.part with posts := s.part.posts.filter fun x => x.id ≠ id } }

/-- POST_READ_TIMEOUT: a read has not finished within 100 ms (R328). -/
def doPostReadTimeout (id : Nat) (s : State) : State :=
  match s.part.posts.find? fun p => p.id = id with
  | none => s
  | some p =>
    if s.now < p.since + 100000000 then s
    else checkPost p [] { s with part := { s.part with posts := s.part.posts.filter fun x => x.id ≠ id } }

/-- FUNCTION_LEVEL_RESET: staged words, shadow tag and access status go (R345, R356). -/
def doFunctionLevelReset (f : Nat) (s : State) : State :=
  if !s.start.pcieUp then s
  else { s with part := { s.part with doors := tdel s.part.doors f }, acc := tdel s.acc f }

/-! ### Doors on Ethernet -/

/-- Is an Ethernet port in service? -/
def State.netUp (s : State) (port : Nat) : Bool := s.start.ethUp && s.im.nets.any fun n => n.port = port

/-- TLS_HANDSHAKE: a client reaches the context that names its key, or is refused (R329). -/
def doTlsHandshake (port conn client : Nat) (s : State) : State :=
  if !s.netUp port then s
  else
    match s.im.contexts.find? fun c => c.net && c.client = client with
    | some c =>
      if 32 ≤ (s.part.conns.filter fun x => x.1 = port).length || s.canDeliver (.net port conn) then s
      else { s with part := { s.part with conns := s.part.conns ++ [(port, conn, c.id)] } }
    | none => { s with part := { s.part with tlsRefused := bump s.part.tlsRefused } }

/-- CONNECTION_CLOSE. -/
def doConnectionClose (port conn : Nat) (s : State) : State :=
  { s with part := { s.part with conns := s.part.conns.filter fun x => !(x.1 = port && x.2.1 = conn) } }

/-- NETWORK_FRAME: a framed post; a bad header ends the connection (R330). -/
def doNetworkFrame (port conn : Nat) (header body : List Byte) (s : State) : State :=
  match s.part.conns.find? fun x => x.1 = port && x.2.1 = conn with
  | none => s
  | some x =>
    let type := bits (numAt header 0 4) 0 4
    let len := numAt header 8 4
    if (type ≠ 1 && type ≠ 2) || bits (numAt header 0 4) 4 28 ≠ 0 || numAt header 12 4 ≠ 0 || len < 64
        || 268435455 < len then
      doConnectionClose port conn s
    else
      let g := s.freshId
      checkPost
        { id := g.1, via := .net port conn, context := x.2.2, kind := type, len := len, src := 0, report := 0
          tag := numAt header 4 4, since := s.now } body g.2

/-! ### Commands -/

/-- PART_DOOR_WRITE. -/
def execPartDoorWrite (t function : Nat) (word : BitVec 32) (s : State) : Host.Outcome State Fault Refusal :=
  .next (if function < 128 then doPartDoorWrite function word (s.advance t) else s.advance t)

/-- DOOR_TORN. -/
def execDoorTorn (t function : Nat) (s : State) : Host.Outcome State Fault Refusal :=
  .next (doDoorTorn function (s.advance t))

/-- POST_RECEIVED. -/
def execPostReceived (t post : Nat) (body : List (BitVec 8)) (s : State) : Host.Outcome State Fault Refusal :=
  .next (doPostReceived post body (s.advance t))

/-- POST_READ_TIMEOUT. -/
def execPostReadTimeout (t post : Nat) (s : State) : Host.Outcome State Fault Refusal :=
  .next (doPostReadTimeout post (s.advance t))

/-- TLS_HANDSHAKE. -/
def execTlsHandshake (t port conn clientDigest : Nat) (s : State) : Host.Outcome State Fault Refusal :=
  .next (doTlsHandshake port conn clientDigest (s.advance t))

/-- NETWORK_FRAME. -/
def execNetworkFrame (t port conn : Nat) (header body : List (BitVec 8)) (s : State) : Host.Outcome State Fault Refusal :=
  .next (doNetworkFrame port conn header body (s.advance t))

/-- CONNECTION_CLOSE. -/
def execConnectionClose (t port conn : Nat) (s : State) : Host.Outcome State Fault Refusal :=
  .next (doConnectionClose port conn (s.advance t))

/-- FUNCTION_LEVEL_RESET. -/
def execFunctionLevelReset (t function : Nat) (s : State) : Host.Outcome State Fault Refusal :=
  .next (doFunctionLevelReset function (s.advance t))

end Sys2Proof.Machine
end

