-- ==== Sys2Proof/Machine/Release.lean ====
section
/-! DEFINITION. The release of a parcel (R332, R333, R336): its checks (R155, R174, R273, R314), its resources, its loads,
and the placement of its tasks. -/

namespace Sys2Proof.Machine

/-! ### A parcel's sections, read from its area -/

/-- The entries of section `i`, each `k` words. -/
def State.section (s : State) (p : Parcel) (i k : Nat) : List (List Nat) :=
  let e := p.sections.getD i (0, 0)
  (List.range e.2).map fun n => (List.range k).map fun w => s.parcelWord p (e.1 + 8 * (k * n + w))

/-- Length of the signed bytes. -/
def Parcel.signedLen (p : Parcel) : Nat := p.len - 96

/-- A task entry (Table 13.5). -/
structure TaskEntry where
  ctrMask : Nat
  tile : Nat
  cmdOffset : Nat
  hwFirst : Nat
  hwCount : Nat
  ok : Bool
deriving DecidableEq, Repr

/-- The task table. -/
def State.taskTable (s : State) (p : Parcel) : List TaskEntry :=
  let e := s.partEntry (s.ctxPartition p.context)
  (s.section p 0 2).map fun ws =>
    let off := wfield ws 1 0 32
    let first := wfield ws 1 32 9
    let count := wfield ws 1 41 10
    { ctrMask := wfield ws 0 0 48
      tile := (if wfield ws 0 48 1 = 1 then e.clusterB else e.clusterA) * 64 + wfield ws 0 49 6
      cmdOffset := off, hwFirst := first, hwCount := count
      ok := wfield ws 0 55 9 = 0 && wfield ws 1 51 13 = 0 && off % 128 = 0 && off < p.signedLen && first + count ≤ 512 }

/-- The barrier declaration, if the parcel carries one. -/
def State.barDecl (s : State) (p : Parcel) : Option (List Nat) := (s.section p 3 2).head?

/-- The domain fields of a parcel's declaration, where it says that it uses a domain barrier: record and expected arrivals. -/
def State.domDecl (s : State) (p : Parcel) : Option (Nat × Nat) :=
  match s.barDecl p with
  | some ws => if wfield ws 1 7 1 = 1 then some (wfield ws 1 0 7, wfield ws 1 8 12) else none
  | none => none

/-- Extra arrivals at cluster A, at cluster B and at the partition barrier. -/
def State.extras (s : State) (p : Parcel) : Nat × Nat × Nat :=
  match s.barDecl p with
  | some ws => (wfield ws 0 0 16, wfield ws 0 16 16, wfield ws 0 32 16)
  | none => (0, 0, 0)

/-- Scopes that a task's commands use, read from its first command to its END. The first argument bounds the commands. -/
def State.scanScopes (s : State) (p : Parcel) : Nat → Nat → List Nat
  | 0, _ => []
  | n + 1, off =>
    let w := s.parcelWord p off
    if p.signedLen < off + 128 || bits w 0 4 = 3 then []
    else if bits w 0 4 = 2 then addOnce (s.scanScopes p n (off + 128)) (bits w 40 2)
    else s.scanScopes p n (off + 128)

/-- What a parcel needs barrier records for: each cluster, the partition, the domain. -/
structure Scopes where
  clusters : List Nat
  part : Bool
  dom : Bool
deriving DecidableEq, Repr

/-- The scopes of all tasks. -/
def State.scopesOf (s : State) (p : Parcel) : Scopes :=
  let es := (s.taskTable p).map fun e => (clusterOfTile e.tile, s.scanScopes p (p.len / 128) e.cmdOffset)
  { clusters := (List.range 64).filter fun c => es.any fun e => e.1 = c && e.2.contains 1
    part := es.any fun e => e.2.contains 2
    dom := es.any (fun e => e.2.contains 3) || (s.domDecl p).isSome }

/-- Tasks of the parcel in a cluster. -/
def State.tasksIn (s : State) (p : Parcel) (c : Nat) : Nat :=
  ((s.taskTable p).filter fun e => clusterOfTile e.tile = c).length

/-- Expected count of a cluster barrier: its tasks and the cluster's extra field (R332). -/
def State.expectCluster (s : State) (p : Parcel) (c : Nat) : Nat :=
  let e := s.partEntry (s.ctxPartition p.context)
  s.tasksIn p c + (if c = e.clusterA then (s.extras p).1 else (s.extras p).2.1)

/-- Expected count of the partition barrier. -/
def State.expectPart (s : State) (p : Parcel) : Nat := (s.taskTable p).length + (s.extras p).2.2

/-- Arrivals a domain record expects: as declared, or one per task where nothing is declared. -/
def State.expectDom (s : State) (p : Parcel) : Nat :=
  match s.domDecl p with
  | some d => d.2
  | none => (s.taskTable p).length

/-- The domain record a parcel names. -/
def State.domRecordOf (s : State) (p : Parcel) : Nat :=
  match s.domDecl p with
  | some d => d.1
  | none => 0

/-! ### Step 2: the checks -/

/-- The task table and the barrier declaration (Table 13.5, R332, R333). -/
def State.tasksBad (s : State) (p : Parcel) : Bool :=
  let es := s.taskTable p
  let sc := s.scopesOf p
  es.any (fun e => !e.ok) || !allPairs (fun (a b : TaskEntry) => a.tile ≠ b.tile) es
    || (match s.barDecl p with
        | some ws =>
          wfield ws 0 48 16 ≠ 0 || wfield ws 1 20 44 ≠ 0 || 127 < wfield ws 0 0 16 || 127 < wfield ws 0 16 16
            || 8191 < wfield ws 0 32 16 || s.domDecl p = some (wfield ws 1 0 7, 0)
        | none => false)
    || sc.clusters.any (fun c => 127 < s.expectCluster p c) || 8191 < s.expectPart p

/-- A translation entry as its fields (Table 6.3). -/
def xlateOf (w : Nat) : Xlate :=
  { kind := bits w 0 3, device := bits w 3 11, cluster := bits w 14 6, tile := bits w 20 6, index := bits w 26 9 }

/-- A parcel's sync map; an ID beyond it is of kind 0. -/
def State.syncMap (s : State) (p : Parcel) : List Xlate := (s.section p 1 1).map fun ws => xlateOf (ws.getD 0 0)

def mapAt (m : List Xlate) (id : Nat) : Xlate := m.getD id {}

/-- Is a translation entry within Table 6.3? -/
def xlateOk (w : Nat) : Bool :=
  let x := xlateOf w
  x.kind < 6 && bits w 35 29 = 0 && (x.kind ≠ 1 || x.index < 48) && (x.kind ≠ 3 || x.index < 16)
    && ((x.kind ≠ 4 && x.kind ≠ 5) || x.index < 128)

/-- Is the entry a counter of this part? -/
def State.ownCounter (s : State) (x : Xlate) : Bool := x.kind = 1 && x.device = s.deviceId

/-- Is a watch descriptor within Table 6.1, with source and target of the right kinds (R155)? -/
def State.watchOk (s : State) (m : List Xlate) (ws : List Nat) : Bool :=
  let act := wfield ws 0 24 2
  let inc := wfield ws 1 48 16
  let k := (mapAt m (wfield ws 0 12 12)).kind
  wfield ws 0 26 6 = 0 && act ≤ 2 && s.ownCounter (mapAt m (wfield ws 0 0 12))
    && (if act = 0 then k = 1 else if act = 1 then k = 2 else (k = 3 || k = 4 || k = 5))
    && (if act = 0 then 1 ≤ inc else inc = 0) && (act = 1 || ws.getD 2 0 = 0)
    && (wfield ws 1 0 32 ≠ 0 || wfield ws 1 32 16 ≤ 1)

/-- Sync map and watches (R155). -/
def State.syncBad (s : State) (p : Parcel) : Bool :=
  let m := s.syncMap p
  (s.section p 1 1).any (fun ws => !xlateOk (ws.getD 0 0)) || (s.section p 2 3).any fun ws => !s.watchOk m ws

/-- Offset of the mapping section, and its numbers of combine and ring entries. -/
def State.mapHead (s : State) (p : Parcel) : Nat × Nat × Nat × Nat :=
  let off := (p.sections.getD 4 (0, 0)).1
  let h := s.parcelWord p off
  (off, h, bits h 32 5, bits h 48 5)

/-- The combine entries, five words each. -/
def State.combineWords (s : State) (p : Parcel) : List (List Nat) :=
  let h := s.mapHead p
  (List.range h.2.2.1).map fun n => (List.range 5).map fun w => s.parcelWord p (h.1 + 8 + 40 * n + 8 * w)

/-- The ring entries, two words each. -/
def State.ringWords (s : State) (p : Parcel) : List (List Nat) :=
  let h := s.mapHead p
  (List.range h.2.2.2).map fun n => (List.range 2).map fun w =>
    s.parcelWord p (h.1 + 8 + 40 * h.2.2.1 + 16 * n + 8 * w)

/-- Is an FP32 bit pattern finite? -/
def finite32 (n : Nat) : Bool := bits n 23 8 ≠ 255

/-- Does cluster `c` belong to the parcel's partition? -/
def State.ownCluster (s : State) (p : Parcel) (c : Nat) : Bool :=
  let e := s.partEntry (s.ctxPartition p.context)
  c = e.clusterA || c = e.clusterB

/-- A combine entry against Table 7.4 and R174. -/
def State.combineOk (s : State) (p : Parcel) (m : List Xlate) (ws : List Nat) : Bool :=
  let c := wfield ws 0 0 6
  let ready := mapAt m (wfield ws 0 6 12)
  let done := mapAt m (wfield ws 0 18 12)
  s.ownCluster p c && s.ownCounter ready && ready.cluster = c
    && (s.ownCounter done || (done.kind = 3 && done.device = s.deviceId && done.cluster = c) || done.kind = 4)
    && wfield ws 0 31 1 = 0 && (wfield ws 1 0 32 ≠ 0 || wfield ws 1 32 16 ≤ 1) && inR (wfield ws 1 48 16) 2 4096
    && wfield ws 2 0 48 % 64 = 0 && inR (wfield ws 2 48 16) 1 4096 && wfield ws 3 0 48 % 64 = 0
    && inR (wfield ws 3 48 8) 1 64 && wfield ws 3 56 8 = 0 && wfield ws 4 0 32 % 64 = 0 && finite32 (wfield ws 4 32 32)
    && (wfield ws 0 30 1 = 0 || wfield ws 4 32 32 = 0x3F800000)

/-- A ring entry against Table 7.5 and R174. -/
def State.ringOk (s : State) (p : Parcel) (ws : List Nat) : Bool :=
  let first := wfield ws 0 6 6
  let size := wfield ws 0 12 7
  s.ownCluster p (wfield ws 0 0 6) && first ≤ 62 && inR size 2 64 && first + size ≤ 64 && inR (wfield ws 0 19 7) 1 63
    && wfield ws 0 26 6 = 0 && wfield ws 0 32 18 % 64 = 0 && wfield ws 0 50 14 = 0
    && wfield ws 1 0 18 % 64 = 0 && inR (wfield ws 1 0 18) 64 65536 && wfield ws 1 18 46 = 0

/-- Do two ring entries share a tile position? -/
def ringsApart (a b : List Nat) : Bool :=
  wfield a 0 0 6 ≠ wfield b 0 0 6
    || !overlap (wfield a 0 6 6) (wfield a 0 12 7) (wfield b 0 6 6) (wfield b 0 12 7)

/-- The mapping section (R174). -/
def State.mapBad (s : State) (p : Parcel) : Bool :=
  let m := s.syncMap p
  let h := (s.mapHead p).2.1
  let cs := s.combineWords p
  let rs := s.ringWords p
  !inR (bits h 0 17) 64 65536 || bits h 17 7 ≠ 0 || 2 < bits h 24 2 || bits h 26 6 ≠ 0 || 16 < bits h 32 5
    || bits h 37 11 ≠ 0 || 16 < bits h 48 5 || bits h 53 11 ≠ 0
    || cs.any (fun ws => !s.combineOk p m ws) || rs.any (fun ws => !s.ringOk p ws)
    || (List.range 64).any (fun c =>
        8 < (cs.filter fun ws => wfield ws 0 0 6 = c).length || 8 < (rs.filter fun ws => wfield ws 0 0 6 = c).length)
    || !allPairs ringsApart rs
    || (bits h 24 2 = 0 && m.any fun x => x.kind ≠ 0 && x.device ≠ s.deviceId)

/-- The Lens descriptors (R272, R273). -/
def State.lensBad (s : State) (p : Parcel) : Bool :=
  let e := p.sections.getD 5 (0, 0)
  (List.range e.2).any fun n =>
    let off := e.1 + 4112 * n
    let w := s.parcelWord p off
    !inR (bits w 0 4) 4 11 || bits w 4 28 ≠ 0 || !finite32 (bits w 32 32) || s.parcelWord p (off + 8) ≠ 0
      || (s.parcelBytes p (off + 16) 4096).any fun b => b = 0x80#8

/-- The send entries (Table 12.6, R314). -/
def State.sendBad (s : State) (p : Parcel) : Bool :=
  let m := s.syncMap p
  (s.section p 6 4).any fun ws =>
    !s.ownCounter (mapAt m (wfield ws 0 0 12)) || (mapAt m (wfield ws 0 12 12)).kind ≠ 1 || wfield ws 0 25 7 ≠ 0
      || (wfield ws 1 0 32 = 0 && 1 < wfield ws 1 32 16) || wfield ws 1 48 16 = 0 || wfield ws 2 0 48 % 32 ≠ 0
      || wfield ws 3 0 48 % (if wfield ws 0 24 1 = 1 then 64 else 32) ≠ 0 || wfield ws 2 48 16 ≠ 0
      || wfield ws 3 48 16 ≠ 0

/-- The fault of the first check of step 2 that fails, 0 when all pass. -/
def State.releaseFault (s : State) (p : Parcel) : Nat :=
  if s.tasksBad p then 0xA005
  else if s.syncBad p then 0x5003
  else if s.mapBad p then 0x4004
  else if s.lensBad p then 0x8006
  else if s.sendBad p then 0x900D
  else 0

/-! ### Step 3: the resources -/

/-- The lowest free task slot of a tile. -/
def State.freeTaskSlot (s : State) (tile : Nat) : Option Nat :=
  (List.range 4).find? fun k => (s.task tile k).state = .free

/-- Free watch slots of a cluster, ascending (R150). -/
def State.freeWatches (s : State) (c : Nat) : List Nat :=
  ((List.range 256).filter fun k => s.im.sync.supvWatches ≤ k && !thas s.sync.watches (watchKey c k))

/-- Watch slots a parcel needs in a cluster: its watches and its combine entries (R175). -/
def State.watchesIn (s : State) (p : Parcel) (c : Nat) : Nat :=
  let m := s.syncMap p
  ((s.section p 2 3).filter fun ws => (mapAt m (wfield ws 0 0 12)).cluster = c).length
    + ((s.combineWords p).filter fun ws => wfield ws 0 0 6 = c).length

/-- Free marver slots and free ring slots of a cluster, ascending. -/
def State.freeCombines (s : State) (c : Nat) : List Nat :=
  (List.range 8).filter fun k => !thas s.sync.combines (c * 8 + k)

def State.freeRings (s : State) (c : Nat) : List Nat := (List.range 8).filter fun k => !thas s.sync.rings (c * 8 + k)

def State.freeSends (s : State) : List Nat := (List.range 64).filter fun k => !thas s.sync.sends k

/-- The lowest inactive record of a cluster, and of the barrier unit. -/
def State.freeClusterBar (s : State) (c : Nat) : Option Nat := (List.range 16).find? fun k => !(s.bar 0 c k).active

def State.freePartBar (s : State) : Option Nat := (List.range 128).find? fun k => !(s.bar 1 0 k).active

/-- Are a task entry's slot, counters and held words free? -/
def State.entryFree (s : State) (e : TaskEntry) : Bool :=
  (s.freeTaskSlot e.tile).isSome
    && (List.range 48).all (fun n => !bit e.ctrMask n || (s.counter e.tile n).owner = 0)
    && (List.range e.hwCount).all fun i => s.heldOwnerOf e.tile (e.hwFirst + i) = 0

/-- Are all resources of step 3 free? -/
def State.resourcesFree (s : State) (p : Parcel) : Bool :=
  let sc := s.scopesOf p
  (s.taskTable p).all s.entryFree
    && (List.range 64).all (fun c =>
        s.watchesIn p c ≤ (s.freeWatches c).length
          && ((s.combineWords p).filter fun ws => wfield ws 0 0 6 = c).length ≤ (s.freeCombines c).length
          && ((s.ringWords p).filter fun ws => wfield ws 0 0 6 = c).length ≤ (s.freeRings c).length)
    && sc.clusters.all (fun c => (s.freeClusterBar c).isSome) && (!sc.part || s.freePartBar.isSome)
    && (!sc.dom || !s.isMaster || !(s.bar 2 0 (s.domRecordOf p)).active)
    && (p.sections.getD 6 (0, 0)).2 ≤ s.freeSends.length

/-! ### Step 4: the loads -/

/-- Store `bs` at a context address for a parcel, one request a line; a line that R244 discards is counted at cluster A.
The first argument bounds the lines. -/
def loadLines (p : Parcel) : Nat → Nat → List Byte → State → State
  | 0, _, _, s => s
  | n + 1, a, bs, s =>
    if bs.isEmpty then s
    else
      let k := 64 - a % 64
      let part := bs.take k
      let s' := match s.devForWrite p.context a with
        | none => s.countOutside (s.partEntry (s.ctxPartition p.context)).clusterA
        | some d =>
          issueReq { tile := 4096, slot := 0, cmd := 0, context := p.context, queue := 32, dev := some d
                     len := part.length, kind := .load p.id part }
            (s.updParcel p.id fun x => { x with loadsLeft := x.loadsLeft + 1 })
      loadLines p n (a + k) (bs.drop k) s'

/-- The load entries of a parcel, `n` of them from offset `off`. -/
def issueLoads (p : Parcel) : Nat → Nat → State → State
  | 0, _, s => s
  | n + 1, off, s =>
    let len := bits (s.parcelWord p (off + 8)) 0 32
    let s' := loadLines p (len / 64 + 2) (bits (s.parcelWord p off) 0 48) (s.parcelBytes p (off + 16) len) s
    issueLoads p n (off + 16 + roundUp len 8) s'

/-- Resources are lacking: mode 0 waits for the next occurrence of the angle, mode 1 misses. -/
def awaitRelease (p : Parcel) (s : State) : State :=
  if p.exact then missParcel p.id s
  else armNext p.context (s.updParcel p.id fun x => { x with state := .queued, loadsLeft := 0 })

/-- Steps 1 to 4 of R336 for a parcel whose slot fires. -/
def releaseParcel (p : Parcel) (s : State) : State :=
  if !s.masterThere then
    (if p.exact then missParcel p.id s else s.updParcel p.id fun x => { x with state := .waitMaster })
  else
    let f := s.releaseFault p
    if f ≠ 0 then endParcel p.id 2 f 16 (raiseFor f 0xFFFF p.id s)
    else if !s.resourcesFree p then awaitRelease p s
    else
      let e := p.sections.getD 8 (0, 0)
      issueLoads p e.2 e.1
        (s.updParcel p.id fun x => { x with state := .loading, releaseRev := s.round.rev, revs := 0, loadsLeft := 0 })

/-- A release slot fires: the parcel it was requested for. -/
def fireRelease (tag : Nat) (s : State) : State :=
  match s.part.parcels.find? fun p => p.state = .requested && p.id = tag with
  | some p => releaseParcel p s
  | none => s

/-! ### Steps 5 and 6: the placement -/

/-- Step 5: the parcel's claim replaces its partition's (R62). -/
def placeClaim (p : Parcel) (s : State) : State :=
  let k := s.ctxPartition p.context
  { s with lehr := { s.lehr with
    claims := tset s.lehr.claims k (min p.claimW 900), idleRevs := tset s.lehr.idleRevs k 0 } }

/-- Clear and own a task entry's counters, empty and own its held words. -/
def placeOwned (owner : Nat) (s : State) (e : TaskEntry) : State :=
  let s := (List.range 48).foldl (fun s n =>
    if bit e.ctrMask n then
      { s with sync := { s.sync with
        counters := tset s.sync.counters (ctrKey e.tile n) { count := 0, owner := owner } } }
    else s) s
  (List.range e.hwCount).foldl (fun s i =>
    let s := s.setFull e.tile (e.hwFirst + i) false
    { s with sync := { s.sync with heldOwner := tset s.sync.heldOwner (e.tile * 512 + (e.hwFirst + i)) owner } }) s

/-- Place one task in the lowest free slot of its tile, ready. -/
def placeTask (p : Parcel) (s : State) (e : TaskEntry) : State :=
  match s.freeTaskSlot e.tile with
  | none => s
  | some k =>
    let s := s.updTask e.tile k fun _ =>
      { state := .ready, parcel := p.id, context := p.context, partition := s.ctxPartition p.context
        ctrMask := e.ctrMask, hwFirst := e.hwFirst, hwCount := e.hwCount, cmdBase := p.base + e.cmdOffset
        readySince := s.now }
    fillPipeline e.tile (s.updParcel p.id fun x => { x with tasks := x.tasks ++ [(e.tile, k)] })

/-- Write the translation entries of a context (R154). -/
def placeMap (p : Parcel) (s : State) : State :=
  let m := s.syncMap p
  (List.range m.length).foldl (fun s i =>
    let x := mapAt m i
    if x.kind = 0 then s
    else { s with sync := { s.sync with
      xlate := tset s.sync.xlate (p.context * 4096 + i) { x with parcel := p.id } } }) s

/-- A fresh barrier record. -/
def freshBar (p : Parcel) (expected : Nat) : Barrier :=
  { active := true, gen := 0, expected := expected, parcel := p.id, context := p.context }

/-- Allocate the records of the scopes in use (R156, R336). -/
def placeBarriers (p : Parcel) (s : State) : State :=
  let sc := s.scopesOf p
  let s := sc.clusters.foldl (fun s c =>
    match s.freeClusterBar c with
    | some k => s.setBar 0 c k (freshBar p (s.expectCluster p c))
    | none => s) s
  let s := if sc.part then
      match s.freePartBar with
      | some k => s.setBar 1 0 k (freshBar p (s.expectPart p))
      | none => s
    else s
  if !sc.dom then s
  else
    let r := s.domRecordOf p
    let s := s.updParcel p.id fun x => { x with domUsed := true, domRecord := r }
    let s := { s with sync := { s.sync with
      domGen := tset s.sync.domGen r 0
      domOwn := s.sync.domOwn.filter fun x => x.1 / 65536 ≠ r } }
    if !s.isMaster then s
    else
      let early := (s.bar 2 0 r).nextArrived
      let b := { freshBar p (s.expectDom p) with
        arrived := early, lastArrival := s.now, firstArrival := if early = 0 then none else some s.now }
      settleBar 2 0 r (early + 1) (s.setBar 2 0 r b)

/-- The barrier record a translation entry stands for: the parcel's own record of that scope on this part where it has
one, else the index as written. -/
def State.recordIndex (s : State) (p : Parcel) (x : Xlate) : Nat :=
  if x.device = s.deviceId && (x.kind = 3 || x.kind = 4) then (s.recordOf (x.kind - 3) x.cluster p.id).getD x.index
  else x.index

/-- The message that reaches a translation entry: a signal by `inc`, a fill of `v`, or one arrival. -/
def State.targetMsg (s : State) (p : Parcel) (x : Xlate) (inc v : Nat) : SyncMsg :=
  let base : SyncMsg :=
    { kind := 3, device := x.device, cluster := x.cluster, tile := 0, index := s.recordIndex p x, level := x.kind - 3
      context := p.context, gen := 0, abort := false, payload := 1 }
  if x.kind = 1 then { base with kind := 1, tile := x.tile, index := x.index, level := 0, payload := inc }
  else if x.kind = 2 then { base with kind := 2, tile := x.tile, index := x.index, level := 0, payload := v }
  else base

/-- Key of the counter a translation entry names. -/
def Xlate.counterKey (x : Xlate) : Nat := ctrKey (x.cluster * 64 + x.tile) x.index

/-- Firings left of an entry with this step and repeat (R151). -/
def firingsLeft (step repeats : Nat) : Option Nat :=
  if step = 0 then some 1 else if repeats = 0 then none else some repeats

/-- Register a watch in the lowest free slot of its cluster. -/
def putWatch (c : Nat) (w : Watch) (s : State) : State :=
  match (s.freeWatches c).head? with
  | some k => { s with sync := { s.sync with watches := tset s.sync.watches (watchKey c k) w } }
  | none => s

/-- Register the watches of a parcel (R150). -/
def placeWatches (p : Parcel) (s : State) : State :=
  let m := s.syncMap p
  (s.section p 2 3).foldl (fun s ws =>
    let src := mapAt m (wfield ws 0 0 12)
    let act := wfield ws 0 24 2
    putWatch src.cluster
      { source := src.counterKey, threshold := wfield ws 0 32 32, step := wfield ws 1 0 32
        left := firingsLeft (wfield ws 1 0 32) (wfield ws 1 32 16)
        act := .message (s.targetMsg p (mapAt m (wfield ws 0 12 12)) (wfield ws 1 48 16) (ws.getD 2 0))
        action := act, context := p.context, parcel := p.id } s) s

/-- Register the combine entries (R175): a marver slot and a watch slot each. -/
def placeCombines (p : Parcel) (s : State) : State :=
  let m := s.syncMap p
  (s.combineWords p).foldl (fun s ws =>
    let c := wfield ws 0 0 6
    match (s.freeCombines c).head? with
    | none => s
    | some k =>
      let e : Combine :=
        { context := p.context, parcel := p.id, fp := wfield ws 0 30 1 = 0, members := wfield ws 1 48 16
          src := wfield ws 2 0 48, rows := wfield ws 2 48 16, dst := wfield ws 3 0 48, width16 := wfield ws 3 48 8
          stride := wfield ws 4 0 32, scale := wfield ws 4 32 32
          doneMsg := s.targetMsg p (mapAt m (wfield ws 0 18 12)) 1 0 }
      putWatch c
        { source := (mapAt m (wfield ws 0 6 12)).counterKey, threshold := wfield ws 0 32 32, step := wfield ws 1 0 32
          left := firingsLeft (wfield ws 1 0 32) (wfield ws 1 32 16), act := .combine c k
          action := Config.combineAction.toNat, context := p.context, parcel := p.id }
        { s with sync := { s.sync with combines := tset s.sync.combines (c * 8 + k) e } }) s

/-- Register the ring entries (R179). -/
def placeRings (p : Parcel) (s : State) : State :=
  (s.ringWords p).foldl (fun s ws =>
    let c := wfield ws 0 0 6
    match (s.freeRings c).head? with
    | none => s
    | some k =>
      let r : Ring :=
        { first := wfield ws 0 6 6, size := wfield ws 0 12 7, steps := wfield ws 0 19 7, area := wfield ws 0 32 18
          sliceBytes := wfield ws 1 0 18, context := p.context, parcel := p.id
          ended := List.replicate (wfield ws 0 12 7) 0, landed := 0 }
      { s with sync := { s.sync with rings := tset s.sync.rings (c * 8 + k) r } }) s

/-- Register the send entries (R314). -/
def placeSends (p : Parcel) (s : State) : State :=
  let m := s.syncMap p
  (s.section p 6 4).foldl (fun s ws =>
    match s.freeSends.head? with
    | none => s
    | some k =>
      let ready := mapAt m (wfield ws 0 0 12)
      let e : Send :=
        { parcel := p.id, context := p.context, cluster := ready.cluster, toReservation := wfield ws 0 24 1 = 1
          src := wfield ws 2 0 48, dst := wfield ws 3 0 48, bytes256 := wfield ws 1 48 16
          doneMsg := s.targetMsg p (mapAt m (wfield ws 0 12 12)) 1 0 }
      let w : Watch :=
        { source := ready.counterKey, threshold := wfield ws 0 32 32, step := wfield ws 1 0 32
          left := firingsLeft (wfield ws 1 0 32) (wfield ws 1 32 16), act := .send k, action := 0, context := p.context
          parcel := p.id }
      { s with sync := { s.sync with sends := tset s.sync.sends k e, sendWatches := tset s.sync.sendWatches k w } }) s

/-- Check what a parcel has just registered, in ascending slot order (R151, R164). -/
def checkPlaced (pid : Nat) (s : State) : State :=
  let ws := (s.sync.watches.filter fun w => w.2.parcel = pid).map Prod.fst
  let es := (s.sync.sendWatches.filter fun w => w.2.parcel = pid).map Prod.fst
  es.foldl (fun s k => checkSend k s) (ws.foldl (fun s k => checkWatch k s) s)

/-- HUB_DEGREE and the circuit schedule, which a parcel keeps while it runs. -/
def placeKept (p : Parcel) (s : State) : State :=
  let e := p.sections.getD 7 (0, 0)
  let hub := bits (s.mapHead p).2.1 0 17
  let sched := (List.range e.2).map fun i =>
    let w := leNat (s.parcelBytes p (e.1 + 4 * i) 4)
    (bits w 0 16, bits w 16 4)
  s.updParcel p.id fun x => { x with state := .running, hub := hub, schedule := sched }

/-- TASK_PLACEMENT: every load store is acknowledged (R336, steps 5 and 6); the next parcel is requested (R335). -/
def doTaskPlacement (id : Nat) (s : State) : State :=
  match s.parcel id with
  | none => s
  | some p =>
    if p.state ≠ .loading || p.loadsLeft ≠ 0 || !s.clocked then s
    else if !s.resourcesFree p then awaitRelease p s
    else
      let es := s.taskTable p
      let s := placeKept p (placeClaim p s)
      let s := es.foldl (placeOwned (p.id + 1)) s
      let s := es.foldl (placeTask p) s
      let s := placeBarriers p (placeMap p s)
      let s := placeSends p (placeRings p (placeCombines p (placeWatches p s)))
      armNext p.context (checkPlaced p.id s)

/-- TASK_PLACEMENT. -/
def execTaskPlacement (t parcel : Nat) (s : State) : Host.Outcome State Fault Refusal :=
  .next (doTaskPlacement parcel (s.advance t))

end Sys2Proof.Machine
end

