-- ==== Sys2Proof/Machine/Read.lean ====
section
/-! DEFINITION. How a tile reads its stream commands (R113, R114, R142): the request for a command's words, and what
becomes of them when they arrive, in command order. -/

namespace Sys2Proof.Machine

/-! ### Commands that end their task -/

/-- Poison is consumed: the task ends (R127). -/
def poisonConsumed (tile slot : Nat) (s : State) : State :=
  let k := s.task tile slot
  endTask tile slot 0x4002
    (raiseFor 0x4002 tile k.parcel (s.updTile tile fun x => { x with stPoison := true }))

/-- An invalid command ends its task before it runs. -/
def cmdInvalid (tile slot : Nat) (s : State) : State :=
  let k := s.task tile slot
  endTask tile slot 0x4003
    (raiseFor 0x4003 tile k.parcel (s.updTile tile fun x => { x with stInvalid := true }))

/-- A foreign counter ends the task before the command runs. -/
def counterForeign (tile slot : Nat) (s : State) : State :=
  let k := s.task tile slot
  let c := clusterOfTile tile
  endTask tile slot 0x5006
    (raiseFor 0x5006 c k.parcel
      (s.updCsu c fun u => { u with foreign := bump u.foreign, stForeign := true }))

/-! ### The checks of a command -/

/-- Is a command valid as the next one of a task (R114, R123, R273)? -/
def State.cmdValid (s : State) (k : Task) (ws : List Nat) : Bool :=
  let handles := match s.parcel k.parcel with | some p => (p.sections.getD 5 (0, 0)).2 | none => 0
  cmdShapeOk ws && (opOf ws ≠ 1 || k.groupBags + bagCount ws ≤ 4096)
    && (opOf ws ≠ 1 || xformOf ws < 2 || lensHandle ws < handles)

/-- Does a command name a counter that its parcel does not own on the tile (R142)? -/
def cmdForeign (k : Task) (ws : List Nat) : Bool :=
  (waitCtr ws ≠ 63 && !bit k.ctrMask (waitCtr ws)) || (signalCtr ws ≠ 63 && !bit k.ctrMask (signalCtr ws))

/-- The task once a command has passed its checks: it waits for its turn, the ring commands and the bags of the group are
counted. -/
def Task.took (k : Task) (c : Cmd) : Task :=
  let ring := opOf c.words = 1 && xfRing c.words
  { k.updCmd c.index fun x => { x with phase := .waiting, ring := if ring then k.ringCmds + 1 else 0 } with
    ringCmds := if ring then k.ringCmds + 1 else k.ringCmds
    groupBags := if opOf c.words ≠ 1 then k.groupBags else if swapAfter c.words then 0 else k.groupBags + bagCount c.words }

/-- Has a command not yet passed its checks? -/
def Cmd.unread (c : Cmd) : Bool := c.phase = .reading || c.phase = .read

/-- The oldest command of a task that has not passed its checks is checked, if its words have arrived. -/
def checkCommand (tile slot : Nat) (s : State) : State :=
  let k := s.task tile slot
  match k.cmds.find? Cmd.unread with
  | none => s
  | some c =>
    if c.phase = .reading || !k.state.live then s
    else if c.badWords then poisonConsumed tile slot s
    else if !s.cmdValid k c.words then cmdInvalid tile slot s
    else if cmdForeign k c.words then counterForeign tile slot s
    else s.updTask tile slot fun k => k.took c

/-- Check the commands of a task that have arrived, at most 32 of them. -/
def checkCommands (tile : Nat) (s : State) (slot : Nat) : State :=
  (List.range 32).foldl (fun s _ => checkCommand tile slot s) s

/-! ### The read -/

/-- The words of command `n` of a task as they stand in memory, and whether they are poisoned. -/
def State.cmdWords (s : State) (k : Task) (n : Nat) : List Nat × Bool :=
  let bs := s.devRead (k.cmdBase + 128 * n) 128
  (toWords (bs.map Prod.fst) 16, bs.any Prod.snd)

/-- The read of a task's next command, 128 bytes, metered by its partition's regulator (R113, R258). -/
def meterCmd (k : Task) (tile slot : Nat) (s : State) : State :=
  issueReq
    { tile := tile, slot := slot, cmd := k.nextCmd, context := k.context, queue := k.partition
      dev := some (k.cmdBase + 128 * k.nextCmd), len := 128, kind := .command } s

/-- Read the next command of a task, if it is an `op` (R113, R172): at most 32 ahead, none behind an END, none while the
throttle gates new commands (R68, R137). -/
def readNext (op tile slot : Nat) (s : State) : State :=
  let k := s.task tile slot
  if !k.state.live || s.lehr.gateIssue || !s.clocked || 32 ≤ k.cmds.length || k.cmds.any (fun c => opOf c.words = 3) then s
  else
    let r := s.cmdWords k k.nextCmd
    if !r.2 && opOf r.1 ≤ 3 && opOf r.1 ≠ op then s
    else
      meterCmd k tile slot (s.updTask tile slot fun k => { k with
        nextCmd := k.nextCmd + 1, cmds := k.cmds ++ [{ index := k.nextCmd, words := r.1, phase := .reading }] })

end Sys2Proof.Machine
end

