-- ==== Sys2Proof/Machine/Fetch.lean ====
section
/-! DEFINITION. Fetch phases (R117, R118, R122, R124, R125): index streams, takes of held words (R148), the issue queue of a
tile with its merges, and requests for rows of tables (R214 to R218). -/

namespace Sys2Proof.Machine

/-! ### Reads of tile SRAM, takes of held words -/

/-- Held words that a range of tile SRAM touches. -/
def heldIn (a n : Nat) : List Nat :=
  ((List.range n).filter fun i => inHeld (a + i)).foldl (fun l i => addOnce l (heldIdx (a + i))) []

/-- Read tile SRAM from `a` on, each byte with its line's tag, up to the first held word that is empty; each held word on the way
is taken (R148). The first argument bounds the words. -/
def takeRun (tile : Nat) : Nat → Nat → Nat → State → List (Byte × Bool) × State
  | 0, _, _, s => ([], s)
  | k + 1, a, n, s =>
    if n = 0 || (inHeld a && !s.heldFull tile (heldIdx a)) then ([], s)
    else
      let m := min n (8 - a % 8)
      let bs := (List.range m).map fun i => (s.sramByte tile (a + i), s.linePoison tile (a + i))
      let y := takeRun tile k (a + m) (n - m) (if inHeld a then emptyWord tile (heldIdx a) s else s)
      (bs ++ y.1, y.2)

/-- Go on with a read of `n` bytes from `a`, of which `got` have been read. -/
def readPart (tile a n : Nat) (got : List (Byte × Bool)) (s : State) : List (Byte × Bool) × State :=
  let x := takeRun tile (n + 1) (a + got.length) (n - got.length) s
  (got ++ x.1, x.2)

/-- What is left of a list of parts (start, length) after its first `h` bytes. -/
def restSegs : Nat → List (Nat × Nat) → List (Nat × Nat)
  | _, [] => []
  | h, x :: r => if x.2 ≤ h then restSegs (h - x.2) r else (x.1 + h, x.2 - h) :: r

/-- Read parts of tile SRAM, one after another, up to the first held word that is empty. -/
def takeSegs (tile : Nat) : List (Nat × Nat) → State → List (Byte × Bool) × State
  | [], s => ([], s)
  | x :: r, s =>
    let y := takeRun tile (x.2 + 1) x.1 x.2 s
    if y.1.length < x.2 then y
    else
      let z := takeSegs tile r y.2
      (y.1 ++ z.1, z.2)

/-! ### The index stream (R117) -/

/-- Low 48 bits of an address. -/
def addr48 (a : Int) : Nat := ofSigned 48 a

/-- Signed elements of `w` bytes, each with its poison (R126, R189). -/
def elemsOf (w : Nat) (bs : List (Byte × Bool)) (n : Nat) : List (Int × Bool) :=
  (List.range n).map fun i =>
    let part := (bs.drop (i * w)).take w
    (toSigned (8 * w) (leNat (part.map Prod.fst)), part.any Prod.snd)

/-- A bag of indices with their poison, and whether an offset that bounds it was poisoned. -/
abbrev IdxBag := List (Int × Bool) × Bool

/-- The parts of an index list that the bags between offsets name, as (start, length in bytes): entries offset[v] to
offset[v + 1] - 1 for bag v. -/
def csrSegs (ws : List Nat) : List (Int × Bool) → List (Nat × Nat)
  | a :: b :: r =>
    (addr48 (idxList ws + a.1 * idxBytes ws), if a.2 || b.2 then 0 else (b.1 - a.1).toNat * idxBytes ws) :: csrSegs ws (b :: r)
  | _ => []

/-- Bags of a CSR stream from its offsets and the bytes of its list. -/
def csrBags (ws : List Nat) : List (Int × Bool) → List (Byte × Bool) → List IdxBag
  | a :: b :: r, bs =>
    if a.2 || b.2 then ([], true) :: csrBags ws (b :: r) bs
    else
      let n := (b.1 - a.1).toNat
      (elemsOf (idxBytes ws) bs n, false) :: csrBags ws (b :: r) (bs.drop (n * idxBytes ws))
  | _, _ => []

/-- What a command's index stream reads next: the offsets of a CSR stream, then the list. -/
def Cmd.segs (c : Cmd) : List (Nat × Nat) :=
  let ws := c.words
  if idxMode ws = 0 then
    match c.offsets with
    | none => [(addr48 (idxOffsets ws + idxFirst ws * offBytes ws), (idxCount ws + 1) * offBytes ws)]
    | some os => csrSegs ws os
  else [(idxList ws, idxCount ws * idxBytes ws)]

/-- Bytes that parts hold, and bytes read of them. -/
def segBytes (l : List (Nat × Nat)) : Nat := (l.map Prod.snd).sum

def Cmd.have (c : Cmd) : Nat := (c.chunks.map fun x => x.2.length).sum

/-- The bytes read, in order from offset `o` on; the first argument bounds the pieces. -/
def joinChunks (l : List (Nat × List (Byte × Bool))) : Nat → Nat → List (Byte × Bool)
  | 0, _ => []
  | k + 1, o =>
    match l.find? fun x => x.1 = o && x.2.length ≠ 0 with
    | some x => x.2 ++ joinChunks l k (o + x.2.length)
    | none => []

/-- The bags of a command whose list has been read; without an index stream, rows 0, 1, ... each a bag of one. -/
def Cmd.idxBags (c : Cmd) : List IdxBag :=
  let ws := c.words
  let bs := joinChunks c.chunks c.chunks.length 0
  let n := idxCount ws
  if !gatherOf ws then (List.range n).map fun (i : Nat) => ([((i : Int), false)], false)
  else if idxMode ws = 0 then csrBags ws (c.offsets.getD []) bs
  else
    let e := elemsOf (idxBytes ws) bs n
    if idxMode ws = 1 then e.map fun x => ([x], false) else [(e, false)]

/-- CSR bags longer than HUB_DEGREE are counted (R178). -/
def countOverlong (cluster hub : Nat) (ws : List Nat) (bags : List IdxBag) (s : State) : State :=
  let n := (bags.filter fun b => hub < b.1.length).length
  if gatherOf ws && idxMode ws = 0 && n ≠ 0 then
    s.updCluster cluster fun c => { c with overlong := satAdd 32 c.overlong n, stOverlong := true }
  else s

/-! ### The issue queue and its merges (R125) -/

/-- Cut `n` bytes from address `a`, landing from `dst`, at multiples of `u`; the first argument bounds the pieces. -/
def pieces (u : Nat) : Nat → Nat → Nat → Nat → List (Nat × Nat × Nat)
  | 0, _, _, _ => []
  | k + 1, a, dst, n =>
    if n = 0 then []
    else
      let m := min n (u - a % u)
      (a, dst, m) :: pieces u k (a + m) (dst + m) (n - m)

/-- The landings of a request for data or index bytes. -/
def ReqKind.lands (k : ReqKind) : List Landing :=
  match k with
  | .fetch l | .index l => l
  | .command | .row _ | .metered | .sectors _ _ | .seen | .store _ _ | .add _ _ _ _ | .cached _ _ _ _ | .written _ | .load _ _ =>
    []

/-- Change the landings of a request. -/
def ReqKind.mapLands (f : List Landing → List Landing) (k : ReqKind) : ReqKind :=
  match k with
  | .fetch l => .fetch (f l)
  | .index l => .index (f l)
  | .command | .row _ | .metered | .sectors _ _ | .seen | .store _ _ | .add _ _ _ _ | .cached _ _ _ _ | .written _ | .load _ _ =>
    k

/-- A request of the queue that also covers what a new one asks for, from its own first byte on. -/
def Pend.take (q p : Pend) : Pend :=
  { q with kind := q.kind.mapLands fun l => l ++ p.kind.lands.map fun x => { x with src := x.src + (p.addr - q.addr) } }

/-- Widen a 32-byte request to its 64-byte line. -/
def Pend.widen (q : Pend) : Pend :=
  let a := q.addr / 64 * 64
  { q with
    addr := a, len := 64
    kind := q.kind.mapLands fun l => l.map fun x => { x with src := x.src + (q.addr - a) } }

/-- May a new request be merged with one of the queue: one of its own command, or an earlier one of its context where its command
has waited for nothing (R145)? -/
def Pend.joins (p q : Pend) : Bool :=
  q.context = p.context && q.partition = p.partition && ((q.slot = p.slot && q.cmd = p.cmd) || !p.fenced)

/-- Are both requests for data rows on the sector path? -/
def Pend.bothSector (p q : Pend) : Bool := p.sector && q.sector && !q.kind.lands.isEmpty

/-- One sector, fetched once for both. -/
def Pend.sameSector (p q : Pend) : Option Pend :=
  if p.joins q && p.bothSector q && q.addr ≤ p.addr && p.addr + p.len ≤ q.addr + q.len then some (q.take p) else none

/-- Two sectors of one aligned line. -/
def Pend.pair (p q : Pend) : Option Pend :=
  if p.joins q && p.bothSector q && q.len = 32 && q.addr / 64 = p.addr / 64 then some (q.widen.take p) else none

/-- Are two requests of one stream of one command? -/
def Pend.oneStream (p q : Pend) : Bool :=
  !p.sector && !q.sector && q.slot = p.slot && q.cmd = p.cmd && !q.kind.lands.isEmpty

/-- A line that a request of the same dense stream covers, or the next one after it, within one aligned 256 bytes, which lie on one
channel (R245). -/
def Pend.extend (p q : Pend) : Option Pend :=
  if !p.oneStream q then none
  else if q.addr ≤ p.addr && p.addr + p.len ≤ q.addr + q.len then some (q.take p)
  else if p.addr = q.addr + q.len && p.addr / 256 = q.addr / 256 then some ({ q with len := q.len + p.len }.take p)
  else none

/-- The same row of a table: its sectors are fetched once for both. -/
def Pend.sameRow (p q : Pend) : Option Pend :=
  match p.kind, q.kind with
  | .row a, .row b =>
    if p.joins q && a.table = b.table && a.row = b.row && a.bytes = b.bytes then
      some { q with kind := .row { b with also := b.also ++ [a.whom] } }
    else none
  | _, _ => none

/-- Merge into the first of the newest `n` requests that takes it; the queue is given newest first. -/
def joinNear (f : Pend → Option Pend) : Nat → List Pend → Option (List Pend)
  | 0, _ => none
  | _ + 1, [] => none
  | n + 1, q :: r =>
    match f q with
    | some x => some (x :: r)
    | none => (joinNear f n r).map fun l => q :: l

/-- Put a request into the queue, newest first, with the merges made: the queue holds 32. A row of a table comes with the pairs of
its own sectors (DESIGN CHOICE, assumption log, entry 111). -/
def putPend (acc : List Pend × Nat) (p : Pend) : List Pend × Nat :=
  match p.kind with
  | .row q =>
    match joinNear p.sameRow 32 acc.1 with
    | some l => (l, acc.2 + ceilDiv q.bytes 32)
    | none => (p :: acc.1, acc.2 + ceilDiv q.bytes 32 / 2)
  | _ =>
    match ((joinNear p.sameSector 32 acc.1).orElse fun _ => joinNear p.pair 32 acc.1).orElse fun _ => joinNear p.extend 32 acc.1 with
    | some l => (l, acc.2 + 1)
    | none => (p :: acc.1, acc.2)

/-- Requests enter the issue queue of a tile, each merge counted. -/
def putPends (tile : Nat) (ps : List Pend) (s : State) : State :=
  s.updTile tile fun x =>
    let r := ps.foldl putPend (x.issue.reverse, 0)
    { x with issue := r.1.reverse, merges := satAdd 32 x.merges r.2 }

/-! ### Rows of tables (R214 to R218) -/

/-- The parcels of the tasks that a row is for. -/
def State.rowParcels (s : State) (q : RowReq) : List Nat :=
  (q.whom :: q.also).foldl (fun l w =>
    match w with
    | .tile p => addOnce l (s.task p.tile p.slot).parcel
    | .device _ _ _ _ _ => l) []

/-- Raise a fault about a row once for each parcel it is for. -/
def raiseRow (code : Nat) (q : RowReq) (s : State) : State :=
  (s.rowParcels q).foldl (fun s pid => raiseOnce code q.table pid s) s

/-- A row that no table resolves (R217), as its requester's part sees it. -/
def raiseUnresolved (q : RowReq) (s : State) : State := raiseRow 0x7003 q { s with fs := { s.fs with stUnresolved := true } }

/-- A poisoned row that no table resolves (R217). -/
def noteUnresolved (q : RowReq) (s : State) : State :=
  raiseUnresolved q { s with fs := { s.fs with unresolved := satAdd 32 s.fs.unresolved (1 + q.also.length) } }

/-- A row that stayed torn after three re-reads (R220), as its requester's part sees it. -/
def noteTorn (q : RowReq) (s : State) : State := raiseRow 0x7002 q { s with fs := { s.fs with stTorn := true } }

/-- A row whose home does not answer (R218), counted for each row it was to be. -/
def noteUnreachable (q : RowReq) (s : State) : State :=
  raiseRow 0x7006 q
    { s with fs := { s.fs with unreachable := satAdd 32 s.fs.unreachable (1 + q.also.length), stUnreachable := true } }

/-- The first `n` bytes of a copy of a row; the manual says of bytes beyond the row only that they follow it in the shard
(R221). -/
def copyBytes (bs : List (Byte × Bool)) (n : Nat) : List (Byte × Bool) :=
  (List.range n).map fun i => bs.getD i (Config.freeByte i, false)

/-- A poisoned delivery, with its cause. -/
def poisonResp (q : RowReq) (cause : Nat) : RowResp :=
  { req := q, bytes := (List.range q.bytes).map fun i => (Config.freeByte i, true), cause := cause }

/-- Queue a row for its requester. -/
def pushResp (r : RowResp) (s : State) : State := { s with fs := { s.fs with resps := s.fs.resps ++ [r] } }

/-- Cluster and position of the tile that a row is for. -/
def RowFor.place (w : RowFor) : Nat × Nat :=
  match w with
  | .tile p => (clusterOfTile p.tile, p.tile % 64)
  | .device _ c p _ _ => (c, p)

/-- Resolve one index of a command (R214, R217, R222): the rows to ask for, one or two components; none where it is
unresolved. -/
def State.resolve (s : State) (p : RowPlace) (ws : List Nat) (context : Nat) (index : Int) : List RowReq :=
  let id := dataTable ws
  let q : RowReq :=
    { table := id, row := 0, bytes := rowBytes ws, whom := .tile p, context := context, since := s.now, tag := 0 }
  match s.im.table id with
  | none => []
  | some t =>
    if !bit t.readers context then []
    else if t.mode ≠ 2 then
      match t.rowOf index with
      | none => []
      | some r => [{ q with row := r }]
    else if index < 0 || (t.rows : Int) ≤ index then []
    else
      match s.im.table t.compA, s.im.table t.compB with
      | some a, some b =>
        let i := index.toNat
        let part := fun n => RowFor.tile { p with part := n, comp := id }
        [{ q with table := a.id, row := i % a.rows, whom := part 0 },
          { q with table := b.id, row := i / a.rows % b.rows, whom := part 1 }]
      | _, _ => []

/-! ### Issue (R124, R246, R258) -/

/-- Requests that a request stands for, of the 64 a tile keeps in flight: a row of a table counts its lines, up to 64 (DESIGN
CHOICE, assumption log, entry 111). -/
def rowWeight (bytes : Nat) : Nat := min 64 (ceilDiv bytes 64)

def ReqKind.weight (k : ReqKind) : Nat :=
  match k with
  | .fetch _ | .index _ => 1
  | .row q => rowWeight q.bytes
  | .command | .metered | .sectors _ _ | .seen | .store _ _ | .add _ _ _ _ | .cached _ _ _ _ | .written _ | .load _ _ => 0

/-- Fetch requests of a tile among some requests. -/
def fetchWeight (tile : Nat) (l : List Req) : Nat := ((l.filter fun r => r.tile = tile).map fun r => r.kind.weight).sum

/-- Is a row for a tile? -/
def RowReq.on (q : RowReq) (tile : Nat) : Bool :=
  match q.whom with
  | .tile p => p.tile = tile
  | .device _ _ _ _ _ => false

/-- Every request that waits at a regulator, waits at a channel, or holds a transaction slot. -/
def State.allReqs (s : State) : List Req :=
  (s.mem.regs.flatMap fun p => p.2.waiting) ++ s.mem.chans.flatMap fun p =>
    (p.2.queues.flatMap Prod.snd) ++ p.2.slots.map Slot.req

/-- Every row request under way, and every row not yet returned. -/
def State.allRows (s : State) : List RowReq := s.fs.reqs ++ s.fs.remoteReqs ++ s.fs.resps.map RowResp.req

/-- Fetch requests that a tile has in flight (R124, R136). -/
def State.inFlight (s : State) (tile : Nat) : Nat :=
  fetchWeight tile s.allReqs + ((s.allRows.filter fun q => q.on tile).map fun q => rowWeight q.bytes).sum

/-- Does the cluster cache hold a replica of a row (R218)? -/
def State.cachedRow (s : State) (q : RowReq) : Bool := s.fs.replicas.any fun x => x.table = q.table && x.row = q.row && x.cc

/-- A request of the issue queue goes to its regulator: a row of a table as the 64-byte requests it takes, unless the cluster cache
holds it (R258). -/
def issuePend (tile : Nat) (p : Pend) (s : State) : State :=
  let r : Req :=
    { tile := tile, slot := p.slot, cmd := p.cmd, context := p.context, queue := p.partition
      dev := s.devOf p.context (p.addr % 2 ^ 48), len := p.len, kind := p.kind }
  match p.kind with
  | .row q =>
    if s.cachedRow q then enqueueReq r s
    else
      let n := roundUp q.bytes 32
      let k := ceilDiv n 64
      issueReq { r with len := n - 64 * (k - 1) }
        ((List.range (k - 1)).foldl (fun s _ => issueReq { r with len := 64, kind := .metered } s) s)
  | _ => issueReq r s

/-- The oldest request of a tile's issue queue is issued if the requests in flight leave room for it. -/
def issueHead (tile : Nat) (s : State) : State :=
  match (s.tile tile).issue with
  | [] => s
  | p :: r =>
    if 64 < s.inFlight tile + p.kind.weight then s
    else issuePend tile p (s.updTile tile fun x => { x with issue := r })

/-- Issue what can be issued. -/
def issueMore (tile : Nat) (s : State) : State := (s.tile tile).issue.foldl (fun s _ => issueHead tile s) s

/-! ### Rows of a command -/

/-- Rows of a list of bags with their landing addresses, one after another from `place`. -/
def placeBags (step : Nat) : Nat → List IdxBag → List (List (Nat × Int × Bool) × Bool)
  | _, [] => []
  | place, b :: r =>
    ((List.range b.1.length).map fun i =>
        let x := b.1.getD i (0, false)
        (place + step * i, x.1, x.2), b.2) :: placeBags step (place + step * b.1.length) r

/-- The base of a request of a command in the issue queue. -/
def Task.pend (k : Task) (slot : Nat) (c : Cmd) (addr len : Nat) (sector : Bool) (kind : ReqKind) : Pend :=
  { slot := slot, cmd := c.index, context := k.context, partition := k.partition, addr := addr, len := len, sector := sector
    fenced := waitCtr c.words ≠ 63, kind := kind }

/-- The requests of parts of memory that land one after another from offset 0 in a command's index stream. -/
def streamPends (k : Task) (slot : Nat) (c : Cmd) : Nat → List (Nat × Nat) → List Pend
  | _, [] => []
  | dst, x :: r =>
    ((pieces 64 (x.2 / 64 + 2) x.1 dst x.2).map fun p =>
        k.pend slot c (p.1 / 64 * 64) 64 false (.index [⟨slot, p.1 % 64, p.2.1, p.2.2⟩]))
      ++ streamPends k slot c (dst + x.2) r

/-- The requests of one direct row at its address and landing: sectors where the rows are index-driven, else lines (R118,
R246). -/
def rowPends (k : Task) (slot : Nat) (c : Cmd) (a dst : Nat) : List Pend :=
  let n := rowBytes c.words
  let u := if gatherOf c.words then 32 else 64
  (pieces u (n / u + 2) a dst n).map fun p =>
    k.pend slot c (p.1 / u * u) u (gatherOf c.words) (.fetch [⟨slot, p.1 % u, p.2.1, p.2.2⟩])

/-- Ask for the rows of a bag of a table: the rows as pooling will find them, and the requests. -/
def resolveBag (k : Task) (tile slot : Nat) (c : Cmd) : List (Nat × Int × Bool) → State → List RowRef × List Pend × State
  | [], s => ([], [], s)
  | x :: r, s =>
    if x.2.2 then
      let y := resolveBag k tile slot c r s
      (⟨x.1, true⟩ :: y.1, y.2)
    else
      let p : RowPlace :=
        { tile := tile, slot := slot, cmd := c.index, place := x.1, fmt := dataFmt c.words, pooled := poolOf c.words ≠ 0 }
      let qs := s.resolve p c.words k.context x.2.1
      let lost : RowReq :=
        { table := dataTable c.words, row := 0, bytes := 0, whom := .tile p, context := k.context, since := s.now, tag := 0 }
      let y := resolveBag k tile slot c r (if qs.isEmpty then noteUnresolved lost s else s)
      (⟨x.1, qs.isEmpty⟩ :: y.1, qs.map (fun q => k.pend slot c 0 q.bytes true (.row q)) ++ y.2.1, y.2.2)

/-- The bags of a command whose rows come from a table. -/
def resolveBags (k : Task) (tile slot : Nat) (c : Cmd) :
    List (List (Nat × Int × Bool) × Bool) → State → List Bag × List Pend × State
  | [], s => ([], [], s)
  | b :: r, s =>
    let x := resolveBag k tile slot c b.1 s
    let y := resolveBags k tile slot c r x.2.2
    (⟨x.1, b.2⟩ :: y.1, x.2.1 ++ y.2.1, y.2.2)

/-- The bags of a command whose rows are direct. -/
def directBags (k : Task) (slot : Nat) (c : Cmd) (placed : List (List (Nat × Int × Bool) × Bool)) : List Bag × List Pend :=
  (placed.map fun b => ⟨b.1.map fun x => ⟨x.1, x.2.2⟩, b.2⟩,
    placed.flatMap fun b => (b.1.filter fun x => !x.2.2).flatMap fun x =>
      rowPends k slot c (addr48 (dataBase c.words + x.2.1 * dataStride c.words)) x.1)

/-- A command's index stream has been read: its landing lines are reserved and cleared of old tags, and its rows are asked for
(R122, R124). -/
def placeRows (tile slot : Nat) (c : Cmd) (s : State) : State :=
  let k := s.task tile slot
  let bags := c.idxBags
  let step := rowPlace c.words
  let total := step * (bags.map fun b => b.1.length).sum
  let start := k.bufAddr + k.fillHalf * k.halfBytes + k.groupOff
  let hub := ((s.parcel k.parcel).map Parcel.hub).getD 65536
  let s := s.tagRange tile start total false
  let s := countOverlong (clusterOfTile tile) hub c.words bags s
  let placed := placeBags step start bags
  let r :=
    if gatherOf c.words && viaFs c.words then resolveBags k tile slot c placed s
    else
      let d := directBags k slot c placed
      (d.1, d.2, s)
  putPends tile r.2.1 ((r.2.2.updTask tile slot fun k => { k with groupOff := k.groupOff + total }).updCmd tile slot c.index
    fun y => { y with phase := .fetching, chunks := [], offsets := none, bags := r.1 })

/-- What a stage of a command's index stream reads from memory enters the issue queue. -/
def beginStage (tile slot : Nat) (c : Cmd) (s : State) : State :=
  if idxSram c.words then s else putPends tile (streamPends (s.task tile slot) slot c 0 c.segs) s

/-- The command of a task whose index stream is being read. -/
def Task.streaming (k : Task) : Option Cmd := k.cmds.find? fun c => c.phase = .indexing

/-- A stream in tile SRAM takes what it can. -/
def takeStage (tile slot : Nat) (c : Cmd) (s : State) : State :=
  if !idxSram c.words then s
  else
    let x := takeSegs tile (restSegs c.have c.segs) s
    x.2.updCmd tile slot c.index fun y => { y with chunks := if x.1.isEmpty then y.chunks else y.chunks ++ [(c.have, x.1)] }

/-- The index stream of a task moves on: what is there is read, offsets give way to the list, and the list to the rows. -/
def advanceStream (tile : Nat) (s : State) (slot : Nat) : State :=
  match (s.task tile slot).streaming with
  | none => s
  | some c =>
    if !gatherOf c.words then placeRows tile slot c s
    else
      let s := takeStage tile slot c s
      match (s.task tile slot).streaming with
      | none => s
      | some c =>
        if c.have < segBytes c.segs then s
        else if idxMode c.words = 0 && c.offsets.isNone then
          let os := elemsOf (offBytes c.words) (joinChunks c.chunks c.chunks.length 0) (idxCount c.words + 1)
          let c' := { c with offsets := some os, chunks := [] }
          beginStage tile slot c' (s.updCmd tile slot c.index fun _ => c')
        else placeRows tile slot c s

/-- The fetches of a tile move on: a command's stream has at most two stages before its rows. -/
def settleFetch (tile : Nat) (s : State) : State :=
  (List.range 3).foldl (fun s _ => issueMore tile ((List.range 4).foldl (advanceStream tile) s)) s

/-! ### The fetch phase -/

/-- Has a counter reached the value a command waits for (R121, R140)? -/
def State.waitMet (s : State) (tile : Nat) (ws : List Nat) : Bool :=
  waitCtr ws = 63 || waitValue ws ≤ (s.counter tile (waitCtr ws)).count

/-- May a later command's fetch phase begin behind this one: its rows have been asked for, or it is a NOP whose wait is met
(R128)? -/
def State.passed (s : State) (tile : Nat) (c : Cmd) : Bool :=
  if opOf c.words = 1 then c.issued && c.phase ≠ .indexing else opOf c.words = 0 && s.waitMet tile c.words

/-- The command whose fetch phase is next: every earlier command lets it pass. -/
def State.nextFetch (s : State) (tile : Nat) : List Cmd → Option Cmd
  | [] => none
  | c :: r =>
    if c.unread then none
    else if opOf c.words = 1 && !c.issued then some c
    else if s.passed tile c then s.nextFetch tile r
    else none

/-- The task as a fetch phase begins: the first of a group takes the group's buffer (R122). -/
def Task.opens (k : Task) (ws : List Nat) : Task :=
  let k := if k.opened then k else { k with bufAddr := bufAddrOf ws, halfBytes := halfBytesOf ws, groupOff := 0 }
  { k with opened := true, closed := swapAfter ws }

/-- The next FUSED command of a task whose wait is met begins its fetch phase, unless the group's swap is awaited or the
throttle gates it (R68, R121, R123). -/
def startFetch (tile slot : Nat) (s : State) : State :=
  let k := s.task tile slot
  if !k.state.live || k.closed || s.lehr.gateIssue || !s.clocked then s
  else
    match s.nextFetch tile k.cmds with
    | none => s
    | some c =>
      if !s.waitMet tile c.words then s
      else
        let c' := { c with
          phase := .indexing, issued := true, group := k.group
          issueRev := s.round.rev, issueAngle := s.round.angle, issueTime := s.now, issueValid := s.angleValid }
        let s := s.updTask tile slot fun k => (k.opens c.words).updCmd c.index fun _ => c'
        if gatherOf c.words then beginStage tile slot c' s else s

end Sys2Proof.Machine
end

