-- ==== Sys2Proof/Machine/Compute.lean ====
section
/-! DEFINITION. Compute phases: pooling (R191, R223), the transform (R192, R193, R202), the vector engine (R195 to R197),
stores (R120, R126, R147, R250), and how the phases of a tile move on. -/

namespace Sys2Proof.Machine

/-! ### Gathering a bag -/

/-- A bag's rows as read: their elements, whether one is poisoned, how many were zeroed, and whether one holds a NaN read from
storage. -/
structure Gather where
  rows : List (List Num) := []
  poison : Bool := false
  zeroed : Nat := 0
  nan : Bool := false
deriving DecidableEq, Repr

/-- Read the rows of a bag from the use half, in list order, going on from what has been read of each (`got`): what is there now, and
whether every row is (`some false`), the bag ends at its first poisoned row in stop mode (`some true`), or an empty held word stops
the read (`none`). A row that was not fetched has no bytes. -/
def readRows (tile n : Nat) (stop : Bool) :
    List RowRef → List (List (Byte × Bool)) → State → Option Bool × List (List (Byte × Bool)) × State
  | [], _, s => (some false, [], s)
  | r :: rest, got, s =>
    let len := if r.bad then 0 else n
    let x := readPart tile r.place len (got.headD []) s
    if x.1.length < len then (none, [x.1], x.2)
    else if stop && (r.bad || x.1.any Prod.snd) then (some true, [x.1], x.2)
    else
      let y := readRows tile n stop rest (got.drop 1) x.2
      (y.1, x.1 :: y.2.1, y.2.2)

/-- The FP32 or INT32 elements of a composed row, where its place still holds the row that was landed there (R173, R222). -/
def State.composedRow (s : State) (ws : List Nat) (k : Task) (r : RowRef) (bs : List Byte) : Option (List Num) :=
  match s.im.table (dataTable ws) with
  | none => none
  | some t =>
    if !gatherOf ws || !viaFs ws || t.mode ≠ 2 then none
    else
      match tfind k.composed r.place with
      | none => none
      | some es =>
        let row := es.map (decodeElem (if isFloat (dataFmt ws) then 0 else 6))
        if (encodeRow (dataFmt ws) row).1 = bs then some row else none

/-- The elements of a row as pooling takes them, and whether one of them is a NaN read from storage: a composed row's NaN was read,
and flagged, as a component (R199). -/
def State.rowElems (s : State) (ws : List Nat) (k : Task) (r : RowRef) (bs : List Byte) : List Num × Bool :=
  let plain := decodeRow (dataFmt ws) bs (width16Of ws * 16)
  match s.composedRow ws k r bs with
  | some row => (if poolOf ws = 0 then plain else row, false)
  | none => (plain, plain.any Num.isNan)

/-- Add one row to a bag under TILE_CMD_POISON (R127). -/
def Gather.add (g : Gather) (s : State) (ws : List Nat) (k : Task) (r : RowRef) (bs : List (Byte × Bool)) : Gather :=
  let zero : Num := if isFloat (dataFmt ws) then .f .zero else .i 0
  let zeros := List.replicate (width16Of ws * 16) zero
  if r.bad || bs.any Prod.snd then
    if poisonMode ws = 1 then { g with rows := g.rows ++ [zeros], zeroed := g.zeroed + 1 }
    else
      let row := if r.bad then zeros else (s.rowElems ws k r (bs.map Prod.fst)).1
      { g with rows := g.rows ++ [row], poison := true }
  else
    let x := s.rowElems ws k r (bs.map Prod.fst)
    { g with rows := g.rows ++ [x.1], nan := g.nan || x.2 }

/-- The rows of a bag that has been read. -/
def State.gatherBag (s : State) (ws : List Nat) (k : Task) (bag : Bag) (got : List (List (Byte × Bool))) : Gather :=
  (bag.rows.zip got).foldl (fun g x => g.add s ws k x.1 x.2) { poison := bag.poisoned }

/-! ### Pooling -/

/-- An element in the pooling format (R191). -/
def poolElem (x : Num) : Num :=
  match x with
  | .f v => .f (fp32.convert v).1
  | .i n => .i n

/-- One element of a mean over `n` entries (R223). -/
def meanElem (n : Nat) (x : Num) : Num × Nat :=
  match x with
  | .f v => let r := fdiv v (.ofInt n); (.f r.1, r.2)
  | .i z => let q : Int := divRne z.natAbs n; (.i (if z < 0 then -q else q), 0)

/-- Pool the rows of a bag by sum or mean: the elements and their flags. -/
def poolRows (ws : List Nat) (rows : List (List Num)) : List Num × Nat :=
  match rows with
  | [] => (List.replicate (width16Of ws * 16) (if isFloat (dataFmt ws) then .f .zero else .i 0), 0)
  | a :: r =>
    let sum := r.foldl (fun acc row =>
        let z := rowAdd acc.1 (row.map poolElem)
        (z.1, acc.2 ||| z.2))
      (a.map poolElem, 0)
    if poolOf ws = 2 then
      let m := collect (sum.1.map (meanElem rows.length))
      (m.1, sum.2 ||| m.2)
    else sum

/-- A pooled vector: its elements, their format code, its flags. -/
structure Pooled where
  vec : List Num
  code : Nat
  flags : Nat
deriving DecidableEq, Repr

/-- The vector of a bag; arithmetic on a poisoned one sets no flag (R207). With TILE_CMD_POOL 0 a bag of one row passes on; of any
other bag the manual states no row. -/
def poolBag (ws : List Nat) (g : Gather) (s : State) : Pooled × State :=
  let flags := fun w => if g.poison then 0 else w ||| flagIf g.nan nfNanSeen
  if poolOf ws ≠ 0 then
    let r := poolRows ws g.rows
    (⟨r.1, if isFloat (dataFmt ws) then 0 else 6, flags r.2⟩, s)
  else
    match g.rows with
    | [row] => (⟨row, dataFmt ws, flags 0⟩, s)
    | _ =>
      let d := s.draw
      let bs := (List.range (rowBytes ws)).map (Config.unpooled d.1)
      (⟨decodeRow (dataFmt ws) bs (width16Of ws * 16), dataFmt ws, flags 0⟩, d.2)

/-! ### Transform by the MXE -/

/-- Bytes of the resident weights. -/
def weightBytes (ws : List Nat) : Nat := xfK16 ws * 16 * (xfN16 ws * 16) * fmtBytes (weightFmt ws)

/-- The vector times the resident weights (R192, R193): the row, its flags, and its poison. The weights' arithmetic on a poisoned
vector, or with a poisoned weight line, sets no flag (R207). -/
def mxeRow (ws : List Nat) (p : Pooled) (poison : Bool) (weights : List (Byte × Bool)) : List Num × Nat × Bool :=
  let kk := xfK16 ws * 16
  let nn := xfN16 ws * 16
  let w := decodeRow (weightFmt ws) (weights.map Prod.fst) (kk * nn)
  let conv := collect (p.vec.map fun e =>
    if poolOf ws = 0 then (e, 0)
    else
      let r := encodeElem (dataFmt ws) e
      (decodeElem (dataFmt ws) r.1, r.2))
  let xs := conv.1.map Num.exact
  let cols := collect ((List.range nn).map fun j =>
    mxeDot (accInt ws) xs ((List.range kk).map fun i => (w.getD (i * nn + j) (.f .zero)).exact))
  let bad := weights.any Prod.snd
  (cols.1,
    p.flags ||| (if poison then 0 else conv.2) ||| (if poison || bad then 0 else cols.2 ||| nanSeen w), poison || bad)

/-! ### Vector engine -/

/-- The activation in FP32. A NaN slope is taken as an operand wherever its product is formed (R196, R199). -/
def vxeFloat (ws : List Nat) (row : List FVal) : List FVal × Nat :=
  if actFn ws = 6 then l2norm row
  else
    let param := bf16.decode (actParam ws)
    let used := actFn ws = 2 && param.isNan && row.any fun v => FVal.lt v .zero || v.isNan
    let r := collect (row.map (actElem (actFn ws) param))
    (r.1, r.2 ||| flagIf used nfNanSeen)

/-- Bias, activation and conversion to TILE_ACT_OUT_FMT (R195): stored bits of the elements, the flags of taking the row in, and
those from the bias on. `code` is the format of the input. -/
def vxeRow (ws : List Nat) (code : Nat) (row bias : List Num) : List Nat × Nat × Nat :=
  if !isFloat code && actFn ws ≤ 1 then
    let b := collect ((List.range row.length).map fun i =>
      if actBias ws then numAdd (row.getD i (.i 0)) (bias.getD i (.i 0)) else (row.getD i (.i 0), 0))
    let act := b.1.map fun x =>
      match x with
      | .i n => if actFn ws = 1 then Num.i (max n 0) else .i n
      | .f v => .f v
    let out := collect (act.map (encodeElem (outFmt ws)))
    (out.1, 0, b.2 ||| out.2)
  else
    let x := collect (row.map Num.toFp32)
    let b := collect ((List.range row.length).map fun i =>
      let v := x.1.getD i .zero
      if actBias ws then fadd v (bias.getD i (.f .zero)).exact else (v, 0))
    let act := vxeFloat ws b.1
    let out := collect (act.1.map fun v => encodeElem (outFmt ws) (.f v))
    (out.1, x.2, b.2 ||| act.2 ||| out.2)

/-- Bytes of the bias vector of a row of `n` elements. -/
def biasBytes (ws : List Nat) (n : Nat) : Nat := if actBias ws then 4 * n else 0

/-- The output row of an input row and its bias bytes: stored bits, flags, poison. Arithmetic on a poisoned row, or with a poisoned
bias line, sets no flag (R207). -/
def finishRow (ws : List Nat) (code : Nat) (row : List Num) (poison : Bool) (bias : List (Byte × Bool)) : List Nat × Nat × Bool :=
  let b := decodeRow (if !isFloat code && actFn ws ≤ 1 then 6 else 0) (bias.map Prod.fst) (bias.length / 4)
  let bad := bias.any Prod.snd
  let r := vxeRow ws code row b
  (r.1, if poison then 0 else r.2.1 ||| (if bad then 0 else r.2.2 ||| nanSeen b), poison || bad)

/-! ### Store -/

/-- Bytes of an output row. -/
def outBytes (ws : List Nat) (es : List Nat) : List Byte := es.flatMap fun n => leBytes n (fmtBytes (outFmt ws))

/-- Land one waiting row in tile SRAM, word by word, until a full held word stops it (R147): what is left. -/
def fillRow (tile : Nat) (poison : Bool) : Nat → Nat → List Byte → State → (Nat × List Byte) × State
  | 0, a, bs, s => ((a, bs), s)
  | n + 1, a, bs, s =>
    if bs.isEmpty then ((a, bs), s)
    else
      let k := 8 - a % 8
      if inHeld a && s.heldFull tile (heldIdx a) then ((a, bs), s)
      else
        let s := s.sramWrite tile a (bs.take k)
        let s := if poison then s.tagLine tile a true else s
        let s := if inHeld a then s.setFull tile (heldIdx a) true else s
        fillRow tile poison n (a + k) (bs.drop k) s

/-- Land the waiting rows of a command, in order. -/
def fillRows (tile : Nat) : List (Nat × List Byte × Bool) → State → List (Nat × List Byte × Bool) × State
  | [], s => ([], s)
  | x :: r, s =>
    let y := fillRow tile x.2.2 (x.2.1.length + 1) x.1 x.2.1 s
    if y.1.2.isEmpty then fillRows tile r y.2 else ((y.1.1, y.1.2, x.2.2) :: r, y.2)

/-- Land what a command's rows wait for. -/
def flushRest (tile slot i : Nat) (s : State) : State :=
  match (s.task tile slot).cmd i with
  | none => s
  | some c =>
    let r := fillRows tile c.rest s
    r.2.updCmd tile slot i fun c => { c with rest := r.1 }

/-- A memory store or add of a command is on its way. -/
def issueStore (r : Req) (s : State) : State :=
  issueReq r (s.updCmd r.tile r.slot r.cmd fun c => { c with stores := c.stores + 1 })

/-- The base of a task's requests. -/
def Task.req (k : Task) (tile slot cmd : Nat) (kind : ReqKind) (dev : Option Nat) (len : Nat) : Req :=
  { tile := tile, slot := slot, cmd := cmd, context := k.context, queue := k.partition, dev := dev, len := len
    kind := kind }

/-- Store a row at a context address, one request a line (R120). -/
def storeLines (tile slot cmd : Nat) (poison : Bool) : Nat → Nat → List Byte → State → State
  | 0, _, _, s => s
  | n + 1, a, bs, s =>
    if bs.isEmpty then s
    else
      let k := s.task tile slot
      let m := 64 - a % 64
      let part := bs.take m
      storeLines tile slot cmd poison n (a + m) (bs.drop m)
        (issueStore (k.req tile slot cmd (.store part poison) (s.devForWrite k.context (a % 2 ^ 48)) part.length) s)

/-- An output element as the adders take it (R250): FP32 or INT32 bits. -/
def addBits (ws : List Nat) (n : Nat) : Nat := (encodeElem (if isFloat (outFmt ws) then 0 else 6) (decodeElem (outFmt ws) n)).1

/-- Adds of a row through the atomic home of its region, line by line (R250, R251). `int32` says that the command's output format is
INT32, whose elements a wide region takes as INT64. An element that straddles two lines goes to the memory-side adders, and so does
every one where the cluster cache has no room for atomic lines. -/
def addLines (tile slot cmd : Nat) (fp int32 poison : Bool) : Nat → Nat → List Nat → State → State
  | 0, _, _, s => s
  | n + 1, a, es, s =>
    if es.isEmpty then s
    else
      let k := s.task tile slot
      let reg := s.region k.context (a % 2 ^ 48)
      let wide := int32 && (reg.map Region.wide).getD false
      let w := destBytes wide
      let room := (64 - a % 64) / w
      let m := max 1 room
      let part := es.take m
      let cached := room ≠ 0 && (reg.map Region.atomicCache).getD false && s.atomicRoom ≠ 0
      let kind := if cached then ReqKind.cached part fp wide poison else .add part fp wide poison
      addLines tile slot cmd fp int32 poison n (a + w * m) (es.drop m)
        (issueStore (k.req tile slot cmd kind (s.devForWrite k.context (a % 2 ^ 48)) (w * part.length)) s)

/-- Count a poisoned row that is stored (R127). -/
def notePoisonOut (tile : Nat) (poison : Bool) (s : State) : State :=
  if poison then s.updTile tile fun x => { x with poisonOut := bump x.poisonOut, stPoison := true } else s

/-- The byte at a context address as a tile reads it (R243, R244, R251). -/
def State.tileByte (s : State) (tile ctx a : Nat) : Byte × Bool :=
  match s.devOf ctx (a % 2 ^ 48) with
  | some d => s.clusterByte (clusterOfTile tile) ctx d
  | none => (Config.freeByte a, true)

/-- Element `i` of a command's list of destinations, none where it is poisoned; the STE reads it as it stores the row. -/
def destIndex (tile : Nat) (k : Task) (ws : List Nat) (i : Nat) (s : State) : Option Int × State :=
  let a := addr48 (stIdxAddr ws + i * idxBytes ws)
  let bs := (List.range (idxBytes ws)).map fun j => s.tileByte tile k.context (a + j)
  (if bs.any Prod.snd then none else some (toSigned (8 * idxBytes ws) (leNat (bs.map Prod.fst))),
    seeCtx (clusterOfTile tile) k.partition k.context a (idxBytes ws) s)

/-- Store output row `i` of a command (R120); a poisoned destination index is not followed (R126). -/
def storeRow (tile slot : Nat) (c : Cmd) (i : Nat) (es : List Nat) (poison : Bool) (s : State) : State :=
  let ws := c.words
  let bs := outBytes ws es
  let lines := bs.length / 64 + 2
  if storeOf ws = 0 then s
  else if storeOf ws = 1 then
    let a := (stAddr ws + i * stStride ws) % 0x40000
    let s := notePoisonOut tile poison s
    if !c.rest.isEmpty || !(heldIn a bs.length).isEmpty then
      flushRest tile slot c.index
        (s.updCmd tile slot c.index fun x => { x with rest := x.rest ++ [(a, bs, poison)] })
    else s.sramStore tile a bs poison
  else if storeOf ws = 2 then
    storeLines tile slot c.index poison lines (stAddr ws + i * stStride ws) bs (notePoisonOut tile poison s)
  else
    let r := destIndex tile (s.task tile slot) ws i s
    match r.1 with
    | none => r.2
    | some x =>
      let a := addr48 (stAddr ws + x * stStride ws)
      let s := notePoisonOut tile poison r.2
      if stAtomic ws then
        addLines tile slot c.index (isFloat (outFmt ws)) (outFmt ws = 6) poison (es.length + 1) a (es.map (addBits ws)) s
      else storeLines tile slot c.index poison lines a bs s

/-! ### Rings (R180) -/

/-- The ring slot of a task's tile. -/
def State.ringOf (s : State) (tile pid : Nat) : Option (Nat × Ring) :=
  s.sync.rings.find? fun p =>
    p.1 / 8 = clusterOfTile tile && p.2.parcel = pid && p.2.first ≤ tile % 64 && tile % 64 < p.2.first + p.2.size

/-- May the compute phase of a ring command start? -/
def State.ringReady (s : State) (tile pid : Nat) (c : Cmd) : Bool :=
  !xfRing c.words ||
    match s.ringOf tile pid with
    | none => true
    | some (_, r) => (c.ring - 1) % (r.steps + 1) = 0 || c.ring - 1 ≤ r.landed

/-- Ring commands of a member that have ended their compute phase out of order, taken in as far as they follow on; the first
argument bounds them. -/
def Ring.absorb (i : Nat) : Nat → Ring → Ring
  | 0, r => r
  | n + 1, r =>
    let j := r.ended.getD i 0 + 1
    if r.early.contains (i, j) then Ring.absorb i n { r with ended := r.ended.set i j, early := r.early.erase (i, j) } else r

/-- Member `i` has ended the compute phase of its ring command `j`. -/
def Ring.note (i j : Nat) (r : Ring) : Ring := Ring.absorb i (r.early.length + 1) { r with early := r.early ++ [(i, j)] }

/-- A member has ended the compute phase of a ring command. -/
def noteRing (tile pid : Nat) (c : Cmd) (s : State) : State :=
  if !xfRing c.words then s
  else
    match s.ringOf tile pid with
    | none => s
    | some (key, r) =>
      { s with sync := { s.sync with rings := tset s.sync.rings key (r.note (tile % 64 - r.first) c.ring) } }

/-! ### Compute phases -/

/-- Is the engine of a partition DEGRADED? -/
def State.degraded (s : State) (p : Nat) : Bool := (tget s.lens.engines p {}).state = .degraded

/-- A Lens-required command meets a DEGRADED engine: its task ends (R284). -/
def lensRefused (tile slot : Nat) (s : State) : State :=
  let k := s.task tile slot
  endTask tile slot 0x8004 (raiseFor 0x8004 k.partition k.parcel s)

/-- Store a computed row with the flags its arithmetic raised (R207). -/
def emitRow (tile slot : Nat) (c : Cmd) (i : Nat) (r : List Nat × Nat × Bool) (s : State) : State :=
  storeRow tile slot c i r.1 r.2.2 (s.taskFlags tile slot r.2.1)

/-- A row that a command works on: its number, its elements in format `code`, the flags raised so far, its poison. -/
structure Work where
  row : Nat
  code : Nat
  elems : List Num
  flags : Nat
  poison : Bool
deriving DecidableEq, Repr

/-- Take a row through the vector engine and store it; `got` is what has been read of its bias. None while a held word of the bias is
empty, with what has been read of it. -/
def vxeStore (tile slot : Nat) (c : Cmd) (w : Work) (got : List (Byte × Bool)) (s : State) :
    Option (List (Byte × Bool)) × State :=
  let n := biasBytes c.words w.elems.length
  let b := readPart tile (biasAddr c.words) n got s
  if b.1.length < n then (some b.1, b.2)
  else
    let r := finishRow c.words w.code w.elems w.poison b.1
    (none, emitRow tile slot c w.row (r.1, w.flags ||| r.2.1, r.2.2) b.2)

/-- Send a row's drive levels to the partition's Lens engine (R202, R270). -/
def lensSend (tile slot : Nat) (c : Cmd) (peak : FVal) (levels : List Int) (flags : Nat) (poison : Bool) (s : State) : State :=
  let k := s.task tile slot
  let q : LensReq :=
    { tile := tile, slot := slot, cmd := c.index, row := c.row, parcel := k.parcel, handle := lensHandle c.words
      levels := levels, peak := fp32.encode peak, poison := poison }
  let s := (s.taskFlags tile slot flags).updCmd tile slot c.index fun y => { y with lensOut := y.lensOut + 1 }
  let s := s.updTile tile fun y => { y with lensOutstanding := y.lensOutstanding + 1 }
  { s with lens := { s.lens with flight := s.lens.flight ++ [q] } }

/-- Keep what has been read for the next row of a command; nothing else can move. -/
def keepGot (tile slot i : Nat) (got : List (List (Byte × Bool))) (s : State) : Bool × State :=
  (false, s.updCmd tile slot i fun y => { y with got := got })

/-- The next row of a command has been computed, or is at the Lens engine: the rows that were zeroed for it are counted. -/
def nextRow (tile slot i zeroed : Nat) (s : State) : Bool × State :=
  let s := if zeroed = 0 then s
    else s.updTile tile fun x => { x with poisonZero := satAdd 32 x.poisonZero zeroed, stPoison := true }
  (true, s.updCmd tile slot i fun y => { y with row := y.row + 1, got := [] })

/-- Finish a row at this tile: through the vector engine, then the next. -/
def finishHere (tile slot : Nat) (c : Cmd) (w : Work) (zeroed : Nat) (got : List (List (Byte × Bool))) (s : State) : Bool × State :=
  let r := vxeStore tile slot c w (c.got.getD got.length []) s
  match r.1 with
  | some b => keepGot tile slot c.index (got ++ [b]) r.2
  | none => nextRow tile slot c.index zeroed r.2

/-- A row bound for the Lens engine (R202): it is sent, or finished here where its drive is zero or refused, once no earlier row is
still at the engine; at most 32 requests of a tile are outstanding. -/
def lensRow (tile slot : Nat) (c : Cmd) (p : Pooled) (g : Gather) (got : List (List (Byte × Bool))) (s : State) : Bool × State :=
  let here := fun (v : FVal) (w : Nat) =>
    if c.lensOut ≠ 0 then keepGot tile slot c.index got s
    else
      finishHere tile slot c ⟨c.row, 0, List.replicate (xfN16 c.words * 16) (.f v), p.flags ||| (if g.poison then 0 else w), g.poison⟩
        g.zeroed got s
  match lensDrive (p.vec.map fun e => e.toFp32.1) with
  | .zero => here .zero 0
  | .refused => here .nan nfInvalid
  | .levels peak ds w =>
    if 32 ≤ (s.tile tile).lensOutstanding then keepGot tile slot c.index got s
    else nextRow tile slot c.index g.zeroed (lensSend tile slot c peak ds (p.flags ||| (if g.poison then 0 else w)) g.poison s)

/-- A row of the MXE: its weights are read, then it goes on. -/
def mxeStep (tile slot : Nat) (c : Cmd) (p : Pooled) (g : Gather) (got : List (List (Byte × Bool))) (s : State) : Bool × State :=
  let ws := c.words
  let w := readPart tile (weightAddr ws) (weightBytes ws) (c.got.getD got.length []) s
  if w.1.length < weightBytes ws then keepGot tile slot c.index (got ++ [w.1]) w.2
  else
    let r := mxeRow ws p g.poison w.1
    finishHere tile slot c ⟨c.row, if accInt ws then 6 else 0, r.1, r.2.1, r.2.2⟩ g.zeroed (got ++ [w.1]) w.2

/-- Compute the next row of a command; false where it must wait. What has been read for it is kept (R148). -/
def computeRow (tile slot : Nat) (c : Cmd) (s : State) : Bool × State :=
  let k := s.task tile slot
  let ws := c.words
  let bag := c.bags.getD c.row ⟨[], false⟩
  let x := readRows tile (rowBytes ws) (poisonMode ws = 2) bag.rows c.got s
  match x.1 with
  | none => keepGot tile slot c.index x.2.1 x.2.2
  | some true => (true, poisonConsumed tile slot x.2.2)
  | some false =>
    let g := x.2.2.gatherBag ws k bag x.2.1
    let r := poolBag ws g x.2.2
    if xformOf ws = 0 then finishHere tile slot c ⟨c.row, r.1.code, r.1.vec, r.1.flags, g.poison⟩ g.zeroed x.2.1 r.2
    else if c.useLens then lensRow tile slot c r.1 g x.2.1 r.2
    else mxeStep tile slot c r.1 g x.2.1 r.2

/-- Store the oldest row that is back from the Lens engine (R203, R270): the scaling of a poisoned row's codes sets no flag. -/
def landBack (tile slot : Nat) (c : Cmd) (b : LensBack) (s : State) : Bool × State :=
  let w : Work := ⟨b.row, 0, b.elems.map fun n => .f (fp32.decode n), if b.poison then 0 else b.flags, b.poison⟩
  let r := vxeStore tile slot c w (c.gotBack.headD []) s
  match r.1 with
  | some g => (false, r.2.updCmd tile slot c.index fun y => { y with gotBack := [g] })
  | none =>
    (true, r.2.updCmd tile slot c.index fun y => { y with back := y.back.drop 1, lensOut := y.lensOut - 1, gotBack := [] })

/-! ### Rows stored poisoned (R132, R284) -/

/-- Store output rows of a command poisoned without computing them, `n` of them from row `i` on (R132, R284). -/
def poisonRows (tile slot : Nat) (c : Cmd) : Nat → Nat → State → State
  | 0, _, s => s
  | n + 1, i, s =>
    let c' := ((s.task tile slot).cmd c.index).getD c
    let es := (List.range (outWidth c.words)).map fun j => (Config.freeByte j).toNat
    poisonRows tile slot c n (i + 1) (storeRow tile slot c' i es true s)

/-- The rows that a command has neither stored nor sent are stored poisoned, and its compute phase ends. -/
def poisonRest (tile slot : Nat) (c : Cmd) (s : State) : State :=
  let n := bagCount c.words
  noteRing tile (s.task tile slot).parcel c
    ((poisonRows tile slot c (n - c.row) c.row s).updCmd tile slot c.index fun x => { x with row := n, phase := .storing })

/-- Abandon a command after a miss (R132): its rows at the Lens engine come back first. -/
def abandon (tile slot : Nat) (c : Cmd) (s : State) : State :=
  if c.phase = .storing then s
  else
    let c' := { c with abandoned := true, phase := .computing }
    let s := s.updCmd tile slot c.index fun _ => c'
    if c.lensOut = 0 then poisonRest tile slot c' s else s

end Sys2Proof.Machine
end

