-- ==== Sys2Proof/Machine/Pump.lean ====
section
/-! DEFINITION. How the work of a tile moves on: compute phases (R116, R119, R123), task switching (R129, R130), deadlines (R131 to
R133), and everything on a tile that can move. -/

namespace Sys2Proof.Machine

/-! ### Compute phases -/

/-- The command of a task that is in its compute phase, or next to start it; none behind a command that ends the task. -/
def Task.computing (k : Task) : Option Cmd :=
  k.cmds.find? fun c => c.phase = .computing || c.phase = .fetched || c.refuse

/-- The compute phase of a command starts: on the Lens engine, or the MXE (R119). -/
def startCompute (tile slot : Nat) (c : Cmd) (s : State) : Bool × State :=
  let k := s.task tile slot
  if !s.ringReady tile k.parcel c then (false, s)
  else if xformOf c.words = 2 && s.degraded k.partition then (true, lensRefused tile slot s)
  else
    let lens := xformOf c.words = 2 || (xformOf c.words = 3 && !s.degraded k.partition)
    (true, s.updCmd tile slot c.index fun y => { y with phase := .computing, useLens := lens })

/-- One move of a task's compute phases: start one, compute a row, or end one; false where nothing can move. A task that does not
hold the pipeline only lands what its engines still had in hand (R129). -/
def pumpStep (holds : Bool) (tile slot : Nat) (s : State) : Bool × State :=
  let k := s.task tile slot
  match k.computing with
  | none => (false, s)
  | some c =>
    if c.phase = .fetched then (if holds then startCompute tile slot c s else (false, s))
    else if c.phase ≠ .computing || !c.rest.isEmpty then (false, s)
    else
      match c.back.head? with
      | some b => landBack tile slot c b s
      | none =>
        if c.abandoned || c.refuse then (if c.lensOut = 0 then (true, poisonRest tile slot c s) else (false, s))
        else if c.row < c.bags.length then (if holds then computeRow tile slot c s else (false, s))
        else if c.lensOut = 0 then
          (true, noteRing tile k.parcel c (s.updCmd tile slot c.index fun y => { y with phase := .storing }))
        else (false, s)

/-- Move a task's compute phases on; the first argument bounds the moves. -/
def pumpTask : Nat → Nat → Nat → State → State
  | 0, _, _, s => s
  | n + 1, tile, slot, s =>
    let k := s.task tile slot
    if !k.state.live then s
    else
      let r := pumpStep (k.state = .running) tile slot s
      if r.1 then pumpTask n tile slot r.2 else r.2

/-- A group holds at most 4,096 bags, each of them sent and landed, and a task at most 32 commands read. -/
def pumpFuel : Nat := 8300

/-- Land waiting rows of a task. -/
def flushTask (tile : Nat) (s : State) (slot : Nat) : State :=
  (s.task tile slot).cmds.foldl (fun s c => if c.rest.isEmpty then s else flushRest tile slot c.index s) s

/-- Rows waiting for held words land, then the compute phases move on, then rows that their takes let through. -/
def runTile (tile : Nat) (s : State) : State :=
  let s := (List.range 4).foldl (flushTask tile) s
  let s := (List.range 4).foldl (fun s k => pumpTask pumpFuel tile k s) s
  (List.range 4).foldl (flushTask tile) s

/-! ### The pipeline -/

/-- Hand the pipeline from the running task to another: the first keeps `st`. -/
def switchTo (tile slot next : Nat) (st : TaskState) (s : State) : State :=
  let s := s.updTask tile slot fun k => { k with state := st, readySince := s.now }
  let s := s.updTask tile next fun k => { k with state := .running }
  s.updTile tile fun x => { x with running := next, switches := bump x.switches }

/-- A ready real-time task takes the pipeline at a command boundary of the running task (R130). -/
def takeOver (tile slot : Nat) (s : State) : State :=
  if (s.task tile slot).state ≠ .running then s
  else
    match s.nextReady tile with
    | some n => if s.isRt (s.task tile n).context then switchTo tile slot n .ready s else s
    | none => s

/-- Does a request bring rows to a task? -/
def ReqKind.rowsFor (k : ReqKind) (tile slot : Nat) : Bool :=
  match k with
  | .fetch land => land.any fun l => l.slot = slot
  | .row q => (q.whom :: q.also).any fun w => w.from tile slot
  | .index _ | .command | .metered | .sectors _ _ | .seen | .store _ _ | .add _ _ _ _ | .cached _ _ _ _ | .written _ | .load _ _ =>
    false

/-- Does a row on its way come to a task? -/
def RowReq.rowsFor (q : RowReq) (tile slot : Nat) : Bool := (q.whom :: q.also).any fun w => w.from tile slot

/-- Has a task fetches that have not landed, or an index stream not yet read? -/
def State.awaits (s : State) (tile slot : Nat) : Bool :=
  (s.task tile slot).streaming.isSome || ((s.tile tile).issue.any fun p => p.kind.rowsFor tile slot)
    || (s.allReqs.any fun r => r.tile = tile && r.kind.rowsFor tile slot) || s.allRows.any fun q => q.rowsFor tile slot

/-- Does a task wait on late data: a swap it needs is held back by fetches that have not landed (R129)? -/
def State.late (s : State) (tile slot : Nat) : Bool :=
  let k := s.task tile slot
  k.closed && k.computing.isNone && s.awaits tile slot

/-- Tasks of a tile that were switched out and whose awaited fetches have landed become ready. -/
def wakeTile (tile : Nat) (s : State) : State :=
  let ks := (s.tile tile).tasks.filter fun q => q.2.state = .lateData && !s.awaits tile q.1
  if ks.isEmpty then s
  else fillPipeline tile (ks.foldl (fun s q => s.updTask tile q.1 fun k => { k with state := .ready, readySince := s.now }) s)

/-- A ready real-time task takes the pipeline at a late-data wait of a running task of another context; a real-time task is not
switched out for late data (R129, R130). -/
def yieldLate (tile : Nat) (s : State) : State :=
  match (s.tile tile).tasks.find? fun p => p.2.state = .running with
  | none => s
  | some (slot, k) =>
    match s.nextReady tile with
    | none => s
    | some n =>
      if s.late tile slot && !s.isRt k.context && s.isRt (s.task tile n).context then runTile tile (switchTo tile slot n .lateData s)
      else s

/-! ### Deadlines -/

/-- Has the deadline of a command been reached (R131, R133)? On device time where the angle was not valid at issue or has
been invalid since. -/
def State.closeReached (s : State) (c : Cmd) : Bool :=
  let d := deadlineTicks c.words
  if c.issueValid && s.angleValid && s.round.syncDevtime ≤ c.issueTime then
    c.issueRev * 65536 + c.issueAngle + d ≤ s.round.rev * 65536 + s.round.angle
  else c.issueTime * 65536 + d * s.refPeriod ≤ s.now * 65536

/-- Has a command ended its compute phase with every store acknowledged (R121)? -/
def Cmd.complete (c : Cmd) : Bool := c.phase = .storing && c.stores = 0 && c.lensOut = 0 && c.rest.isEmpty

/-- Does the deadline of a command count, and has it not been reported? -/
def State.deadlineOpen (s : State) (k : Task) (c : Cmd) : Bool :=
  s.isRt k.context && opOf c.words = 1 && c.issued && deadlineTicks c.words ≠ 0 && !c.missed

/-- Report a deadline miss, once for the command (R132). -/
def noteMiss (tile slot : Nat) (c : Cmd) (s : State) : State :=
  let k := s.task tile slot
  raiseFor 0x4001 tile k.parcel
    ((s.updTile tile fun x => { x with misses := bump x.misses, stMiss := true }).updCmd tile slot c.index fun x =>
      { x with missed := true })

/-- The completion of a command is stamped as it comes about (R53, R131): at or beyond the close it is a miss. -/
def stampCmd (tile slot : Nat) (s : State) (c : Cmd) : State :=
  if !c.complete || c.late.isSome then s
  else
    let late := s.closeReached c
    let s := s.updCmd tile slot c.index fun x => { x with late := some late }
    if late && s.deadlineOpen (s.task tile slot) c then noteMiss tile slot c s else s

/-- Stamp what has completed in a task. -/
def stampTask (tile : Nat) (s : State) (slot : Nat) : State :=
  let k := s.task tile slot
  if k.state.live then k.cmds.foldl (stampCmd tile slot) s else s

/-! ### All of it -/

/-- One round of a tile: commands that have arrived are checked, fetches move on, tasks wake, compute phases run, and completions are
stamped. -/
def moveTile (tile : Nat) (s : State) : State :=
  let s := settleFetch tile ((List.range 4).foldl (checkCommands tile) s)
  let s := yieldLate tile (runTile tile (wakeTile tile s))
  (List.range 4).foldl (stampTask tile) s

/-- One round of some tiles, and the end of the parcels whose tasks a fault has ended in it. -/
def moveTiles (tiles : List Nat) (s : State) : State := reap (tiles.foldl (fun s t => moveTile t s) s)

/-- Everything on some tiles that can move does: takes may let an index stream go on, so that there are two rounds. -/
def pumpTiles (tiles : List Nat) (s : State) : State := if s.clocked then moveTiles tiles (moveTiles tiles s) else s

/-- Everything on a tile that can move does. -/
def pumpTile (tile : Nat) (s : State) : State := pumpTiles [tile] s

/-- The tiles with work move on after memory has answered. -/
def settleTiles (s : State) : State := pumpTiles (s.tiles.tiles.map Prod.fst) s

end Sys2Proof.Machine
end

