-- ==== Sys2Proof/Machine/Tile.lean ====
section
/-! DEFINITION. Stream commands of a task: NOP, FUSED, DRAIN and END (R115, R128), fetch phases, swaps (R123), completion and signals
(R121, R144), task switches and deadlines, the sync messages that tasks wait for, and the answers of memory to tiles. -/

namespace Sys2Proof.Machine

/-! ### Fetch phases and swaps -/

/-- FETCH_PHASE_START: the next FUSED command of a task begins its fetch phase. -/
def doFetchPhaseStart (tile slot : Nat) (s : State) : State := pumpTile tile (startFetch tile slot s)

/-- TASK_SWITCH: the running task has waited on late data for TILE_SWITCH_WAIT cycles and another is ready. -/
def doTaskSwitch (tile : Nat) (s : State) : State :=
  match (s.tile tile).tasks.find? fun p => p.2.state = .running with
  | none => s
  | some (slot, k) =>
    match s.nextReady tile with
    | none => s
    | some n =>
      if s.late tile slot && !s.isRt k.context && s.clocked then pumpTile tile (switchTo tile slot n .lateData s) else s

/-- May the halves of a task swap: the group's last command has ended its fetch phase, every fetch of the group has landed, and
every compute phase of the group before has ended (R123)? -/
def State.maySwap (s : State) (tile slot : Nat) : Bool :=
  let k := s.task tile slot
  k.state.live && k.closed && k.computing.isNone && !s.awaits tile slot && s.clocked

/-- BUFFER_SWAP: the halves swap, whether or not the task holds the pipeline; the compute phases then run, as far as they can. -/
def doBufferSwap (tile slot : Nat) (s : State) : State :=
  pumpTile tile
    (if s.maySwap tile slot then
      s.updTask tile slot fun k => { k with
        useHalf := k.fillHalf, fillHalf := 1 - k.fillHalf, group := k.group + 1, groupOff := 0, closed := false, opened := false
        cmds := k.cmds.map fun c => if c.phase = .fetching then { c with phase := .fetched } else c }
    else s)

/-! ### Completion -/

/-- A deadline's close is reached with the command not complete (R132). -/
def closeCmd (tile slot : Nat) (s : State) (c : Cmd) : State :=
  if s.deadlineOpen (s.task tile slot) c && s.closeReached c && !c.complete then
    let s := noteMiss tile slot c s
    if missAbandon c.words then abandon tile slot { c with missed := true } s else s
  else s

/-- DEADLINE_CLOSE: every command of the task whose close is reached and that is not complete misses. -/
def doDeadlineClose (tile slot : Nat) (s : State) : State :=
  let k := s.task tile slot
  if !k.state.live || !s.clocked then s else pumpTile tile (k.cmds.foldl (closeCmd tile slot) s)

/-- A task has passed its END: its slot is free, and a parcel whose tasks have all passed theirs completes (R115, R338). -/
def passEnd (tile slot : Nat) (s : State) : State :=
  let id := (s.task tile slot).parcel
  let s := (freeTask tile slot s).updParcel id fun p => { p with ended := p.ended + 1 }
  match s.parcel id with
  | some p => if p.tasks.length ≤ p.ended then endParcel id 0 0 0 s else s
  | none => s

/-- May the oldest command of a task complete now? A NOP or an END does nothing but wait and signal, and the throttle holds it back
as it holds any new command (R137). -/
def State.mayComplete (s : State) (tile : Nat) (c : Cmd) : Bool :=
  if opOf c.words = 1 || opOf c.words = 2 then c.complete
  else c.phase = .waiting && s.waitMet tile c.words && !s.lehr.gateIssue

/-- The oldest command of a task has completed; it signals in command order (R121, R144), and a task that has passed its END
leaves. -/
def completeCmd (tile slot : Nat) (c : Cmd) (s : State) : State :=
  let s := s.updTask tile slot fun k => { k with cmds := k.cmds.drop 1 }
  let s := s.updTile tile fun x => { x with cmdDone := bump x.cmdDone }
  let s := if signalCtr c.words = 63 then s else addCounter tile (signalCtr c.words) (signalInc c.words) s
  if opOf c.words = 3 then passEnd tile slot s else takeOver tile slot s

/-- COMMAND_COMPLETE. -/
def doCommandComplete (tile slot : Nat) (s : State) : State :=
  let k := s.task tile slot
  match k.cmds with
  | [] => s
  | c :: _ =>
    if !k.state.live || !s.clocked || !s.mayComplete tile c then s
    else if c.refuse then pumpTile tile (lensRefused tile slot s)
    else pumpTile tile (completeCmd tile slot c s)

/-! ### The limit of a parcel (R338, R345) -/

/-- Are all tasks left of a parcel at an END that can complete now? -/
def State.allEnd (s : State) (p : Parcel) : Bool :=
  p.tasks.all fun t =>
    let k := s.task t.1 t.2
    k.parcel ≠ p.id || k.state = .free || (k.state.live && match k.cmds with
      | c :: _ => opOf c.words = 3 && s.mayComplete t.1 c
      | [] => false)

/-- PARCEL_LIMIT: the PART_PH_LIMIT_REV-th 0.0 after release has been reached. Where only ENDs that can complete now are left, they
complete in this cycle and win (R345; DEDUCED, assumption log, entry 113). -/
def doParcelLimit (id : Nat) (s : State) : State :=
  match s.parcel id with
  | none => s
  | some p =>
    if (p.state = .running || p.state = .loading) && p.limitRev ≠ 0 && p.limitRev ≤ p.revs then
      if p.state = .running && s.allEnd p && s.clocked then
        p.tasks.foldl (fun s t => if (s.task t.1 t.2).parcel = id then doCommandComplete t.1 t.2 s else s) s
      else endParcel id 3 0xA003 0 (raiseFor 0xA003 0xFFFF id s)
    else s

/-! ### DRAIN (R128, R156, R157) -/

/-- Tasks of a parcel that wait in generation `gen` of a scope, in one cluster. -/
def State.arrivedIn (s : State) (pid cluster scope gen : Nat) : Nat :=
  (s.liveTasks.filter fun t => t.2.2.parcel = pid && clusterOfTile t.1 = cluster
    && t.2.2.cmds.any fun c => c.phase = .barrier && drainScope c.words = scope && c.gen = gen).length

/-- Number of a task's DRAINs of a scope that have arrived. -/
def Task.drains (k : Task) (scope : Nat) : Nat :=
  if scope = 1 then k.drains1 else if scope = 2 then k.drains2 else k.drains3

/-- One more DRAIN of a scope has arrived. -/
def Task.addDrain (k : Task) (scope : Nat) : Task :=
  if scope = 1 then { k with drains1 := k.drains1 + 1 }
  else if scope = 2 then { k with drains2 := k.drains2 + 1 }
  else { k with drains3 := k.drains3 + 1 }

/-- The first arrival of a record's present generation, at a CSU already (R157, R159). -/
def markFirst (level cluster index gen : Nat) (s : State) : State :=
  let b := s.bar level cluster index
  if b.active && b.gen = gen && b.firstArrival.isNone then
    s.setBar level cluster index { b with firstArrival := some s.now }
  else s

/-- A task arrives at the barrier of a scope; its CSU sends the cluster's arrivals of a partition or domain barrier on when
all its tasks of the parcel are there. -/
def joinBarrier (tile slot scope : Nat) (i : Nat) (s : State) : State :=
  let k := s.task tile slot
  let c := clusterOfTile tile
  let gen := k.drains scope % 65536
  let s := (s.updTask tile slot fun k => k.addDrain scope).updCmd tile slot i fun x =>
    { x with phase := .barrier, gen := gen }
  match s.recordOf (scope - 1) c k.parcel with
  | none => s
  | some r =>
    if scope = 1 then arriveAt 0 c r gen 1 s
    else
      let need := match s.parcel k.parcel with
        | some p => (p.tasks.filter fun t => clusterOfTile t.1 = c).length
        | none => 0
      let n := s.arrivedIn k.parcel c scope gen
      let s := markFirst (scope - 1) c r gen s
      if n < need then s
      else
        let m := arriveMsg s.deviceId c (scope - 1) r gen k.context n
        { s with sync := { s.sync with flight := s.sync.flight ++ [m] } }

/-- The DRAIN at the front of a task runs: flush, then its barrier; scope 0 has none. -/
def runDrain (tile slot : Nat) (s : State) : State :=
  let k := s.task tile slot
  match k.cmds with
  | [] => s
  | c :: _ =>
    if opOf c.words ≠ 2 || c.phase ≠ .waiting || !k.state.live || s.lehr.gateIssue || !s.clocked
        || !s.waitMet tile c.words then s
    else
      let s := if drainFlush c.words then
          let r := flushContext (clusterOfTile tile) k.context s
          r.2.taskFlags tile slot r.1
        else s
      if drainScope c.words = 0 then s.updCmd tile slot c.index fun x => { x with phase := .storing }
      else joinBarrier tile slot (drainScope c.words) c.index s

/-- Does a command of a task stand in its list that is an `op`, checked and not yet run? -/
def Task.holdsOp (k : Task) (op : Nat) : Bool := k.cmds.any fun c => opOf c.words = op && c.phase = .waiting

/-- DRAIN: read if the task holds none, and run once every earlier command has completed. -/
def doDrain (tile slot : Nat) (s : State) : State :=
  pumpTile tile (runDrain tile slot (if (s.task tile slot).holdsOp 2 then s else readNext 2 tile slot s))

/-- NOP: read; it completes in its turn, once its wait is met. -/
def doNop (tile slot : Nat) (s : State) : State := pumpTile tile (readNext 0 tile slot s)

/-- FUSED: read; its phases follow. -/
def doFused (tile slot : Nat) (s : State) : State := pumpTile tile (readNext 1 tile slot s)

/-- END: read, and passed once every earlier command has completed and its own signal is made. -/
def doEnd (tile slot : Nat) (s : State) : State :=
  let s := pumpTile tile (readNext 3 tile slot s)
  match (s.task tile slot).cmds with
  | c :: _ => if opOf c.words = 3 then doCommandComplete tile slot s else s
  | [] => s

/-! ### Messages that tasks wait for -/

/-- SIGNAL. -/
def doSignal (m : SyncMsg) (s : State) : State :=
  if m.kind = 1 && s.takesSync then takeSignal m (landed m s) else s

/-- FILL: the word is filled or the fill queued, and what waited for it moves on. -/
def doFill (m : SyncMsg) (s : State) : State :=
  if m.kind = 2 && s.takesSync then pumpTile (m.cluster * 64 + m.tile) (takeFill m (landed m s)) else s

/-- Is a command a DRAIN that a release concerns? -/
def Cmd.awaits (c : Cmd) (m : SyncMsg) : Bool :=
  c.phase = .barrier && drainScope c.words = m.level + 1 && c.gen = m.gen

/-- Free the tasks that wait for a release; an abort ends them (R157, R159). -/
def releaseTasks (m : SyncMsg) (s : State) : State :=
  s.liveTasks.foldl (fun s t =>
    let c := clusterOfTile t.1
    if (m.level = 2 || c = m.cluster) && s.recordOf m.level c t.2.2.parcel = some m.index && t.2.2.cmds.any (·.awaits m) then
      if m.abort then endTask t.1 t.2.1 0 s
      else s.updTask t.1 t.2.1 fun k =>
        { k with cmds := k.cmds.map fun x => if x.awaits m then { x with phase := .storing } else x }
    else s) s

/-- RELEASE: waiting DRAINs complete; a part below the master passes a domain release on to its children, and the master ends a domain
barrier that a part below has aborted. -/
def doRelease (m : SyncMsg) (s : State) : State :=
  if m.kind ≠ 4 || !s.takesSync then s
  else
    let s := landed m s
    if !s.isReady then (if m.level = 0 then staleDrop m.cluster s else s)
    else if 2 < m.level then s
    else if m.level = 2 && s.isMaster && m.abort then releaseTasks m (abortHome m s)
    else
      let s := releaseTasks m s
      if m.level = 2 && !s.isMaster then
        let key := m.index * 65536 + m.gen
        releaseBelow m.index m.gen m.context m.abort
          { s with sync := { s.sync with
            domGen := tset s.sync.domGen m.index ((m.gen + 1) % 65536)
            domOwn := tdel s.sync.domOwn key } }
      else s

/-! ### Answers of memory -/

/-- A command of the memory system, and what its answers let the tiles do. -/
def withTiles (f : State → State) (s : State) : State := settleTiles (f s)

/-! ### Commands -/

/-- FETCH_PHASE_START. -/
def execFetchPhaseStart (t tile slot : Nat) (s : State) : Host.Outcome State Fault Refusal :=
  .next (doFetchPhaseStart tile slot (s.advance t))

/-- NOP. -/
def execNop (t tile slot : Nat) (s : State) : Host.Outcome State Fault Refusal := .next (doNop tile slot (s.advance t))

/-- FUSED. -/
def execFused (t tile slot : Nat) (s : State) : Host.Outcome State Fault Refusal := .next (doFused tile slot (s.advance t))

/-- DRAIN. -/
def execDrain (t tile slot : Nat) (s : State) : Host.Outcome State Fault Refusal := .next (doDrain tile slot (s.advance t))

/-- END. -/
def execEndTask (t tile slot : Nat) (s : State) : Host.Outcome State Fault Refusal := .next (doEnd tile slot (s.advance t))

/-- BUFFER_SWAP. -/
def execBufferSwap (t tile slot : Nat) (s : State) : Host.Outcome State Fault Refusal :=
  .next (doBufferSwap tile slot (s.advance t))

/-- COMMAND_COMPLETE. -/
def execCommandComplete (t tile slot : Nat) (s : State) : Host.Outcome State Fault Refusal :=
  .next (doCommandComplete tile slot (s.advance t))

/-- PARCEL_LIMIT. -/
def execParcelLimit (t parcel : Nat) (s : State) : Host.Outcome State Fault Refusal :=
  .next (doParcelLimit parcel (s.advance t))

/-- TASK_SWITCH. -/
def execTaskSwitch (t tile : Nat) (s : State) : Host.Outcome State Fault Refusal :=
  .next (doTaskSwitch tile (s.advance t))

/-- DEADLINE_CLOSE. -/
def execDeadlineClose (t tile slot : Nat) (s : State) : Host.Outcome State Fault Refusal :=
  .next (doDeadlineClose tile slot (s.advance t))

/-- SIGNAL. -/
def execSignal (t : Nat) (m : SyncMsg) (s : State) : Host.Outcome State Fault Refusal := .next (doSignal m (s.advance t))

/-- FILL. -/
def execFill (t : Nat) (m : SyncMsg) (s : State) : Host.Outcome State Fault Refusal := .next (doFill m (s.advance t))

/-- RELEASE. -/
def execRelease (t : Nat) (m : SyncMsg) (s : State) : Host.Outcome State Fault Refusal := .next (doRelease m (s.advance t))

/-- MEMORY_REQUEST_ACCEPT. -/
def execMemoryRequestAccept (t channel : Nat) (s : State) : Host.Outcome State Fault Refusal :=
  .next (withTiles (doMemoryRequestAccept channel) (s.advance t))

/-- MEMORY_READ_DONE. -/
def execMemoryReadDone (t channel slot : Nat) (ecc : List Ecc) (s : State) : Host.Outcome State Fault Refusal :=
  .next (withTiles (doMemoryReadDone channel slot ecc) (s.advance t))

/-- RETIREMENT_COPY_DONE. -/
def execRetirementCopyDone (t channel : Nat) (ecc : List EccAt) (s : State) : Host.Outcome State Fault Refusal :=
  .next (withTiles (doRetirementCopyDone channel ecc) (s.advance t))

/-- WCB_IDLE_EVICTION. -/
def execWcbIdleEviction (t channel : Nat) (s : State) : Host.Outcome State Fault Refusal :=
  .next (withTiles (doWcbIdleEviction channel) (s.advance t))

/-- REGULATOR_ADMIT. -/
def execRegulatorAdmit (t partition : Nat) (s : State) : Host.Outcome State Fault Refusal :=
  .next (withTiles (doRegulatorAdmit partition) (s.advance t))

end Sys2Proof.Machine
end

