-- ==== Sys2Proof/Machine/Marver.lean ====
section
/-! DEFINITION. The marver (R175 to R177) and the cluster ring (R179, R180). -/

namespace Sys2Proof.Machine

/-- A byte at a context address as the units of a cluster read it: atomic lines of its cluster cache included, since a store through
them is acknowledged within the cluster (R145, R251). -/
def State.clusterCtxByte (s : State) (cluster ctx a : Nat) : Byte × Bool :=
  match s.devOf ctx (a % 2 ^ 48) with
  | some d => s.clusterByte cluster ctx d
  | none => (Config.freeByte a, true)

/-- A row of `n` 32-bit elements at a context address, as the marver of a cluster reads it: the elements, and whether a
sector of it is poisoned. -/
def State.partialRow (s : State) (cluster ctx a n : Nat) (fp : Bool) : List Num × Bool :=
  let bs := (List.range (4 * n)).map fun i => s.clusterCtxByte cluster ctx (a + i)
  (decodeRow (if fp then 0 else 6) (bs.map Prod.fst) n, bs.any Prod.snd)

/-- Row `r` of partial `j`. -/
def Combine.rowAddr (e : Combine) (j r : Nat) : Nat := e.src + j * e.stride + r * (64 * e.width16)

/-- An element times the scale (R176). One whose exact value is zero is +0, unless every partial of it was -0 (R200). -/
def scaleElem (scale : FVal) (x : Num) : Num × Nat :=
  let v := x.exact
  let q := fmul v scale
  (.f (if (v.isZero && !v.isNeg) || scale.isZero then q.1.plusZero else q.1), q.2)

/-- Add the partials of one row in ascending member order, then scale (R176, R198): the row, its flags, its poison. -/
def combineRow (cluster : Nat) (e : Combine) (r : Nat) (s : State) : List Num × Nat × Bool :=
  let n := 16 * e.width16
  let rows := (List.range e.members).map fun j => s.partialRow cluster e.context (e.rowAddr j r) n e.fp
  let nan := rows.foldl (fun w x => w ||| nanSeen x.1) 0
  let sum := (rows.drop 1).foldl (fun acc x =>
      let z := rowAdd acc.1 x.1
      (z.1, acc.2 ||| z.2))
    ((rows.headD ([], false)).1, nan)
  let out := if e.fp then
      let m := collect (sum.1.map (scaleElem (fp32.decode e.scale)))
      (m.1, sum.2 ||| m.2)
    else sum
  (out.1, out.2, rows.any Prod.snd)

/-- Combine rows from `r` on, `k` of them, in ascending order, for the marver slot `key`; the flags of all. The reads travel on the
burst path (R246); every partial of a row is read before the row is written. -/
def combineRows (cluster key : Nat) (e : Combine) : Nat → Nat → State → Nat × State
  | 0, _, s => (0, s)
  | k + 1, r, s =>
    let x := combineRow cluster e r s
    let w := 64 * e.width16
    let p := s.partitionOf cluster
    let s := (List.range e.members).foldl (fun s j => seeCtx cluster p e.context (e.rowAddr j r) w s) s
    let s := s.updCluster cluster fun c => { c with
      rowsCombined := bump c.rowsCombined
      poisonRows := if x.2.2 then bump c.poisonRows else c.poisonRows
      stMvPoison := c.stMvPoison || x.2.2 }
    let s := ctxWrite cluster p e.context (e.dst + r * w) (some key) (encodeRow (if e.fp then 0 else 6) x.1).1 x.2.2 s
    let y := combineRows cluster key e k (r + 1) s
    ((if x.2.2 then 0 else x.2.1) ||| y.1, y.2)

/-- MARVER_COMBINE: the first due combine of a cluster runs, unless one is still running there (R177). -/
def doMarverCombine (cluster : Nat) (s : State) : State :=
  if !s.clocked || s.sync.combining.any (fun k => k / 8 = cluster) then s
  else
    match s.sync.due.find? fun x => x.2 / 8 = cluster with
    | none => s
    | some d =>
      let s := { s with sync := { s.sync with due := s.sync.due.erase d } }
      match tfind s.sync.combines d.2 with
      | none => s
      | some e =>
        let r := combineRows cluster d.2 e e.rows 0 { s with sync := { s.sync with combining := s.sync.combining ++ [d.2] } }
        if r.1 = 0 then r.2 else reportFlags cluster e.parcel r.1 r.2

/-- DONE_ACTION: every write of a combine is acknowledged; done is signalled by 1 or arrived at once, with the record's
current generation. -/
def doDoneAction (cluster slot : Nat) (s : State) : State :=
  let key := cluster * 8 + slot
  let left := ((tfind s.sync.combines key).map Combine.writes).getD 0
  if !s.clocked || 8 ≤ slot || !s.sync.combining.contains key || left ≠ 0 then s
  else
    let s := { s with sync := { s.sync with combining := s.sync.combining.erase key } }
    match tfind s.sync.combines key with
    | none => s
    | some e =>
      let m := e.doneMsg
      sendSync cluster (if m.kind = 3 then { m with gen := s.barGen m.level m.cluster m.index } else m)
        (s.updCluster cluster fun c => { c with combinesDone := bump c.combinesDone })

/-- The rotation a ring runs next: multiples of TILE_RG_STEPS + 1 are no rotations. -/
def Ring.next (r : Ring) : Nat := if (r.landed + 1) % (r.steps + 1) = 0 then r.landed + 2 else r.landed + 1

/-- The slices of a ring's members for rotation `j`: bytes and tags of their lines. -/
def State.slices (s : State) (tile j : Nat) (r : Ring) : List (List Byte × List Bool) :=
  (List.range r.size).map fun i =>
    let a := r.area + (j - 1) % 2 * r.sliceBytes
    (s.sramBytes (tile + i) a r.sliceBytes, (List.range (r.sliceBytes / 64)).map fun n => s.linePoison (tile + i) (a + 64 * n))

/-- One slice lands in a member's area, poison tags included; held words keep their full and empty bits (R173). -/
def landSlice (tile a : Nat) (x : List Byte × List Bool) (s : State) : State :=
  (List.range x.2.length).foldl (fun s n => s.tagLine tile (a + 64 * n) (x.2.getD n false)) (s.sramWrite tile a x.1)

/-- ROTATION: every member has ended its ring command's compute phase; each slice moves to the next member. -/
def doRotation (cluster slot : Nat) (s : State) : State :=
  if !s.clocked || 8 ≤ slot then s
  else
    match tfind s.sync.rings (cluster * 8 + slot) with
    | none => s
    | some r =>
      let j := r.next
      if !r.ended.all fun n => j ≤ n then s
      else
        let tile := cluster * 64 + r.first
        let xs := s.slices tile j r
        let a := r.area + j % 2 * r.sliceBytes
        let s := (List.range r.size).foldl (fun s i =>
          landSlice (tile + (i + 1) % r.size) a (xs.getD i ([], [])) s) s
        let s := { s with sync := { s.sync with rings := tset s.sync.rings (cluster * 8 + slot) { r with landed := j } } }
        let s := s.updCluster cluster fun c => { c with rotations := bump c.rotations }
        pumpTiles ((List.range r.size).map fun i => tile + i) s

/-- MARVER_COMBINE. -/
def execMarverCombine (t cluster : Nat) (s : State) : Host.Outcome State Fault Refusal :=
  .next (doMarverCombine cluster (s.advance t))

/-- DONE_ACTION. -/
def execDoneAction (t cluster slot : Nat) (s : State) : Host.Outcome State Fault Refusal :=
  .next (doDoneAction cluster slot (s.advance t))

/-- ROTATION. -/
def execRotation (t cluster slot : Nat) (s : State) : Host.Outcome State Fault Refusal :=
  .next (doRotation cluster slot (s.advance t))

end Sys2Proof.Machine
end

