-- ==== Sys2Proof/Machine/Feature.lean ====
section
/-! DEFINITION. The feature store: serving rows (R218 to R222), letters (R225 to R227), skew, migration and replicas (R228
to R233), samples (R234). -/

namespace Sys2Proof.Machine

/-! ### Bytes of a shard -/

/-- `n` bytes at a channel offset, with their poison; poisoned where the channel is not in service (R257). -/
def State.chanRead (s : State) (c off n : Nat) : List (Byte × Bool) :=
  (List.range n).map fun i => if s.inService c then s.chanByte c (off + i) else (Config.freeByte (off + i), true)

/-- Write bytes with their poison at a channel offset, sector by sector, each with a request of service traffic (R247); the first
argument bounds the sectors. -/
def chanWriteSectors (c : Nat) : Nat → Nat → List (Byte × Bool) → State → State
  | 0, _, _, s => s
  | n + 1, off, bs, s =>
    if bs.isEmpty || !s.inService c then s
    else
      let k := 32 - off % 32
      let part := bs.take k
      chanWriteSectors c n (off + k) (bs.drop k)
        (noteWrite 32 (devAt c off) part.length none (wcbWrite c off (part.map Prod.fst) (part.any Prod.snd) s))

/-- The requests of service traffic for bytes read at a channel offset (R247). -/
def seeChan (c off n : Nat) (s : State) : State :=
  (pieces 256 (n / 256 + 2) off 0 n).foldl (fun s p => pushReq (seenReq 32 (devAt c p.1) p.2.2) s) s

/-- Write a slot of a cell. -/
def writeSlot (n cell ver : Nat) (bs : List (Byte × Bool)) (s : State) : State :=
  chanWriteSectors (shardChan n) (bs.length / 32 + 2) (s.slotOff n cell ver) bs s

/-- Part shard and entry of the home of a row of a table. -/
def State.homeKey (s : State) (t : FsTable) (row : Nat) : Nat × Nat :=
  let h := t.home row
  (s.firstShard t.id + h.2.1, h.2.2)

/-- FS_SETTLE_US in ns. -/
def State.settleNs (s : State) : Nat := s.im.fs.settleUs * 1000

/-! ### Hot rows (R229) -/

/-- Raise an estimate in a list of at most `cap` places: present, free, or the lowest replaced. -/
def raiseEst (cap x : Nat) (l : List (Nat × Nat)) : List (Nat × Nat) :=
  if l.any fun p => p.1 = x then l.map fun p => if p.1 = x then (p.1, p.2 + 1) else p
  else if l.length < cap then l ++ [(x, 1)]
  else
    let low := l.foldl (fun m p => min m p.2) (l.headD (0, 0)).2
    match l.findIdx? fun p => p.2 = low with
    | some i => l.set i (x, low + 1)
    | none => l

/-- A hot-row entry after one more delivery to this part or another. -/
def HotRow.count (h : HotRow) (whom : RowFor) : HotRow :=
  match whom with
  | .tile _ => { h with localEst := h.localEst + 1 }
  | .device d _ _ _ _ => { h with reqs := raiseEst 4 d h.reqs }

/-- The hot-row table after a delivery of `row`. -/
def hotCount (row : Nat) (whom : RowFor) (l : List HotRow) : List HotRow :=
  if l.any fun h => h.row = row then
    l.map fun h => if h.row = row then ({ h with est := h.est + 1 } : HotRow).count whom else h
  else if l.length < 16 then l ++ [(HotRow.mk row 1 0 []).count whom]
  else
    let low := l.foldl (fun m h => min m h.est) ((l.head?.map HotRow.est).getD 0)
    match l.findIdx? fun h => h.est = low with
    | some i => l.set i ((HotRow.mk row (low + 1) 0 []).count whom)
    | none => l

/-! ### Serving a row -/

/-- Is a requester on another part? -/
def RowFor.remote (w : RowFor) : Bool :=
  match w with
  | .tile _ => false
  | .device _ _ _ _ _ => true

/-- Return a row to its requester. -/
def returnRow (r : RowResp) (s : State) : State :=
  match r.req.whom with
  | .tile _ => pushResp r s
  | .device d c p tag hold =>
    sendRow
      { kind := 3, sub := r.cause, table := r.req.table, row := r.req.row, context := r.req.context, cluster := c, pos := p
        tag := tag, dst := d, vc := 0, hold := hold } r.bytes s

/-- Passes of R220 that fail: an entry changed meanwhile, or a read took FS_SETTLE_US or longer. -/
def State.failedPasses (s : State) (ats : List RowAttempt) : Nat :=
  ((ats.take 4).takeWhile fun a => a.changed || s.settleNs ≤ a.nanos).length

/-- The requests for the sectors of a row, 64 bytes of a line at most each, for response `id` (R246): of its partition, or of service
traffic where they serve another part (R247). -/
def askSectors (c off n id queue : Nat) (s : State) : State :=
  (pieces 64 (n / 64 + 2) off 0 n).foldl (fun s p =>
      enqueueReq { seenReq queue (devAt c p.1) p.2.2 with kind := .sectors id p.2.1 } s) s

/-- The queue of the requests that serve a row (R247). -/
def State.rowQueue (s : State) (w : RowFor) : Nat :=
  match w with
  | .tile p => (s.task p.tile p.slot).partition
  | .device _ _ _ _ _ => 32

/-- Deliver a row from part shard `n`: counted once, offered to the hot-row table (R228, R229). -/
def deliverRow (n : Nat) (r : RowResp) (s : State) : State :=
  let far := r.req.whom.remote
  let s := { s with fs := { s.fs with
    served := satAdd 64 s.fs.served 1
    remote := if far then satAdd 64 s.fs.remote 1 else s.fs.remote } }
  pushResp r (s.updShard n fun x => { x with live := bump x.live, hot := hotCount r.req.row r.req.whom x.hot })

/-- Re-reads and torn deliveries are counted; true where the row is delivered poisoned after three re-reads (R220). -/
def noteRereads (q : RowReq) (ats : List RowAttempt) (s : State) : Bool × State :=
  let fails := s.failedPasses ats
  let s := { s with fs := { s.fs with rereads := satAdd 32 s.fs.rereads (min fails 3) } }
  if fails = 4 then (true, noteTorn q { s with fs := { s.fs with torn := bump s.fs.torn } })
  else (false, s)

/-- The bytes of a replica; poisoned where the channel of one in the device area is not in service (R257). -/
def State.replicaBytes (s : State) (r : Replica) : List (Byte × Bool) :=
  if r.cc || s.inService r.chan then r.bytes else r.bytes.map fun b => (b.1, true)

/-- A row is served from a replica held here, read under R220 with its directory entry; its hits and FS_REPLICA_HITS rise. -/
def serveReplica (q : RowReq) (r : Replica) (ats : List RowAttempt) (s : State) : State :=
  let x := noteRereads q ats s
  let s := { x.2 with fs := { x.2.fs with
    repHits := satAdd 64 x.2.fs.repHits 1
    replicas := x.2.fs.replicas.map fun y =>
      if y.table = r.table && y.row = r.row && y.cc = r.cc then { y with hits := y.hits + 1 } else y } }
  if x.1 then pushResp (poisonResp q 2) s else pushResp { req := q, bytes := copyBytes (s.replicaBytes r) q.bytes } s

/-- A row request at its home: the entry is checked, the live slot read, the entry checked again, up to three re-reads. An
entry on a channel held out of service reads poisoned, and so does its row (R257). -/
def serveRow (q : RowReq) (ats : List RowAttempt) (s : State) : State :=
  match s.im.table q.table with
  | none => pushResp (poisonResp q 1) (noteUnresolved q s)
  | some t =>
    let h := s.homeKey t q.row
    let m := s.rowMap h.1 h.2
    if !s.inService (shardChan h.1) then deliverRow h.1 (poisonResp q 0) s
    else if !m.valid then pushResp (poisonResp q 1) (noteUnresolved q s)
    else
      let n := s.firstShard t.id + m.shard
      let x := noteRereads q ats s
      let s := x.2
      if x.1 then deliverRow n (poisonResp q 2) s
      else
        let off := s.slotOff n m.cell (flag m.ver)
        let id := s.fs.nextRow + 1
        let r : RowResp :=
          { req := q, bytes := s.chanRead (shardChan n) off q.bytes, id := id
            pending := (pieces 64 (q.bytes / 64 + 2) off 0 q.bytes).length }
        askSectors (shardChan n) off q.bytes id (s.rowQueue q.whom)
          (deliverRow n r { s with fs := { s.fs with nextRow := id } })

/-- A row of another part is asked for there, the row's length in the flit's first sector (R218). -/
def askHome (q : RowReq) (home : Nat) (s : State) : State :=
  let g := s.freshTag
  let at_ := q.whom.place
  sendRow
    { kind := 2, sub := 0, table := q.table, row := q.row, context := q.context, cluster := at_.1, pos := at_.2, tag := g.1
      dst := home, vc := 2 } (cleanBytes (leBytes q.bytes 32))
    { g.2 with fs := { g.2.fs with remoteReqs := g.2.fs.remoteReqs ++ [{ q with tag := g.1, since := s.now }] } }

/-- A row for a tile is served from the first place that holds it: a replica in its cluster's cache, a device replica, its home here
or its home's part (R218). -/
def serveTile (q : RowReq) (ats : List RowAttempt) (s : State) : State :=
  let held := fun (cc : Bool) => s.fs.replicas.find? fun r => r.table = q.table && r.row = q.row && r.cc == cc
  match (held true).orElse fun _ => held false with
  | some r => serveReplica q r ats s
  | none =>
    let home := ((s.im.table q.table).map fun t => (t.home q.row).1).getD s.deviceId
    if home = s.deviceId then serveRow q ats s
    else if !s.admitted home then pushResp (poisonResp q 0) (noteUnreachable q s)
    else askHome q home s

/-- ROW_REQUEST: the row request at place `i` of the FSU is served. -/
def doRowRequest (i : Nat) (ats : List RowAttempt) (s : State) : State :=
  match s.fs.reqs[i]? with
  | none => s
  | some q =>
    if !s.clocked then s
    else
      let s := { s with fs := { s.fs with reqs := dropAt s.fs.reqs i } }
      if q.whom.remote then serveRow q ats s else serveTile q ats s

/-! ### A row lands (R218, R222) -/

/-- Saturating INT32 product, or one rounded FP32 product; a product of zero is +0 (R200, assumption log, entry 112). -/
def numMul (a b : Num) : Num × Nat :=
  match a, b with
  | .i x, .i y => let r := toIntSat int32Min int32Max (.ofInt (x * y)); (.i r.1, r.2)
  | _, _ =>
    let x := a.toFp32.1
    let y := b.toFp32.1
    let r := fmul x y
    (.f (if x.isZero || y.isZero then r.1.plusZero else r.1), r.2)

/-- The bit pattern of an element in FP32 or INT32. -/
def poolBits (x : Num) : Nat :=
  match x with
  | .f v => fp32.encode v
  | .i n => ofSigned 32 n

/-- Is the task that a row is for still at work? -/
def State.lives (s : State) (p : RowPlace) : Bool := (s.task p.tile p.slot).state.live

/-- Land a plain row. -/
def landRow (p : RowPlace) (bs : List (Byte × Bool)) (s : State) : State :=
  if !s.lives p then s
  else
    landBytes p.tile p.place bs
      (s.updTask p.tile p.slot fun k => { k with composed := k.composed.filter fun x => x.1 ≠ p.place })

/-- The elements of a composed row from its two components, in FP32 or INT32, and the flags they set (R222). -/
def composeRows (product : Bool) (fmt : Nat) (a b : List Byte) : List Num × Nat :=
  let n := a.length / fmtBytes fmt
  let x := decodeRow fmt a n
  let y := decodeRow fmt b n
  let z := collect ((x.zip y).map fun p => (if product then numMul else numAdd) (poolElem p.1) (poolElem p.2))
  (z.1, nanSeen x ||| nanSeen y ||| z.2)

/-- Land a composed row from its two components. -/
def landComposed (p : RowPlace) (a b : List (Byte × Bool)) (s : State) : State :=
  if !s.lives p then s
  else
    let poison := a.any Prod.snd || b.any Prod.snd
    let product := match s.im.table p.comp with | some t => t.product | none => false
    let z := composeRows product p.fmt (a.map Prod.fst) (b.map Prod.fst)
    let out := encodeRow p.fmt z.1
    let w := z.2 ||| (if p.pooled then 0 else out.2)
    let s := if poison then s else s.taskFlags p.tile p.slot w
    let s := s.updTask p.tile p.slot fun k => { k with composed := tset k.composed p.place (z.1.map poolBits) }
    landBytes p.tile p.place (out.1.map fun v => (v, poison)) s

/-- Are two places the two components of one row? -/
def RowPlace.pairs (p q : RowPlace) : Bool := p = { q with part := p.part } && p.part ≠ q.part

/-- A row lands at one of the places it is for; a component waits for the other (R222). -/
def landAt (r : RowResp) (s : State) (w : RowFor) : State :=
  match w with
  | .device _ _ _ _ _ => s
  | .tile p =>
    if p.part = 2 then landRow p r.bytes s
    else
      let other := fun (x : RowResp) => match x.req.whom with | .tile q => p.pairs q | .device _ _ _ _ _ => false
      match s.fs.halves.find? other with
      | none => { s with fs := { s.fs with halves := s.fs.halves ++ [{ r with req := { r.req with whom := w, also := [] } }] } }
      | some x =>
        let s := { s with fs := { s.fs with halves := s.fs.halves.erase x } }
        if p.part = 0 then landComposed p r.bytes x.bytes s else landComposed p x.bytes r.bytes s

/-- ROW_RESPONSE: a row whose sectors have all arrived goes back to another part, or lands at every place it is for, and the tiles
move on. -/
def doRowResponse (i : Nat) (s : State) : State :=
  match s.fs.resps[i]? with
  | none => s
  | some r =>
    if !s.clocked || r.pending ≠ 0 then s
    else
      let s := { s with fs := { s.fs with resps := dropAt s.fs.resps i } }
      if r.req.whom.remote then returnRow r s
      else settleTiles ((r.req.whom :: r.req.also).foldl (landAt r) s)

/-! ### Replicas -/

/-- Bytes a replica of a table's row takes. -/
def State.replicaSize (s : State) (id : Nat) : Nat := ((s.im.table id).map FsTable.slotBytes).getD 0

/-- Room of the device replica area, and of the replica area of one cluster cache. -/
def State.replicaRoom (s : State) (cc : Bool) : Nat :=
  if cc then s.im.fs.ccReplicaKib * 1024 else s.im.fs.replicaMib * mib

/-- Bytes in use of a replica area; dropped replicas hold theirs until they settle. -/
def State.replicaUsed (s : State) (cc : Bool) : Nat :=
  ((s.fs.replicas.filter fun r => r.cc == cc).map fun r => s.replicaSize r.table).sum
    + ((s.fs.settles.filter fun x => x.cc == cc).map Settle.replicaBytes).sum

/-- A message about a row of this part or another, without bytes. -/
def tellRow (sub table row dst vc : Nat) (s : State) : State :=
  sendRow { kind := 4, sub := sub, table := table, row := row, dst := dst, vc := vc } [] s

/-- Home part of a row. -/
def State.homeOf (s : State) (table row : Nat) : Nat := ((s.im.table table).map fun t => (t.home row).1).getD s.deviceId

/-- Is it a replica of this row? -/
def Replica.ofRow (r : Replica) (table row : Nat) : Bool := r.table = table && r.row = row

/-- Holders of a row homed here. -/
def State.holdersOf (s : State) (table row : Nat) : Holders :=
  (s.fs.holders.find? fun h => h.table = table && h.row = row).getD ⟨table, row, [], [], 0⟩

/-- Set the holders of a row; none are kept where there are none. -/
def setHolders (h : Holders) (s : State) : State :=
  let rest := s.fs.holders.filter fun x => !(x.table = h.table && x.row = h.row)
  { s with fs := { s.fs with holders := if h.devices.isEmpty && h.awaiting.isEmpty then rest else rest ++ [h] } }

/-- FS_RM_REPLICATED follows the holders of a row and the cluster caches of its home. -/
def noteReplicated (table row : Nat) (s : State) : State :=
  match s.im.table table with
  | none => s
  | some t =>
    let k := s.homeKey t row
    let here := s.fs.replicas.any fun r => r.ofRow table row
    let m := s.rowMap k.1 k.2
    let b := here || !(s.holdersOf table row).devices.isEmpty
    if m.replicated == b then s else s.setRowMap k.1 k.2 { m with replicated := b }

/-- Remove a replica; its storage settles before it is reused (R232). -/
def dropReplica (r : Replica) (s : State) : State :=
  { s with fs := { s.fs with
    replicas := s.fs.replicas.filter fun x => !(x.ofRow r.table r.row && x.cc == r.cc)
    settles := s.fs.settles ++ [{ shard := 0, cell := 0, replicaBytes := s.replicaSize r.table, due := s.now + s.settleNs
                                  cc := r.cc }] } }

/-- A replica leaves this part. FS_RM_REPLICATED of a row homed here follows; another part is told when the last copy of its row
has left. -/
def leaveReplica (r : Replica) (s : State) : State :=
  let s := dropReplica r s
  if s.homeOf r.table r.row = s.deviceId then noteReplicated r.table r.row s
  else if s.fs.replicas.any fun x => x.ofRow r.table r.row then s
  else tellRow 5 r.table r.row (s.homeOf r.table r.row) 2 s

/-- A replica of this row waits for the storage that settles. -/
def Settle.waitsFor (x : Settle) (table row : Nat) : Bool :=
  match x.next with
  | some r => r.ofRow table row
  | none => false

/-- Drop every replica of a row held here, and those that wait for storage. -/
def dropRow (table row : Nat) (s : State) : State :=
  let s := (s.fs.replicas.filter fun r => r.ofRow table row).foldl (fun s r => dropReplica r s) s
  let settles := s.fs.settles.map fun x => if x.waitsFor table row then { x with next := none } else x
  { s with fs := { s.fs with settles := settles } }

/-- Drop the device replicas of the rows whose home `p` names, and with them the copies of those rows in the cluster caches, which
no invalidation can reach any longer (R233, R312; the caches' copies a DESIGN CHOICE, assumption log, entry 106). -/
def dropReplicasWhere (p : Nat → Bool) (s : State) : State :=
  let gone := fun (r : Replica) => s.homeOf r.table r.row ≠ s.deviceId && p (s.homeOf r.table r.row)
  let waits := (s.fs.settles.map Settle.next).reduceOption
  ((s.fs.replicas ++ waits).filter gone).foldl (fun s r => dropRow r.table r.row s) s

/-- Drop the replicas of rows homed on part `d` (R233). -/
def dropReplicasOf (d : Nat) (s : State) : State := dropReplicasWhere (fun h => h = d) s

/-- Drop the replicas of rows homed on other parts (R233, R312). -/
def dropForeign (s : State) : State := dropReplicasWhere (fun _ => true) s

/-- Drop the replicas of rows whose home is no admitted member (R233). -/
def dropStrangers (s : State) : State := dropReplicasWhere (fun h => !s.admitted h) s

/-- ROW_HOME_UNREACHABLE: a row request to another part has had no answer within 10 ms; a later answer is discarded. Where the home
is no longer a member, its replicas are dropped (R233). -/
def doRowHomeUnreachable (tag : Nat) (s : State) : State :=
  match s.fs.remoteReqs.find? fun q => q.tag = tag with
  | none => s
  | some q =>
    if s.now < q.since + 10000000 || !s.clocked then s
    else
      pushResp (poisonResp q 0) (noteUnreachable q
        (dropReplicasOf (s.homeOf q.table q.row)
          { s with fs := { s.fs with
            remoteReqs := s.fs.remoteReqs.erase q, partials := s.fs.partials.filter fun x => !(x.kind = 3 && x.tag = tag) } }))

/-- A replica that finds no place: counted, raised once per revolution. -/
def denyReplica (table : Nat) (s : State) : State :=
  let s := { s with fs := { s.fs with repDenied := bump s.fs.repDenied, stRepDenied := true } }
  if s.fs.deniedRaised then s else raise 0x7005 table { s with fs := { s.fs with deniedRaised := true } }

/-- The replica with the fewest hits in the last revolution, the oldest first on a tie. -/
def State.coldestReplica (s : State) (cc : Bool) : Option Replica :=
  (s.fs.replicas.filter fun r => r.cc == cc).foldl (fun acc r =>
    match acc with
    | none => some r
    | some q => if r.lastHits < q.lastHits || (r.lastHits = q.lastHits && r.placed < q.placed) then some r else some q) none

/-- A new replica and the count of those placed; in the device area they take the channels in turn (DESIGN CHOICE, assumption log,
entry 105). -/
def newReplica (table row : Nat) (cc : Bool) (bs : List (Byte × Bool)) (s : State) : Replica × State :=
  ({ table := table, row := row, cc := cc, bytes := bs, placed := s.fs.replicaPlaces, chan := s.fs.replicaPlaces % 64 },
    { s with fs := { s.fs with replicaPlaces := s.fs.replicaPlaces + 1 } })

/-- Add a replica where there is room. -/
def addReplica (table row : Nat) (cc : Bool) (bs : List (Byte × Bool)) (s : State) : State :=
  let x := newReplica table row cc bs s
  { x.2 with fs := { x.2.fs with replicas := x.2.fs.replicas ++ [x.1] } }

/-- A new replica displaces another: it takes the storage once that has settled. -/
def displace (old : Replica) (table row : Nat) (bs : List (Byte × Bool)) (s : State) : State :=
  let x := newReplica table row old.cc bs (leaveReplica old s)
  { x.2 with fs := { x.2.fs with
    settles := x.2.fs.settles.dropLast ++ (x.2.fs.settles.getLast?.map fun y => { y with next := some x.1 }).toList } }

/-- Is a replica of the row there, or waiting for its storage? -/
def State.replicaHere (s : State) (table row : Nat) (cc : Bool) : Bool :=
  (s.fs.replicas.any fun x => x.ofRow table row && x.cc == cc)
    || s.fs.settles.any fun x => x.next.any fun r => r.ofRow table row && r.cc == cc

/-- Place a replica in an area (R232); true when it is placed. -/
def placeReplica (table row est : Nat) (cc : Bool) (bs : List (Byte × Bool)) (s : State) : Bool × State :=
  if s.replicaHere table row cc then (true, s)
  else
    let full := s.replicaRoom cc < s.replicaUsed cc + s.replicaSize table
      || (!cc && 65536 ≤ (s.fs.replicas.filter fun r => !r.cc).length)
    if !full then (true, addReplica table row cc bs s)
    else
      match s.coldestReplica cc with
      | some r =>
        if r.lastHits < est && s.replicaSize table ≤ s.replicaSize r.table then (true, displace r table row bs s)
        else (false, denyReplica table s)
      | none => (false, denyReplica table s)

/-- REPLICA_COPY: a copy of a row of another part; one that finds no place is given back to its home. -/
def doReplicaCopy (m : ReplicaMsg) (s : State) : State :=
  if !s.clocked || m.bytes.any Prod.snd then s
  else
    let r := placeReplica m.table m.row m.est false m.bytes s
    if r.1 then r.2 else tellRow 5 m.table m.row m.device 2 r.2

/-- REPLICA_INVALIDATE: this holder drops its copies and acknowledges (R226). -/
def doReplicaInvalidate (m : ReplicaMsg) (s : State) : State :=
  if s.clocked then tellRow 4 m.table m.row m.device 0 (dropRow m.table m.row s) else s

/-- REPLICA_DROP: a holder has dropped a row of this part, or a part drops the replica it holds. -/
def doReplicaDrop (m : ReplicaMsg) (s : State) : State :=
  if !s.clocked then s
  else if s.homeOf m.table m.row = s.deviceId then
    let h := s.holdersOf m.table m.row
    noteReplicated m.table m.row (setHolders { h with devices := h.devices.erase m.device } s)
  else
    match s.fs.replicas.find? fun r => r.ofRow m.table m.row && !r.cc with
    | some r => leaveReplica r s
    | none => s

/-! ### Letters -/

/-- An entry leaves the queue, applied or refused: its letter counts it, or its origin is told. -/
def endEntry (e : Entry) (refused : Bool) (s : State) : State :=
  let s := { s with fs := { s.fs with entries := s.fs.entries.erase e } }
  let s := if refused || e.stage = 2 then s else { s with fs := { s.fs with applied := bump s.fs.applied } }
  match e.origin with
  | some (d, tag, hold) =>
    sendRow
      { kind := 5, sub := flag refused, table := e.table, row := e.row, context := e.context, tag := tag, dst := d, vc := 0
        hold := hold } [] s
  | none =>
    if refused then refuseEntry e.letter e.table s
    else { s with part := { s.part with letters := s.part.letters.map fun l =>
      if l.id = e.letter then { l with left := l.left - 1 } else l } }

/-- A letter has written a row's entry. -/
def stampWrite (n e : Nat) (s : State) : State :=
  { s with fs := { s.fs with written := tset s.fs.written (rmKey n e) s.now } }

/-- Write a row-map entry and stamp the change. -/
def changeEntry (n e : Nat) (m : RowMap) (s : State) : State :=
  let s := s.setRowMap n e m
  { s with fs := { s.fs with changed := tset s.fs.changed (rmKey n e) s.now } }

/-- A cell of a part shard is taken. -/
def takeCell (n c : Nat) (s : State) : State := s.updShard n fun x => { x with usedCells := addOnce x.usedCells c }

/-- A cell becomes free after FS_SETTLE_US. -/
def settleCell (n c : Nat) (s : State) : State :=
  { s with fs := { s.fs with
    settles := s.fs.settles ++ [{ shard := n, cell := c, replicaBytes := 0, due := s.now + s.settleNs }] } }

/-- The entry change that ends a write or an unload of a live row: no replica remains. -/
def commitEntry (e : Entry) (s : State) : State :=
  match s.im.table e.table with
  | none => s
  | some t =>
    let k := s.homeKey t e.row
    let m := s.rowMap k.1 k.2
    let s := stampWrite k.1 k.2 (setHolders ⟨e.table, e.row, [], [], 0⟩ s)
    if e.unload then
      let s := changeEntry k.1 k.2 { m with valid := false, busy := false, replicated := false } s
      endEntry e false (if m.valid then settleCell (s.firstShard t.id + m.shard) m.cell s else s)
    else
      endEntry e false (changeEntry k.1 k.2 { m with ver := !m.ver, valid := true, busy := false, replicated := false } s)

/-- Invalidate every replica of a row before its entry changes (R226): those held here at once, the others by message. -/
def invalidateFor (e : Entry) (s : State) : State :=
  let h := s.holdersOf e.table e.row
  let s := dropRow e.table e.row s
  if h.devices.isEmpty then commitEntry e s
  else
    let s := setHolders { h with awaiting := h.devices, since := s.now } s
    let s := { s with fs := { s.fs with entries := s.fs.entries.map fun x => if x = e then { x with stage := 1 } else x } }
    h.devices.foldl (fun s d => tellRow 3 e.table e.row d 2 s) s

/-- A holder has acknowledged or been struck; when none is awaited the entry change follows. -/
def holderGone (table row d : Nat) (s : State) : State :=
  let h := s.holdersOf table row
  if !h.awaiting.contains d then s
  else
    let h' := { h with awaiting := h.awaiting.erase d, devices := h.devices.erase d }
    let s := setHolders h' s
    if !h'.awaiting.isEmpty then s
    else
      match s.fs.entries.find? fun e => e.table = table && e.row = row && e.stage = 1 with
      | some e => commitEntry e s
      | none => s

/-- INVALIDATE_ACKNOWLEDGEMENT. -/
def doInvalidateAcknowledgement (m : ReplicaMsg) (s : State) : State :=
  if s.clocked then holderGone m.table m.row m.device s else s

/-- INVALIDATION_TIMEOUT: a holder silent for 10 ms is struck (R233). -/
def doInvalidationTimeout (m : ReplicaMsg) (s : State) : State :=
  if s.clocked && (s.holdersOf m.table m.row).since + 10000000 ≤ s.now then holderGone m.table m.row m.device s else s

/-- Has FS_SETTLE_US passed since a stamp of a row? -/
def State.past (s : State) (stamps : Tab Nat) (n e : Nat) : Bool :=
  match tfind stamps (rmKey n e) with
  | some t => t + s.settleNs ≤ s.now
  | none => true

/-- Has FS_SETTLE_US passed since a row's last entry change? -/
def State.settled (s : State) (n e : Nat) : Bool := s.past s.fs.changed n e

/-- Set a row busy for an entry that waits for the settle time. -/
def holdRow (x : Entry) (n e : Nat) (s : State) : State :=
  let s := s.setRowMap n e { s.rowMap n e with busy := true }
  { s with fs := { s.fs with entries := s.fs.entries.map fun y => if y = x then { y with stage := 3 } else y } }

/-- The entry at place `i` when it may go on now: the first of its row, and either not started with the row not busy, or already
holding the row. -/
def State.entryAt (s : State) (i : Nat) (unload : Bool) : Option (Entry × FsTable) :=
  match s.fs.entries[i]? with
  | none => none
  | some e =>
    match s.im.table e.table with
    | none => none
    | some t =>
      let k := s.homeKey t e.row
      let first := !(s.fs.entries.take i).any fun x => x.table = e.table && x.row = e.row
      let free := e.stage = 3 || (e.stage = 0 && !(s.rowMap k.1 k.2).busy)
      if s.clocked && e.unload == unload && first && free then some (e, t) else none

/-- LETTER_WRITE (R226). -/
def doLetterWrite (i : Nat) (s : State) : State :=
  match s.entryAt i false with
  | none => s
  | some (e, t) =>
    let k := s.homeKey t e.row
    let m := s.rowMap k.1 k.2
    if !s.inService (shardChan k.1) then endEntry e false s
    else if !t.live then
      if m.valid then endEntry e true s
      else
        match s.freeCell k.1 with
        | none => s
        | some c =>
          endEntry e false
            (changeEntry k.1 k.2 { cell := c, shard := (t.home e.row).2.1, ver := false, valid := true }
              (writeSlot k.1 c 0 e.bytes (takeCell k.1 c s)))
    else if !s.settled k.1 k.2 then holdRow e k.1 k.2 s
    else if m.valid then
      let n := s.firstShard t.id + m.shard
      invalidateFor e (writeSlot n m.cell (flag (!m.ver)) e.bytes (s.setRowMap k.1 k.2 { m with busy := true }))
    else
      match s.freeCell k.1 with
      | none => s
      | some c =>
        let m' := { m with cell := c, shard := (t.home e.row).2.1, busy := true }
        invalidateFor e (writeSlot k.1 c (flag (!m.ver)) e.bytes (takeCell k.1 c (s.setRowMap k.1 k.2 m')))

/-- LETTER_UNLOAD (R226): a write-once row is not unloaded (R225); behind an entry write of its row it waits for the settle time
(R237). -/
def doLetterUnload (i : Nat) (s : State) : State :=
  match s.entryAt i true with
  | none => s
  | some (e, t) =>
    let k := s.homeKey t e.row
    if !t.live then endEntry e true s
    else if !s.inService (shardChan k.1) then endEntry e false s
    else if !s.past s.fs.written k.1 k.2 then holdRow e k.1 k.2 s
    else invalidateFor e (s.setRowMap k.1 k.2 { s.rowMap k.1 k.2 with busy := true })

/-- SETTLE_EXPIRY: a cell or a dropped replica's storage is free again; a replica that displaced another takes it. -/
def doSettleExpiry (i : Nat) (s : State) : State :=
  match s.fs.settles[i]? with
  | none => s
  | some x =>
    if s.now < x.due || !s.clocked then s
    else
      let s := { s with fs := { s.fs with settles := dropAt s.fs.settles i, replicas := s.fs.replicas ++ x.next.toList } }
      if x.replicaBytes = 0 then s.updShard x.shard fun y => { y with usedCells := y.usedCells.erase x.cell } else s

/-! ### 0.0 and the review (R228, R230 to R232) -/

/-- The latch at 0.0: live counts become last counts, hot-row tables go to the supervisor, replicas count idle revolutions
and leave after FS_REP_IDLE_REVS. -/
def latchCounts (s : State) : State :=
  let sh := s.fs.shards.map (fun (p : Nat × Shard) =>
    (p.1, { p.2 with last := p.2.live, live := 0, hotRead := p.2.hot, hot := [] }))
  let rs := s.fs.replicas.map (fun (r : Replica) =>
    { r with lastHits := r.hits, hits := 0, idleRevs := if r.hits = 0 then r.idleRevs + 1 else 0 })
  let s := { s with fs := { s.fs with shards := sh, replicas := rs, reviewDue := true, deniedRaised := false } }
  (s.fs.replicas.filter fun r => s.im.fs.repIdleRevs ≤ r.idleRevs).foldl (fun s r => leaveReplica r s) s

/-- The latch, which a thermal trip stops with every other block (R237). -/
def latchShards (s : State) : State := if s.clocked then latchCounts s else s

/-- Reads in the last revolution of shard `k` of a table. -/
def State.readsLast (s : State) (t : FsTable) (k : Nat) : Nat := (s.shard (s.firstShard t.id + k)).last

/-- All reads of a table's shards. -/
def State.tableReads (s : State) (t : FsTable) : Nat := ((List.range t.shards).map (s.readsLast t)).sum

/-- Insert shard `k` by a strict order on counts, equal counts in ascending shard number. -/
def insertShard (before : Nat → Nat → Bool) (k c : Nat) : List (Nat × Nat) → List (Nat × Nat)
  | [] => [(k, c)]
  | x :: r => if before c x.2 then (k, c) :: x :: r else x :: insertShard before k c r

/-- Is shard `k` hot: reads × 100 above FS_HOT_PCT of the mean? -/
def State.isHot (s : State) (t : FsTable) (k : Nat) : Bool :=
  s.im.fs.hotPct * s.tableReads t < s.readsLast t k * 100 * t.shards

/-- Every shard's run of hot revolutions. -/
def countHot (t : FsTable) (s : State) : State :=
  (List.range t.shards).foldl (fun s k =>
    let hot := s.isHot t k
    let n := s.firstShard t.id + k
    if hot || (s.shard n).hotRun ≠ 0 then
      s.updShard n fun x => { x with hotRun := if hot then min 15 (x.hotRun + 1) else 0 }
    else s) s

/-- Migrate a row to a free cell of part shard `dst` (R231): its whole slot, sector by sector with its poison. -/
def migrateRow (t : FsTable) (row dst cell : Nat) (s : State) : State :=
  let k := s.homeKey t row
  let m := s.rowMap k.1 k.2
  let n := s.firstShard t.id + m.shard
  let off := s.slotOff n m.cell (flag m.ver)
  let bs := s.chanRead (shardChan n) off t.slotBytes
  let s := seeChan (shardChan n) off t.slotBytes s
  let s := writeSlot dst cell (flag m.ver) bs (takeCell dst cell s)
  let s := changeEntry k.1 k.2 { m with cell := cell, shard := dst - s.firstShard t.id } s
  settleCell n m.cell { s with fs := { s.fs with migrated := bump s.fs.migrated, moved := true } }

/-- Migrate the hot rows of one pair, highest estimate first; `moved` rows so far, `budget` reads left. -/
def migratePair (t : FsTable) (hot cold : Nat) : List HotRow → Nat → Nat → State → State
  | [], _, _, s => s
  | h :: r, moved, budget, s =>
    let dst := s.firstShard t.id + cold
    match s.freeCell dst with
    | none => s
    | some cell =>
      if s.im.fs.migrateRows ≤ moved then s
      else
        let k := s.homeKey t h.row
        let m := s.rowMap k.1 k.2
        if budget < h.est || m.busy || !m.valid || m.shard ≠ hot then migratePair t hot cold r moved budget s
        else migratePair t hot cold r (moved + 1) (budget - h.est) (migrateRow t h.row dst cell s)

/-- Insert a hot row by descending estimate, the earlier entry first on a tie. -/
def insertHot (h : HotRow) : List HotRow → List HotRow
  | [] => [h]
  | x :: r => if x.est < h.est then h :: x :: r else x :: insertHot h r

def sortHot (l : List HotRow) : List HotRow := l.foldl (fun acc h => insertHot h acc) []

/-- Migrations of a table (R230). -/
def reviewTable (t : FsTable) (s : State) : State :=
  let s := countHot t s
  let total := s.tableReads t
  if total < 64 * t.shards then s
  else
    let ks := List.range t.shards
    let hot := (ks.filter fun k => s.im.fs.hotRevs ≤ (s.shard (s.firstShard t.id + k)).hotRun && s.isHot t k).foldl
      (fun acc k => insertShard (fun a b => b < a) k (s.readsLast t k) acc) []
    let cold := (ks.filter fun k => s.readsLast t k * 100 * t.shards < s.im.fs.coldPct * total).foldl
      (fun acc k => insertShard (fun a b => a < b) k (s.readsLast t k) acc) []
    (List.range (min s.im.fs.migratePairs (min hot.length cold.length))).foldl (fun s i =>
      let h := hot.getD i (0, 0)
      let c := cold.getD i (0, 0)
      migratePair t h.1 c.1 (sortHot (s.shard (s.firstShard t.id + h.1)).hotRead) 0 ((h.2 - c.2) / 2) s) s

/-- Bytes of a valid row at its home, none where it is busy, not valid or poisoned. -/
def State.rowBytesAt (s : State) (t : FsTable) (row : Nat) : Option (List (Byte × Bool)) :=
  let k := s.homeKey t row
  let m := s.rowMap k.1 k.2
  let n := s.firstShard t.id + m.shard
  let bs := s.chanRead (shardChan n) (s.slotOff n m.cell (flag m.ver)) t.rowBytes
  if !m.valid || m.busy || bs.any Prod.snd then none else some bs

/-- The requests for a row that is read at its home to be copied (R247). -/
def State.seeRow (s : State) (t : FsTable) (row : Nat) : State :=
  let k := s.homeKey t row
  let m := s.rowMap k.1 k.2
  let n := s.firstShard t.id + m.shard
  seeChan (shardChan n) (s.slotOff n m.cell (flag m.ver)) t.rowBytes s

/-- Copy a row to another part that reads it often: at most 8 holders, none while the master is lost (R232, R233). The message's tag
tells the reads that earned the copy (DESIGN CHOICE, assumption log, entry 24). -/
def copyRow (t : FsTable) (row : Nat) (bs : List (Byte × Bool)) (s : State) (p : Nat × Nat) : State :=
  let h := s.holdersOf t.id row
  if p.2 < s.im.fs.devRepThresh || h.devices.contains p.1 || 8 ≤ h.devices.length || !s.admitted p.1 || !s.masterThere then s
  else
    sendRow { kind := 4, sub := 2, table := t.id, row := row, tag := p.2, dst := p.1, vc := 2 } bs
      (setHolders { h with devices := h.devices ++ [p.1] } s)

/-- Replicas of one hot row. -/
def replicateRow (t : FsTable) (s : State) (h : HotRow) : State :=
  match s.rowBytesAt t h.row with
  | none => s
  | some bs =>
    let copied := s.im.fs.ccRepThresh ≤ h.localEst || h.reqs.any fun p => s.im.fs.devRepThresh ≤ p.2
    let s := if copied then s.seeRow t h.row else s
    let s := if s.im.fs.ccRepThresh ≤ h.localEst then (placeReplica t.id h.row h.localEst true bs s).2 else s
    noteReplicated t.id h.row (h.reqs.foldl (copyRow t h.row bs) s)

/-- Replicas of a table's hot rows. -/
def replicateTable (t : FsTable) (s : State) : State :=
  (List.range t.shards).foldl (fun s k =>
    (s.shard (s.firstShard t.id + k)).hotRead.foldl (replicateRow t) s) s

/-- SUPERVISOR_REVIEW: once per revolution, after the latch. -/
def doSupervisorReview (s : State) : State :=
  if !s.fs.reviewDue || !s.isReady || !s.clocked then s
  else
    let s := { s with fs := { s.fs with reviewDue := false, moved := false } }
    let s := s.im.ownTables.foldl (fun s t => if t.mode = 2 then s else reviewTable t s) s
    let s := s.im.ownTables.foldl (fun s t => if t.mode = 2 then s else replicateTable t s) s
    let s := (s.fs.replicas.filter fun r => !r.cc && s.im.fs.ccRepThresh ≤ r.lastHits).foldl (fun s r =>
      (placeReplica r.table r.row r.lastHits true r.bytes s).2) s
    let s := { s with fs := { s.fs with shards := s.fs.shards.map fun p => (p.1, { p.2 with hotRead := [] }) } }
    if !s.fs.moved then s
    else raise0 0x7001 { s with fs := { s.fs with stMigrated := true } }

/-- The feature-store sample record at a sample angle (R234). -/
def fsSample (i : Nat) (s : State) : State :=
  let lo := fun n => n % 2 ^ 32
  { s with fs := { s.fs with samples := tupd s.fs.samples i {} fun r =>
      { r with rev := s.round.rev, served := lo s.fs.served, remote := lo s.fs.remote, repHits := lo s.fs.repHits
               rereads := s.fs.rereads, migrated := s.fs.migrated, revEnd := s.round.rev } } }

/-! ### Commands -/

/-- ROW_REQUEST. -/
def execRowRequest (t index : Nat) (attempts : List RowAttempt) (s : State) : Host.Outcome State Fault Refusal :=
  .next (doRowRequest index attempts (s.advance t))

/-- ROW_RESPONSE. -/
def execRowResponse (t index : Nat) (s : State) : Host.Outcome State Fault Refusal :=
  .next (doRowResponse index (s.advance t))

/-- ROW_HOME_UNREACHABLE. -/
def execRowHomeUnreachable (t tag : Nat) (s : State) : Host.Outcome State Fault Refusal :=
  .next (doRowHomeUnreachable tag (s.advance t))

/-- LETTER_WRITE. -/
def execLetterWrite (t index : Nat) (s : State) : Host.Outcome State Fault Refusal :=
  .next (doLetterWrite index (s.advance t))

/-- LETTER_UNLOAD. -/
def execLetterUnload (t index : Nat) (s : State) : Host.Outcome State Fault Refusal :=
  .next (doLetterUnload index (s.advance t))

/-- REPLICA_COPY. -/
def execReplicaCopy (t : Nat) (m : ReplicaMsg) (s : State) : Host.Outcome State Fault Refusal :=
  .next (doReplicaCopy m (s.advance t))

/-- REPLICA_INVALIDATE. -/
def execReplicaInvalidate (t : Nat) (m : ReplicaMsg) (s : State) : Host.Outcome State Fault Refusal :=
  .next (doReplicaInvalidate m (s.advance t))

/-- INVALIDATE_ACKNOWLEDGEMENT. -/
def execInvalidateAcknowledgement (t : Nat) (m : ReplicaMsg) (s : State) : Host.Outcome State Fault Refusal :=
  .next (doInvalidateAcknowledgement m (s.advance t))

/-- REPLICA_DROP. -/
def execReplicaDrop (t : Nat) (m : ReplicaMsg) (s : State) : Host.Outcome State Fault Refusal :=
  .next (doReplicaDrop m (s.advance t))

/-- INVALIDATION_TIMEOUT. -/
def execInvalidationTimeout (t : Nat) (m : ReplicaMsg) (s : State) : Host.Outcome State Fault Refusal :=
  .next (doInvalidationTimeout m (s.advance t))

/-- SETTLE_EXPIRY. -/
def execSettleExpiry (t index : Nat) (s : State) : Host.Outcome State Fault Refusal :=
  .next (doSettleExpiry index (s.advance t))

/-- SUPERVISOR_REVIEW. -/
def execSupervisorReview (t : Nat) (s : State) : Host.Outcome State Fault Refusal :=
  .next (doSupervisorReview (s.advance t))

end Sys2Proof.Machine
end

