-- ==== Sys2Proof/Machine/Ports.lean ====
section
/-! DEFINITION. Ports that fail or retrain (R303), join requests (R296, R306), members (R311), and the step to the alternate
parent. -/

namespace Sys2Proof.Machine

/-! ### Join requests -/

/-- The bytes of a join request: digest, serial number, IMG_SEQUENCE and stepping, behind the sub-header (R296). -/
def joinBytes (r : JoinReq) : List Byte :=
  dfHead 0 0 6 0 0 0 0 0 r.tag ++ leBytes r.digest 48 ++ leBytes r.serial 8 ++ leBytes r.sequence 4
    ++ leBytes r.stepping 1

/-- Queue a join request for the master on the active parent port. -/
def sendJoin (r : JoinReq) (s : State) : State :=
  queueFlit s.fab.parentActive
    { type := 1, vc := 2, dst := s.im.fab.masterId, src := r.device, hops := r.hops, count := 2, payload := joinBytes r } s

/-- The part's own join request. -/
def State.ownJoin (s : State) : JoinReq :=
  { device := s.deviceId, digest := s.fab.digest, serial := s.nv.serial, sequence := s.im.start.sequence
    stepping := 0xB0, hops := 0, tag := 0 }

/-- Send the part's own join request (R306). -/
def requestJoin (s : State) : State := sendJoin s.ownJoin s

/-! ### Members (R311) -/

/-- A MEMBER message down the tree. -/
def tellMember (device change serial : Nat) (s : State) : State :=
  toChildren 1
    (memberBytes { master := s.im.fab.masterId, device := device, change := change, gen := s.fab.memberGen, serial := serial }) s

/-- Clear a bit of a number. -/
def clearBit (n i : Nat) : Nat := if bit n i then n - 2 ^ i else n

/-- A part is no longer a member. -/
def dropMember (d : Nat) (s : State) : State :=
  dropReplicasOf d { s with fab := { s.fab with memberMap := clearBit s.fab.memberMap d } }

/-- The master removes a member and broadcasts it. -/
def removeMember (d : Nat) (s : State) : State :=
  if !bit s.fab.memberMap d || d = s.deviceId then s
  else
    let serial := ((s.fab.members.find? fun m => m.device = d).map Member.serial).getD 0
    let s := dropMember d s
    let s := { s with fab := { s.fab with
      memberGen := (s.fab.memberGen + 1) % 65536, members := s.fab.members.filter fun m => m.device ≠ d } }
    tellMember d 2 serial s

/-- Devices that the down table routes through a port. -/
def State.behind (s : State) (n : Nat) : List Nat := (s.fab.down.filter fun p => p.2 = n).map Prod.fst

/-- A child port has failed: the master removes the devices behind it; a relay tells the master of them (R311). -/
def loseChild (n : Nat) (s : State) : State :=
  (s.behind n).foldl (fun s d =>
    if s.isMaster then removeMember d s
    else
      let serial := ((s.fab.relayed.find? fun r => r.device = d).map JoinReq.serial).getD 0
      sendSyncOn s.fab.parentActive 1
        (memberBytes { master := s.im.fab.masterId, device := d, change := 3, gen := s.fab.memberGen, serial := serial }) s) s

/-- R311, step 1: true when the alternate parent is taken. -/
def tryAlternate (s : State) : Bool × State :=
  let alt := s.im.fab.altParent
  if 16 ≤ alt || s.fab.altTried || !(s.port alt).carries then (false, s)
  else
    let s := { s with fab := { s.fab with parentActive := alt, altTried := true, lastBeacon := s.now } }
    (true, s.fab.relayed.foldl (fun s r => sendJoin { r with hops := r.hops + 1 } s) (requestJoin s))

/-! ### Failure and retraining (R303) -/

/-- A port fails: 0x9006, and its unacknowledged flits are gone; those not yet sent follow the tree. The parts behind it are lost,
or the alternate parent is tried (R311, R319). -/
def failPort (n cause : Nat) (s : State) : State :=
  let p := s.port n
  let s := s.updPort n fun p => { dropReplay p with
    state := .failed, failCause := cause, probing := false, pendingMode := none, queues := [] }
  let s := raise 0x9006 n { s with fab := { s.fab with stPort := true } }
  let s :=
    if !p.carries then s
    else if n = s.fab.parentActive && !s.isMaster then (tryAlternate s).2
    else if p.child then loseChild n s
    else s
  reroute n p.waiting s

/-- A retrain begins: 0x900A, and the fifth since start fails the port. The flits of the replay buffer count their replays afresh
(DESIGN CHOICE, assumption log, entry 102). -/
def retrainPort (n : Nat) (s : State) : State :=
  if (s.port n).state ≠ .up then s
  else
    let s := raise 0x900A n (s.updPort n fun p => { p with
      retrains := bump p.retrains, replay := p.replay.map fun x => { x with times := 0 }, resend := none })
    if 5 ≤ (s.port n).retrains then failPort n 2 s else s.updPort n fun p => { p with state := .retraining }

/-- The sender begins to replay its buffer, from the oldest flit that no acknowledgement covers (R297). -/
def replayPort (n : Nat) (s : State) : State :=
  if (s.port n).replay.isEmpty then s
  else s.updPort n fun p => { p with replays := bump p.replays, resend := some 0 }

end Sys2Proof.Machine
end

