-- ==== Sys2Proof/Machine/Lens.lean ====
section
/-! DEFINITION. The Lens engines (R269 to R291): requests, matrix loads, integration windows, calibration, pilot tracking
and light. -/

namespace Sys2Proof.Machine

/-- LENS_REQUEST: a request issued by a tile reaches its engine, a tile's requests in the order it sent them (R270). -/
def doLensRequest (i : Nat) (s : State) : State :=
  match s.lens.flight[i]? with
  | none => s
  | some q =>
    if !s.clocked || (s.lens.flight.take i).any (fun r => r.tile = q.tile) then s
    else
      let n := s.engineOf q.tile
      let s := { s with lens := { s.lens with flight := dropAt s.lens.flight i } }
      nextMatrix n (s.updEngine n fun e => { e with queue := e.queue ++ [q] })

/-- MATRIX_LOAD_DONE: the mesh holds the new matrix; a calibration that waited for the load starts (R289). -/
def doMatrixLoadDone (n : Nat) (s : State) : State :=
  let e := s.engine n
  if e.state ≠ .loading || !s.clocked then s
  else
    let s := s.updEngine n fun e => { e.quieted with
      state := if e.calPending then .calibrating else .serving
      matrix := e.loading, loading := none, loads := bump e.loads, calPending := false }
    nextMatrix n s

/-! ### Codes (R274) -/

/-- Add a weight row times a drive level to the lane sums. -/
def addLaneRow (d : Int) (sums row : List Int) : List Int := List.zipWith (fun a w => a + d * w) sums row

/-- The 64 lane sums of the drive levels and the weights. -/
def laneSums : List Int → List Int → List Int → List Int
  | [], _, sums => sums
  | d :: ds, ws, sums => laneSums ds (ws.drop 64) (addLaneRow d sums (ws.take 64))

/-- Round sum × 2^(-g) under R190. -/
def scaleCode (g : Nat) (sum : Int) : Int :=
  let m : Int := divRne sum.natAbs (2 ^ g)
  if sum < 0 then -m else m

/-- Clamp to an interval. -/
def clampInt (lo hi x : Int) : Int := max lo (min hi x)

/-- The ideal codes c* of the 64 lanes. -/
def idealCodes (m : Matrix) (ds : List Int) : List Int :=
  (laneSums ds m.weights (List.replicate 64 0)).map (scaleCode m.gain)

/-- Is the comb fibre that lights engine `n` outside the power that Table 11.5 asks of it? -/
def State.combOff (s : State) (n : Nat) : Bool :=
  let p := if n < 16 then s.lens.combPwr0 else s.lens.combPwr1
  s.lens.comb && (p < 1400 || 2000 < p)

/-- The largest code error of a lane without marks (Table 11.5): 3 codes within 60 s of the last passed calibration, one more
a further 60 s, one more while tracking is frozen for up to 1 ms; none stated from PWR_TEMP_WARN_C on, in a longer freeze, or
while the engine's comb fibre is outside its limits. -/
def State.codeLimit (s : State) (n : Nat) (e : Engine) : Option Nat :=
  let age := s.now - e.calDevtime
  let hot := (s.im.pwr.warnC : Int) * 16 ≤ s.lehr.maxTemp
  if hot || s.combOff n || (e.frozen && 1000000 < s.now - e.frozenAt) then none
  else some (3 + flag e.frozen + ceilDiv (age - 60000000000) 60000000000)

/-- The free errors of 64 lanes (assumption log, entry 3). A lane in `shadow` has no limit; the others keep within theirs, and where
no lane carries a mark and the limit is 3, all of them within 1.2 codes RMS (R288). -/
def laneErrors (limit : Option Nat) (shadow : Nat → Bool) (marks : Bool) (n : Nat) : List Int :=
  let raw := (List.range 64).map fun j => Config.lensError (64 * n + j)
  match limit with
  | none => raw
  | some b =>
    let es := (List.range 64).map fun j =>
      if shadow j then raw.getD j 0 else clampInt (-(b : Int)) b (raw.getD j 0)
    if b = 3 && !marks && 92 < (es.map fun x => x * x).sum then List.replicate 64 0 else es

/-! ### Over-range (R275, R276) -/

/-- Does a lane saturate at this ideal code? -/
def saturates (c : Int) : Bool := c < -512 || 511 < c

/-- Does a lane stand one or two places from a lane that saturates? -/
def nearSat (sat : List Bool) (j : Nat) : Bool :=
  (List.range 64).any fun i => sat.getD i false && (i + 1 = j || i + 2 = j || j + 1 = i || j + 2 = i)

/-- One window's marks: the recovery of each lane as it stands in this window. -/
def Engine.marked (e : Engine) (ideal : List Int) : Engine :=
  let sat := ideal.map saturates
  { e with
    ovrLeft := (List.range 64).foldl (fun m j =>
      if sat.getD j false then tset m j (4, ideal.getD j 0 < 0) else m) e.ovrLeft
    shadowLeft := (List.range 64).foldl (fun m j => if nearSat sat j then tset m j 4 else m) e.shadowLeft }

/-- Does a lane of the engine carry OVR or SHADOW in this window? -/
def Engine.hasMarks (e : Engine) : Bool := !e.ovrLeft.isEmpty || !e.shadowLeft.isEmpty

/-- Tracking freezes from a window with marks on (R283). -/
def Engine.freeze (now : Nat) (e : Engine) : Engine :=
  if e.hasMarks && !e.frozen then { e with frozen := true, frozenAt := now } else e

/-- The code a lane returns: the clamp code while it recovers, else the measured one. -/
def Engine.code (e : Engine) (j : Nat) (ideal err : Int) : Int :=
  match tfind e.ovrLeft j with
  | some (_, neg) => if neg then -512 else 511
  | none => clampInt (-512) 511 (ideal + err)

/-- Set the bits of the listed lanes. -/
def addLanes {α : Type} (n : Nat) (m : Tab α) : Nat := m.foldl (fun n p => setBit n p.1) n

/-- A window ends: marks are counted, tracking freezes or comes nearer to resuming (R283), recovery moves on. -/
def Engine.windowEnd (now : Nat) (e : Engine) : Engine :=
  let mark := e.hasMarks
  let clean := e.cleanWindows + 1
  { e.freeze now with
    ovrCount := satAdd 32 e.ovrCount e.ovrLeft.length
    shadowCount := satAdd 32 e.shadowCount e.shadowLeft.length
    ovrLanes := addLanes e.ovrLanes e.ovrLeft
    shadowLanes := addLanes e.shadowLanes e.shadowLeft
    frozen := mark || (e.frozen && clean < 64)
    cleanWindows := if mark || !e.frozen then 0 else clean
    ovrLeft := (e.ovrLeft.filter fun p => 1 < p.2.1).map fun p => (p.1, p.2.1 - 1, p.2.2)
    shadowLeft := (e.shadowLeft.filter fun p => 1 < p.2).map fun p => (p.1, p.2 - 1) }

/-- Raise 0x8001 at the first OVR of a revolution (R276). -/
def noteOvr (n : Nat) (s : State) : State :=
  let e := s.engine n
  if e.ovrLeft.isEmpty || e.ovrRaised then s
  else raise 0x8001 n (s.updEngine n fun e => { e with ovrRaised := true, stOvr := true })

/-- The flags a returned row carries: those of the scaling, and the marks of its own columns (R204, R209). -/
def backFlags (e : Engine) (cols : Nat) : Nat :=
  flagIf (e.ovrLeft.any fun p => p.1 < cols) nfLensOvr ||| flagIf (e.shadowLeft.any fun p => p.1 < cols) nfLensShadow

/-- Codes land in the place their tile reserved (R203, R270). -/
def landCodes (e : Engine) (m : Matrix) (q : LensReq) (codes : List Int) (s : State) : State :=
  let cols := (((s.task q.tile q.slot).cmd q.cmd).map fun c => xfN16 c.words * 16).getD 0
  let y := lensScale (fp32.decode q.peak) (fp32.decode m.scale) (codes.take cols)
  let b : LensBack :=
    { row := q.row, elems := y.1.map fp32.encode, flags := y.2 ||| backFlags e cols, poison := q.poison || m.poison }
  let s := s.updCmd q.tile q.slot q.cmd fun c => { c with back := c.back ++ [b] }
  pumpTile q.tile (s.updTile q.tile fun x => { x with lensOutstanding := x.lensOutstanding - 1 })

/-- The request an engine may process in this window: in order of arrival among those for the loaded matrix, within the limit
of the microsecond (R271, R277). -/
def Engine.serving (e : Engine) : Option (Nat × LensReq × Matrix) :=
  if e.state ≠ .serving || e.limit ≤ e.thisUs then none
  else
    match e.matrix with
    | none => none
    | some m =>
      match (e.queue.take (e.drain.getD e.queue.length)).findIdx? (m.serves ·) with
      | none => none
      | some i => (e.queue[i]?).map fun q => (i, q, m)

/-- Process one vector. -/
def serveWindow (n i : Nat) (q : LensReq) (m : Matrix) (s : State) : State :=
  let e := s.engine n
  let ideal := idealCodes m q.levels
  let marked := e.marked ideal
  let errs := laneErrors (s.codeLimit n (marked.freeze s.now)) (thas marked.shadowLeft) marked.hasMarks s.free
  let codes := (List.range 64).map fun j => marked.code j (ideal.getD j 0) (errs.getD j 0)
  let s := { s with free := s.free + 1 }
  let s := noteOvr n (s.updEngine n fun _ => { marked with
    queue := dropAt e.queue i, drain := e.drain.map fun k => k - 1
    vectors := satAdd 64 e.vectors 1, thisUs := e.thisUs + 1 })
  let s := nextMatrix n (s.updEngine n (Engine.windowEnd s.now))
  landCodes marked m q codes s

/-- Is the engine lit and its mesh driven? -/
def LensState.driven (x : LensState) : Bool :=
  match x with
  | .startCal | .serving | .loading | .calibrating => true
  | .off | .degraded => false

/-- INTEGRATION_WINDOW: a window of 500 ps passes; it processes one vector where one may be processed. -/
def doIntegrationWindow (n : Nat) (s : State) : State :=
  let e := s.engine n
  if !s.clocked || !e.state.driven then s
  else
    match e.serving with
    | some (i, q, m) => serveWindow n i q m s
    | none => nextMatrix n ((noteOvr n s).updEngine n (Engine.windowEnd s.now))

/-- ACTIVITY_MICROSECOND: a microsecond of device time begins (R277). -/
def doActivityMicrosecond (n : Nat) (s : State) : State :=
  if !s.clocked || 32 ≤ n then s else s.updEngine n fun e => { e with lastUs := e.thisUs, thisUs := 0 }

/-! ### Degraded engines (R282, R284) -/

/-- What a command under way makes of its engine's loss, `sent` being the number of its rows still at the engine: a Lens-required one
keeps the rows it has had back and stores every other one poisoned after them, then its task ends; a Lens-optional one goes on with
the MXE (R119, R284). An abandoned one stores its rows poisoned as before. -/
def loseEngine (tile slot sent : Nat) (c : Cmd) (s : State) : State :=
  if c.phase ≠ .computing || !c.useLens then s
  else
    s.updCmd tile slot c.index fun x => { x with
      row := x.row - sent, lensOut := x.back.length, useLens := false
      refuse := xformOf c.words = 2 && (sent ≠ 0 || x.row < bagCount c.words) }

/-- An engine becomes DEGRADED: drive and heaters are off, its requests are gone. -/
def degradeEngine (n cause : Nat) (s : State) : State :=
  let waiting := (s.engine n).queue ++ s.lens.flight.filter fun q => s.engineOf q.tile = n
  let s := s.updEngine n fun e => { e.quieted with
    state := .degraded, cause := cause, matrix := none, loading := none, drain := none, queue := [], calPending := false }
  let s := { s with lens := { s.lens with flight := s.lens.flight.filter fun q => s.engineOf q.tile ≠ n } }
  let tasks := s.liveTasks.filter fun k => s.engineOf k.1 = n
  let s := tasks.foldl (fun s k =>
    let s := s.updTile k.1 fun x => { x with lensOutstanding := 0 }
    k.2.2.cmds.foldl (fun s c =>
      loseEngine k.1 k.2.1 (waiting.filter fun q => q.from k.1 k.2.1 && q.cmd = c.index).length c s) s) s
  pumpTiles (tasks.foldl (fun l k => addOnce l k.1) []) s

/-! ### Calibration (R280 to R282) -/

/-- The engine whose turn it is, from `e` on, skipping DEGRADED ones. -/
def State.turnFrom (s : State) (e : Nat) : Option Nat :=
  ((List.range 32).map fun i => (e + i) % 32).find? fun n => (s.engine n).state ≠ .degraded

/-- Slot 12 fires (R280, R289). A part whose Lens drive has stopped calibrates nothing. -/
def fireCalibration (s : State) : State :=
  match s.turnFrom s.lens.calTurn with
  | none => s
  | some n =>
    if !s.lens.lit || !s.clocked then s
    else
      let s := { s with lens := { s.lens with calTurn := n } }
      match (s.engine n).state with
      | .serving => s.updEngine n fun e => { e with state := .calibrating, drain := none }
      | .loading => s.updEngine n fun e => { e with calPending := true }
      | .off | .startCal | .calibrating | .degraded => s

/-- A calibration aborts (R281, R282). -/
def abortCal (n : Nat) (s : State) : State :=
  let s := raise 0x8002 n (s.updEngine n fun e => { e with
    stCalAbort := true, calAborted := bump e.calAborted, aborts := e.aborts + 1 })
  if 3 ≤ (s.engine n).aborts then
    raise 0x8003 n (degradeEngine n 1 (s.updEngine n fun e => { e with stDegraded := true }))
  else s

/-- A calibration passes: the new coefficients are adopted. -/
def passCal (n : Nat) (s : State) : State :=
  s.updEngine n fun e => { e with
    aborts := 0, calDone := bump e.calDone, calDevtime := s.devCount, adopted := e.adopted + 1, drift := 0 }

/-- One run of the calibration procedure, its dark level in 1/16 code. -/
def calRun (n dark : Nat) (fitOk : Bool) (s : State) : State :=
  let s := s.updEngine n fun e => { e with dark := min dark 0xFFFF }
  if s.im.lens.darkThresh * 16 < dark || !fitOk then abortCal n s else passCal n s

/-- CALIBRATION_DONE: the calibration passes or aborts, the matrix loaded before it is loaded again, and the engine serves
(R281, step 6). -/
def doCalibrationDone (n dark : Nat) (fitOk : Bool) (s : State) : State :=
  if (s.engine n).state ≠ .calibrating || !s.clocked then s
  else
    let passed := fitOk && dark ≤ s.im.lens.darkThresh * 16
    let s := calRun n dark fitOk s
    let s := if passed then
        { s with lens := { s.lens with calTurn := (s.turnFrom ((n + 1) % 32)).getD n } }
      else s
    if (s.engine n).state = .degraded then s
    else
      nextMatrix n (s.updEngine n fun e => { e.quieted with
        state := .serving, loads := if e.matrix.isSome then bump e.loads else e.loads })

/-- PILOT_CORRECTION: the tracker corrects the heater drives, and estimates the drift (R283). -/
def doPilotCorrection (n drift : Nat) (s : State) : State :=
  let e := s.engine n
  if e.state ≠ .serving || e.frozen || !s.clocked then s
  else s.updEngine n fun e => { e with drift := min drift 0xFFFF }

/-! ### Light (R278, R279, R291) -/

/-- The engines a source lights. -/
def State.litBy (s : State) (source : Nat) : List Nat :=
  if s.lens.comb then (List.range 16).map fun i => 16 * source + i else (List.range 8).map fun i => 8 * source + i

/-- The ports a source lights (R293). -/
def State.portsBy (s : State) (source : Nat) : List Nat :=
  if s.lens.comb then (List.range 8).map fun i => 8 * source + i else (List.range 4).map fun i => 4 * source + i

/-- Is a source lost already? -/
def State.sourceLost (s : State) (source : Nat) : Bool :=
  if s.lens.comb then bit s.lens.combLost source else bit s.lens.bankLost source

/-- A source is lost: the engines it lights become DEGRADED, and every port it lights fails, one that is dark too; a part without
FAB_CORE has no port in use (R279, R293, R304). -/
def loseSource (source : Nat) (s : State) : State :=
  let s :=
    if s.lens.comb then
      { s with lens := { s.lens with combLost := setBit s.lens.combLost source, stLight := true } }
    else { s with lens := { s.lens with bankLost := setBit s.lens.bankLost source, stLight := true } }
  let s := (s.litBy source).foldl (fun s n =>
    if !s.lens.lit || (s.engine n).state = .degraded then s else degradeEngine n 2 s) s
  let s := raise 0x8005 (if s.lens.comb then 4 + source else source) s
  if !s.im.fab.present then s
  else (s.portsBy source).foldl (fun s n => if (s.port n).state = .failed then s else failPort n 3 s) s

/-- Are the light sources in use: from the LIGHT stage on, for the ports in quarantine too (R308), and a comb after a trip as well
(R319)? -/
def State.sourcesOn (s : State) : Bool :=
  s.lens.lit || s.quarantined || (s.lens.comb && s.lehr.state = .tripped)

/-- LIGHT_SOURCE_LOST: a source's monitor has stayed below its threshold for 10 µs. -/
def doLightSourceLost (source : Nat) (s : State) : State :=
  if !s.running || !s.sourcesOn || (if s.lens.comb then 2 else 4) ≤ source || s.sourceLost source then s
  else loseSource source s

/-- The runs of a lit engine at the LIGHT stage, until one passes or the third aborts. -/
def startRuns (n : Nat) (runs : List CalRun) (s : State) : State :=
  runs.foldl (fun s r =>
    if (s.engine n).state = .startCal then
      let s := calRun n r.dark r.fitOk s
      if (s.engine n).state = .startCal && (s.engine n).aborts = 0 then
        s.updEngine n fun e => { e with state := .serving }
      else s
    else s) s

/-- The work of the LIGHT stage (R291). -/
def lightEngines (lost : List Nat) (runs : List CalRun) (s : State) : State :=
  let s := { s with lens := { s.lens with comb := s.im.lens.comb, lit := true, calTurn := 0 } }
  let s := (List.range 32).foldl (fun s n =>
    if bit s.im.lens.engineMask n then s.updEngine n fun e => { e with state := .startCal }
    else s.updEngine n fun e => { e with state := .degraded, cause := 3 }) s
  let s := lost.foldl (fun s k =>
    if (if s.lens.comb then 2 else 4) ≤ k || s.sourceLost k then s else loseSource k s) s
  (List.range 32).foldl (fun s n => startRuns n (runs.filter fun r => r.engine = n) s) s

/-- Is every engine calibrated or DEGRADED? -/
def State.lightDone (s : State) : Bool :=
  s.lens.lit && (List.range 32).all fun n => (s.engine n).state = .serving || (s.engine n).state = .degraded

/-- Light, drive and heaters off: at entry to QUARANTINED or to recovery (R289). -/
def darkenLens (s : State) : State :=
  { s with lens := { s.lens with
      lit := false, flight := []
      engines := s.lens.engines.map fun p => (p.1, { p.2.quieted with
        state := .off, matrix := none, loading := none, drain := none, queue := [], calPending := false }) } }

/-- The Lens sample record at a sample angle (R287). -/
def lensSample (i : Nat) (s : State) : State :=
  (List.range 32).foldl (fun s n =>
    s.updEngine n fun e => { e with samples := tupd e.samples i {} fun r =>
      { r with rev := s.round.rev, vectors := e.vectors % 2 ^ 32, drift := e.drift
               state := match e.state with
                 | .off => 0 | .startCal => 1 | .serving => 2 | .loading => 3 | .calibrating => 4 | .degraded => 5
               frozen := e.frozen, ovr := e.ovrCount, frozenUs := e.frozenNs / 1000 % 2 ^ 32
               revEnd := s.round.rev } }) s

/-! ### Commands -/

/-- LENS_REQUEST. -/
def execLensRequest (t index : Nat) (s : State) : Host.Outcome State Fault Refusal :=
  .next (doLensRequest index (s.advance t))

/-- MATRIX_LOAD_DONE. -/
def execMatrixLoadDone (t engine : Nat) (s : State) : Host.Outcome State Fault Refusal :=
  .next (doMatrixLoadDone engine (s.advance t))

/-- INTEGRATION_WINDOW. -/
def execIntegrationWindow (t engine : Nat) (s : State) : Host.Outcome State Fault Refusal :=
  .next (doIntegrationWindow engine (s.advance t))

/-- ACTIVITY_MICROSECOND. -/
def execActivityMicrosecond (t engine : Nat) (s : State) : Host.Outcome State Fault Refusal :=
  .next (doActivityMicrosecond engine (s.advance t))

/-- CALIBRATION_DONE. -/
def execCalibrationDone (t engine dark : Nat) (fitOk : Bool) (s : State) : Host.Outcome State Fault Refusal :=
  .next (doCalibrationDone engine dark fitOk (s.advance t))

/-- PILOT_CORRECTION. -/
def execPilotCorrection (t engine drift : Nat) (s : State) : Host.Outcome State Fault Refusal :=
  .next (doPilotCorrection engine drift (s.advance t))

/-- LIGHT_SOURCE_LOST. -/
def execLightSourceLost (t source : Nat) (s : State) : Host.Outcome State Fault Refusal :=
  .next (doLightSourceLost source (s.advance t))

end Sys2Proof.Machine
end

