-- ==== Sys2Proof/Machine/Fabric.lean ====
section
/-! DEFINITION. The fabric link (R292 to R303): flits, replay, credits, training, probes and plan changes. -/

namespace Sys2Proof.Machine

/-! ### Flits (Table 12.1) -/

/-- A flit header's fields and its payload. -/
structure Header where
  type : Nat
  vc : Nat
  seq : Nat
  ack : Nat
  nak : Bool
  dst : Nat
  src : Nat
  crVc : Nat
  credits : Nat
  count : Nat
  hops : Nat
deriving DecidableEq, Repr

def headerOf (bs : List Byte) : Header :=
  let w := numAt bs 0 8
  let x := numAt bs 8 8
  { type := bits w 0 4, vc := bits w 4 2, seq := bits w 6 12, ack := bits w 18 12, nak := bit w 30, dst := bits w 32 11
    src := bits w 43 11, crVc := bits w 54 2, credits := bits w 56 8, count := bits x 0 8, hops := bits x 8 3 }

/-- The 256 bytes of a flit with FAB_FL_CRC 0. -/
def flitBody (h : Header) (payload : List Byte) : List Byte :=
  leBytes (h.type % 16 + h.vc % 4 * 2 ^ 4 + h.seq % 4096 * 2 ^ 6 + h.ack % 4096 * 2 ^ 18 + flag h.nak * 2 ^ 30
      + h.dst % 2048 * 2 ^ 32 + h.src % 2048 * 2 ^ 43 + h.crVc % 4 * 2 ^ 54 + h.credits % 256 * 2 ^ 56) 8
    ++ leBytes (h.count % 256 + h.hops % 8 * 2 ^ 8) 8 ++ (payload ++ fill (240 - payload.length) 0#8).take 240

/-- The flit with its CRC. -/
def flitBytes (h : Header) (payload : List Byte) : List Byte :=
  let body := flitBody h payload
  body.take 12 ++ leBytes (crc32 body) 4 ++ body.drop 16

/-- Is the CRC of 256 bytes right? -/
def flitOk (bs : List Byte) : Bool :=
  bs.length = 256 && crc32 (bs.take 12 ++ fill 4 0#8 ++ bs.drop 16) = numAt bs 12 4

/-- Credits of a virtual channel (Table 12.3). -/
def vcLimit (vc : Nat) : Nat := if vc = 1 then 512 else if vc = 2 then 64 else 128

/-- What a flit costs on its channel: VC1 counts messages. -/
def vcCost (vc count : Nat) : Nat := if vc = 1 then count else 1

/-! ### Receiving (R297, R298) -/

/-- Does a port receive flits: lit, and the end of a circuit? -/
def Port.receives (p : Port) : Bool :=
  match p.state with
  | .training | .up | .retraining | .foreign | .circuitDown => true
  | .dark | .passThrough | .failed => false

/-- An acknowledgement covers every flit up to its number. -/
def takeAck (n ack : Nat) (s : State) : State :=
  match (s.port n).replay.findIdx? fun x => x.seq = ack with
  | some i => s.updPort n fun p => { p with
      replay := p.replay.drop (i + 1)
      resend := if (p.replay.drop (i + 1)).isEmpty then none else p.resend.map fun j => j - (i + 1) }
  | none => s

/-- Credits come back for a channel. -/
def takeCredits (n vc k : Nat) (s : State) : State :=
  s.updPort n fun p => { p with credits := tupd p.credits vc 0 fun u => u - k }

/-- A flit out of sequence is discarded, and one NAK goes out. -/
def rejectFlit (n : Nat) (s : State) : State :=
  s.updPort n fun p => { p with nakDue := p.nakDue || !p.nakSent, nakSent := true }

/-- A flit in sequence is accepted. -/
def acceptFlit (n : Nat) (h : Header) (s : State) : State :=
  s.updPort n fun p => { p with
    expectSeq := (h.seq + 1) % 4096, nakSent := false, nakDue := false, rxFlits := satAdd 64 p.rxFlits 1 }

/-- The flit that a header and its payload give. -/
def Header.flit (h : Header) (payload : List Byte) : Flit :=
  { type := h.type, vc := h.vc, dst := h.dst, src := h.src, hops := h.hops, count := h.count, payload := payload }

/-- FAB_DF_KIND of a data flit. -/
def Flit.kind (f : Flit) : Nat := bits (numAt f.payload 0 8) 55 3

/-- FAB_DF_SUB of a data flit. -/
def Flit.subKind (f : Flit) : Nat := bits (numAt f.payload 8 8) 27 5

/-- FAB_DF_TAG of a data flit. -/
def Flit.tagOf (f : Flit) : Nat := bits (numAt f.payload 8 8) 32 32

/-- FAB_DF_TABLE of a data flit. -/
def Flit.tableOf (f : Flit) : Nat := bits (numAt f.payload 8 8) 19 8

/-- The bytes of the valid sectors of a data flit with their poison (R296). -/
def Flit.body (f : Flit) : List (Byte × Bool) :=
  let bs := sub f.payload 16 (32 * min f.count 7)
  let poison := bits (numAt f.payload 8 8) 12 7
  (List.range bs.length).map fun i => (bs.getD i 0#8, bit poison (i / 32))

/-- Forward a flit that came in on port `n` along the tree, on the channel it arrived on (R298, R300). Data of kinds 0 to 5 goes on
from READY only (R321). -/
def forwardFlit (n : Nat) (f : Flit) (s : State) : State :=
  let k := vcCost f.vc f.count
  if f.type = 1 && f.kind < 6 && !s.isReady then oweCredits n f.vc k s
  else queueFlit (s.treePort f.dst) { f with hops := min 7 (f.hops + 1), origin := some (n, f.vc, k) } s

/-- A sync message that has reached this part. Those of types 1 to 4 are taken in their turn; before READY they are discarded, and
counted where they name a cluster (R153, R165, R321). Types 8 to 11 are commands of their own. -/
def landSync (m : SyncMsg) (s : State) : State :=
  if m.kind < 1 || 4 < m.kind then s
  else if s.isReady then
    let m := if m.kind = 3 && m.level < 2 then { m with gen := s.barGen m.level m.cluster m.index } else m
    { s with sync := { s.sync with flight := s.sync.flight ++ [m] } }
  else staleDrop m.cluster s

/-- A sync flit for this part lands, message by message; one for another part goes on. The arrivals of a subtree at a domain
barrier come in flits for the relay that combines them (R157). -/
def receiveSync (n : Nat) (f : Flit) (s : State) : State :=
  if f.dst ≠ s.deviceId then forwardFlit n f s
  else
    let slots := (List.range (min f.count 15)).map fun i => sub f.payload (16 * i) 16
    slots.foldl (fun s b => landSync (syncOfBytes b) s) (oweCredits n 1 f.count s)

/-- Bytes of a message of several flits: all that have arrived. -/
def gatherPart (src tag kind : Nat) (bs : List (Byte × Bool)) (s : State) : Partial × State :=
  let same := fun (x : Partial) => x.src = src && x.tag = tag && x.kind = kind
  let old := (s.fs.partials.find? same).getD ⟨src, tag, kind, []⟩
  let x := { old with bytes := old.bytes ++ bs }
  (x, { s with fs := { s.fs with partials := s.fs.partials.filter (fun y => !same y) ++ [x] } })

def dropPart (x : Partial) (s : State) : State := { s with fs := { s.fs with partials := s.fs.partials.erase x } }

/-- A row response for a request of this part (R218): discarded where 10 ms have passed since the request. What the home found
comes with it in FAB_DF_SUB (DESIGN CHOICE, assumption log, entry 104). -/
def receiveRow (f : Flit) (s : State) : State :=
  match s.fs.remoteReqs.find? fun q => q.tag = f.tagOf with
  | none => s
  | some q =>
    if q.since + 10000000 ≤ s.now then s
    else
      let g := gatherPart f.src f.tagOf 3 f.body s
      if g.1.bytes.length < q.bytes then g.2
      else
        let s := dropPart g.1 g.2
        let s := { s with fs := { s.fs with remoteReqs := s.fs.remoteReqs.erase q } }
        let s := if f.subKind = 1 then raiseUnresolved q s
          else if f.subKind = 2 then noteTorn q s
          else s
        pushResp { req := q, bytes := g.1.bytes.take q.bytes } s

/-- Row bytes that the entries of a letter message carry: none for an unload. -/
def State.entryBytes (s : State) (f : Flit) : Nat :=
  if f.subKind = 1 then 0 else ((s.im.table f.tableOf).map FsTable.rowBytes).getD 0

/-- A letter entry forwarded to this part, its row's home (R226). -/
def receiveEntry (f : Flit) (hold : Option Nat) (s : State) : State :=
  let g := gatherPart f.src f.tagOf 4 f.body s
  if g.1.bytes.length < s.entryBytes f then g.2
  else
    let w := numAt f.payload 0 8
    let e : Entry :=
      { letter := 0, context := bits w 48 7, table := f.tableOf, row := bits w 0 48, unload := f.subKind = 1
        bytes := g.1.bytes.take (s.entryBytes f), stage := 0, origin := some (f.src, f.tagOf, hold) }
    let s := dropPart g.1 g.2
    { s with fs := { s.fs with entries := s.fs.entries ++ [e] } }

/-- An acknowledgement of a forwarded entry. -/
def receiveDone (tag : Nat) (refused : Bool) (s : State) : State :=
  match s.fs.entries.find? fun e => e.stage = 2 && e.tag = tag with
  | some e => endEntry e refused s
  | none => s

/-- A row request of another part (R218): it goes to the FSU. -/
def receiveRequest (f : Flit) (hold : Option Nat) (s : State) : State :=
  let w := numAt f.payload 0 8
  let x := numAt f.payload 8 8
  let q : RowReq :=
    { table := f.tableOf, row := bits w 0 48, bytes := leNat (sub f.payload 16 8)
      whom := .device f.src (bits x 0 6) (bits x 6 6) f.tagOf hold, context := bits w 48 7, since := s.now, tag := f.tagOf }
  { s with fs := { s.fs with reqs := s.fs.reqs ++ [q] } }

/-- Is a data flit a request that this part answers on VC0: a row request, or a letter entry (Table 12.3)? -/
def Flit.asks (f : Flit) : Bool := f.type = 1 && (f.kind = 2 || (f.kind = 4 && f.subKind ≤ 1))

/-- Flits of the reply to a request: a row, an acknowledgement, or none before the last flit of an entry. -/
def State.replyFlits (s : State) (f : Flit) : Nat :=
  if f.kind = 2 then max 1 (ceilDiv (leNat (sub f.payload 16 8)) 224)
  else
    let old := (s.fs.partials.find? fun x => x.src = f.src && x.tag = f.tagOf && x.kind = 4).map fun x => x.bytes.length
    if old.getD 0 + f.body.length < s.entryBytes f then 0 else 1

/-- The requests in a port's receive buffer are taken in order, each once the VC0 credit of its reply is reserved (R298); the
argument bounds their number. A request whose sender is no member of the domain, as after a change of epoch, is discarded
(R300, R319). -/
def takeHeld (n : Nat) : Nat → State → State
  | 0, s => s
  | k + 1, s =>
    match (s.port n).held with
    | [] => s
    | f :: r =>
      let out := s.routeFor 0 0 f.src
      let need := s.replyFlits f
      let gone := !s.isReady || !s.admitted f.src
      let q := s.port out
      if !gone && vcLimit 0 < tget q.credits 0 0 + q.reserved + need then s
      else
        let s := oweCredits n f.vc 1 (s.updPort n fun p => { p with held := r })
        if gone then takeHeld n k s
        else
          let s := s.updPort out fun p => { p with reserved := p.reserved + need }
          let hold := if need = 0 then none else some out
          takeHeld n k (if f.kind = 2 then receiveRequest f hold s else receiveEntry f hold s)

/-- Every port's requests that can be taken now. -/
def takeAllHeld (s : State) : State :=
  (List.range 16).foldl (fun s n => takeHeld n ((s.port n).held.length) s) s

/-- A data flit for this part (Table 12.2), from a member of the domain (R300, R319). Send data stays in the receive buffer until
SEND_DATA lands it; join requests, join answers and the other feature-store messages are commands of their own. -/
def receiveData (n : Nat) (f : Flit) (s : State) : State :=
  if f.kind ≤ 1 then s.updPort n fun p => { p with landing := p.landing + 1 }
  else if f.asks then
    takeHeld n ((s.port n).held.length + 1) (s.updPort n fun p => { p with held := p.held ++ [f] })
  else
    let s := oweCredits n f.vc 1 s
    if !s.isReady || !s.admitted f.src then s
    else if f.kind = 3 then receiveRow f s
    else if f.kind = 5 then receiveDone f.tagOf (f.subKind = 1) s
    else s

/-- The content of an accepted flit. A join request is taken, and passed on, by its own command. -/
def deliverFlit (n : Nat) (f : Flit) (s : State) : State :=
  let freed := oweCredits n f.vc (vcCost f.vc f.count) s
  if f.type = 3 then s
  else if s.quarantined then freed.updPort n fun p => { p with lostFlits := satAdd 32 p.lostFlits 1 }
  else if (s.port n).state = .foreign || !s.clocked then freed
  else if f.type = 2 then receiveSync n f s
  else if f.kind = 6 then freed
  else if f.dst = s.deviceId then receiveData n f s
  else forwardFlit n f s

/-- The CRC, then the acknowledgement, NAK and credits a flit carries, then the flit in sequence order. -/
def receiveFlit (n : Nat) (bs : List Byte) (s : State) : State :=
  if 16 ≤ n || !s.running || !(s.port n).receives then s
  else if !flitOk bs then s.updPort n fun p => { p with crcErrors := bump p.crcErrors }
  else
    let h := headerOf bs
    let s := takeAllHeld (takeCredits n h.crVc h.credits (takeAck n h.ack s))
    let s := if h.nak then replayPort n s else s
    if h.type = 0 || 3 < h.type then s
    else if h.seq ≠ (s.port n).expectSeq then rejectFlit n s
    else deliverFlit n (h.flit (bs.drop 16)) (acceptFlit n h s)

/-! ### Sending (R297, R298) -/

/-- May a port send flits of queue `q` (4 for control) now? A switch that waits stops new flits on all ports but spine ports
(R301). -/
def State.maySend (s : State) (n q : Nat) : Bool :=
  let p := s.port n
  (s.fab.switching.isNone || s.isSpine n) &&
    match p.state with
    | .up => q = 4 || (s.clocked && !s.quarantined)
    | .training | .foreign | .circuitDown => q = 4
    | .dark | .passThrough | .retraining | .failed => false

/-- Credits of a channel that are not to be had for a flit: those in use, and those reserved for replies unless it is one. -/
def Port.taken (p : Port) (q : Nat) (f : Flit) : Nat :=
  tget p.credits q 0 + (if q = 0 && f.hold.isNone then p.reserved else 0)

/-- The next flit of a queue that its credits and the replay buffer let through. -/
def State.nextFlit (s : State) (n q : Nat) : Option Flit :=
  let p := s.port n
  match tget p.queues q [] with
  | [] => none
  | f :: _ =>
    if !s.maySend n q || 256 ≤ p.replay.length then none
    else if q ≠ 4 && vcLimit q < p.taken q f + vcCost q f.count then none
    else some f

/-- The returned credits that the next flit carries. -/
def Port.owed (p : Port) : Nat × Nat :=
  match p.returned.find? fun x => 0 < x.2 with
  | some x => (x.1, min 255 x.2)
  | none => (0, 0)

/-- The wire words of a flit. -/
def wireWords (bs : List Byte) : List Nat := toWords bs 32

/-- The header of a port's next flit, before what the flit itself adds: an idle flit's. -/
def State.idleHead (s : State) (p : Port) : Header :=
  { type := 0, vc := 0, seq := p.nextSeq, ack := (p.expectSeq + 4095) % 4096, nak := p.nakDue, dst := 0
    src := s.deviceId, crVc := p.owed.1, credits := p.owed.2, count := 0, hops := 0 }

/-- The header with a flit's own fields. -/
def Header.for (h : Header) (seq : Nat) (f : Flit) : Header :=
  { h with type := f.type, vc := f.vc, seq := seq, dst := f.dst, src := f.src, count := f.count, hops := f.hops }

/-- A flit has a reserved credit no longer: it uses one. -/
def useHold (f : Flit) (s : State) : State :=
  match f.hold with
  | some n => s.updPort n fun p => { p with reserved := p.reserved - 1 }
  | none => s

/-- A new flit goes out of queue `q` into the replay buffer; the receive buffer it came from is free. -/
def sendNew (n q : Nat) (f : Flit) (s : State) : State :=
  leaveBuffer f (useHold f (s.updPort n fun p => { p with
    nextSeq := (p.nextSeq + 1) % 4096, replay := p.replay ++ [{ seq := p.nextSeq, flit := f }]
    txFlits := satAdd 64 p.txFlits 1, queues := tupd p.queues q [] fun l => l.drop 1
    credits := if q = 4 then p.credits else tupd p.credits q 0 fun u => u + vcCost q f.count }))

/-- The flit at place `j` of the replay buffer goes out again; one replayed 8 times means a retrain (R297). -/
def sendAgain (n j : Nat) (x : Sent) (s : State) : State :=
  let s := s.updPort n fun p => { p with
    replay := p.replay.set j { x with times := x.times + 1 }
    resend := if j + 1 < p.replay.length then some (j + 1) else none }
  if 8 ≤ x.times + 1 then retrainPort n s else s

/-- The flit of the replay buffer that is to go out again. -/
def Port.again (p : Port) : Option (Nat × Sent) :=
  match p.resend with
  | some j => (p.replay[j]?).map fun x => (j, x)
  | none => none

/-- FLIT_SEND: a flit that is being replayed, else the next flit of a queue, else an idle flit with the acknowledgement and
credits. -/
def doFlitSend (n vc : Nat) (s : State) : State :=
  let p := s.port n
  if 16 ≤ n || !s.running || !p.receives || p.state = .retraining then s
  else
    let h := s.idleHead p
    let s := s.updPort n fun p => { p with nakDue := false, returned := tupd p.returned h.crVc 0 fun k => k - h.credits }
    match p.again with
    | some (j, x) => { sendAgain n j x s with answer := wireWords (flitBytes (h.for x.seq x.flit) x.flit.payload) }
    | none =>
      match s.nextFlit n vc with
      | none => { s with answer := wireWords (flitBytes h []) }
      | some f => { sendNew n vc f s with answer := wireWords (flitBytes (h.for p.nextSeq f) f.payload) }

/-- REPLAY_TIMEOUT: 10 µs with unacknowledged flits. -/
def doReplayTimeout (n : Nat) (s : State) : State :=
  if (s.port n).state = .up && s.running then replayPort n s else s

/-- ACK_TIMEOUT: 100 µs without an acknowledgement. -/
def doAckTimeout (n : Nat) (s : State) : State :=
  if !(s.port n).replay.isEmpty && s.running then retrainPort n s else s

/-! ### Plan changes (R301) -/

/-- The withheld release of a record is made. -/
def releaseWithheld (s : State) (i : Nat) : State :=
  let b := s.bar 2 0 i
  if !b.active || !b.withheld then s
  else
    let s := releaseBar 2 0 i (s.setBar 2 0 i { b with withheld := false })
    settleBar 2 0 i ((s.bar 2 0 i).arrived + 1) s

/-- The master's switch has completed: the releases that waited for it are made. -/
def finishReconf (s : State) : State :=
  let done := (s.fab.reconfs.filter fun r => r.2.2).map Prod.fst
  if done.isEmpty || !s.switchDone then s
  else
    done.foldl releaseWithheld { s with fab := { s.fab with reconfs := s.fab.reconfs.filter fun r => !r.2.2 } }

/-- Time has passed or flits were acknowledged: a switch that waited is made, and with it the releases that waited for it. -/
def settleSwitch (s : State) : State := finishReconf (dueSwitch s)

/-- The light of the ports is gone with the bonded banks (R319). -/
def State.portsDark (s : State) : Bool := s.lehr.state = .tripped && !s.im.lens.comb

/-- The reconfiguration slot fires: every port takes its mode in the plan. A quarantined part keeps plan 0's pass-through pairs
(R308), and one whose ports have gone dark sets none. -/
def fireReconf (plan : Nat) (s : State) : State :=
  if s.quarantined || s.portsDark then s else finishReconf (beginSwitch plan s)

/-- FLIT_RECEIVE. -/
def doFlitReceive (n : Nat) (bs : List Byte) (s : State) : State := settleSwitch (receiveFlit n bs s)

/-- RECONF: passed on down the tree; the part arms a slot, or switches at once and counts it late. -/
def doReconf (n : Nat) (m : ReconfMsg) (s : State) : State :=
  if s.isMaster || s.quarantined || !s.clocked || n ≠ s.fab.parentActive || !(s.port n).carries then s
  else
    match armReconf m.plan m.angle m.rev (toChildren 1 (reconfBytes m) s) with
    | (.refused, s) => beginSwitch m.plan { s with fab := { s.fab with reconfLate := bump s.fab.reconfLate } }
    | (_, s) => s

/-- An answered circuit is up. -/
def circuitUp (n : Nat) (s : State) : State :=
  let p := s.port n
  if p.probing || p.state = .circuitDown then
    finishReconf (s.updPort n fun p => { p with state := .up, probing := false })
  else s

/-- PROBE_TIMEOUT: a probe has had no answer for 2 µs. -/
def doProbeTimeout (n : Nat) (s : State) : State :=
  let p := s.port n
  if !p.probing || !s.running then s
  else
    let s := s.updPort n fun p => { p with state := .circuitDown, probing := false, circuitRaised := true }
    let s := { s with fab := { s.fab with stCircuit := true } }
    finishReconf (if p.circuitRaised then s else raise 0x9005 n s)

/-- PROBE_REPEAT: the probe of a circuit that is down goes out again. -/
def doProbeRepeat (n : Nat) (s : State) : State :=
  if (s.port n).state = .circuitDown && s.running then queueFlit n (probeFlit s.deviceId 4) s else s

/-! ### Training (R294, R302, R303) -/

/-- Widths of a port from the lanes that pass: the W lowest, or all where fewer pass. -/
def Port.trained (lanes rx tx : Nat) (p : Port) : Port :=
  { p with laneMap := rx % 65536, widthRx := min lanes (popCount rx 16), widthTx := min lanes (popCount tx 16) }

/-- Does a direction have fewer than FAB_MIN_LANES? -/
def State.tooNarrow (s : State) (rx tx : Nat) : Bool :=
  popCount rx 16 < s.im.fab.minLanes || popCount tx 16 < s.im.fab.minLanes

/-- A port whose far end is in another domain carries control flits only. -/
def foreignPort (n : Nat) (s : State) : State :=
  if (s.port n).state = .foreign then s else raise 0x9008 n (s.updPort n fun p => { p with state := .foreign })

/-- What training finds on one port. -/
def trainPort (x : PortTrain) (s : State) : State :=
  let s := s.updPort x.port (Port.trained s.im.fab.portLanes x.rxMask x.txMask)
  if s.tooNarrow x.rxMask x.txMask then failPort x.port 1 s
  else
    let s := (noteNarrow x.port s).updPort x.port fun p => { p with
      farDevice := x.farDevice % 2048, farPort := x.farPort % 16, delayNs := min x.delayNs 65535 }
    if x.farDomain ≠ s.im.fab.domainId then foreignPort x.port s
    else s.updPort x.port fun p => { p with state := .up, child := x.parentClaim }

/-- The work of the FABRIC stage: every port that a plan uses is lit and trained, then plan 0 applies. -/
def trainFabric (found : List PortTrain) (s : State) : State :=
  if !s.im.fab.present then s
  else
    let lit := (List.range 16).filter fun n => s.litPort n && !(s.port n).stuck
    let s := lit.foldl (fun s n => s.updPort n fun p => { p with state := .training }) s
    let s := lit.foldl (fun s n =>
      match found.find? fun x => x.port = n with
      | some x => trainPort x s
      | none => failPort n 1 s) s
    (List.range 16).foldl (setPort 0) { s with fab := { s.fab with plan := 0 } }

/-- The lanes of a newly terminated port have locked: it may be narrower than before, or too narrow (R294, R301). -/
def relockPort (n rx tx : Nat) (s : State) : State :=
  let s := s.updPort n (Port.trained s.im.fab.portLanes rx tx)
  if s.tooNarrow rx tx then finishReconf (failPort n 1 s) else noteNarrow n s

/-- A retrain has ended: the buffer is replayed, or the port fails; a mode that waited is taken (R303, R319). -/
def endRetrain (n rx tx : Nat) (s : State) : State :=
  let s := s.updPort n (Port.trained s.im.fab.portLanes rx tx)
  if s.tooNarrow rx tx then failPort n 2 s
  else
    let p := s.port n
    let s := replayPort n (noteNarrow n (s.updPort n fun p => { p with state := .up, pendingMode := none }))
    match p.pendingMode with
    | some _ => setPort s.fab.plan s n
    | none => s

/-- PORT_RETRAIN_DONE: the end of a retrain, or the lock of a port that a plan change has terminated. -/
def doPortRetrainDone (n rx tx : Nat) (s : State) : State :=
  let p := s.port n
  if !s.running then s
  else if p.state = .retraining then endRetrain n rx tx s
  else if p.state = .training && p.probing then relockPort n rx tx s
  else s

/-- The identity of this end of a circuit: first payload byte 2 (R302). -/
def identityFlit (n : Nat) (s : State) : Flit :=
  { type := 3, vc := 0, dst := 0, src := s.deviceId, hops := 0, count := 0
    payload := [2#8] ++ leBytes s.im.fab.domainId 4 ++ leBytes s.deviceId 2 ++ leBytes n 1
      ++ leBytes (flag (n = s.im.fab.parentPort)) 1 }

/-- CONTROL_FLIT: training, identity, delay and probes between the two ends of a circuit. -/
def doControlFlit (n : Nat) (m : CtlMsg) (s : State) : State :=
  if 16 ≤ n || !s.running || !(s.port n).receives then s
  else
    match m with
    | .training => s
    | .identity domain device port claim =>
      let s :=
        let s := s.updPort n fun p => { p with farDevice := device % 2048, farPort := port % 16 }
        if domain ≠ s.im.fab.domainId then foreignPort n s
        else s.updPort n fun p => { p with child := p.child || claim }
      if 5 < s.start.stage then queueFlit n (identityFlit n s) s else s
    | .delay roundTrip turnaround => s.updPort n fun p => { p with delayNs := min (roundTrip / 2 - turnaround) 65535 }
    | .probe => queueFlit n (probeFlit s.deviceId 5) s
    | .probeAnswer => circuitUp n s

/-! ### Send data (R314) -/

/-- A send that this part discards at its end: raised once for the parcel that owns the done counter (R314). -/
def refuseSend (d : SendData) (s : State) : State :=
  discardSend ((s.counter (d.cluster % 64 * 64 + d.tile % 64) d.counter).owner - 1) s

/-- A send flit leaves the receive buffer of its port (R298). -/
def leaveLanding (n : Nat) (s : State) : State :=
  if (s.port n).landing = 0 then s
  else oweCredits n 3 1 (s.updPort n fun p => { p with landing := p.landing - 1 })

/-- SEND_DATA: sectors land with their poison; the last of a firing signals the done counter. Data for a part without a
fabric reservation is discarded (R314), and so is that of a sender that is no member of the domain, as after a change of epoch
(R319). -/
def doSendData (d : SendData) (s : State) : State :=
  let s := leaveLanding d.port s
  if !s.isReady || !s.clocked || !s.admitted d.src then s
  else if d.toReservation && s.rxBytes = 0 then refuseSend d s
  else
    let s :=
      if d.toReservation then landReserved (d.cluster % 64 * 64 + d.tile % 64) d.address d.sectors s
      else landMemory d.cluster d.context d.address d.sectors s
    if !d.last then s
    else
      let m : SyncMsg :=
        { kind := 1, device := s.deviceId, cluster := d.cluster % 64, tile := d.tile % 64, index := d.counter, level := 0
          context := d.context, gen := 0, abort := false, payload := 1 }
      { s with sync := { s.sync with flight := s.sync.flight ++ [m] } }

/-- Every port fills its capture words at a sample angle (R317). -/
def fabricSample (s : State) : State :=
  (List.range 16).foldl (fun s n => s.updPort n fun p => { p with
    smpRev := s.round.rev, smpTx := p.txFlits % 2 ^ 32, smpRx := p.rxFlits % 2 ^ 32, smpReplays := p.replays
    smpRevEnd := s.round.rev }) s

/-! ### Commands -/

/-- Device time passes, and a switch whose 2 µs are over is made; one that waits is made at the first of these commands at or after
that moment (DESIGN CHOICE, assumption log, entry 107). -/
def State.fabricTime (s : State) (t : Nat) : State := settleSwitch (s.advance t)

/-- FLIT_RECEIVE. -/
def execFlitReceive (t port : Nat) (bytes : List Byte) (s : State) : Host.Outcome State Fault Refusal :=
  .next (doFlitReceive port bytes (s.fabricTime t))

/-- FLIT_SEND. -/
def execFlitSend (t port vc : Nat) (s : State) : Host.Outcome State Fault Refusal := .next (doFlitSend port vc (s.fabricTime t))

/-- REPLAY_TIMEOUT. -/
def execReplayTimeout (t port : Nat) (s : State) : Host.Outcome State Fault Refusal :=
  .next (doReplayTimeout port (s.fabricTime t))

/-- ACK_TIMEOUT. -/
def execAckTimeout (t port : Nat) (s : State) : Host.Outcome State Fault Refusal :=
  .next (doAckTimeout port (s.fabricTime t))

/-- PORT_RETRAIN_DONE. -/
def execPortRetrainDone (t port rxMask txMask : Nat) (s : State) : Host.Outcome State Fault Refusal :=
  .next (doPortRetrainDone port rxMask txMask (s.fabricTime t))

/-- CONTROL_FLIT. -/
def execControlFlit (t port : Nat) (m : CtlMsg) (s : State) : Host.Outcome State Fault Refusal :=
  .next (doControlFlit port m (s.fabricTime t))

/-- PROBE_TIMEOUT. -/
def execProbeTimeout (t port : Nat) (s : State) : Host.Outcome State Fault Refusal :=
  .next (doProbeTimeout port (s.fabricTime t))

/-- PROBE_REPEAT. -/
def execProbeRepeat (t port : Nat) (s : State) : Host.Outcome State Fault Refusal :=
  .next (doProbeRepeat port (s.fabricTime t))

/-- RECONF. -/
def execReconf (t port : Nat) (m : ReconfMsg) (s : State) : Host.Outcome State Fault Refusal :=
  .next (doReconf port m (s.fabricTime t))

/-- SEND_DATA. -/
def execSendData (t : Nat) (d : SendData) (s : State) : Host.Outcome State Fault Refusal := .next (doSendData d (s.fabricTime t))

end Sys2Proof.Machine
end

