-- ==== Sys2Proof/Machine/Domain.lean ====
section
/-! DEFINITION. Domains (R304 to R312): joining, quarantine, beacons, members, and the loss and return of the master. -/

namespace Sys2Proof.Machine

/-- A start stage begins (R86, R107). -/
def setStage (n : Nat) (s : State) : State :=
  { s with start := { s.start with stage := n, stageTime := tset s.start.stageTime n s.devCount } }

/-- Does a part take domain traffic of this stage and later (R321)? -/
def State.inDomain (s : State) (stage : Nat) : Bool :=
  s.clocked && s.im.fab.present && !s.quarantined && stage ≤ s.start.stage && s.start.stage ≤ 9

/-- Do beacons act: from the ROUND stage on (R321), in a part that is not quarantined? -/
def State.inDomainTime (s : State) : Bool :=
  s.running && !s.quarantined && 6 ≤ s.start.stage && s.start.stage ≤ 9

/-! ### Quarantine (R308) -/

/-- The flits that wait at the ports of a part that is quarantined are not sent. -/
def dropQueues (s : State) : State :=
  let fs := s.fab.ports.flatMap fun p => p.2.waiting
  fs.foldl (fun s f => leaveBuffer f s)
    { s with fab := { s.fab with
      ports := s.fab.ports.map fun p => (p.1, { p.2 with queues := p.2.queues.filter fun q => q.1 = 4, held := [] }) } }

/-- Plan 0 is set again, with its pass-through pairs (R308). -/
def planZero (s : State) : State :=
  if s.fab.plan = 0 && s.fab.switching.isNone then s
  else
    let s := (List.range 16).foldl (setPort 0) s
    { s with fab := { s.fab with plan := 0, switching := none } }

/-- Enter QUARANTINED: the governor idles, light is off, the doors are closed, and no data or sync flit is sent. -/
def quarantine (cause code : Nat) (s : State) : State :=
  let s := raise0 code { s with fab := { s.fab with role := 3, quarCause := cause, joining := false, waitAdopt := false } }
  let s := planZero (dropQueues s)
  let s := darkenLens (quarantineLehr (setStage 12 s))
  { s with part := { s.part with doorsOpen := false } }

/-! ### Joining (R306) -/

/-- JOIN_REQUEST_TIMER: 10 ms without an answer. -/
def doJoinRequestTimer (s : State) : State := if s.fab.joining && s.inDomain 7 then requestJoin s else s

/-- The result code of a join request at the master (Table 12.5). -/
def State.joinCode (s : State) (m : JoinReq) : Nat :=
  let held := if m.device = s.deviceId then some s.nv.serial
    else (s.fab.members.find? fun x => x.device = m.device).map Member.serial
  if m.digest ≠ s.fab.digest then 1
  else if s.im.fab.domainSize ≤ m.device then 2
  else if held.isSome && held ≠ some m.serial then 3
  else 0

/-- The three flits of a join answer (R296): result code, domain epoch and membership generation, then the bitmap; each echoes the
request's tag. -/
def sendAnswer (device tag code : Nat) (s : State) : State :=
  let head := dfHead 0 0 7 0 0 0 0 0 tag
  let flit := fun (count : Nat) (body : List Byte) =>
    ({ type := 1, vc := 0, dst := device, src := s.deviceId, hops := 0, count := count, payload := head ++ body } : Flit)
  let port := s.routeFor 0 0 device
  let map := leBytes s.fab.memberMap 256
  queueFlit port (flit 4 (map.drop 128)) (queueFlit port (flit 4 (map.take 128))
    (queueFlit port (flit 1 (leBytes code 4 ++ leBytes s.fab.epoch 4 ++ leBytes s.fab.memberGen 4)) s))

/-- The master admits a part and tells the domain. -/
def admitMember (m : JoinReq) (s : State) : State :=
  let s := { s with fab := { s.fab with
    memberGen := (s.fab.memberGen + 1) % 65536, memberMap := setBit s.fab.memberMap m.device
    members := s.fab.members.filter (fun (x : Member) => x.device ≠ m.device) ++ [⟨m.device, m.serial⟩] } }
  tellMember m.device 1 m.serial s

/-- A join request has come in on a port: the port leads to its device, and a requester at the far end is a child
(R299, R300). -/
def noteRequest (n : Nat) (m : JoinReq) (s : State) : State :=
  let s := { s with fab := { s.fab with
    down := tset s.fab.down m.device n
    relayed := s.fab.relayed.filter (fun (r : JoinReq) => r.device ≠ m.device) ++ [m] } }
  s.updPort n fun p => { p with child := true, parentClaimed := p.parentClaimed || !p.child }

/-- JOIN_REQUEST: a relay records it and passes it on, the master answers; a request that would take an eighth hop is
discarded (R304). -/
def doJoinRequest (n : Nat) (m : JoinReq) (s : State) : State :=
  if !s.inDomain 7 || !(s.port n).carries then s
  else if s.isMaster then
    let s := noteRequest n m s
    let code := s.joinCode m
    sendAnswer m.device m.tag code (if code = 0 then admitMember m s else s)
  else if n = s.fab.parentActive || 7 ≤ m.hops + 1 then s
  else sendJoin { m with hops := m.hops + 1 } (noteRequest n m s)

/-- JOIN_ANSWER: the part is admitted, its bitmap refreshed, or it is quarantined. -/
def doJoinAnswer (m : JoinAns) (s : State) : State :=
  if s.isMaster || s.alone || m.device ≠ s.deviceId || !s.inDomain 7 then s
  else if m.code = 0 then
    dropStrangers { s with fab := { s.fab with
      epoch := m.epoch % 2 ^ 32, memberMap := m.bitmap % 2 ^ 2048, memberGen := m.memberGen % 65536, joining := false
      waitAdopt := s.fab.waitAdopt || s.fab.joining, genMismatch := 0 } }
  else if m.code = 1 then quarantine 1 0x9001 s
  else quarantine m.code 0x9004 s

/-- The loss of the master is over: releases resume, and the governor may go on (R312). -/
def endLoss (s : State) : State :=
  armAll (masterBack { s with fab := { s.fab with masterPresent := true, lostRaised := false } })

/-- The adoption that completes a join (R306). -/
def joinAdopted (s : State) : State :=
  if !s.fab.waitAdopt then s
  else endLoss { s with fab := { s.fab with waitAdopt := false, joined := true, rejoin := false } }

/-! ### Beacons (R310, R312) -/

/-- BEACON_TIMER: the master's beacon, every 100 µs. -/
def doBeaconTimer (s : State) : State :=
  if !s.isMaster || s.alone || !s.inDomain 6 then s
  else
    let b := beaconBytes { master := s.deviceId, epoch := s.fab.epoch, memberGen := s.fab.memberGen, masterTime := s.devCount }
    (List.range 16).foldl (fun s n => if (s.port n).carries then sendSyncOn n 1 b s else s) s

/-- The master has restarted (R312): parcels end, replicas go, and the part joins again. -/
def changeEpoch (s : State) : State :=
  let s := raise0 0x9003 { s with fab := { s.fab with
    stEpoch := true, rejoin := true, joining := true, joined := false, waitAdopt := false } }
  let running := s.part.parcels.filter fun p => !p.waiting || p.state = .loading
  let s := running.foldl (fun s p => endCore p.id 6 0x9003 0 s) s
  let s := refuseAll 13 s
  requestJoin (dropForeign s)

/-- A beacon of another generation twice in a row: the part asks for the bitmap again (R310). -/
def noteGen (gen : Nat) (s : State) : State :=
  if gen = s.fab.memberGen then { s with fab := { s.fab with genMismatch := 0 } }
  else if s.fab.genMismatch = 0 then { s with fab := { s.fab with genMismatch := 1 } }
  else requestJoin { s with fab := { s.fab with genMismatch := 0 } }

/-- The epoch that a beacon is held against (R312): the part's own once the master has answered it; while it joins again, that of
the beacon before; none before its first answer. -/
def FabSt.knownEpoch (f : FabSt) : Option Nat :=
  if f.joined || f.waitAdopt then some f.epoch else if f.rejoin then f.beaconEpoch else none

/-- What a beacon of the present or another epoch means to a part that is not the master. -/
def takeBeacon (m : BeaconMsg) (s : State) : State :=
  let known := s.fab.knownEpoch
  let s := { s with fab := { s.fab with lastBeacon := s.now, beaconEpoch := some m.epoch, altTried := false } }
  if known.isSome && known ≠ some m.epoch then changeEpoch s
  else if s.fab.rejoin then s
  else
    let s := if s.fab.lostRaised then endLoss s else { s with fab := { s.fab with masterPresent := true } }
    if s.fab.joined then noteGen m.memberGen s else s

/-- BEACON: from the active parent port it is passed on and taken; at the master one of its own name means a duplicate
(R307). -/
def doBeacon (n : Nat) (m : BeaconMsg) (s : State) : State :=
  if !s.inDomain 6 || !(s.port n).carries then s
  else if s.isMaster then (if m.master = s.deviceId then quarantine 4 0x900C s else s)
  else if n ≠ s.fab.parentActive then s
  else takeBeacon m (toChildren 1 (beaconBytes m) s)

/-! ### Members (R311) -/

/-- MEMBER: a change from the master goes down the tree; the loss of a part below a relay goes up to the master. -/
def doMember (n : Nat) (m : MemberMsg) (s : State) : State :=
  if !s.inDomain 6 || !(s.port n).carries then s
  else if m.change = 3 then
    if s.isMaster then removeMember m.device s else sendSyncOn s.fab.parentActive 1 (memberBytes m) s
  else if s.isMaster || n ≠ s.fab.parentActive then s
  else
    let s := toChildren 1 (memberBytes m) { s with fab := { s.fab with memberGen := m.gen % 65536 } }
    if m.change = 1 then { s with fab := { s.fab with memberMap := setBit s.fab.memberMap m.device } }
    else if m.change = 2 then dropMember m.device s
    else s

/-! ### Loss of the master (R311) -/

/-- The master is lost. -/
def loseMaster (s : State) : State :=
  let s := raise0 0x9002 { s with fab := { s.fab with
    lostRaised := true, masterLostCount := bump s.fab.masterLostCount, stMasterLost := true, masterPresent := false } }
  masterLost (dropForeign s)

/-- MASTER_TIMEOUT: no beacon for FAB_MASTER_TIMEOUT_MS, since the ROUND stage where none has come yet. -/
def doMasterTimeout (s : State) : State :=
  if s.isMaster || !s.im.fab.present || !s.inDomainTime || s.fab.lostRaised
      || s.now < s.fab.lastBeacon + s.im.fab.masterTimeoutMs * 1000000 then s
  else
    match tryAlternate s with
    | (true, s) => s
    | (false, s) => loseMaster s

/-! ### Commands -/

/-- JOIN_REQUEST_TIMER. -/
def execJoinRequestTimer (t : Nat) (s : State) : Host.Outcome State Fault Refusal :=
  .next (doJoinRequestTimer (s.advance t))

/-- JOIN_REQUEST. -/
def execJoinRequest (t port : Nat) (m : JoinReq) (s : State) : Host.Outcome State Fault Refusal :=
  .next (doJoinRequest port m (s.advance t))

/-- JOIN_ANSWER. -/
def execJoinAnswer (t : Nat) (m : JoinAns) (s : State) : Host.Outcome State Fault Refusal :=
  .next (doJoinAnswer m (s.advance t))

/-- BEACON_TIMER. -/
def execBeaconTimer (t : Nat) (s : State) : Host.Outcome State Fault Refusal := .next (doBeaconTimer (s.advance t))

/-- BEACON. -/
def execBeacon (t port : Nat) (m : BeaconMsg) (s : State) : Host.Outcome State Fault Refusal :=
  .next (doBeacon port m (s.advance t))

/-- MEMBER. -/
def execMember (t port : Nat) (m : MemberMsg) (s : State) : Host.Outcome State Fault Refusal :=
  .next (doMember port m (s.advance t))

/-- MASTER_TIMEOUT. -/
def execMasterTimeout (t : Nat) (s : State) : Host.Outcome State Fault Refusal := .next (doMasterTimeout (s.advance t))

end Sys2Proof.Machine
end

