-- ==== Sys2Proof/Machine/Round.lean ====
section
/-! DEFINITION. The Round (R28 to R61, R398): edges and their classes, the reference tooth period, the state machine, the
micro-tick counter, samples, slot firings, adoption, markers and the device-time angle. -/

namespace Sys2Proof.Machine

def State.setRound (r : RoundSt) (s : State) : State := { s with round := r }

/-! ### Samples (R54) -/

/-- Memory channels and franking regulators fill their capture words (R262, R258). -/
def memSample (s : State) : State :=
  (List.range 64).foldl (fun s c => s.updChan c fun ch => { ch with
    smp := { rev := s.round.rev, rd := ch.rdBytes % 2 ^ 32, wr := ch.wrBytes % 2 ^ 32, ce := ch.ce, ue := ch.ue
             revEnd := s.round.rev } }) s

def regSample (s : State) : State :=
  (List.range 32).foldl (fun s p => { s with mem := { s.mem with regs := tupd s.mem.regs p {} fun r => { r with
    smpRev := s.round.rev, smpBytes := r.bytes % 2 ^ 32, smpHeldUs := min (r.heldNs / 1000) (fieldMax 32)
    smpRevEnd := s.round.rev } } }) s

/-- Every subscriber of the mask captures, and the stamp registers are written (Table 2.4). -/
def captureSample (i mask : Nat) (s : State) : State :=
  let s := powerSample i mask s
  let s := if bit mask 2 then fsSample i s else s
  let s := if bit mask 3 then memSample s else s
  let s := if bit mask 4 then regSample s else s
  let s := if bit mask 5 then lensSample i s else s
  let s := if bit mask 6 then fabricSample s else s
  let s := if bit mask 7 then syncSample i s else s
  s.setRound { s.round with samples := tset s.round.samples i (s.round.rev, s.now) }

/-- A sample angle is skipped: each subscriber whose record carries a skip count raises it. -/
def skipSample (i mask : Nat) (s : State) : State :=
  let s := if bits mask 0 2 = 0 then s
    else s.setLehr { s.lehr with samples := tupd s.lehr.samples i {} fun r => { r with skips := bump r.skips } }
  let s := if bit mask 2 then { s with fs := { s.fs with
      samples := tupd s.fs.samples i {} fun r => { r with skips := bump r.skips } } } else s
  let s := if bit mask 5 then (List.range 32).foldl (fun s n => s.updEngine n fun e => { e with
      samples := tupd e.samples i {} fun r => { r with skips := bump r.skips } }) s else s
  if bit mask 7 then { s with sync := { s.sync with
    samples := tupd s.sync.samples i {} fun r => { r with skips := bump r.skips } } } else s

/-- Do `f` for every sample angle at angle `a`: its number and mask. -/
def atSamples (f : Nat → Nat → State → State) (a : Nat) (s : State) : State :=
  (List.range s.im.round.samples.length).foldl (fun s i =>
    let x := s.im.round.samples.getD i (65536, 0)
    if x.1 = a then f i x.2 s else s) s

/-! ### The end of a revolution -/

/-- What 0.0 does beside samples and slots (R62, R228, R338), on the Round or on device time: the shard counts are latched,
idle partitions and running parcels count it, and each fault of once per revolution may be raised again. -/
def endRevolution (s : State) : State :=
  let s := countIdle (latchShards s)
  let parcels := s.part.parcels.map fun (p : Parcel) =>
    if p.state = .running || p.state = .loading then { p with revs := p.revs + 1 } else p
  { s with
    part := { s.part with
      parcels := parcels, contexts := s.part.contexts.map fun c => (c.1, { c.2 with reportLostRaised := false }) }
    sync := { s.sync with csus := s.sync.csus.map fun c => (c.1, { c.2 with dropRaised := false }) }
    mem := { s.mem with chans := s.mem.chans.map fun c => (c.1, { c.2 with ueRaised := [] }) }
    lens := { s.lens with engines := s.lens.engines.map fun e => (e.1, { e.2 with ovrRaised := false }) }
    lehr := { s.lehr with oobRaised := false, shortfallRaised := false } }

/-- Does the Lens block ask for slot 12 now: its drive runs, the revolution is a multiple of LENS_CAL_EVERY_REV, and it holds no
slot (R280)? -/
def State.calibrates (s : State) : Bool :=
  let busy := [12, 13, 14, 15].any fun n => (s.evSlot n).state = .armed || (s.evSlot n).state = .timing
  s.lens.lit && s.clocked && !busy && s.round.rev % s.im.lens.calEvery = 0

/-- The Lens block arms slot 12 in revolutions that are multiples of LENS_CAL_EVERY_REV (R280). -/
def armCalibration (s : State) : State :=
  if !s.calibrates then s
  else (requestSlot { owner := 3, angle := s.im.lens.calAngle, offset := 0, rev := 0, next := true, tag := 0 } s).2

/-! ### Slots fire (R50) -/

/-- The owner acts at a firing. -/
def ownerActs (e : EvSlot) (s : State) : State :=
  if e.owner = 0 then fireLehr s
  else if e.owner = 1 then fireRelease e.tag s
  else if e.owner = 2 then fireReconf e.tag s
  else if e.owner = 3 then fireCalibration s
  else s

/-- A slot fires: it returns to FREE, and its owner acts. -/
def fireSlot (n : Nat) (s : State) : State :=
  let e := s.evSlot n
  ownerActs e (releaseSlot n (s.setRound { s.round with fired := bump s.round.fired }))

/-- An armed slot's angle is reached: it passes to TIMING, and with offset 0 it fires at once. -/
def reachSlot (s : State) (n : Nat) : State :=
  let e := s.evSlot n
  let s := s.setSlot n { e with state := .timing, fireAt := s.now }
  if e.offset = 0 then fireSlot n s else s

/-- Slots armed for the present revolution and angle `a`, ascending. -/
def State.slotsAt (s : State) (a : Nat) : List Nat :=
  (s.round.slots.filter fun p => p.2.state = .armed && p.2.angle = a && p.2.due = s.round.rev).map Prod.fst

/-- The moment at which a slot in TIMING fires (R50). -/
def EvSlot.expiry (e : EvSlot) : Nat := e.fireAt + e.offset * 1000

/-- Slots up to number `n` whose offsets expire on the nanosecond at which slot `n` fires, ascending (R60). -/
def State.slotsWith (s : State) (n : Nat) : List Nat :=
  (s.round.slots.filter fun p =>
    p.1 ≤ n && p.2.state = .timing && p.2.expiry = (s.evSlot n).expiry).map Prod.fst

/-- EVENT_SLOT_FIRE: device time has reached the recorded moment plus the offset; lower slots that expire on the same nanosecond
fire first (R60). -/
def doEventSlotFire (n : Nat) (s : State) : State :=
  let e := s.evSlot n
  if s.running && e.state = .timing && e.expiry ≤ s.now then (s.slotsWith n).foldl (fun s k => fireSlot k s) s else s

/-! ### The counter (R41 to R43) -/

/-- ROUND_OUT_P/N in regenerate mode: high for 128 ticks from each n.0 in SYNC (R35). -/
def driveOut (level : Bool) (s : State) : State :=
  if s.im.round.outMode = 1 then { s with pins := { s.pins with roundOut := level } } else s

/-- Everything at angle `a`, in the order of R60. -/
def takeAngle (a : Nat) (s : State) : State :=
  let s := s.setRound { s.round with angle := a }
  let s := if a % 256 = 128 && a / 256 ≤ 253 then driveOut false s else s
  let s := atSamples captureSample a s
  let s := if a = 0 then endRevolution s else s
  let s := moveDeferred a s
  (s.slotsAt a).foldl reachSlot s

/-- The last angle before the next edge. -/
def RoundSt.haltAngle (r : RoundSt) : Nat := if r.position = 253 then 65535 else r.position * 256 + 255

/-- Corrected time since the last edge, in 1/65536 ns. -/
def State.sinceEdge (s : State) (now : Int) : Nat := (now - s.round.lastEdge.getD now).toNat * 65536

/-- Is the next tick's moment before `units` after the edge? -/
def State.tickBefore (s : State) (units : Nat) : Bool :=
  s.round.angle < s.round.haltAngle && (s.round.angle + 1 - s.round.position * 256) * s.refPeriod < units

/-- Take ticks for as long as their moments lie before `units` after the edge; the first argument bounds them. -/
def runTicks : Nat → Nat → State → State
  | 0, _, s => s
  | n + 1, units, s => if s.tickBefore units then runTicks n units (takeAngle (s.round.angle + 1) s) else s

/-- Take the angles up to the one where the counter halts. -/
def runToHalt : Nat → State → State
  | 0, s => s
  | n + 1, s =>
    if s.round.angle < s.round.haltAngle then runToHalt n (takeAngle (s.round.angle + 1) s) else s

/-- MICRO_TICK: one tick at the reference rate. -/
def doMicroTick (s : State) : State :=
  if s.running && s.angleValid && s.tickBefore (s.sinceEdge s.now + 1) then takeAngle (s.round.angle + 1) s else s

/-- A halt that has lasted a tick period by the corrected time `stamp` is counted (R43). -/
def countHalt (stamp : Int) (s : State) : State :=
  let r := s.round
  let span := r.haltAngle + 1 - r.position * 256
  if r.haltAngle ≤ r.angle && (span + 1) * s.refPeriod ≤ s.sinceEdge stamp then
    s.setRound { r with halts := bump r.halts }
  else s

/-! ### The device-time angle (R398) -/

/-- Is the next tick of the device-time angle due? -/
def State.devTickDue (s : State) : Bool :=
  s.round.state != .reset && s.round.state != .sync && s.round.devBase + s.refPeriod ≤ s.now * 65536

/-- One tick of the device-time angle: skipped samples, and the end of a revolution at 0.0. -/
def devTick (s : State) : State :=
  let a := (s.round.devAngle + 1) % 65536
  let s := s.setRound { s.round with devAngle := a, devBase := s.round.devBase + s.refPeriod }
  let s := atSamples skipSample a s
  if a = 0 then endRevolution s else s

/-- Take the ticks that are due; the first argument bounds them. -/
def runDevTicks : Nat → State → State
  | 0, s => s
  | n + 1, s => if s.devTickDue then runDevTicks n (devTick s) else s

/-- More ticks than the longest stall timeout holds: 64 teeth at four times the nominal period. -/
def devTickBound : Nat := 2 ^ 17

/-- DEVICE_TIME_ANGLE_TICK. -/
def doDeviceTimeAngleTick (s : State) : State := if s.running && s.devTickDue then devTick s else s

/-- The reference changes (none: cleared): the tick under way keeps the share of it that has passed. -/
def setReference (ref : Option Nat) (s : State) : State :=
  let old := s.refPeriod
  let s := runDevTicks devTickBound s
  let s := s.setRound { s.round with refCommitted := ref.isSome, refPeriod := ref.getD 0, seek := [] }
  if s.round.state = .sync then s
  else
    s.setRound { s.round with
      devBase := s.now * 65536 - (s.now * 65536 - s.round.devBase) * s.refPeriod / max old 1 }

/-! ### Learning (R37, R38) -/

/-- The nominal tooth period in 1/256 ns. -/
def State.nominal (s : State) : Nat := s.im.round.periodUs * 1000

/-- Is a candidate outside RND_PERIOD_TOL_PCT of nominal? -/
def State.mismatched (s : State) (cand : Nat) : Bool :=
  s.im.round.tolPct * s.nominal < (((cand : Int) - s.nominal).natAbs) * 100

/-- A candidate outside the tolerance: 0x1005 once per stay. -/
def noteMismatch (s : State) : State :=
  let again := s.round.mismatchRaised
  let s := s.setRound { s.round with stMismatch := true, mismatchRaised := true }
  if again then s else raise0 0x1005 s

/-- In SEEK: collect a tooth-class interval, and commit the mean of 16 that agree. -/
def seekCollect (iv : Nat) (s : State) : State :=
  let w := (s.round.seek ++ [iv]).drop (s.round.seek.length + 1 - 16)
  let s := s.setRound { s.round with seek := w }
  let sum := w.sum
  if w.length < 16 || 2 * sum < (w.foldl max 0 - w.foldl min (w.headD 0)) * 1600 then s
  else if s.mismatched (sum * 16) then noteMismatch s
  else setReference (some (sum * 16)) s

/-- Does an interval, given as `n` tooth periods, lie within 2 % of the candidate? -/
def within2 (iv n cand : Nat) : Bool := ((iv * 256 : Int) - (n * cand : Nat)).natAbs * 50 ≤ n * cand

/-- In SYNC at tooth 0: the candidate, from the interval of the whole revolution in ns, is committed or refused. -/
def learn (stamp : Int) (gap : Nat) (s : State) : State :=
  let cand := (stamp - s.round.tooth0.getD stamp).toNat
  let agrees := within2 s.round.revMin 1 cand && within2 s.round.revMax 1 cand && within2 gap 3 cand
  let refused := fun (s : State) => s.setRound { s.round with learnRefused := bump s.round.learnRefused }
  if s.mismatched cand then refused (noteMismatch s)
  else if agrees then s.setRound { s.round with refPeriod := cand }
  else refused s

/-! ### Markers and adoption (R34, R46) -/

/-- The master's marker at a tooth of its own in SYNC, on every port that carries traffic, in a domain of one with FAB_CORE too
(R34, R310). An edge that has a position in CONFIRM emits none (DEDUCED, assumption log, entry 90). -/
def emitMarkers (s : State) : State :=
  if !s.isMaster || !s.inDomain 6 then s
  else
    let m := markBytes { master := s.deviceId, tooth := s.round.position, delayNs := 0, hops := 0, rev := s.round.rev
                         epoch := s.round.epoch }
    (List.range 16).foldl (fun s n =>
      if (s.port n).carries then sendSyncOn n (if s.round.position = 0 then 2 else 1) m s else s) s

/-- The nearest whole number of revolutions in `d` ns, a tie to the even one (R46, R190). -/
def wholeRevs (d : Int) (ref : Nat) : Int :=
  let n : Int := divRne d.natAbs ref
  if d < 0 then -n else n

/-- The master's present revolution counter, from its latest tooth-0 marker. -/
def Marker.present (m : Marker) (tooth0 : Int) (ref : Nat) : Nat :=
  (((m.rev : Int) + wholeRevs (tooth0 - m.stamp) ref) % 2 ^ 32).toNat

/-- Adoption at tooth 0, and the end of a join that waited for it. -/
def adopt (stamp : Int) (s : State) : State :=
  match s.round.marker with
  | none => s
  | some m =>
    if s.isMaster then s
    else
      let rev := m.present stamp s.refPeriod
      let shift := fun (n : Nat) => (n + rev + 2 ^ 32 - s.round.rev) % 2 ^ 32
      let s := s.setRound { s.round with
        rev := rev, epoch := m.epoch, adopted := true
        slots := s.round.slots.map fun (p : Nat × EvSlot) =>
          (p.1, if p.2.state = .armed then { p.2 with rev := shift p.2.rev, due := shift p.2.due } else p.2)
        deferred := s.round.deferred.map fun (d : Deferred) => { d with rev := shift d.rev } }
      joinAdopted s

/-! ### In SYNC -/

/-- A refused request that had been put off: a missed or waiting release (R335, R336), or a switch at once (R301). -/
def requestRefused (q : ArmReq) (s : State) : State :=
  if q.owner = 1 then
    match s.part.parcels.find? fun p => p.state = .requested && p.id = q.tag with
    | some p => missParcel p.id s
    | none => s
  else if q.owner = 2 then
    fireReconf q.tag { s with fab := { s.fab with reconfLate := bump s.fab.reconfLate } }
  else s

/-- The requests made during a move are taken in their order (R49). -/
def takeWaiting (s : State) : State :=
  let qs := s.round.waiting
  qs.foldl (fun s q =>
    match takeRequest q s with
    | (.refused, s) => requestRefused q s
    | (_, s) => s) (s.setRound { s.round with jumping := false, waiting := [] })

/-- The edge at corrected time `stamp` marks n.0: adoption first, then everything at the angle, then the ticks that have
already passed at the arrival (R31). -/
def newTooth (stamp : Int) (s : State) : State :=
  let s := if s.round.position = 0 then adopt stamp s else s
  let s := emitMarkers (takeAngle (s.round.position * 256) (driveOut true s))
  runTicks 1024 (s.sinceEdge s.now + 1) s

/-- A valid edge: the next interval runs from it. -/
def markEdge (stamp : Int) (iv : Nat) (s : State) : State :=
  s.setRound { s.round with lastEdge := some stamp, lastArrival := s.now, lastInterval := min iv 0xFFFFFFFF }

/-- After 0.0 in SYNC and the requests made at it, the Lens block arms its slot. -/
def closeMove (s : State) : State :=
  let s := takeWaiting s
  if s.round.position = 0 then armCalibration s else s

/-- 0.0 at corrected time `stamp` as a device time, a multiple of 20 ns (R32, R45). -/
def epochOf (stamp : Int) : Nat := stamp.toNat / 20 * 20

/-- Entry to SYNC (R45, R51). RND_SYNC_DEVTIME takes the corrected timestamp of the edge, 0 where it is negative (DESIGN CHOICE,
assumption log, entry 91). -/
def enterSync (stamp : Int) (s : State) : State :=
  let s := s.setRound { s.round with
    state := .sync, position := 0, angle := 0, rev := 0, epoch := if s.isMaster then epochOf stamp else 0
    adopted := if s.isMaster then s.round.adopted else false
    syncDevtime := stamp.toNat, tooth0 := some stamp, revMin := 0, revMax := 0, mismatchRaised := false
    slots := s.round.slots.map fun (p : Nat × EvSlot) =>
      (p.1, if p.2.state = .cancelled then { p.2 with state := .free } else p.2)
    synced := true, jumping := true }
  armAll (roundBack (closeMove (newTooth stamp s)))

/-- A tooth in SYNC where it is expected: the counter jumps if it has not halted, and the edge marks the next angle. -/
def syncEdge (stamp : Int) (iv : Nat) (gap : Bool) (s : State) : State :=
  let s := runTicks 1024 (s.sinceEdge s.now) s
  let r := s.round
  let s := if r.angle < r.haltAngle then s.setRound { r with jumps := bump r.jumps } else countHalt stamp s
  let s := runToHalt 1024 (s.setRound { s.round with jumping := true })
  let s :=
    if gap then
      let s := learn stamp iv s
      let wrap := s.round.rev = 0xFFFFFFFF
      s.setRound { s.round with
        rev := if wrap then 0 else s.round.rev + 1
        epoch := if wrap && s.isMaster then epochOf stamp else s.round.epoch
        position := 0, tooth0 := some stamp, revMin := 0, revMax := 0 }
    else
      s.setRound { s.round with
        position := s.round.position + 1
        revMin := if s.round.position = 0 then iv else min s.round.revMin iv
        revMax := max s.round.revMax iv }
  closeMove (newTooth stamp (markEdge stamp iv s))

/-- An armed slot on leaving SYNC. -/
def cancelSlot (s : State) (n : Nat) : State :=
  raise 0x1004 n ((s.setSlot n { s.evSlot n with state := .cancelled }).setRound
    { (s.setSlot n { s.evSlot n with state := .cancelled }).round with
      cancelled := bump s.round.cancelled, stCancel := true })

/-- Leaving SYNC for LOST or STALL (R40, R48, R51, R398). -/
def leaveSync (to' : RndState) (s : State) : State :=
  let armed := (s.round.slots.filter fun (p : Nat × EvSlot) => p.2.state = .armed).map Prod.fst
  let out := driveOut false s
  let s := armed.foldl cancelSlot (out.setRound { out.round with state := to' })
  let parcels := s.part.parcels.map fun (p : Parcel) => if p.state = .requested then { p with state := .waitSync } else p
  let s := roundLost { s with part := { s.part with parcels := parcels } }
  let last0 := (s.round.tooth0.getD 0).toNat
  runDevTicks devTickBound (s.setRound { s.round with
    deferred := [], devAngle := s.round.angle, devBase := last0 * 65536 + s.round.angle * s.refPeriod })

/-- The counts and status bits of an entry to LOST or STALL (R40). -/
def noteLoss (s : State) : State :=
  s.setRound { s.round with losses := bump s.round.losses, stLost := true }

def noteStall (s : State) : State :=
  s.setRound { s.round with stalls := bump s.round.stalls, stStall := true }

/-! ### The ring (R56) -/

/-- One entry of the tooth-period ring. -/
def ringWrite (interval tooth cls : Nat) (s : State) : State :=
  s.setRound { s.round with
    ring := tset s.round.ring s.round.ringIdx
      { interval := min interval 0xFFFFFFFF, tooth := tooth, cls := cls, rev := s.round.rev % 65536 }
    ringIdx := (s.round.ringIdx + 1) % 1024 }

/-! ### The state machine (Table 2.2) -/

/-- Class of an interval of `iv` ns (Table 2.1): 0 tooth, 1 gap, 2 glitch, 3 unexpected gap. -/
def State.classOf (s : State) (iv : Nat) : Nat :=
  let i := iv * 256
  if 2 * i < s.refPeriod then 2
  else if 4 * i < 9 * s.refPeriod then 0
  else if 4 * i ≤ 15 * s.refPeriod then 1
  else 3

/-- Enter SEEK: a new stay. -/
def enterSeek (s : State) : State := s.setRound { s.round with state := .seek, seek := [], mismatchRaised := false }

/-- Enter CONFIRM at a gap: the ending edge is position 0. -/
def enterConfirm (s : State) : State := s.setRound { s.round with state := .confirm, position := 0, confirmCount := 0 }

/-- A valid edge outside SYNC; with the position assigned to it. -/
def learnEdge (stamp : Int) (iv cls : Nat) (s : State) : Nat × State :=
  let r := s.round
  match r.state with
  | .seek =>
    if !r.refCommitted then
      (0xFF, if cls = 0 then seekCollect iv s else s.setRound { r with seek := [] })
    else if cls = 1 then (0, enterConfirm s)
    else if cls = 3 then (0xFF, setReference none s)
    else (0xFF, s)
  | .confirm =>
    if cls = 0 && r.position < 253 then (r.position + 1, s.setRound { r with position := r.position + 1 })
    else if cls = 1 && r.position = 253 then
      if r.confirmCount = 0 then (0, s.setRound { r with confirmCount := 1, position := 0 })
      else (0, enterSync stamp s)
    else (0xFF, enterSeek s)
  | .lost =>
    if cls = 1 then (0, enterConfirm s)
    else if cls = 3 then (0xFF, enterSeek (setReference none s))
    else (0xFF, s)
  | .reset | .sync | .stall => (0xFF, s)

/-- A misplaced gap or a missing one in SYNC (Table 2.9). -/
def loseSync (stamp : Int) (iv cls : Nat) (s : State) : State :=
  let s := countHalt stamp (runTicks 1024 (s.sinceEdge s.now) s)
  leaveSync .lost (noteLoss (raise0 (if cls = 0 then 0x1002 else 0x1001) (markEdge stamp iv s)))

/-- STALL_TIMEOUT: no valid edge for RND_STALL_TEETH reference periods (R36, R39). -/
def doStallTimeout (s : State) : State :=
  let r := s.round
  let may := match r.state with
    | .seek | .confirm | .sync | .lost => true
    | .reset | .stall => false
  if !s.running || !may || s.im.round.source = 0
      || (s.now - r.lastArrival) * 256 < s.im.round.stallTeeth * s.refPeriod then s
  else
    let s := if r.state = .sync then countHalt s.now (runTicks 1024 (s.sinceEdge s.now) s) else s
    let s := noteStall (raise0 0x1003 (ringWrite (s.now - r.lastArrival) 0xFF 4 s))
    let s := if r.state = .sync then leaveSync .stall s else s.setRound { s.round with state := .stall }
    setReference none (s.setRound { s.round with lastEdge := none })

/-- A valid edge with an interval before it. The ring entry of a tooth 0 carries the counter after its increment and adoption
(DESIGN CHOICE, assumption log, entry 92). -/
def validEdge (stamp : Int) (iv : Nat) (s : State) : State :=
  let cls := s.classOf iv
  if s.round.state = .sync then
    if cls = 0 && s.round.position < 253 then
      let s := syncEdge stamp iv false s
      ringWrite iv s.round.position 0 s
    else if cls = 1 && s.round.position = 253 then ringWrite iv 0 1 (syncEdge stamp iv true s)
    else ringWrite iv 0xFF cls (loseSync stamp iv cls s)
  else
    let r := learnEdge stamp iv cls (markEdge stamp iv s)
    ringWrite iv r.1 cls r.2

/-- An edge at corrected time `stamp`, after a stall timeout of the same moment (R36, R56, R60). -/
def doEdge (stamp : Int) (s : State) : State :=
  if s.round.state = .reset then s
  else
    let s := doStallTimeout s
    match s.round.lastEdge with
    | none =>
      let s := if s.round.state = .stall then enterSeek s else s
      ringWrite 0xFFFFFFFF 0xFF 5
        (s.setRound { s.round with lastEdge := some stamp, lastArrival := s.now })
    | some e =>
      let iv := (stamp - e).toNat
      if s.classOf iv = 2 then
        ringWrite iv 0xFF 2 (s.setRound { s.round with glitches := bump s.round.glitches })
      else validEdge stamp iv s

/-! ### Sources (R33 to R35) -/

/-- ROUND_EDGE: a filtered rising edge of ROUND_IN_P/N. -/
def doRoundEdge (s : State) : State :=
  let s := { s with pins := { s.pins with roundIn := true } }
  if !s.running || s.round.state = .reset then s
  else
    let s := if s.im.round.outMode = 2 then { s with pins := { s.pins with roundOut := true } } else s
    if s.im.round.source = 1 then doEdge ((s.now : Int) - s.im.round.lineDelay) s else s

/-- ROUND_IN_FALLING_EDGE: only a repeating output follows it (R29, R35). -/
def doRoundInFallingEdge (s : State) : State :=
  let s := { s with pins := { s.pins with roundIn := false } }
  if s.running && s.round.state ≠ .reset && s.im.round.outMode = 2 then
    { s with pins := { s.pins with roundOut := false } }
  else s

/-- GENERATED_TOOTH: the part's own tooth, one or three nominal periods after the last (R28, R33). -/
def doGeneratedTooth (s : State) : State :=
  let due : Int := s.round.lastEdge.getD 0 + (s.nominal / 256 * (if s.round.position = 253 then 3 else 1) : Nat)
  if s.running && s.angleValid && s.im.round.source = 0 && due ≤ s.now then doEdge due s else s

/-- A marker is passed on to the children with this link's delay and the residence added (R310). -/
def forwardMarker (m : MarkMsg) (delay : Nat) (s : State) : State :=
  let d := s.draw
  toChildren (if m.tooth = 0 then 2 else 1)
    (markBytes { m with delayNs := delay + min (Config.markerResidence d.1) 200, hops := (m.hops + 1) % 8 }) d.2

/-- ROUND_MARK: from the active parent port it is passed on, kept for adoption, and with source FABRIC taken as an edge at
its arrival less the path delay (R34, R307, R310). -/
def doRoundMark (n : Nat) (m : MarkMsg) (s : State) : State :=
  if !s.inDomain 6 || !(s.port n).carries then s
  else if s.isMaster then (if m.master = s.deviceId then quarantine 4 0x900C s else s)
  else if n ≠ s.fab.parentActive then s
  else
    let delay := m.delayNs + (s.port n).delayNs
    let stamp : Int := (s.now : Int) - delay
    let s := forwardMarker m delay { s with fab := { s.fab with depth := (m.hops + 1) % 8 } }
    let s := if m.tooth = 0 then
      s.setRound { s.round with marker := some { rev := m.rev % 2 ^ 32, epoch := m.epoch % 2 ^ 64, stamp := stamp } } else s
    if s.im.round.source = 2 then doEdge stamp s else s

/-! ### The ROUND stage (R61) -/

/-- The work of the ROUND stage: GENERATE enters SYNC at once, the others seek. The part's own teeth write ring entries like any
edge, the 0.0 at which GENERATE enters SYNC none (DESIGN CHOICE, assumption log, entry 93). -/
def startRound (s : State) : State :=
  let i := s.im.round
  let now := s.devCount
  let s := { s with pins := { s.pins with roundOut := i.outMode = 2 && s.pins.roundIn } }
  if i.source = 0 then
    enterSync now (s.setRound { s.round with
      refCommitted := true, refPeriod := s.nominal, lastEdge := some (now : Int), lastArrival := now })
  else
    enterSeek (s.setRound { s.round with
      refCommitted := false, refPeriod := 0, lastEdge := none, lastArrival := now, devAngle := 0, devBase := now * 65536 })

/-- Is a request one that its owner makes? The governor asks for slot 0 at RND_SLOT_ANGLE only, where it holds none (R65), and
the Lens block for slot 12 at LENS_CAL_ANGLE only (R280), both with offset 0 and for the next occurrence. -/
def State.ownerAsks (s : State) (q : ArmReq) : Bool :=
  if q.owner = 0 then
    q.next && q.offset = 0 && q.angle = s.round.slotAngle && s.lehr.state.governing && !s.lehrSlotBusy
  else if q.owner = 3 then q.next && q.offset = 0 && q.angle = s.im.lens.calAngle && s.calibrates
  else q.owner ≤ 4

/-- ARM_REQUEST: what became of the request is told in the answer: 0 and the slot, 1 deferred, 2 refused. -/
def doArmRequest (q : ArmReq) (s : State) : State :=
  if !s.running || !s.ownerAsks q then s
  else
    let q := { q with angle := q.angle % 65536, offset := q.offset % 2 ^ 20, rev := q.rev % 2 ^ 32 }
    match requestSlot q s with
    | (.slot n, s) => { s with answer := [0, n] }
    | (.deferred, s) => { s with answer := [1] }
    | (.refused, s) => { s with answer := [2] }

/-! ### Commands -/

/-- GENERATED_TOOTH. -/
def execGeneratedTooth (t : Nat) (s : State) : Host.Outcome State Fault Refusal := .next (doGeneratedTooth (s.advance t))

/-- ROUND_EDGE. -/
def execRoundEdge (t : Nat) (s : State) : Host.Outcome State Fault Refusal := .next (doRoundEdge (s.advance t))

/-- ROUND_MARK. -/
def execRoundMark (t port : Nat) (m : MarkMsg) (s : State) : Host.Outcome State Fault Refusal :=
  .next (doRoundMark port m (s.advance t))

/-- STALL_TIMEOUT. -/
def execStallTimeout (t : Nat) (s : State) : Host.Outcome State Fault Refusal := .next (doStallTimeout (s.advance t))

/-- MICRO_TICK. -/
def execMicroTick (t : Nat) (s : State) : Host.Outcome State Fault Refusal := .next (doMicroTick (s.advance t))

/-- DEVICE_TIME_ANGLE_TICK. -/
def execDeviceTimeAngleTick (t : Nat) (s : State) : Host.Outcome State Fault Refusal :=
  .next (doDeviceTimeAngleTick (s.advance t))

/-- ARM_REQUEST. -/
def execArmRequest (t : Nat) (q : ArmReq) (s : State) : Host.Outcome State Fault Refusal :=
  .next (doArmRequest q (s.advance t))

/-- EVENT_SLOT_FIRE. -/
def execEventSlotFire (t slot : Nat) (s : State) : Host.Outcome State Fault Refusal :=
  .next (doEventSlotFire slot (s.advance t))

/-- ROUND_IN_FALLING_EDGE. -/
def execRoundInFallingEdge (t : Nat) (s : State) : Host.Outcome State Fault Refusal :=
  .next (doRoundInFallingEdge (s.advance t))

end Sys2Proof.Machine
end

