-- ==== Sys2Proof/Machine/Start.lean ====
section
/-! DEFINITION. Reset and the start stages (R82 to R109, R268, R382, R395, R396): the supplies and clocks, slot selection,
memory bring-up, READY with its fuse changes, and recovery. -/

namespace Sys2Proof.Machine

def State.setStart (x : StartSt) (s : State) : State := { s with start := x }

/-! ### Reset (R14, R84, R85, R371, R382) -/

/-- A slot that was being programmed is left with undefined content (R109). -/
def cutProgramming (s : State) : State :=
  if s.start.recResult ≠ 3 then s
  else
    let d := s.draw
    let n := roundUp s.start.recBuf.length 65536
    d.2.flashWrite (slotBase s.start.recTarget) ((List.range n).map fun i => Config.slotByte d.1 i)

/-- Every register at its Reset value; what survives is the queue, the flash and the fuses, the pins, and the JTAG port. -/
def clearState (pins : Pins) (s : State) : State :=
  { pending := s.pending, free := s.free, answer := s.answer, pins := { pins with roundOut := false }, nv := s.nv
    jtag := s.jtag }

/-- RESET_N_ASSERT. -/
def doResetAssert (s : State) : State :=
  clearState { s.pins with resetN := false, holdReset := false } (cutProgramming s)

/-- The part behaves as on an assertion of RESET_N, until that pin has been asserted and released again. -/
def fallBack (s : State) : State :=
  if s.running then clearState { s.pins with holdReset := true } (cutProgramming s) else s

/-- PGOOD_FALL (R85). -/
def doPgoodFall (s : State) : State := fallBack { s with pins := { s.pins with pgood := false } }

/-- SYSCLK_LOSS: no edge for 2 µs (R382). -/
def doSysclkLoss (s : State) : State := fallBack { s with pins := { s.pins with sysclk := false } }

/-- REFCLK_STOP: only the PCIe link goes down (R395). -/
def doRefclkStop (s : State) : State :=
  { s with pins := { s.pins with refclk := false }, start := { s.start with pcieUp := false } }

/-- PCIE_LINK_UP (R87); a part that sampled TEST_EN high answers only on JTAG and SMBus (R396). -/
def doPcieLinkUp (s : State) : State :=
  if !s.running || s.pins.testEn then s
  else { s with pins := { s.pins with refclk := true }, start := { s.start with pcieUp := true } }

/-! ### The ROM stage (R89) -/

/-- One direction of a die-to-die link: each failing data lane takes a free spare; more than 4 failing lanes, spares counted,
fail the link. True when it has failed. -/
def trainD2d (acc : List Nat × State) (x : D2dFail) : List Nat × State :=
  let s := acc.2
  if 5 ≤ x.link then acc
  else if 4 < x.data + x.spare then (addOnce acc.1 x.link, s)
  else
    let s := (List.range x.data).foldl (fun s _ =>
      raise 0x3009 x.link (s.setStart { s.start with stD2dSpared := true })) s
    (acc.1, s.setStart { s.start with d2dSpares := tset s.start.d2dSpares (2 * x.link + x.dir % 2) x.data })

/-- RESET_N_RELEASE: device time 0, the straps and FORCE_RECOVERY_N sampled, the ROM stage's work (R32, R84, R86, R396). -/
def doResetRelease (frcLow testEn : Bool) (smbAddr : Nat) (d2d : List D2dFail) (s : State) : State :=
  if s.pins.resetN then s
  else
    let s := clearState { s.pins with
      resetN := true, holdReset := false, pgood := true, sysclk := true, refclk := true, frcLow := frcLow, frcSince := 0
      frcHours := 0, smbAddr := smbAddr % 4, testEn := testEn } s
    let s := setStage 1 s
    let s := s.setStart { s.start with frcSampled := frcLow, fuseView := s.nv.fuses }
    let s := s.setLehr { s.lehr with state := .start }
    if testEn then setStage 11 s
    else
      let r := d2d.foldl trainD2d ([], s)
      if r.1.isEmpty then r.2.setStart { r.2.start with idFilled := true }
      else setStage 11 (r.1.foldl (fun s l => raise 0x300A l s) r.2)

/-! ### Slots (R92, R97, R100, R101) -/

/-- The bytes of a slot's image, as many as its preamble names. -/
def NonVol.slotImage (nv : NonVol) (slot : Nat) : List Byte :=
  nv.flashRead (slotBase slot) (min 16777216 (max 16 (numAt (nv.flashRead (slotBase slot) 16) 8 4)))

/-- IMG_SEQUENCE of a slot before any check; none where its first record cannot be read as a whole IMG_CONTAINER (R101). -/
def NonVol.slotSeq (nv : NonVol) (err : Nat → Nat) (slot : Nat) : Option Nat :=
  let h := nv.flashRead (slotBase slot) 32
  if err slot < 16 && numAt h 16 2 = 1 && numAt h 20 4 = 8 then some (numAt h 28 4) else none

/-- Slots in the order in which selection tries them. -/
def NonVol.slotOrder (nv : NonVol) (err : Nat → Nat) : List Nat :=
  let l :=
    match nv.slotSeq err 0, nv.slotSeq err 1 with
    | some a, some b => if a < b then [1, 0] else [0, 1]
    | none, some _ => [1, 0]
    | _, none => [0, 1]
  l.filter fun k => err k % 16 ≠ 1 && magicOk (nv.flashRead (slotBase k) 16)

/-- Count failed attempts from the newest entry backwards. -/
def countFailed (slot seq : Nat) : List (List Byte) → Nat
  | [] => 0
  | e :: r =>
    if numAt e 0 1 ≠ 3 || numAt e 8 1 ≠ slot then countFailed slot seq r
    else if numAt e 9 1 = 0 || numAt e 12 4 ≠ seq then 0
    else countFailed slot seq r + 1

/-- The failed attempts of a slot on a sequence. -/
def State.failedAttempts (s : State) (slot seq : Nat) : Nat :=
  countFailed slot seq ((validEntries s.nv s.start.logBad).map Prod.snd).reverse

/-- Set a slot's result code. -/
def setResult (slot code : Nat) (s : State) : State :=
  s.setStart (if slot = 0 then { s.start with resultA := code } else { s.start with resultB := code })

/-- Checks 1 to 9 on a slot, with its result code and fault (Table 4.5). -/
def checkSlot (slot err : Nat) (s : State) : ImgCheck × State :=
  let c := checkImage s.nv s.start.fuseView err (s.nv.slotImage slot)
  let s := setResult slot c.code s
  (c, match c.fault with
    | some f => raise f slot s
    | none => s)

/-- The selection of R101 over the slots in order: the slot to start and its image. -/
def pickSlot (err : Nat → Nat) : List Nat → Option (Nat × Image) → State → Option (Nat × Image) × State
  | [], held, s => (held, s)
  | k :: r, held, s =>
    let c := checkSlot k (err k) s
    if c.1.failed ≠ 0 then pickSlot err r held c.2
    else if c.2.failedAttempts k c.1.seq < c.1.image.start.bootAttempts then (some (k, c.1.image), c.2)
    else pickSlot err r (some (held.getD (k, c.1.image))) (setResult k 7 c.2)

/-! ### Recovery (R103 to R106) -/

/-- Enter recovery; with cause 1 both slots are checked. -/
def enterRecovery (cause : Nat) (err : Nat → Nat) (s : State) : State :=
  let s := setStage 10 s
  let s := raise0 0x3007 (s.setStart { s.start with recoveryCause := cause })
  if cause ≠ 1 then s
  else
    [0, 1].foldl (fun s k =>
      let c := checkSlot k (err k) s
      if c.1.failed ≠ 0 then c.2
      else c.2.setStart { c.2.start with recSlots := tset c.2.start.recSlots k c.1.seq }) s

/-- IMG_RECOVERY_RESULT for a delivered image that fails a check (Table 4.8). -/
def recoveryCode (failed : Nat) : Nat :=
  if failed = 4 then 6 else if failed = 5 then 7 else if failed = 6 then 8 else if failed = 7 then 10 else 5

/-- What the first 16 bytes of a delivered image give: 0 to go on, or a result (R105, step 1). -/
def preambleResult (bs : List Byte) : Nat :=
  let total := numAt bs 8 4
  let signed := numAt bs 12 4
  if !magicOk bs then 5
  else if 16777216 < total then 13
  else if signed % 8 ≠ 0 || signed < 16 || total ≠ signed + 104 then 5
  else 0

/-- The target slot of R106: the one with no accepted image, else the one with the lower sequence. -/
def StartSt.target (x : StartSt) : Nat :=
  match tfind x.recSlots 0, tfind x.recSlots 1 with
  | none, _ => 0
  | some _, none => 1
  | some a, some b => if a ≤ b then 0 else 1

/-- A whole delivered image: its checks, the target rule, and the erasure of the target's blocks (R105, R106). -/
def verifyDelivered (s : State) : State :=
  let x := s.start
  let c := checkImage s.nv x.fuseView 0 x.recBuf
  if c.failed ≠ 0 then s.setStart { x with recResult := recoveryCode c.failed }
  else
    let k := x.target
    match tfind x.recSlots (1 - k) with
    | some other =>
      if c.seq ≤ other then s.setStart { x with recTarget := k, recResult := 9 }
      else (s.setStart { x with recTarget := k, recResult := 3 }).flashWrite (slotBase k)
        (fill (roundUp x.recBuf.length 65536) 0xFF#8)
    | none =>
      (s.setStart { x with recTarget := k, recResult := 3 }).flashWrite (slotBase k)
        (fill (roundUp x.recBuf.length 65536) 0xFF#8)

/-- IMG_RECOVERY_DOOR_WRITE: one word from the physical function; outside recovery the door is RO. -/
def doRecoveryDoor (requester : Nat) (w : BitVec 32) (s : State) : State :=
  if requester < 128 && !s.start.pcieUp then s
  else if s.start.stage ≠ 10 || requester ≠ 0 then markDiscarded requester s
  else if s.start.recResult = 2 || s.start.recResult = 3 then s
  else
    let x := s.start
    let x := if x.recResult = 1 then x else { x with recBuf := [], recTotal := 0 }
    let buf := x.recBuf ++ leBytes w.toNat 4
    let x := { x with recResult := 1, recBuf := buf, recReceived := buf.length, recAt := s.now }
    if x.recTotal ≠ 0 then
      let s := s.setStart x
      if x.recTotal ≤ buf.length then verifyDelivered s else s
    else if buf.length < 16 then s.setStart x
    else if preambleResult buf ≠ 0 then s.setStart { x with recResult := preambleResult buf }
    else s.setStart { x with recTotal := numAt buf 8 4 }

/-- RECOVERY_PROGRAMMING_DONE: the image stands in the target slot, or the slot holds what is left there (R105, R106). -/
def doProgrammingDone (ok : Bool) (left : List Byte) (s : State) : State :=
  let x := s.start
  if x.recResult ≠ 3 then s
  else if ok then
    (s.setStart { x with
      recResult := 4, recSlots := tset x.recSlots x.recTarget (numAt x.recBuf 28 4) }).flashWrite (slotBase x.recTarget) x.recBuf
  else
    (s.setStart { x with recResult := 12, recSlots := tdel x.recSlots x.recTarget }).flashWrite (slotBase x.recTarget)
      (left.take (roundUp x.recBuf.length 65536))

/-- RECOVERY_TIMEOUT: no word for 10 s while RECEIVING. -/
def doRecoveryTimeout (s : State) : State :=
  let x := s.start
  if x.recResult ≠ 1 || s.now < x.recAt + 10000000000 then s
  else s.setStart { x with recResult := 11, recBuf := [], recTotal := 0 }

/-! ### The recovery pin (R103) -/

/-- FORCE_RECOVERY_N_FALL. -/
def doRecoveryPinFall (s : State) : State :=
  if s.pins.frcLow then s else { s with pins := { s.pins with frcLow := true, frcSince := s.now, frcHours := 0 } }

/-- FORCE_RECOVERY_N_RISE. -/
def doRecoveryPinRise (s : State) : State := { s with pins := { s.pins with frcLow := false } }

/-- RECOVERY_PIN_HELD: a further whole hour low. -/
def doRecoveryPinHeld (s : State) : State :=
  let p := s.pins
  if !s.running || !p.frcLow || s.now < p.frcSince + (p.frcHours + 1) * 3600000000000 then s
  else
    raise0 0x3008 ({ s with pins := { p with frcHours := p.frcHours + 1 } }.setStart { s.start with
      stRecoveryPin := true, frcHeldHours := bump s.start.frcHeldHours })

/-! ### The IMAGE stage -/

/-- The accepted image configures the part (R55, R82, R87, R102, R304, R309). -/
def takeImage (slot : Nat) (i : Image) (s : State) : State :=
  let s := { s with img := some i, round := { s.round with slotAngle := i.round.slotAngle } }
  let s := powerImage (s.setStart { s.start with slotActive := slot, ethUp := true })
  let own := if i.fab.present then i.fab.deviceId else 0
  { s with fab := { s.fab with
    role := if s.alone then 0 else if s.isMaster then 1 else 2
    parentActive := i.fab.parentPort, digest := i.digest
    epoch := if s.isMaster then own + s.start.bootSeq % 2 ^ 21 * 2 ^ 11 else 0 } }

/-- The start on a slot: the fallback, the boot attempt, the image. -/
def startOn (slot : Nat) (i : Image) (first : Nat) (s : State) : State :=
  let s := setResult slot 1 s
  let s := if slot = first then s
    else raise 0x3006 slot (s.setStart { s.start with fallback := true, stFallback := true })
  let s := s.setStart { s.start with bootSeq := s.nextLogSeq % 2 ^ 32 }
  let r := appendLog 3 ([BitVec.ofNat 8 slot, 0xFF, 0, 0] ++ leBytes i.start.sequence 4 ++ leBytes i.start.buildId 12) s
  takeImage slot i (r.2.setStart { r.2.start with bootEntry := r.1 })

/-- The log area is scanned; a full one is reported (R91). -/
def scanLog (unreadable : List Nat) (s : State) : State :=
  let s := s.setStart { s.start with logBad := unreadable }
  if (firstFree s.nv unreadable s.nv.logRoom 0).isNone then raiseLogFull s else s

/-- IMAGE_STAGE: verification, selection, start; or recovery (R101, R103). -/
def doImageStage (errA errB : Nat) (unreadable : List Nat) (s : State) : State :=
  if !s.clocked || s.start.stage ≠ 1 then s
  else
    let err := fun (k : Nat) => if k = 0 then errA else errB
    if s.start.frcSampled then enterRecovery 1 err s
    else
      let s := scanLog unreadable (setStage 2 s)
      let order := s.nv.slotOrder err
      let s := [0, 1].foldl (fun s k => if order.contains k then s else setResult k 8 s) s
      match pickSlot err order none s with
      | (some (k, i), s) => startOn k i (order.headD 0) s
      | (none, s) => enterRecovery 2 err s

/-! ### The MEMORY stage (R239, R253 to R257, R268) -/

/-- What training finds on a channel; one that is not listed has the image's density and no failing lane. -/
def channelTrain (s : State) (found : List ChanTrain) (c : Nat) : ChanTrain :=
  (found.find? fun x => x.channel = c).getD ⟨c, s.im.mem.rawGib, true, [], false, [], false⟩

/-- Failing DQ lanes of a byte. -/
def dqFails (lanes : List Nat) : List Nat := (lanes.filter fun n => n < 8).eraseDups

/-- Can a byte be carried: at most one failing DQ lane, and then a good DMI lane? -/
def byteOk (lanes : List Nat) (dmi : Bool) : Bool :=
  (dqFails lanes).isEmpty || ((dqFails lanes).length = 1 && !dmi)

/-- Sparing of byte `b` of a channel (R255). -/
def spareByte (c b : Nat) (lanes : List Nat) (dmi : Bool) (s : State) : State :=
  let l := dqFails lanes
  if (l.isEmpty && !dmi) || !byteOk lanes dmi then s
  else
    raise 0x6003 c (s.updChan c fun ch =>
      let ch := { ch with
        spared := setBit ch.spared b, dmiFailed := if l.isEmpty then setBit ch.dmiFailed b else ch.dmiFailed }
      if b = 0 then { ch with spareLane0 := l.headD 0 } else { ch with spareLane1 := l.headD 0 })

/-- Train one channel, and hold it out of service where R257 says so. -/
def trainChannel (found : List ChanTrain) (s : State) (c : Nat) : State :=
  let x := channelTrain s found c
  let s := s.updChan c fun ch => { ch with rawDetected := x.density % 16 }
  let ok := x.trains && byteOk x.lanes0 x.dmi0 && byteOk x.lanes1 x.dmi1
  let s := spareByte c 1 x.lanes1 x.dmi1 (spareByte c 0 x.lanes0 x.dmi0 s)
  let state := if bit s.im.mem.holdOut c then 2
    else if x.density ≠ s.im.mem.rawGib then 4
    else if ok then 1 else 3
  let s := s.updChan c fun ch => { ch with state := state, rate := if ok then s.im.mem.rateMts else 0 }
  if state = 1 then s
  else raise 0x6005 c (s.setStart { s.start with channelsDown := s.start.channelsDown + 1 })

/-- Put a log entry among others by rising sequence number. -/
def insertSeq (e : List Byte) : List (List Byte) → List (List Byte)
  | [] => [e]
  | x :: r => if numAt e 4 4 < numAt x 4 4 then e :: x :: r else x :: insertSeq e r

/-- Replay one retirement entry: ignored where its page is retired already or its spare taken. -/
def replayEntry (s : State) (e : List Byte) : State :=
  let c := numAt e 8 1
  let j := numAt e 9 1
  let page := numAt e 12 4
  if 64 ≤ c || 64 ≤ j || (s.chan c).sparesUsed.contains j || (s.chan c).map.any (fun p => p.1 = page) then s
  else
    let s := s.updChan c fun ch => { ch with
      map := ch.map ++ [(page, j)], sparesUsed := ch.sparesUsed ++ [j], retiredPages := min (ch.retiredPages + 1) 127 }
    { s with mem := { s.mem with retTable := s.mem.retTable ++ [⟨c, j, numAt e 10 1, page⟩] } }

/-- The retirement entries of the log, in sequence order. -/
def State.retirements (s : State) : List (List Byte) :=
  (((validEntries s.nv s.start.logBad).map Prod.snd).filter fun e => numAt e 0 1 = 1).foldl (fun l e => insertSeq e l) []

/-- MEMORY_STAGE. -/
def doMemoryStage (found : List ChanTrain) (s : State) : State :=
  if !s.clocked || s.start.stage ≠ 2 || s.img.isNone then s
  else
    let s := setStage 3 { s with mem := {}, tiles := {}, fs := {} }
    let s := (List.range 64).foldl (trainChannel found) s
    let s := s.retirements.foldl replayEntry s
    let down := s.start.channelsDown
    let s := { s with
      mem := { s.mem with
        generalMib := s.im.general / mib, inService := 64 - down, trained := true
        regs := (List.range 32).map fun p => (p, { tokens := (s.partEntry p).burst }) }
      fs := { s.fs with
        tablesActive := s.im.tables.length, shardsActive := (s.im.ownTables.map FsTable.shards).sum } }
    if s.im.start.maxChannelsDown < down then setStage 11 (raise0 0x300B s) else s

/-! ### The other stages (Table 4.2) -/

/-- LIGHT_STAGE; an engine whose listed runs neither pass nor degrade it passes a further one. -/
def doLightStage (lost : List Nat) (runs : List CalRun) (s : State) : State :=
  if !s.clocked || s.start.stage ≠ 3 then s
  else lightEngines lost (runs ++ (List.range 32).map fun n => ⟨n, 0, true⟩) (setStage 4 s)

/-- FABRIC_STAGE. -/
def doFabricStage (found : List PortTrain) (s : State) : State :=
  if !s.clocked || s.start.stage ≠ 4 || !s.lightDone then s else trainFabric found (setStage 5 s)

/-- ROUND_STAGE. -/
def doRoundStage (s : State) : State :=
  if !s.clocked || s.start.stage ≠ 5 then s
  else startRound (setStage 6 { s with fab := { s.fab with lastBeacon := s.now } })

/-- JOIN_STAGE: a master, or a domain of one (R26), becomes the first member; another part of a domain asks to join (R306). -/
def doJoinStage (s : State) : State :=
  if !s.clocked || s.start.stage ≠ 6 || !s.round.synced then s
  else
    let s := setStage 7 s
    if s.alone then { s with fab := { s.fab with memberMap := setBit s.fab.memberMap s.deviceId } }
    else if s.isMaster then
      { s with fab := { s.fab with masterPresent := true, memberMap := setBit s.fab.memberMap s.deviceId } }
    else requestJoin { s with fab := { s.fab with joining := true } }

/-- Has the JOIN stage completed? -/
def State.joinDone (s : State) : Bool := s.isMaster || s.alone || s.fab.joined

/-- RAMP_STAGE. -/
def doRampStage (s : State) : State :=
  if !s.clocked || s.start.stage ≠ 7 || !s.joinDone then s else beginRamp (setStage 8 s)

/-- START_STAGE_TIMEOUT: ROUND or JOIN beyond its timeout, once each. -/
def doStageTimeout (s : State) : State :=
  let x := s.start
  let late := fun (n secs : Nat) => tget x.stageTime n 0 + secs * 1000000000 ≤ s.now
  if !s.clocked then s
  else if x.stage = 6 && !s.round.synced && !x.timeoutRound && late 6 s.im.start.syncTimeoutS then
    raise 0x300C 6 (s.setStart { x with timeoutRound := true, stStageTimeout := true })
  else if x.stage = 7 && !s.joinDone && !x.timeoutJoin && late 7 s.im.start.joinTimeoutS then
    raise 0x300C 7 (s.setStart { x with timeoutJoin := true, stStageTimeout := true })
  else s

/-! ### READY (R96, R109, R363) -/

/-- Program the outcome byte of this start's boot attempt. -/
def markAttempt (s : State) : State :=
  match s.start.bootEntry with
  | some i => s.flashWrite (logBase + 32 * i + 9) [0]
  | none => s

/-- One programming step of the entry to READY: the outcome byte, then each change of R363 step by step. -/
def readyStep (s : State) : State :=
  let e := s.start.entry
  if !e.begun then
    (markAttempt s).setEntry
      { begun := true, todo := (if s.im.advances s.nv.fuses then [s.im.rollbackReq] else []) ++ s.im.fuseReqs }
  else
    match e.cur, e.todo with
    | some (r, 2), l => (setFuse r s).setEntry { e with cur := some (r, 3), todo := l }
    | some (r, _), l => (endChange r s).setEntry { e with cur := none, todo := l }
    | none, r :: l =>
      if s.mayChange r then (beginChange r s).setEntry { e with cur := some (r, 2), todo := l }
      else s.setEntry { e with todo := l }
    | none, [] => s

/-- Has every programming step been made? -/
def ReadyWork.finished (e : ReadyWork) : Bool := e.begun && e.cur.isNone && e.todo.isEmpty

/-- `n` programming steps. -/
def readySteps : Nat → State → State
  | 0, s => s
  | n + 1, s => readySteps n (readyStep s)

/-- Programming steps that are left at most: the outcome byte, and three for each change. -/
def State.stepsLeft (s : State) : Nat :=
  let e := s.start.entry
  if e.begun then 3 * e.todo.length + 2 else 3 * (s.im.fuseReqs.length + 1) + 1

/-- READY: the outcome byte, anti-rollback, the fuse requests (R109, R363); when all are programmed the doors open. -/
def doReady (steps : Option Nat) (s : State) : State :=
  if !s.clocked || s.start.stage ≠ 8 || s.lehr.state ≠ .govern then s
  else
    let s := readySteps (min (steps.getD s.stepsLeft) s.stepsLeft) s
    if s.start.entry.finished then
      let s := setStage 9 s
      { s with part := { s.part with doorsOpen := true } }
    else s

/-! ### Commands -/

/-- RESET_N_ASSERT. -/
def execResetNAssert (t : Nat) (s : State) : Host.Outcome State Fault Refusal := .next (doResetAssert (s.advance t))

/-- RESET_N_RELEASE: device time starts again at 0, so the operand has no part in it. -/
def execResetNRelease (_t : Nat) (frcLow testEn : Bool) (smbAddr : Nat) (d2d : List D2dFail) (s : State) :
    Host.Outcome State Fault Refusal := .next (doResetRelease frcLow testEn smbAddr d2d s)

/-- PGOOD_FALL. -/
def execPgoodFall (t : Nat) (s : State) : Host.Outcome State Fault Refusal := .next (doPgoodFall (s.advance t))

/-- SYSCLK_LOSS. -/
def execSysclkLoss (t : Nat) (s : State) : Host.Outcome State Fault Refusal := .next (doSysclkLoss (s.advance t))

/-- REFCLK_STOP. -/
def execRefclkStop (t : Nat) (s : State) : Host.Outcome State Fault Refusal := .next (doRefclkStop (s.advance t))

/-- PCIE_LINK_UP. -/
def execPcieLinkUp (t : Nat) (s : State) : Host.Outcome State Fault Refusal := .next (doPcieLinkUp (s.advance t))

/-- IMAGE_STAGE. -/
def execImageStage (t readErrA readErrB : Nat) (logUnreadable : List Nat) (s : State) : Host.Outcome State Fault Refusal :=
  .next (doImageStage readErrA readErrB logUnreadable (s.advance t))

/-- MEMORY_STAGE. -/
def execMemoryStage (t : Nat) (found : List ChanTrain) (s : State) : Host.Outcome State Fault Refusal :=
  .next (doMemoryStage found (s.advance t))

/-- LIGHT_STAGE. -/
def execLightStage (t : Nat) (lost : List Nat) (runs : List CalRun) (s : State) : Host.Outcome State Fault Refusal :=
  .next (doLightStage lost runs (s.advance t))

/-- FABRIC_STAGE. -/
def execFabricStage (t : Nat) (found : List PortTrain) (s : State) : Host.Outcome State Fault Refusal :=
  .next (doFabricStage found (s.advance t))

/-- ROUND_STAGE. -/
def execRoundStage (t : Nat) (s : State) : Host.Outcome State Fault Refusal := .next (doRoundStage (s.advance t))

/-- JOIN_STAGE. -/
def execJoinStage (t : Nat) (s : State) : Host.Outcome State Fault Refusal := .next (doJoinStage (s.advance t))

/-- RAMP_STAGE. -/
def execRampStage (t : Nat) (s : State) : Host.Outcome State Fault Refusal := .next (doRampStage (s.advance t))

/-- START_STAGE_TIMEOUT. -/
def execStartStageTimeout (t : Nat) (s : State) : Host.Outcome State Fault Refusal := .next (doStageTimeout (s.advance t))

/-- READY. -/
def execReady (entry : ReadyEntry) (s : State) : Host.Outcome State Fault Refusal :=
  .next (doReady entry.steps (s.advance entry.t))

/-- FORCE_RECOVERY_N_FALL. -/
def execForceRecoveryNFall (t : Nat) (s : State) : Host.Outcome State Fault Refusal :=
  .next (doRecoveryPinFall (s.advance t))

/-- FORCE_RECOVERY_N_RISE. -/
def execForceRecoveryNRise (t : Nat) (s : State) : Host.Outcome State Fault Refusal :=
  .next (doRecoveryPinRise (s.advance t))

/-- RECOVERY_PIN_HELD. -/
def execRecoveryPinHeld (t : Nat) (s : State) : Host.Outcome State Fault Refusal := .next (doRecoveryPinHeld (s.advance t))

/-- IMG_RECOVERY_DOOR_WRITE. -/
def execImgRecoveryDoorWrite (t requester : Nat) (word : BitVec 32) (s : State) : Host.Outcome State Fault Refusal :=
  .next (doRecoveryDoor requester word (s.advance t))

/-- RECOVERY_PROGRAMMING_DONE. -/
def execRecoveryProgrammingDone (t : Nat) (ok : Bool) (left : List (BitVec 8)) (s : State) :
    Host.Outcome State Fault Refusal := .next (doProgrammingDone ok left (s.advance t))

/-- RECOVERY_TIMEOUT. -/
def execRecoveryTimeout (t : Nat) (s : State) : Host.Outcome State Fault Refusal := .next (doRecoveryTimeout (s.advance t))

end Sys2Proof.Machine
end

