-- ==== Sys2Proof/Machine/Pins.lean ====
section
/-! DEFINITION. The states of the part's outputs and bidirectional pins in each phase (R388, Table 15.9; R395, R396). Every one
follows from what State holds. -/

namespace Sys2Proof.Machine

/-- What a pin does: it is driven low or high, or driven with a level that the access under way decides; it is at high impedance,
with or without the part's pull-up; it is released, as an open drain is; a transmitter is idle, off or dark, or it sends. -/
inductive PinState where
  | low | high | driven | highZ | pulledUp | released | idle | off | dark | sends
deriving DecidableEq, Repr

/-- ROUND_OUT_P/N: the level that the Round unit gives it under RND_OUT_MODE. -/
def State.roundOutPin (s : State) : PinState := if s.pins.roundOut then .high else .low

/-- QSPI_CLK and QSPI_IO0 to QSPI_IO3. -/
def State.qspiPins (s : State) : PinState := if s.running then .driven else .highZ

/-- Is a flash access under way: a slot being programmed (R105)? Every other access ends within its command. -/
def State.flashBusy (s : State) : Bool := s.start.recResult = 3

/-- QSPI_CS_N: high between accesses. -/
def State.qspiCsPin (s : State) : PinState :=
  if !s.running then .pulledUp else if s.flashBusy then .driven else .high

/-- Has the MEMORY stage begun in this start? -/
def State.memoryBegun (s : State) : Bool := thas s.start.stageTime 3

/-- LPk_RESET_N of every package: low until the MEMORY stage and in recovery, high after it and once the part has tripped. -/
def State.lpResetPin (s : State) : PinState :=
  if !s.running then .low
  else if s.lehr.state = .tripped then .high
  else if s.start.stage = 10 || !s.memoryBegun then .low
  else .high

/-- SMB_SDA between transactions: released; `sends` says that the part answers at its address. -/
def State.smbSdaPin (s : State) : PinState := if s.running then .sends else .released

/-- JTAG_TDO outside Shift-IR and Shift-DR, in every phase; a JTAG command passes through those states within itself. -/
def State.jtagTdoPin (_ : State) : PinState := .highZ

/-- The PCIe transmitters. -/
def State.pciePins (s : State) : PinState := if s.running && s.start.pcieUp then .sends else .idle

/-- The Ethernet transmitters: off until the end of IMAGE. -/
def State.ethPins (s : State) : PinState := if s.running && s.start.ethUp then .sends else .off

/-- The optical transmitters of a port: dark until FABRIC, and where its light has gone out (R319); those of a failed port count as
dark (DESIGN CHOICE, assumption log, entry 114). -/
def State.opticalPin (s : State) (n : Nat) : PinState :=
  let st := (s.port n).state
  if s.running && st ≠ .dark && st ≠ .failed then .sends else .dark

end Sys2Proof.Machine
end

