-- ==== Sys2Proof/Machine/Status.lean ====
section
/-! DEFINITION. The status space (R13 to R16, R354 to R358): the registers of every block as words, read in 32-bit halves,
and the writes that a user may make. -/

namespace Sys2Proof.Machine

/-! ### Rows of a register table -/

/-- A status value: its offset in its block, its length in words, and the value. A value of two words or more is read as
64-bit values (R16). -/
structure StatusRow where
  off : Nat
  words : Nat
  val : Nat
deriving DecidableEq, Repr

/-- A 32-bit register, and a 64-bit value. -/
def row32 (off val : Nat) : StatusRow := ⟨off, 1, val⟩

def row64 (off val : Nat) : StatusRow := ⟨off, 2, val⟩

/-- Fields given as value, lowest bit, width. -/
def pack (fs : List (Nat × Nat × Nat)) : Nat := (fs.map fun f => f.1 % 2 ^ f.2.2 * 2 ^ f.2.1).sum

/-- Status bits, bit 0 first. -/
def flags (bs : List Bool) : Nat := bs.foldr (fun b n => flag b + 2 * n) 0

/-- The row that holds offset `x`. -/
def rowAt (rs : List StatusRow) (x : Nat) : Option StatusRow := rs.find? fun r => r.off ≤ x && x < r.off + 4 * r.words

/-! ### Codes of states -/

def rndCode : RndState → Nat
  | .reset => 0 | .seek => 1 | .confirm => 2 | .sync => 3 | .lost => 4 | .stall => 5

def evCode : EvState → Nat
  | .free => 0 | .armed => 1 | .timing => 2 | .cancelled => 3

def pwrCode : PwrState → Nat
  | .reset => 0 | .start => 1 | .rampToFloor => 2 | .govern => 3 | .hold => 4 | .descend => 5 | .alert => 6 | .tripped => 7
  | .quarantineIdle => 8

def lensCode : LensState → Nat
  | .off => 0 | .startCal => 1 | .serving => 2 | .loading => 3 | .calibrating => 4 | .degraded => 5

def portCode : PortState → Nat
  | .dark => 0 | .training => 1 | .up => 2 | .passThrough => 3 | .retraining => 4 | .failed => 5 | .foreign => 6
  | .circuitDown => 7

/-! ### "start" fields (R14) -/

/-- A field that the IMAGE stage fills. -/
def State.fromImage (s : State) (n : Nat) : Nat := if s.img.isSome then n else 0

/-- A field that the MEMORY stage fills: 0 until that stage completes, and so in FAILED. -/
def State.fromMemory (s : State) (n : Nat) : Nat := if s.mem.trained && s.start.stage ≠ 11 then n else 0

/-! ### Identity (R358, R371) -/

/-- ID_MACn: 0x02, 0xAE and ID_SERIAL[30:0] × 2 + n. -/
def macAddress (serial n : Nat) : Nat := 0x02AE * 2 ^ 32 + (serial % 2 ^ 31 * 2 + n)

/-- Fuse-log record `n` as it is read (Table 14.9). -/
def fuseRows (f : Fuses) (n : Nat) : List StatusRow :=
  match f.log[n]? with
  | none => [row64 8 0, row64 16 0]
  | some r =>
    [row32 0 (pack [(r.kind, 0, 4), (r.slot, 4, 2), (flag r.complete, 6, 1), (flag r.factory, 7, 1)]), row32 4 r.imgSeq,
      row64 8 r.old, row64 16 r.new, row32 24 r.bootSeq]

/-- The identity block, as the ROM stage filled it. -/
def idRows (s : State) : List StatusRow :=
  let f := s.start.fuseView
  let fill := fun n => if s.start.idFilled then n else 0
  let keys := fun (p : KeySlot → Bool) => flags ((List.range 4).map fun k => p (f.keys.getD k {}))
  [row32 0 0x4096AE7A, row32 4 (fill (0xB0 + 256 * flag s.nv.variantC)), row64 8 (fill s.nv.serial),
    row32 16 (fill s.nv.supvRelease), row32 20 (fill 0x14096A8B), row64 24 (fill (macAddress s.nv.serial 0)),
    row64 32 (fill (macAddress s.nv.serial 1)), row32 0x100 (fill f.rollback),
    row32 0x104 (fill (pack [(f.ceilingW, 0, 16), (f.changes 1, 16, 4)])),
    row32 0x108 (fill (pack [(keys KeySlot.programmed, 0, 4), (keys KeySlot.revoked, 4, 4), (f.changes 4, 8, 3)])),
    row64 0x110 (fill f.planLock), row32 0x118 (fill f.log.length)]
  ++ ((List.range 25).map fun w => row32 (0x40 + 4 * w) (fill (s.nv.devKey % 2 ^ 776 / 2 ^ (32 * w))))
  ++ ((List.range 4).flatMap fun k => (List.range 12).map fun w =>
        row32 (0x200 + 64 * k + 4 * w) (fill ((f.keys.getD k {}).digest / 2 ^ (32 * w))))

/-! ### The Round (Tables 2.3, 2.5, 2.7) -/

def slotRows (e : EvSlot) : List StatusRow :=
  [row64 0 (pack [(e.angle, 0, 16), (e.offset, 16, 20), (e.owner, 36, 3), (evCode e.state, 39, 2), (e.tag % 65536, 48, 16)]),
    row64 8 (pack [(e.rev, 0, 32), (flag e.next, 32, 1)])]

def ringRows (e : RingEntry) : List StatusRow :=
  [row64 0 (pack [(e.interval, 0, 32), (e.tooth, 32, 8), (e.cls, 40, 3), (e.rev, 48, 16)])]

def sampleRows (x : Nat × Nat) : List StatusRow := [row32 0 x.1, row64 8 x.2]

def roundRows (s : State) : List StatusRow :=
  let r := s.round
  [row32 0 (pack [(rndCode r.state, 0, 3), (flag s.angleValid, 3, 1), (flag r.refCommitted, 4, 1), (r.confirmCount, 5, 1),
      (flag r.adopted, 6, 1), (s.fromImage s.im.round.source, 7, 2), (s.fromImage s.im.round.outMode, 9, 2)]),
    row32 4 (pack [(r.angle, 0, 16), (r.slotAngle, 16, 16)]), row32 8 r.rev, row64 16 r.epoch, row64 24 s.devCount,
    row32 32 (if r.state = .reset then 0 else s.refPeriod), row32 36 r.lastInterval, row32 40 r.glitches, row32 44 r.learnRefused,
    row32 48 r.losses, row32 52 r.stalls, row64 56 r.syncDevtime, row32 64 r.fired, row32 68 r.cancelled, row32 72 r.defers,
    row32 76 r.armRefused, row32 80 r.jumps, row32 84 r.halts, row32 88 r.ringIdx,
    row32 96 (flags [r.stLost, r.stStall, r.stCancel, r.stMismatch])]

/-! ### Lehr (Tables 3.2, 3.3) -/

/-- The Lehr registers. PWR_TARGET_MW is the device target of R63 as it stands, from the acceptance of an image to a trip (DESIGN
CHOICE, assumption log, entry 97). -/
def lehrRows (s : State) : List StatusRow :=
  let l := s.lehr
  [row32 0 (pack [(pwrCode l.state, 0, 4), (flag l.segmentActive, 4, 1), (flag (0 < l.throttle), 5, 1), (flag l.shortfall, 6, 1),
      (flag l.derating, 7, 1)]),
    row32 4 (uToMw l.setpoint),
    row32 8 (if l.state = .tripped then uToMw l.target else s.fromImage (uToMw s.deviceTarget)),
    row32 12 l.measured, row32 16 l.work, row32 20 l.ballast, row32 24 l.ballastAvail,
    row32 28 (s.fromImage (pack [(l.floorW, 0, 16), (l.ceilingW, 16, 16)])),
    row32 32 (if s.start.idFilled then
      pack [(s.start.fuseView.ceilingW, 0, 16), (s.start.fuseView.changes 1, 16, 4)] else 0),
    row32 36 (s.fromImage (pack [(l.slew, 0, 16), (l.stepTeeth, 16, 8)])),
    row32 40 (pack [(l.ceilEff / wattU, 0, 16), (ofSigned 16 l.maxTemp, 16, 16)]),
    row32 44 (min (l.holdNs / 1000000) (2 ^ 32 - 1)), row32 48 l.steps, row32 52 l.stepsSkipped,
    row32 56 (min (l.shortfallTicks / 1000) (2 ^ 32 - 1)), row32 60 (min (l.throttleTicks / 1000) (2 ^ 32 - 1)),
    row32 64 l.alerts, row32 68 l.oob, row32 72 (min (l.alertNs / 1000000) (2 ^ 32 - 1)),
    row32 96 (flags [l.stAlert, l.stHoldExpired, l.stOob, l.stShortfall, l.stDerate, l.stAdcClamp])]
  ++ ((List.range 32).map fun p => row32 (0x100 + 4 * p) (tget l.claims p 0))

def powerRows (x : PwrSample) : List StatusRow :=
  [row32 0 x.rev, row32 4 x.setpoint, row32 8 x.mean, row32 12 x.work, row32 16 x.ballast,
    row32 20 (pack [(ofSigned 16 x.temp, 0, 16), (x.flags, 16, 6)]), row32 24 x.skips, row32 28 x.revEnd]

/-! ### Start and supervisor (Table 4.9) -/

def startRows (s : State) : List StatusRow :=
  let x := s.start
  let i := s.im.start
  let spares := ((List.range 10).map fun k => tget x.d2dSpares k 0 % 16 * 2 ^ (4 * k)).sum
  [row32 0 (pack [(x.stage, 0, 4), (x.slotActive, 4, 1), (flag x.fallback, 5, 1), (x.recoveryCause, 6, 2), (x.resultA, 8, 8),
      (x.resultB, 16, 8)]),
    row32 4 (s.fromImage i.sequence), row32 8 (s.fromImage (pack [(i.rollbackStep, 0, 8), (i.keySlot, 8, 2)])),
    ⟨16, 4, s.fromImage i.buildId⟩, row64 32 spares, row32 40 (s.fromMemory x.channelsDown), row32 44 x.frcHeldHours,
    row32 48 (flags [x.stFallback, x.stStageTimeout, x.stLogFull, x.stRecoveryPin, x.stD2dSpared]),
    row32 0x204 (pack [(x.recResult, 0, 4), (x.recTarget, 4, 1)]), row32 0x208 x.recReceived]
  ++ ((List.range 12).map fun k => row64 (0x108 + 8 * k) (tget x.stageTime (k + 1) 0))

/-! ### Memory (Tables 10.4 to 10.6) -/

def chanRows (s : State) (c : Nat) : List StatusRow :=
  let x := s.chan c
  let g := x.tg
  [row32 0 (pack [(x.state, 0, 3), (flag x.sr, 3, 1), (s.fromMemory x.spared, 4, 2), (s.fromMemory x.spareLane0, 6, 3),
      (s.fromMemory x.spareLane1, 9, 3), (s.fromMemory x.dmiFailed, 12, 2)]),
    row32 4 (s.fromMemory (pack [(x.rate, 0, 16), (x.rawDetected, 16, 4)])), row64 8 x.rdBytes, row64 16 x.wrBytes,
    row32 24 x.ce, row32 28 x.ue, row32 32 x.linkCe, row32 36 (s.fromMemory x.retiredPages), row32 40 x.wcbRmw,
    row32 44 x.atomics, row32 48 x.inflightHigh, row32 52 (flags [x.stUe, x.stRetired, x.stExhausted]),
    row32 64 x.smp.rev, row32 68 x.smp.rd, row32 72 x.smp.wr, row32 76 x.smp.ce, row32 80 x.smp.ue, row32 84 x.smp.revEnd,
    row32 0x100 (pack [(flag g.go, 0, 1), (g.mode, 1, 2), (g.pattern, 3, 2)]), row32 0x104 g.seed, row64 0x108 g.base,
    row32 0x110 g.len, row32 0x114 g.passes, row32 0x118 (pack [(flag g.busy, 0, 1), (g.passesDone, 16, 16)]),
    row32 0x11C g.errors, row64 0x120 g.firstErr, row32 0x128 g.ce]

/-- Entry `e` of the retirement table. -/
def retireRows (s : State) (e : Nat) : List StatusRow :=
  match s.mem.retTable[e]? with
  | none => [row64 0 0]
  | some x => [row64 0 (s.fromMemory (pack [(x.chan, 0, 8), (x.spare, 8, 8), (x.cause, 16, 8), (x.page, 32, 32)]))]

def memRows (s : State) : List StatusRow :=
  [row32 0 (s.fromMemory (min s.mem.retTable.length 4096)), row32 4 (s.fromMemory s.mem.generalMib),
    row32 8 (s.fromMemory s.mem.inService), row32 16 (flag s.mem.stUnlogged)]

def regRows (s : State) (p : Nat) : List StatusRow :=
  let e := s.partEntry p
  let r := tget s.mem.regs p {}
  [row32 0 (s.fromImage (pack [(e.rate, 0, 16), (e.burstKib, 16, 16)])), row64 8 r.bytes, row64 16 r.heldNs,
    row32 24 (s.fromMemory (r.tokens / 10)), row32 32 r.smpRev, row32 36 r.smpBytes, row32 40 r.smpHeldUs,
    row32 44 r.smpRevEnd]

/-! ### The feature store (Table 9.4) -/

def fsRows (s : State) : List StatusRow :=
  let f := s.fs
  [row32 0 (s.fromMemory (pack [(f.tablesActive, 0, 7), (f.shardsActive, 7, 13)])), row64 8 f.served, row64 16 f.remote,
    row64 24 f.repHits, row32 32 f.rereads, row32 36 f.torn, row32 40 f.unresolved, row32 44 f.unreachable,
    row32 48 f.migrated,
    row32 52 (pack [((f.replicas.filter fun r => !r.cc).length, 0, 16), ((f.replicas.filter fun r => r.cc).length, 16, 16)]),
    row32 56 f.repDenied, row32 60 f.applied, row32 64 f.refused,
    row32 80 (flags [f.stTorn, f.stUnresolved, f.stLetterRefused, f.stRepDenied, f.stUnreachable, f.stMigrated])]

/-- The counts of table `t` in the last revolution. -/
def tableRows (s : State) (t : Nat) : List StatusRow :=
  match s.im.ownTables.find? fun x => x.id = t with
  | none => []
  | some x =>
    let l := (List.range x.shards).map (s.readsLast x)
    let cap := fun n => min n (2 ^ 32 - 1)
    [row32 0 (cap (s.tableReads x)), row32 4 (s.fromMemory (s.firstShard t)), row32 8 (cap (l.foldl max 0)),
      row32 12 (cap (l.foldl min (l.headD 0)))]

def fsSampleRows (x : FsSample) : List StatusRow :=
  [row32 0 x.rev, row32 4 x.served, row32 8 x.remote, row32 12 x.repHits, row32 16 x.rereads, row32 20 x.migrated,
    row32 24 x.skips, row32 28 x.revEnd]

/-- FS_SHARD_FREE_CELLS and FS_SHARD_HOT_RUN of part shard `n`. -/
def shardWord (s : State) (n : Nat) : Nat :=
  match s.shardTable n with
  | none => 0
  | some (t, _) => pack [(s.fromMemory (t.cells - (s.shard n).usedCells.length), 0, 28), ((s.shard n).hotRun, 28, 4)]

/-! ### Lens (Tables 11.3, 11.4) -/

def lensRows (s : State) : List StatusRow :=
  let l := s.lens
  let degraded := flags ((List.range 32).map fun e => decide ((s.engine e).state = .degraded))
  [row32 0 (pack [(flag l.comb, 0, 2), (l.bankLost, 2, 4), (l.combLost, 6, 2), (l.calTurn, 8, 5)]), row32 4 degraded,
    row32 8 (pack [(ofSigned 16 l.combPwr0, 0, 16), (ofSigned 16 l.combPwr1, 16, 16)]), row32 12 (flag l.stLight)]

def engineRows (e : Engine) : List StatusRow :=
  let m := e.matrix
  [row32 0 (pack [(lensCode e.state, 0, 3), (flag e.frozen, 3, 1), (e.aborts, 4, 2), (e.cause, 6, 2),
      ((m.map Matrix.handle).getD 0, 8, 8), ((m.map Matrix.context).getD 0, 16, 7)]),
    row64 8 e.vectors, row32 16 e.ovrCount, row32 20 e.shadowCount, row32 24 e.loads, row32 28 e.calDone,
    row32 32 e.calAborted, row32 36 (pack [(e.dark, 0, 16), (e.drift, 16, 16)]), row64 40 e.slewDelayNs, row64 48 e.frozenNs,
    row64 56 e.calDevtime, row32 64 (flags [e.stOvr, e.stCalAbort, e.stDegraded]), row64 72 e.ovrLanes,
    row64 80 e.shadowLanes]

def lensSampleRows (x : LensSample) : List StatusRow :=
  [row32 0 x.rev, row32 4 x.vectors, row32 8 (pack [(x.drift, 0, 16), (x.state, 16, 3), (flag x.frozen, 19, 1)]),
    row32 12 x.ovr, row32 16 x.frozenUs, row32 20 x.skips, row32 28 x.revEnd]

/-! ### Fabric (Table 12.8) and barrier unit (Table 6.6) -/

def fabRows (s : State) : List StatusRow :=
  let f := s.fab
  [row32 0 (pack [(f.role, 0, 2), (flag f.masterPresent, 2, 1), (f.plan, 3, 4), (f.depth, 7, 3), (f.parentActive, 10, 5),
      (f.quarCause, 15, 3)]),
    row32 4 f.epoch, row32 8 (pack [(popCount f.memberMap 2048, 0, 12), (f.memberGen, 16, 16)]), row32 12 f.reconfCount,
    row32 16 f.reconfLate, row32 20 f.masterLostCount,
    row32 24 (flags [f.stMasterLost, f.stPort, f.stCircuit, f.stEpoch, f.stSend]), ⟨64, 12, f.digest⟩, ⟨256, 64, f.memberMap⟩]

def portRows (p : Port) : List StatusRow :=
  [row32 0 (pack [(portCode p.state, 0, 3), (p.widthTx, 3, 5), (p.widthRx, 8, 5), (p.laneMap, 13, 16), (p.failCause, 29, 2)]),
    row32 4 (pack [(p.farDevice, 0, 11), (p.farPort, 11, 4)]), row32 8 (p.delayNs % 65536), row32 12 p.retrains,
    row64 16 p.txFlits, row64 24 p.rxFlits, row32 32 p.crcErrors, row32 36 p.replays, row32 40 p.lostFlits, row32 64 p.smpRev,
    row32 68 p.smpTx, row32 72 p.smpRx, row32 76 p.smpReplays, row32 92 p.smpRevEnd]

/-- Active records among the first `n` of a table. -/
def activeBars (m : Tab Barrier) (n : Nat) : Nat := (m.filter fun p => p.1 < n && p.2.active).length

def barrierRows (s : State) : List StatusRow :=
  let y := s.sync
  [row32 0 (pack [(activeBars y.partBar 128, 0, 8), (if s.isMaster then activeBars y.domBar 128 else 0, 8, 8)]),
    row32 4 y.released, row32 8 y.aborted, row32 12 y.slow, row32 16 (flags [y.stAborted, y.stSlow]), row64 24 y.domLastLat]

/-- A partition record, and a domain record. -/
def partBarRows (b : Barrier) : List StatusRow :=
  [row64 0 (pack [(b.gen, 0, 16), (b.arrived, 16, 13), (b.expected, 32, 13), (flag b.active, 45, 1)])]

def domBarRows (b : Barrier) : List StatusRow :=
  [row64 0 (pack [(b.gen, 0, 16), (b.arrived, 16, 12), (b.expected, 32, 12), (flag b.active, 44, 1)])]

def syncSampleRows (x : SyncSample) : List StatusRow :=
  [row32 0 x.rev, row32 4 x.watches, row32 8 x.heldDrops, row32 12 x.staleDrops, row32 16 x.released, row32 20 x.aborted,
    row32 24 x.skips, row32 28 x.revEnd]

/-! ### Doors, partitions, contexts (Table 13.9) -/

def doorRows (s : State) : List StatusRow :=
  let p := s.part
  [row32 0 (flag p.doorsOpen), row32 4 p.parcelsDone, row32 8 p.parcelsEnded, row32 12 p.postsRefused, row32 16 p.tlsRefused,
    row32 20 p.reportLost, row32 24 p.doorTorn, row32 32 (flags [p.stRefused, p.stEnded, p.stLimit])]

/-- Resident tasks of a partition. -/
def State.residentTasks (s : State) (p : Nat) : Nat := (s.liveTasks.filter fun t => t.2.2.partition = p).length

/-- Free parcel area of a context, KiB. -/
def State.areaFree (s : State) (c : Nat) : Nat :=
  let a := s.areaOf c
  64 * (a.2 - (s.part.granules.filter fun g => a.1 ≤ g && g < a.1 + a.2).length)

def contextRows (s : State) (c : Nat) : List StatusRow :=
  let ps := s.part.parcels.filter fun p => p.context = c
  let q := (ps.filter fun p => p.waiting).length
  [row32 0 (pack [(q, 0, 7), (ps.length - q, 7, 7), ((s.part.letters.filter fun l => l.context = c).length, 14, 5)]),
    row64 8 (s.ctx c).lastSerial, row64 16 (s.ctx c).lastLserial, row32 24 (s.fromImage (s.areaFree c))]

/-! ### Event log (Tables 14.3, 14.5) and dead letters -/

def Acc.word (a : Acc) (r : Nat) : Nat := pack [(flags [a.stale, a.discarded, a.badSize], 0, 8), (r, 8, 8)]

/-- The log registers, as requester `r` sees them. -/
def logRows (s : State) (r : Nat) : List StatusRow :=
  let f := s.flt
  [row32 0 f.idx, row32 4 f.wraps, row32 8 f.seqNext, row32 12 f.lastCode, row32 16 f.sev, row32 20 f.raised, row32 24 f.dropped,
    row32 0x80 ((s.accOf r).word r)]
  ++ ((List.range 130).map fun k => row32 (0x100 + 4 * k) ((s.accOf k).word k))

def entryRows (e : LogEntry) : List StatusRow :=
  [row32 0 (pack [(e.code, 0, 16), (e.sev, 16, 2), (flag e.fuse, 18, 1), (e.context, 19, 7), (flag e.ctxValid, 26, 1)]),
    row32 4 (pack [(e.unit, 0, 16), (e.angle, 16, 16)]), row32 8 e.rev, row32 12 e.detail, row64 16 e.devtime, row32 24 e.seq,
    row32 28 e.seqEnd]

def deadRows (e : DeadLetter) : List StatusRow :=
  [row32 0 (pack [(e.reason, 0, 8), (e.kind, 8, 1), (e.via, 9, 1), (e.context, 10, 7)]), row32 4 e.tag, row64 8 e.serial,
    row32 16 e.epoch, row32 20 e.fault, row64 24 e.devtime]

/-! ### Clusters (Tables 5.6, 6.5, 7.6, 8.5; R263) -/

/-- TILE_ISLAND_MHZ_ACTIVE: the nominal clock less 100 MHz for each throttle stage; stopped in TRIPPED (R68, R80, R138). -/
def State.islandMhz (s : State) : Nat :=
  if s.lehr.state = .tripped then 0
  else s.fromMemory (s.im.tile.islandMhz - 100 * min s.lehr.throttle s.clockStages)

/-- TILE_TASK_STATE of one slot (R128, R129). -/
def State.taskCode (s : State) (tile slot : Nat) : Nat :=
  let k := s.task tile slot
  match k.state with
  | .free => 0
  | .ready => 1
  | .lateData => 3
  | .ended => 6
  | .running =>
    match k.cmds.head? with
    | none => 2
    | some c =>
      if c.unread then 2
      else if opOf c.words = 2 && c.phase = .barrier then 5
      else if s.late tile slot then 3
      else if !s.waitMet tile c.words && !c.issued then 4
      else 2

def tileRows (s : State) (tile : Nat) : List StatusRow :=
  let x := s.tile tile
  let code := fun k => s.taskCode tile k
  let rt := x.tasks.any fun p => p.2.state ≠ .free && s.isRt p.2.context
  [row32 0 (pack [(code 0, 0, 3), (code 1, 3, 3), (code 2, 6, 3), (code 3, 9, 3), (x.running, 12, 2), (flag rt, 14, 1)]),
    row32 4 x.cmdDone, row32 8 x.switches, row32 12 x.merges, row32 16 x.poisonOut, row32 20 x.poisonZero, row32 24 x.misses,
    row32 28 (flags [x.stPoison, x.stMiss, x.stInvalid])]

/-- SYNC_WS words: 2 for a slot of the supervisor. -/
def watchWord (s : State) (c k : Nat) : Nat :=
  if k < s.im.sync.supvWatches then (if s.isReady then 2 else 0)
  else
    match tfind s.sync.watches (watchKey c k) with
    | none => 0
    | some w => pack [(1, 0, 2), (w.action, 2, 2), (w.source / 48 % 64, 4, 6), (w.source % 48, 10, 6), (w.context, 16, 7)]

def clusterBarRows (b : Barrier) : List StatusRow :=
  [row64 0 (pack [(b.gen, 0, 16), (b.arrived, 16, 7), (b.expected, 24, 7), (flag b.active, 31, 1), (b.nextArrived, 32, 7)])]

/-- A combine entry's state: 3 combining, 2 due, 1 registered. -/
def combineWord (s : State) (key : Nat) : Nat :=
  match tfind s.sync.combines key with
  | none => 0
  | some e =>
    let st := if s.sync.combining.contains key then 3 else if s.sync.due.any fun d => d.2 = key then 2 else 1
    pack [(st, 0, 2), (e.context, 2, 7)]

/-- A ring entry's state: 2 while its next rotation is due. -/
def ringWord (s : State) (key : Nat) : Nat :=
  match tfind s.sync.rings key with
  | none => 0
  | some r =>
    let st := if r.ended.all fun n => r.next ≤ n then 2 else 1
    pack [(st, 0, 2), (r.first, 2, 6), (r.size, 8, 7), (r.context, 15, 7)]

/-- Keys `8 c` to `8 c + 7` in use. -/
def slotsOf {α : Type} (m : Tab α) (c : Nat) : Nat := (m.filter fun p => p.1 / 8 = c).length

def clusterRows (s : State) (c : Nat) : List StatusRow :=
  let y := s.csu c
  let x := s.cluster c
  let armed := (s.sync.watches.filter fun p => p.1 / 256 = c).length
  [row32 0 (pack [(s.islandMhz, 0, 16), (s.fromImage s.im.tile.islandMhz, 16, 16)]), row32 4 (s.fromImage s.im.tile.rxKib),
    row32 0x900 (pack [(armed, 0, 9), (y.hfq.length, 16, 7)]), row32 0x904 y.hfqHigh, row32 0x908 y.watchFired,
    row32 0x90C y.heldDrops, row64 0x910 y.satTiles, row32 0x918 y.foreign,
    row32 0x91C (flags [y.stSaturated, y.stFillLost, y.stForeign]), row32 0x920 y.staleDrops,
    row32 0xA00 (pack [(slotsOf s.sync.combines c, 0, 4), (slotsOf s.sync.rings c, 4, 4)]), row32 0xA04 x.combinesDone,
    row32 0xA08 x.rowsCombined, row32 0xA0C x.poisonRows, row32 0xA10 x.overlong, row32 0xA14 (flags [x.stOverlong, x.stMvPoison]),
    row32 0xA18 x.rotations, row32 0xB00 x.nfSeen, row32 0xB04 x.nfInvalid, row32 0xB08 x.nfRange, row32 0xB40 x.outside,
    row32 0xB44 (flag x.stOutside)]

/-- The block of cluster `c` from its offset `x`: base of the record within the block, and its rows. -/
def clusterBlock (s : State) (c x : Nat) : Nat × List StatusRow :=
  if 0x100 ≤ x && x < 0x900 then (x / 32 * 32, tileRows s (c * 64 + (x - 0x100) / 32))
  else if 0x980 ≤ x && x < 0xA00 then (x / 8 * 8, clusterBarRows (s.bar 0 c ((x - 0x980) / 8)))
  else if 0xA20 ≤ x && x < 0xA40 then (x / 4 * 4, [row32 0 (combineWord s (c * 8 + (x - 0xA20) / 4))])
  else if 0xA40 ≤ x && x < 0xA60 then (x / 4 * 4, [row32 0 (ringWord s (c * 8 + (x - 0xA40) / 4))])
  else if 0xC00 ≤ x then (x / 4 * 4, [row32 0 (watchWord s c ((x - 0xC00) / 4))])
  else (0, clusterRows s c)

/-! ### The map (Table 14.6) -/

/-- The record that holds status offset `a`, as requester `r` reads it: its base offset and its rows. Offsets of no record
read 0 (R354). PART_P_TASKS, of 8 bits, shows 255 for any greater number of resident tasks (DESIGN CHOICE, assumption log,
entry 98). -/
def statusBlock (s : State) (r a : Nat) : Nat × List StatusRow :=
  let rec' := fun (base size : Nat) (f : Nat → List StatusRow) => (base + (a - base) / size * size, f ((a - base) / size))
  if a < 0x1000 then (0, idRows s)
  else if a < 0x2000 then rec' 0x1000 32 fun n => if s.start.idFilled then fuseRows s.start.fuseView n else fuseRows {} n
  else if a < 0x10000 then (0, [])
  else if a < 0x10100 then (0x10000, roundRows s)
  else if a < 0x10200 then rec' 0x10100 16 fun i => sampleRows (tget s.round.samples i (0, 0))
  else if a < 0x10400 then (0, [])
  else if a < 0x10800 then rec' 0x10400 16 fun n => slotRows (s.evSlot n)
  else if a < 0x12000 then (0, [])
  else if a < 0x14000 then rec' 0x12000 8 fun n => ringRows (tget s.round.ring n {})
  else if a < 0x20000 then (0, [])
  else if a < 0x20400 then (0x20000, lehrRows s)
  else if a < 0x20600 then rec' 0x20400 32 fun i => powerRows (tget s.lehr.samples i {})
  else if a < 0x30000 then (0, [])
  else if a < 0x30400 then (0x30000, startRows s)
  else if a < 0x40000 then (0, [])
  else if a < 0x50000 then rec' 0x40000 0x400 (chanRows s)
  else if a < 0x58000 then rec' 0x50000 8 (retireRows s)
  else if a < 0x58400 then (0x58000, memRows s)
  else if a < 0x60000 then (0, [])
  else if a < 0x60100 then (0x60000, fsRows s)
  else if a < 0x60500 then rec' 0x60100 16 (tableRows s)
  else if a < 0x60800 then (0, [])
  else if a < 0x60A00 then rec' 0x60800 32 fun i => fsSampleRows (tget s.fs.samples i {})
  else if a < 0x64000 then (0, [])
  else if a < 0x68000 then rec' 0x64000 4 fun n => [row32 0 (s.shard n).last]
  else if a < 0x6C000 then rec' 0x68000 4 fun n => [row32 0 (shardWord s n)]
  else if a < 0x80000 then (0, [])
  else if a < 0x81000 then (0x80000, lensRows s)
  else if a < 0x89000 then
    let e := s.engine ((a - 0x81000) / 0x400)
    let x := (a - 0x81000) % 0x400
    if x < 0x200 then (a - x, engineRows e)
    else if x < 0x400 then (a - x % 32, lensSampleRows (tget e.samples ((x - 0x200) / 32) {}))
    else (0, [])
  else if a < 0xA0000 then (0, [])
  else if a < 0xA0400 then (0xA0000, fabRows s)
  else if a < 0xA0C00 then rec' 0xA0400 0x80 fun n => portRows (s.port n)
  else if a < 0xAF000 then (0, [])
  else if a < 0xAF100 then (0xAF000, barrierRows s)
  else if a < 0xAF500 then rec' 0xAF100 8 fun k => partBarRows (s.bar 1 0 k)
  else if a < 0xAF900 then rec' 0xAF500 8 fun k => domBarRows (s.bar 2 0 k)
  else if a < 0xAFB00 then rec' 0xAF900 32 fun i => syncSampleRows (tget s.sync.samples i {})
  else if a < 0xC0000 then (0, [])
  else if a < 0xC0400 then (0xC0000, doorRows s)
  else if a < 0xC0C00 then rec' 0xC0400 0x40 fun p => [row32 0 (min (s.residentTasks p) 255)]
  else if a < 0xC1000 then (0, [])
  else if a < 0xC3000 then rec' 0xC1000 0x40 (contextRows s)
  else if a < 0xC8000 then (0, [])
  else if a < 0xC8800 then rec' 0xC8000 0x40 (regRows s)
  else if a < 0xD0000 then (0, [])
  else if a < 0xD1000 then (0xD0000, logRows s r)
  else if a < 0xD5000 then rec' 0xD1000 32 fun n => entryRows (tget s.flt.ring n {})
  else if a < 0xD6000 then (0, [])
  else if a < 0xD6400 then rec' 0xD6000 4 fun n => [row32 0 (tget s.flt.counts n 0)]
  else if a < 0xD7FF0 then (0, [])
  else if a < 0xD8000 then (0xD7FF0, [row32 0 s.part.dlIdx, row32 4 s.part.dlWraps])
  else if a < 0xDC000 then rec' 0xD8000 32 fun n => deadRows (tget s.part.dlRing n {})
  else if a < 0x100000 then (0, [])
  else if a < 0x140000 then
    let b := clusterBlock s ((a - 0x100000) / 0x1000) ((a - 0x100000) % 0x1000)
    (0x100000 + (a - 0x100000) / 0x1000 * 0x1000 + b.1, b.2)
  else (0, [])

/-- The live 32-bit word at status offset `a`, a multiple of 4. -/
def State.statusWord (s : State) (r a : Nat) : Nat :=
  let b := statusBlock s r a
  match rowAt b.2 (a - b.1) with
  | some w => w.val / 2 ^ (32 * ((a - b.1 - w.off) / 4)) % 2 ^ 32
  | none => 0

/-- The address of the 64-bit value that the word at `a` belongs to. -/
def State.pairOf (s : State) (r a : Nat) : Option Nat :=
  let b := statusBlock s r a
  match rowAt b.2 (a - b.1) with
  | some w => if w.words = 1 then none else some (a - (a - b.1 - w.off) % 8)
  | none => none

/-! ### Reads (R355, R356) -/

/-- One 4-byte read by requester `r`: the word, and the two-half latch. -/
def readWord (r a : Nat) (s : State) : Nat × State :=
  let q := s.accOf r
  match s.pairOf r a with
  | none => (s.statusWord r a, s)
  | some v =>
    if a = v then (s.statusWord r a, s.setAcc r { q with shadow := s.statusWord r (a + 4), tag := some a })
    else if q.tag = some v then (q.shadow, s.setAcc r { q with tag := none })
    else (s.statusWord r a, s.setAcc r { q with stale := true })

/-- Words read one after another in ascending order. -/
def readWords (r : Nat) : Nat → Nat → State → List Nat × State
  | 0, _, s => ([], s)
  | n + 1, a, s =>
    let x := readWord r a s
    let y := readWords r n (a + 4) x.2
    (x.1 :: y.1, y.2)

/-- PART_DOOR as it is read: words staged, free places, doors open (R327). -/
def State.doorWord (s : State) (f : Nat) : Nat :=
  let n := (s.part.parcels.filter fun p => p.context = f).length
  pack [((tget s.part.doors f {}).words.length, 0, 3), (64 - n, 3, 7), (flag s.part.doorsOpen, 10, 1)]

/-- The words of BAR2 that are not context words: the door and the function's access status (R327, R354). -/
def State.bar2Word (s : State) (f a : Nat) : Nat :=
  if a = 0 then s.doorWord f else if a = 0x20 then (s.accOf f).word f else 0

/-- The status offset that a BAR2 offset repeats. -/
def contextOffset (f a : Nat) : Option Nat := if 0x40 ≤ a && a < 0x80 then some (0xC1000 + 0x40 * f + (a - 0x40)) else none

/-- A PCIe read of `size` bytes by function `f` in BAR0 or BAR2; the words read are the answer. A virtual function has no
BAR0. -/
def readSpace (f : Nat) (bar2 : Bool) (a size : Nat) (s : State) : State :=
  if !s.start.pcieUp || 128 ≤ f || (!bar2 && f ≠ 0) then { s with answer := [] }
  else if !((size = 4 && a % 4 = 0) || (size = 8 && a % 8 = 0)) then
    markBadSize f { s with answer := List.replicate (ceilDiv size 4) 0 }
  else
    let place := if bar2 then contextOffset f a else some a
    match place with
    | some p =>
      if size = 8 then { s with answer := [s.statusWord f p, s.statusWord f (p + 4)] }
      else
        let x := readWord f p s
        { x.2 with answer := [x.1] }
    | none =>
      if size = 8 then { s with answer := [s.bar2Word f a, s.bar2Word f (a + 4)] }
      else { s with answer := [s.bar2Word f a] }

/-! ### Writes (R13, R357) -/

/-- A flag after a write of `w` to its W1C bit `i`. -/
def w1c (b : Bool) (w i : Nat) : Bool := b && !bit w i

/-- The bits of a W1C word after a write. -/
def w1cBits (n w : Nat) : Nat := n - (n &&& w)

/-- The state with every W1C field as the present SYSCLK cycle found it. -/
def State.atCycle (s : State) : State :=
  let c := s.cycle
  { s with
    round := c.round, lehr := c.lehr, start := c.start, tiles := c.tiles, sync := c.sync, mem := c.mem, fs := c.fs, lens := c.lens
    fab := c.fab, part := c.part, flt := c.flt, acc := c.acc }

/-- Bits of the word at status offset `a` that the present SYSCLK cycle has set: a clear of this cycle leaves them (R370). -/
def State.freshBits (s : State) (r a : Nat) : Nat :=
  w1cBits (s.statusWord r a) (s.atCycle.statusWord r a)

/-- Clear bits of a requester's own access status (R357). -/
def clearAcc (r w : Nat) (s : State) : State :=
  let q := s.accOf r
  s.setAcc r { q with stale := w1c q.stale w 0, discarded := w1c q.discarded w 1, badSize := w1c q.badSize w 2 }

/-- A write of `w` to FLT_ACC_SELF by requester `r` (R357, R370). -/
def clearOwn (r w : Nat) (s : State) : State := clearAcc r (w1cBits w (s.freshBits r 0xD0080)) s

/-- The W1C words of a cluster block, at offset `x`. -/
def clearCluster (c x w : Nat) (s : State) : Option State :=
  if 0x100 ≤ x && x < 0x900 then
    if x % 32 = 28 then
      some (s.updTile (c * 64 + (x - 0x100) / 32) fun t =>
        { t with stPoison := w1c t.stPoison w 0, stMiss := w1c t.stMiss w 1, stInvalid := w1c t.stInvalid w 2 })
    else none
  else if x = 0x910 then some (s.updCsu c fun y => { y with satTiles := w1cBits y.satTiles w })
  else if x = 0x914 then some (s.updCsu c fun y => { y with satTiles := w1cBits y.satTiles (w * 2 ^ 32) })
  else if x = 0x91C then
    some (s.updCsu c fun y => { y with
      stSaturated := w1c y.stSaturated w 0, stFillLost := w1c y.stFillLost w 1, stForeign := w1c y.stForeign w 2 })
  else if x = 0xA14 then
    some (s.updCluster c fun y => { y with stOverlong := w1c y.stOverlong w 0, stMvPoison := w1c y.stMvPoison w 1 })
  else if x = 0xB00 then some (s.updCluster c fun y => { y with nfSeen := w1cBits y.nfSeen w })
  else if x = 0xB44 then some (s.updCluster c fun y => { y with stOutside := w1c y.stOutside w 0 })
  else none

/-- The W1C words of a Lens engine, at offset `x`. -/
def clearEngine (n x w : Nat) (s : State) : Option State :=
  if x = 0x40 then
    some (s.updEngine n fun e => { e with
      stOvr := w1c e.stOvr w 0, stCalAbort := w1c e.stCalAbort w 1, stDegraded := w1c e.stDegraded w 2 })
  else if x = 0x48 then some (s.updEngine n fun e => { e with ovrLanes := w1cBits e.ovrLanes w })
  else if x = 0x4C then some (s.updEngine n fun e => { e with ovrLanes := w1cBits e.ovrLanes (w * 2 ^ 32) })
  else if x = 0x50 then some (s.updEngine n fun e => { e with shadowLanes := w1cBits e.shadowLanes w })
  else if x = 0x54 then some (s.updEngine n fun e => { e with shadowLanes := w1cBits e.shadowLanes (w * 2 ^ 32) })
  else none

/-- A write of `w` to the W1C word at status offset `a`; none where no W1C field lies. -/
def clearWord (r a w : Nat) (s : State) : Option State :=
  if a = 0x10060 then
    let x := s.round
    some { s with round := { x with
      stLost := w1c x.stLost w 0, stStall := w1c x.stStall w 1, stCancel := w1c x.stCancel w 2
      stMismatch := w1c x.stMismatch w 3 } }
  else if a = 0x20060 then
    let x := s.lehr
    some { s with lehr := { x with
      stAlert := w1c x.stAlert w 0, stHoldExpired := w1c x.stHoldExpired w 1, stOob := w1c x.stOob w 2
      stShortfall := w1c x.stShortfall w 3, stDerate := w1c x.stDerate w 4, stAdcClamp := w1c x.stAdcClamp w 5 } }
  else if a = 0x30030 then
    let x := s.start
    some { s with start := { x with
      stFallback := w1c x.stFallback w 0, stStageTimeout := w1c x.stStageTimeout w 1, stLogFull := w1c x.stLogFull w 2
      stRecoveryPin := w1c x.stRecoveryPin w 3, stD2dSpared := w1c x.stD2dSpared w 4 } }
  else if 0x40000 ≤ a && a < 0x50000 then
    if (a - 0x40000) % 0x400 = 0x34 then
      some (s.updChan ((a - 0x40000) / 0x400) fun x =>
        { x with stUe := w1c x.stUe w 0, stRetired := w1c x.stRetired w 1, stExhausted := w1c x.stExhausted w 2 })
    else none
  else if a = 0x58010 then some { s with mem := { s.mem with stUnlogged := w1c s.mem.stUnlogged w 0 } }
  else if a = 0x60050 then
    let x := s.fs
    some { s with fs := { x with
      stTorn := w1c x.stTorn w 0, stUnresolved := w1c x.stUnresolved w 1, stLetterRefused := w1c x.stLetterRefused w 2
      stRepDenied := w1c x.stRepDenied w 3, stUnreachable := w1c x.stUnreachable w 4
      stMigrated := w1c x.stMigrated w 5 } }
  else if a = 0x8000C then some { s with lens := { s.lens with stLight := w1c s.lens.stLight w 0 } }
  else if 0x81000 ≤ a && a < 0x89000 then clearEngine ((a - 0x81000) / 0x400) ((a - 0x81000) % 0x400) w s
  else if a = 0xA0018 then
    let x := s.fab
    some { s with fab := { x with
      stMasterLost := w1c x.stMasterLost w 0, stPort := w1c x.stPort w 1, stCircuit := w1c x.stCircuit w 2
      stEpoch := w1c x.stEpoch w 3, stSend := w1c x.stSend w 4 } }
  else if a = 0xAF010 then
    some { s with sync := { s.sync with stAborted := w1c s.sync.stAborted w 0, stSlow := w1c s.sync.stSlow w 1 } }
  else if a = 0xC0020 then
    let x := s.part
    some { s with part := { x with
      stRefused := w1c x.stRefused w 0, stEnded := w1c x.stEnded w 1, stLimit := w1c x.stLimit w 2 } }
  else if a = 0xD0010 then some { s with flt := { s.flt with sev := w1cBits s.flt.sev w } }
  else if a = 0xD0080 then some (clearAcc r w s)
  else if 0x100000 ≤ a && a < 0x140000 then clearCluster ((a - 0x100000) / 0x1000) ((a - 0x100000) % 0x1000) w s
  else none

/-- A write of `w` to a traffic-generator control other than the control word, at offset `x` of channel `c`; none where no
RW field lies (R260). -/
def controlWord (c x w : Nat) (s : State) : Option State :=
  let put := fun (f : Tg → Tg) => some (s.updChan c fun ch => { ch with tg := f ch.tg })
  if x = 0x104 then put fun g => { g with seed := w }
  else if x = 0x108 then put fun g => { g with base := g.base / 2 ^ 32 * 2 ^ 32 + w }
  else if x = 0x10C then put fun g => { g with base := g.base % 2 ^ 32 + w * 2 ^ 32 }
  else if x = 0x110 then put fun g => { g with len := w }
  else if x = 0x114 then put fun g => { g with passes := w % 65536 }
  else none

/-- A 4-byte write of the physical function to status offset `a`: a W1C word, the recovery door, a traffic-generator
control of a channel held out of service; anything else is discarded and recorded. -/
def writeWord (r a : Nat) (w : BitVec 32) (s : State) : State :=
  match clearWord r a (w1cBits w.toNat (s.freshBits r a)) s with
  | some s' => s'
  | none =>
    if a = 0x30200 then doRecoveryDoor r w s
    else if 0x40000 ≤ a && a < 0x50000 && s.heldOut ((a - 0x40000) / 0x400) then
      let c := (a - 0x40000) / 0x400
      let x := (a - 0x40000) % 0x400
      if x = 0x100 then tgControl c w.toNat s
      else (controlWord c x w.toNat s).getD (markDiscarded r s)
    else markDiscarded r s

/-- A PCIe write of `size` bytes by function `f` in BAR0 or BAR2. -/
def writeSpace (f : Nat) (bar2 : Bool) (a size : Nat) (w : BitVec 32) (s : State) : State :=
  if !s.start.pcieUp || 128 ≤ f || (!bar2 && f ≠ 0) then s
  else if size ≠ 4 || a % 4 ≠ 0 then markBadSize f s
  else if bar2 then
    if a = 0 then doPartDoorWrite f w s
    else if a = 0x20 then clearOwn f w.toNat s
    else markDiscarded f s
  else writeWord f a w s

end Sys2Proof.Machine
end

