-- ==== Sys2Proof/Machine/Access.lean ====
section
/-! DEFINITION. Access to the status space over PCIe, SMBus and JTAG (R13, R354 to R357, R366, R367). -/

namespace Sys2Proof.Machine

/-! ### SMBus (R366) -/

/-- Does the interface answer at a 7-bit address: 0x58 plus the two straps? -/
def State.smbusAt (s : State) (addr : Nat) : Bool := s.smbSdaPin = .sends && addr = 0x58 + s.pins.smbAddr % 4

/-- One byte of the packet error code, x^8 + x^2 + x + 1 (PRESUMED: the System Management Bus standard; assumption log,
entry 99). -/
def pecStep (c b : Byte) : Byte :=
  (List.range 8).foldl (fun x _ => if x.msb then (x <<< 1) ^^^ 0x07#8 else x <<< 1) (c ^^^ b)

/-- The packet error code of a transaction's bytes. -/
def pecOf (bs : List Byte) : Nat := (bs.foldl pecStep 0).toNat

/-- The answer to a block read of command `code`, after the `req` bytes of a process call: its words, and the packet error code
when the host asks for it. -/
def blockAnswer (addr code : Nat) (req : List Byte) (pec : Bool) (ws : List Nat) : List Nat :=
  if pec then
    ws ++ [pecOf ([BitVec.ofNat 8 (2 * addr), BitVec.ofNat 8 code] ++ req
      ++ [BitVec.ofNat 8 (2 * addr + 1), BitVec.ofNat 8 (4 * ws.length)] ++ ws.flatMap fun w => leBytes w 4)]
  else ws

/-- SMBus command 0x10: words from an offset, read as requester 128. A request outside its limits is not served. -/
def doSmbusStatusRead (addr : Nat) (pec : Bool) (offset count : Nat) (s : State) : State :=
  if !s.smbusAt addr || offset % 4 ≠ 0 || 2 ^ 24 ≤ offset || count = 0 || 63 < count then { s with answer := [] }
  else
    let x := readWords 128 count offset s
    { x.2 with answer := blockAnswer addr 0x10 ([4#8] ++ leBytes offset 3 ++ leBytes count 1) pec x.1 }

/-- SMBus command 0x11. -/
def doSmbusAccessStatus (addr : Nat) (pec : Bool) (s : State) : State :=
  { s with answer := if s.smbusAt addr then blockAnswer addr 0x11 [] pec [(s.accOf 128).word 128] else [] }

/-- SMBus command 0x12: a write whose PEC fails is discarded. -/
def doSmbusAccessClear (addr : Nat) (pecOk : Bool) (s : State) : State :=
  if s.smbusAt addr && pecOk then clearOwn 128 7 s else s

/-- SMBus commands 0x20 to 0x2F. -/
def doSmbusPowerSample (addr : Nat) (pec : Bool) (i : Nat) (s : State) : State :=
  if !s.smbusAt addr || 16 ≤ i then { s with answer := [] }
  else
    let x := readWords 128 8 (0x20400 + 32 * i) s
    { x.2 with answer := blockAnswer addr (0x20 + i) [] pec x.1 }

/-- The 24 bytes of SMBus command 0x30, as six words. -/
def State.summary (s : State) : List Nat :=
  [pack [(s.start.stage, 0, 8), (pwrCode s.lehr.state, 8, 8), (rndCode s.round.state, 16, 8), (s.flt.sev, 24, 8)], s.flt.seqNext,
    s.flt.lastCode, s.lehr.measured, ofSigned 16 s.lehr.maxTemp, uToMw s.lehr.setpoint]

/-- SMBus command 0x30. -/
def doSmbusSummary (addr : Nat) (pec : Bool) (s : State) : State :=
  { s with answer := if s.smbusAt addr then blockAnswer addr 0x30 [] pec s.summary else [] }

/-! ### JTAG (R367) -/

/-- The instruction register takes a code. -/
def setIr (code : Nat) (s : State) : State := { s with jtag := { s.jtag with ir := code % 256 }, answer := [] }

/-- Do the boundary-scan cells drive the pins: EXTEST selected while RESET_N is low? -/
def State.scanDrives (s : State) : Bool := s.jtag.ir = 0 && !s.pins.resetN

/-- The boundary-scan cells capture the pins. -/
def scanCapture (s : State) : State := { s.draw.2 with answer := [Config.scanCells s.draw.1] }

/-- EXTEST: obeyed while RESET_N is low, and otherwise BYPASS. -/
def doExtest (s : State) : State :=
  let s := setIr 0 s
  if s.scanDrives then scanCapture s else s

/-- SAMPLE/PRELOAD: the cells capture the pins and take the bits shifted in. -/
def doSamplePreload (cells : Nat) (s : State) : State :=
  let s := scanCapture (setIr 1 s)
  { s with jtag := { s.jtag with cells := cells } }

/-- IDCODE. -/
def doIdcode (s : State) : State := { setIr 2 s with answer := [0x14096A8B] }

/-- STATUS_READ: the offset of Update-DR, and the word that the following Capture-DR loads. -/
def doStatusRead (offset : Nat) (s : State) : State :=
  let s := setIr 0x20 s
  let o := offset % 2 ^ 24
  let x := if o % 4 = 0 then readWord 129 o s else ((Config.strayWord s.draw.1).toNat, s.draw.2)
  { x.2 with jtag := { x.2.jtag with offset := o, data := x.1 }, answer := [x.1] }

/-- ACC_CLEAR. -/
def doAccClear (s : State) : State := clearOwn 129 7 (setIr 0x21 s)

/-- BYPASS, and every code that is no instruction's own. -/
def doBypass (code : Nat) (s : State) : State :=
  if [0x00, 0x01, 0x02, 0x20, 0x21].contains (code % 256) then s else setIr code s

/-! ### Commands -/

/-- STATUS_READ_LOW_HALF: a 4-byte or 8-byte read; at +0 of a 64-bit value it latches the high half. -/
def execStatusReadLowHalf (t requester : Nat) (bar2 : Bool) (offset size : Nat) (s : State) : Host.Outcome State Fault Refusal :=
  .next (readSpace requester bar2 offset size (s.advance t))

/-- STATUS_READ_HIGH_HALF: a 4-byte read; at +4 of a 64-bit value it answers the shadow, or the live half. -/
def execStatusReadHighHalf (t requester : Nat) (bar2 : Bool) (offset : Nat) (s : State) : Host.Outcome State Fault Refusal :=
  .next (readSpace requester bar2 offset 4 (s.advance t))

/-- BAD_SIZE_READ: a read of any size and alignment in BAR0, or in BAR2 by a virtual function. -/
def execBadSizeRead (t requester offset size : Nat) (s : State) : Host.Outcome State Fault Refusal :=
  .next (readSpace requester (requester ≠ 0) offset size (s.advance t))

/-- W1C_WRITE. -/
def execW1cWrite (t requester : Nat) (bar2 : Bool) (offset : Nat) (word : BitVec 32) (s : State) :
    Host.Outcome State Fault Refusal :=
  .next (writeSpace requester bar2 offset 4 word (s.advance t))

/-- REGISTER_WRITE. -/
def execRegisterWrite (t requester : Nat) (bar2 : Bool) (offset size : Nat) (word : BitVec 32) (s : State) :
    Host.Outcome State Fault Refusal :=
  .next (writeSpace requester bar2 offset size word (s.advance t))

/-- SMBUS_STATUS_READ. -/
def execSmbusStatusRead (head : SmbusHead) (offset count : Nat) (s : State) : Host.Outcome State Fault Refusal :=
  .next (doSmbusStatusRead head.addr head.pec offset count (s.advance head.t))

/-- SMBUS_ACCESS_STATUS. -/
def execSmbusAccessStatus (head : SmbusHead) (s : State) : Host.Outcome State Fault Refusal :=
  .next (doSmbusAccessStatus head.addr head.pec (s.advance head.t))

/-- SMBUS_ACCESS_CLEAR. -/
def execSmbusAccessClear (head : SmbusHead) (pecOk : Bool) (s : State) : Host.Outcome State Fault Refusal :=
  .next (doSmbusAccessClear head.addr (!head.pec || pecOk) (s.advance head.t))

/-- SMBUS_POWER_SAMPLE. -/
def execSmbusPowerSample (head : SmbusHead) (index : Nat) (s : State) : Host.Outcome State Fault Refusal :=
  .next (doSmbusPowerSample head.addr head.pec index (s.advance head.t))

/-- SMBUS_SUMMARY. -/
def execSmbusSummary (head : SmbusHead) (s : State) : Host.Outcome State Fault Refusal :=
  .next (doSmbusSummary head.addr head.pec (s.advance head.t))

/-- EXTEST. -/
def execExtest (t : Nat) (s : State) : Host.Outcome State Fault Refusal := .next (doExtest (s.advance t))

/-- SAMPLE_PRELOAD. -/
def execSamplePreload (t cells : Nat) (s : State) : Host.Outcome State Fault Refusal :=
  .next (doSamplePreload cells (s.advance t))

/-- IDCODE. -/
def execIdcode (t : Nat) (s : State) : Host.Outcome State Fault Refusal := .next (doIdcode (s.advance t))

/-- STATUS_READ. -/
def execStatusRead (t offset : Nat) (s : State) : Host.Outcome State Fault Refusal := .next (doStatusRead offset (s.advance t))

/-- ACC_CLEAR. -/
def execAccClear (t : Nat) (s : State) : Host.Outcome State Fault Refusal := .next (doAccClear (s.advance t))

/-- BYPASS, and every code without an instruction of its own. -/
def execBypass (t code : Nat) (s : State) : Host.Outcome State Fault Refusal := .next (doBypass code (s.advance t))

end Sys2Proof.Machine
end

