-- ==== Sys2Proof/Machine/Dispatch.lean ====
section
/-! DEFINITION. One arm per command. -/

namespace Sys2Proof.Machine

/-- The effect of a command on everything but the queue. -/
def exec (i : Instr) (s : State) : Host.Outcome State Fault Refusal :=
  match i with
  | .resetNAssert t => Sys2Proof.Machine.execResetNAssert t s
  | .resetNRelease t frcLow testEn smbAddr d2d => Sys2Proof.Machine.execResetNRelease t frcLow testEn smbAddr d2d s
  | .pgoodFall t => Sys2Proof.Machine.execPgoodFall t s
  | .sysclkLoss t => Sys2Proof.Machine.execSysclkLoss t s
  | .refclkStop t => Sys2Proof.Machine.execRefclkStop t s
  | .pcieLinkUp t => Sys2Proof.Machine.execPcieLinkUp t s
  | .imageStage t readErrA readErrB logUnreadable => Sys2Proof.Machine.execImageStage t readErrA readErrB logUnreadable s
  | .memoryStage t found => Sys2Proof.Machine.execMemoryStage t found s
  | .lightStage t lost runs => Sys2Proof.Machine.execLightStage t lost runs s
  | .fabricStage t found => Sys2Proof.Machine.execFabricStage t found s
  | .roundStage t => Sys2Proof.Machine.execRoundStage t s
  | .joinStage t => Sys2Proof.Machine.execJoinStage t s
  | .rampStage t => Sys2Proof.Machine.execRampStage t s
  | .startStageTimeout t => Sys2Proof.Machine.execStartStageTimeout t s
  | .ready entry => Sys2Proof.Machine.execReady entry s
  | .forceRecoveryNFall t => Sys2Proof.Machine.execForceRecoveryNFall t s
  | .recoveryPinHeld t => Sys2Proof.Machine.execRecoveryPinHeld t s
  | .imgRecoveryDoorWrite t requester word => Sys2Proof.Machine.execImgRecoveryDoorWrite t requester word s
  | .recoveryProgrammingDone t ok left => Sys2Proof.Machine.execRecoveryProgrammingDone t ok left s
  | .recoveryTimeout t => Sys2Proof.Machine.execRecoveryTimeout t s
  | .generatedTooth t => Sys2Proof.Machine.execGeneratedTooth t s
  | .roundEdge t => Sys2Proof.Machine.execRoundEdge t s
  | .roundMark t port m => Sys2Proof.Machine.execRoundMark t port m s
  | .stallTimeout t => Sys2Proof.Machine.execStallTimeout t s
  | .microTick t => Sys2Proof.Machine.execMicroTick t s
  | .deviceTimeAngleTick t => Sys2Proof.Machine.execDeviceTimeAngleTick t s
  | .armRequest t q => Sys2Proof.Machine.execArmRequest t q s
  | .eventSlotFire t slot => Sys2Proof.Machine.execEventSlotFire t slot s
  | .taskPlacement t parcel => Sys2Proof.Machine.execTaskPlacement t parcel s
  | .segmentEnd t => Sys2Proof.Machine.execSegmentEnd t s
  | .plateauReached t => Sys2Proof.Machine.execPlateauReached t s
  | .controlTick t r => Sys2Proof.Machine.execControlTick t r s
  | .claimIdleRelease t partition => Sys2Proof.Machine.execClaimIdleRelease t partition s
  | .powerHoldExpired t => Sys2Proof.Machine.execPowerHoldExpired t s
  | .pwrAlertNAssert t => Sys2Proof.Machine.execPwrAlertNAssert t s
  | .pwrAlertNRelease t => Sys2Proof.Machine.execPwrAlertNRelease t s
  | .thermalTrip t die => Sys2Proof.Machine.execThermalTrip t die s
  | .nop t tile slot => Sys2Proof.Machine.execNop t tile slot s
  | .fused t tile slot => Sys2Proof.Machine.execFused t tile slot s
  | .drain t tile slot => Sys2Proof.Machine.execDrain t tile slot s
  | .endTask t tile slot => Sys2Proof.Machine.execEndTask t tile slot s
  | .fetchPhaseStart t tile slot => Sys2Proof.Machine.execFetchPhaseStart t tile slot s
  | .bufferSwap t tile slot => Sys2Proof.Machine.execBufferSwap t tile slot s
  | .commandComplete t tile slot => Sys2Proof.Machine.execCommandComplete t tile slot s
  | .taskSwitch t tile => Sys2Proof.Machine.execTaskSwitch t tile s
  | .deadlineClose t tile slot => Sys2Proof.Machine.execDeadlineClose t tile slot s
  | .signal t m => Sys2Proof.Machine.execSignal t m s
  | .fill t m => Sys2Proof.Machine.execFill t m s
  | .arrive t m => Sys2Proof.Machine.execArrive t m s
  | .release t m => Sys2Proof.Machine.execRelease t m s
  | .barrierSlow t level unit record => Sys2Proof.Machine.execBarrierSlow t level unit record s
  | .marverCombine t cluster => Sys2Proof.Machine.execMarverCombine t cluster s
  | .doneAction t cluster slot => Sys2Proof.Machine.execDoneAction t cluster slot s
  | .rotation t cluster slot => Sys2Proof.Machine.execRotation t cluster slot s
  | .rowRequest t index attempts => Sys2Proof.Machine.execRowRequest t index attempts s
  | .rowResponse t index => Sys2Proof.Machine.execRowResponse t index s
  | .rowHomeUnreachable t tag => Sys2Proof.Machine.execRowHomeUnreachable t tag s
  | .letterWrite t index => Sys2Proof.Machine.execLetterWrite t index s
  | .letterUnload t index => Sys2Proof.Machine.execLetterUnload t index s
  | .replicaCopy t m => Sys2Proof.Machine.execReplicaCopy t m s
  | .replicaInvalidate t m => Sys2Proof.Machine.execReplicaInvalidate t m s
  | .invalidateAcknowledgement t m => Sys2Proof.Machine.execInvalidateAcknowledgement t m s
  | .replicaDrop t m => Sys2Proof.Machine.execReplicaDrop t m s
  | .invalidationTimeout t m => Sys2Proof.Machine.execInvalidationTimeout t m s
  | .settleExpiry t index => Sys2Proof.Machine.execSettleExpiry t index s
  | .letterComplete t letter => Sys2Proof.Machine.execLetterComplete t letter s
  | .supervisorReview t => Sys2Proof.Machine.execSupervisorReview t s
  | .memoryRequestAccept t channel => Sys2Proof.Machine.execMemoryRequestAccept t channel s
  | .memoryReadDone t channel slot ecc => Sys2Proof.Machine.execMemoryReadDone t channel slot ecc s
  | .retirementCopyDone t channel ecc => Sys2Proof.Machine.execRetirementCopyDone t channel ecc s
  | .wcbIdleEviction t channel => Sys2Proof.Machine.execWcbIdleEviction t channel s
  | .regulatorAdmit t partition => Sys2Proof.Machine.execRegulatorAdmit t partition s
  | .refresh t channel bank => Sys2Proof.Machine.execRefresh t channel bank s
  | .scrubRead t channel ecc => Sys2Proof.Machine.execScrubRead t channel ecc s
  | .selfRefreshEntry t channel => Sys2Proof.Machine.execSelfRefreshEntry t channel s
  | .tgStart t requester channel word => Sys2Proof.Machine.execTgStart t requester channel word s
  | .tgStop t requester channel word => Sys2Proof.Machine.execTgStop t requester channel word s
  | .tgRunEnd t channel r => Sys2Proof.Machine.execTgRunEnd t channel r s
  | .lensRequest t index => Sys2Proof.Machine.execLensRequest t index s
  | .matrixLoadDone t engine => Sys2Proof.Machine.execMatrixLoadDone t engine s
  | .integrationWindow t engine => Sys2Proof.Machine.execIntegrationWindow t engine s
  | .activityMicrosecond t engine => Sys2Proof.Machine.execActivityMicrosecond t engine s
  | .calibrationDone t engine dark fitOk => Sys2Proof.Machine.execCalibrationDone t engine dark fitOk s
  | .pilotCorrection t engine drift => Sys2Proof.Machine.execPilotCorrection t engine drift s
  | .lightSourceLost t source => Sys2Proof.Machine.execLightSourceLost t source s
  | .flitReceive t port bytes => Sys2Proof.Machine.execFlitReceive t port bytes s
  | .flitSend t port vc => Sys2Proof.Machine.execFlitSend t port vc s
  | .replayTimeout t port => Sys2Proof.Machine.execReplayTimeout t port s
  | .ackTimeout t port => Sys2Proof.Machine.execAckTimeout t port s
  | .portRetrainDone t port rxMask txMask => Sys2Proof.Machine.execPortRetrainDone t port rxMask txMask s
  | .controlFlit t port m => Sys2Proof.Machine.execControlFlit t port m s
  | .probeTimeout t port => Sys2Proof.Machine.execProbeTimeout t port s
  | .probeRepeat t port => Sys2Proof.Machine.execProbeRepeat t port s
  | .reconf t port m => Sys2Proof.Machine.execReconf t port m s
  | .joinRequestTimer t => Sys2Proof.Machine.execJoinRequestTimer t s
  | .joinRequest t port m => Sys2Proof.Machine.execJoinRequest t port m s
  | .joinAnswer t m => Sys2Proof.Machine.execJoinAnswer t m s
  | .beaconTimer t => Sys2Proof.Machine.execBeaconTimer t s
  | .beacon t port m => Sys2Proof.Machine.execBeacon t port m s
  | .member t port m => Sys2Proof.Machine.execMember t port m s
  | .masterTimeout t => Sys2Proof.Machine.execMasterTimeout t s
  | .sendData t d => Sys2Proof.Machine.execSendData t d s
  | .partDoorWrite t function word => Sys2Proof.Machine.execPartDoorWrite t function word s
  | .doorTorn t function => Sys2Proof.Machine.execDoorTorn t function s
  | .postReceived t post body => Sys2Proof.Machine.execPostReceived t post body s
  | .postReadTimeout t post => Sys2Proof.Machine.execPostReadTimeout t post s
  | .tlsHandshake t port conn clientDigest => Sys2Proof.Machine.execTlsHandshake t port conn clientDigest s
  | .networkFrame t port conn header body => Sys2Proof.Machine.execNetworkFrame t port conn header body s
  | .parcelLimit t parcel => Sys2Proof.Machine.execParcelLimit t parcel s
  | .functionLevelReset t function => Sys2Proof.Machine.execFunctionLevelReset t function s
  | .statusReadLowHalf t requester bar2 offset size => Sys2Proof.Machine.execStatusReadLowHalf t requester bar2 offset size s
  | .statusReadHighHalf t requester bar2 offset => Sys2Proof.Machine.execStatusReadHighHalf t requester bar2 offset s
  | .badSizeRead t requester offset size => Sys2Proof.Machine.execBadSizeRead t requester offset size s
  | .w1cWrite t requester bar2 offset word => Sys2Proof.Machine.execW1cWrite t requester bar2 offset word s
  | .registerWrite t requester bar2 offset size word => Sys2Proof.Machine.execRegisterWrite t requester bar2 offset size word s
  | .smbusStatusRead head offset count => Sys2Proof.Machine.execSmbusStatusRead head offset count s
  | .smbusAccessStatus head => Sys2Proof.Machine.execSmbusAccessStatus head s
  | .smbusAccessClear head pecOk => Sys2Proof.Machine.execSmbusAccessClear head pecOk s
  | .smbusPowerSample head index => Sys2Proof.Machine.execSmbusPowerSample head index s
  | .smbusSummary head => Sys2Proof.Machine.execSmbusSummary head s
  | .extest t => Sys2Proof.Machine.execExtest t s
  | .samplePreload t cells => Sys2Proof.Machine.execSamplePreload t cells s
  | .idcode t => Sys2Proof.Machine.execIdcode t s
  | .statusRead t offset => Sys2Proof.Machine.execStatusRead t offset s
  | .accClear t => Sys2Proof.Machine.execAccClear t s
  | .bypass t code => Sys2Proof.Machine.execBypass t code s
  | .forceRecoveryNRise t => Sys2Proof.Machine.execForceRecoveryNRise t s
  | .roundInFallingEdge t => Sys2Proof.Machine.execRoundInFallingEdge t s
  | .connectionClose t port conn => Sys2Proof.Machine.execConnectionClose t port conn s
  | .writeToDeviceDone t channel slot => Sys2Proof.Machine.execWriteToDeviceDone t channel slot s

end Sys2Proof.Machine
end

