-- ==== Sys2Proof/Safety.lean ====
section
/-! DEFINITION. What counts as a safe run of the block, in the terms the statements use. -/

namespace Sys2Proof

open Sys2Proof.Machine

/-- One record of the fuse log and what it may become: the same record, its completion mark set or unchanged (R364). -/
def RecKept (x y : FuseRec) : Prop := y = x ∨ y = { x with complete := true }

/-- Fuse settings only ever move forward (R64, R96, R359, R364): neither anti-rollback nor the fused ceiling falls; a programmed
key slot stays programmed and keeps its digest, a revoked one stays revoked; and the fuse log only grows, each record staying at
its index as it was but for its completion mark, which is set and never cleared. -/
def FusesGrow (a b : Fuses) : Prop :=
  a.rollback ≤ b.rollback ∧ a.ceilingW ≤ b.ceilingW ∧
    (∀ (i : Nat) (x : FuseRec), a.log[i]? = some x → ∃ y, b.log[i]? = some y ∧ RecKept x y) ∧
    ∀ k, ((a.keys.getD k {}).programmed = true →
        (b.keys.getD k {}).programmed = true ∧ (b.keys.getD k {}).digest = (a.keys.getD k {}).digest) ∧
      ((a.keys.getD k {}).revoked = true → (b.keys.getD k {}).revoked = true)

/-- A safe state: every byte store is in canonical form. -/
def Safe (s : State) : Prop := Memory.wf s = true

/-- A safe step: it answers a next state, keeps the byte stores canonical, and moves no fuse setting back. -/
def SafeStep (s : State) : Prop :=
  ∃ u, step s = .next u ∧ (Safe s → Safe u) ∧ FusesGrow s.nv.fuses u.nv.fuses

end Sys2Proof
end

