-- ==== Sys2Proof/WellFormed.lean ====
section
/-! DEFINITION. Which commands are well formed: every operand that names a unit, a register or a field names one that exists
and fits. The meanings are total and do not ask for it; it says which commands the part's surroundings and units can send. -/

namespace Sys2Proof

def D2dFail.wf (x : D2dFail) : Bool := x.link < 5 && x.dir < 2

def ChanTrain.wf (x : ChanTrain) : Bool :=
  x.channel < 64 && x.density < 16 && x.lanes0.all (fun n => n < 8) && x.lanes1.all (fun n => n < 8)

def CalRun.wf (x : CalRun) : Bool := x.engine < 32 && x.dark < 65536

def PortTrain.wf (x : PortTrain) : Bool :=
  x.port < 16 && x.rxMask < 65536 && x.txMask < 65536 && x.farDevice < 2048 && x.farPort < 16

def MarkMsg.wf (m : MarkMsg) : Bool :=
  m.master < 2048 && m.tooth < 254 && m.hops < 64 && m.rev < 2 ^ 32 && m.epoch < 2 ^ 64

def BeaconMsg.wf (m : BeaconMsg) : Bool := m.master < 2048 && m.epoch < 2 ^ 32 && m.memberGen < 65536 && m.masterTime < 2 ^ 64

def MemberMsg.wf (m : MemberMsg) : Bool :=
  m.master < 2048 && m.device < 2048 && 1 ≤ m.change && m.change ≤ 3 && m.gen < 65536 && m.serial < 2 ^ 64

def ReconfMsg.wf (m : ReconfMsg) : Bool := m.master < 2048 && m.plan < 16 && m.angle < 65536 && m.rev < 2 ^ 32

def JoinReq.wf (m : JoinReq) : Bool :=
  m.device < 2048 && m.digest < 2 ^ 384 && m.serial < 2 ^ 64 && m.sequence < 2 ^ 32 && m.stepping < 256

def JoinAns.wf (m : JoinAns) : Bool :=
  m.device < 2048 && m.code < 4 && m.epoch < 2 ^ 32 && m.bitmap < 2 ^ 2048 && m.memberGen < 65536

def CtlMsg.wf (m : CtlMsg) : Bool :=
  match m with
  | .identity _ device port _ => device < 2048 && port < 16
  | .training | .delay _ _ | .probe | .probeAnswer => true

def ArmReq.wf (q : ArmReq) : Bool :=
  q.owner ≤ 4 && q.angle < 65536 && q.offset < 2 ^ 20 && q.rev < 2 ^ 32 && q.tag < 65536

def PowerReading.wf (r : PowerReading) : Bool := r.temps.length = 6 && r.idleMxe.length = 64 && r.idleMxe.all (· ≤ 64)

def SyncMsg.wf (m : SyncMsg) : Bool :=
  1 ≤ m.kind && m.kind ≤ 4 && m.device < 2048 && m.cluster < 64 && m.tile < 64 && m.index < 512 && m.level < 3
    && m.context < 128 && m.gen < 65536

def ReplicaMsg.wf (m : ReplicaMsg) : Bool := m.table < 64 && m.device < 2048

def SendData.wf (d : SendData) : Bool :=
  d.context < 128 && d.cluster < 64 && d.tile < 64 && d.counter < 48 && d.sectors.all fun x => x.1.length = 32

/-- A tile and a task slot of it. -/
def slotWf (tile slot : Nat) : Bool := tile < 4096 && slot < 4

/-- A PCIe access: a function, and an offset in BAR0 (physical function) or in BAR2. -/
def accessWf (requester : Nat) (bar2 : Bool) (offset : Nat) : Bool :=
  requester < 128 && if bar2 then offset < 4096 else requester = 0 && offset < 2 ^ 24

/-- Is a command well formed? -/
def Instr.wf (i : Instr) : Bool :=
  match i with
  | .resetNAssert _ | .pgoodFall _ | .sysclkLoss _ | .refclkStop _ | .pcieLinkUp _ | .roundStage _ | .joinStage _
  | .rampStage _ | .startStageTimeout _ | .ready _ | .forceRecoveryNFall _ | .recoveryPinHeld _ | .recoveryTimeout _
  | .generatedTooth _ | .roundEdge _ | .stallTimeout _ | .microTick _ | .deviceTimeAngleTick _ | .segmentEnd _
  | .plateauReached _ | .powerHoldExpired _ | .pwrAlertNAssert _ | .pwrAlertNRelease _ | .supervisorReview _
  | .joinRequestTimer _ | .beaconTimer _ | .masterTimeout _
  | .extest _ | .samplePreload _ _ | .idcode _ | .accClear _ | .forceRecoveryNRise _ | .roundInFallingEdge _ => true
  | .resetNRelease _ _ _ a d => a < 4 && d.all D2dFail.wf
  | .imageStage _ a b _ => a < 32 && b < 32
  | .memoryStage _ l => l.all ChanTrain.wf
  | .lightStage _ lost runs => lost.all (fun n => n < 6) && runs.all CalRun.wf
  | .fabricStage _ l => l.all PortTrain.wf
  | .imgRecoveryDoorWrite _ r _ => r < 128
  | .recoveryProgrammingDone _ _ l => l.length ≤ 16777216
  | .roundMark _ p m => p < 16 && m.wf
  | .armRequest _ q => q.wf
  | .eventSlotFire _ n => n < 64
  | .taskPlacement _ _ | .rowRequest _ _ _ | .rowResponse _ _ | .rowHomeUnreachable _ _ | .letterWrite _ _ | .letterUnload _ _
  | .settleExpiry _ _ | .letterComplete _ _ | .lensRequest _ _ | .postReceived _ _ _ | .postReadTimeout _ _
  | .parcelLimit _ _ => true
  | .controlTick _ r => r.wf
  | .claimIdleRelease _ p | .regulatorAdmit _ p => p < 32
  | .thermalTrip _ d => d < 6
  | .nop _ t k | .fused _ t k | .drain _ t k | .endTask _ t k | .fetchPhaseStart _ t k | .bufferSwap _ t k
  | .commandComplete _ t k | .deadlineClose _ t k => slotWf t k
  | .taskSwitch _ t => t < 4096
  | .signal _ m | .fill _ m | .arrive _ m | .release _ m => m.wf
  | .barrierSlow _ level unit record =>
    level < 3 && unit < 64 && if level = 0 then record < 16 else record < 128
  | .marverCombine _ c => c < 64
  | .doneAction _ c k | .rotation _ c k => c < 64 && k < 8
  | .replicaCopy _ m | .replicaInvalidate _ m | .invalidateAcknowledgement _ m | .replicaDrop _ m
  | .invalidationTimeout _ m => m.wf
  | .memoryRequestAccept _ c | .wcbIdleEviction _ c | .selfRefreshEntry _ c | .scrubRead _ c _ | .memoryReadDone _ c _ _
  | .writeToDeviceDone _ c _ => c < 64
  | .retirementCopyDone _ c l => c < 64 && l.all fun x => x.sector < 2048
  | .refresh _ c b => c < 64 && b < 32
  | .tgStart _ r c _ | .tgStop _ r c _ => r < 128 && c < 64
  | .tgRunEnd _ c r => c < 64 && r.passes < 65536
  | .matrixLoadDone _ e | .integrationWindow _ e | .activityMicrosecond _ e => e < 32
  | .calibrationDone _ e dark _ => e < 32 && dark < 65536
  | .pilotCorrection _ e drift => e < 32 && drift < 65536
  | .lightSourceLost _ n => n < 6
  | .flitReceive _ p bs => p < 16 && bs.length = 256
  | .flitSend _ p vc => p < 16 && vc < 5
  | .replayTimeout _ p | .ackTimeout _ p | .probeTimeout _ p | .probeRepeat _ p => p < 16
  | .portRetrainDone _ p a b => p < 16 && a < 65536 && b < 65536
  | .controlFlit _ p m => p < 16 && m.wf
  | .reconf _ p m => p < 16 && m.wf
  | .joinRequest _ p m => p < 16 && m.wf
  | .joinAnswer _ m => m.wf
  | .beacon _ p m => p < 16 && m.wf
  | .member _ p m => p < 16 && m.wf
  | .sendData _ d => d.wf
  | .partDoorWrite _ f _ | .doorTorn _ f | .functionLevelReset _ f => f < 128
  | .tlsHandshake _ p _ c => p < 2 && c < 2 ^ 384
  | .networkFrame _ p _ h _ => p < 2 && h.length = 16
  | .connectionClose _ p _ => p < 2
  | .statusReadLowHalf _ r b o z => accessWf r b o && ((z = 4 && o % 4 = 0) || (z = 8 && o % 8 = 0))
  | .statusReadHighHalf _ r b o => accessWf r b o && o % 4 = 0
  | .badSizeRead _ r o z => r < 128 && o < 2 ^ 24 && !((z = 4 && o % 4 = 0) || (z = 8 && o % 8 = 0))
  | .w1cWrite _ r b o _ => accessWf r b o && o % 4 = 0
  | .registerWrite _ r b o _ _ => accessWf r b o
  | .smbusStatusRead h o n => h.addr < 128 && o < 2 ^ 24 && o % 4 = 0 && 1 ≤ n && n ≤ 63
  | .smbusAccessStatus h | .smbusAccessClear h _ | .smbusSummary h => h.addr < 128
  | .smbusPowerSample h i => h.addr < 128 && i < 16
  | .statusRead _ o => o < 2 ^ 24 && o % 4 = 0
  | .bypass _ c => c < 256 && !([0x00, 0x01, 0x02, 0x20, 0x21] : List Nat).contains c

end Sys2Proof
end

