-- ==== Sys2Proof/Certificates/Slice0/Obligations.lean ====
section
/-! DEFINITION. The statements about the block. Where a next state `u` is given as `{ s.advance t with … }`, every register of
the parts of State that are not named is as it was when device time had passed to `t`: that is the frame. -/

open Sys2Proof Sys2Proof.Machine

/-! ### The block -/

/-- A step takes the command at the front of the queue and runs it with the queue's rest; on an empty queue a SYSCLK edge
passes (the second clause is the model's choice, log entry 1). -/
def Obligations.StepRunsFront : Prop :=
  (∀ (c : Instr) (rest : List Instr) (s : State), s.pending = c :: rest → step s = exec c { s with pending := rest }) ∧
    ∀ s : State, s.pending = [] → step s = .next s.sysclkEdge

/-! ### Reset and start (R14, R84 to R109, R382, R395, R396) -/

/-- RESET_N_ASSERT, PGOOD_FALL and SYSCLK_LOSS (R84, R85, R382): every register takes its reset value; the fuses and the flash
survive, and so do the queue, the pins and the JTAG port. A slot that was being programmed is left with undefined bytes
(R109), and no byte outside its blocks changes. -/
def Obligations.ResetClears : Prop :=
  ∀ (t : Nat) (s : State) (c : Instr) (p : Pins),
    (c = .resetNAssert t ∧ p = { s.pins with resetN := false, holdReset := false, roundOut := false }) ∨
    (s.running = true ∧ c = .pgoodFall t ∧ p = { s.pins with pgood := false, holdReset := true, roundOut := false }) ∨
    (s.running = true ∧ c = .sysclkLoss t ∧ p = { s.pins with sysclk := false, holdReset := true, roundOut := false }) →
    ∃ u, exec c s = .next u ∧
      u = { State.reset with
        pending := s.pending, free := u.free, answer := s.answer, pins := p, nv := { s.nv with flash := u.nv.flash }
        jtag := s.jtag } ∧
      (s.start.recResult ≠ 3 → u.free = s.free ∧ u.nv.flash = s.nv.flash) ∧
      ∀ a, (a < slotBase s.start.recTarget ∨
          slotBase s.start.recTarget + roundUp s.start.recBuf.length 65536 ≤ a) →
        cellGet 0xFF#8 u.nv.flash a = cellGet 0xFF#8 s.nv.flash a

/-- RESET_N_RELEASE (R32, R84, R86, R396): device time starts at 0, the governor is in START, the ROM stage begins, and the part
is FAILED if TEST_EN was high or a die-to-die link needs more lanes than it has (R89). -/
def Obligations.ReleaseStartsRom : Prop :=
  ∀ (t : Nat) (frc test : Bool) (addr : Nat) (d2d : List D2dFail) (s : State), s.pins.resetN = false →
    ∃ u, exec (.resetNRelease t frc test addr d2d) s = .next u ∧
      u.now = 0 ∧ u.lehr = { State.reset.lehr with state := .start } ∧ u.nv = s.nv ∧ u.pending = s.pending ∧
      u.pins.resetN = true ∧ u.pins.smbAddr = addr % 4 ∧ u.start.fuseView = s.nv.fuses ∧
      (test = true ∨ (∃ x ∈ d2d, x.link < 5 ∧ 4 < x.data + x.spare) → u.start.stage = 11 ∧ u.start.idFilled = false) ∧
      (test = false ∧ (∀ x ∈ d2d, x.link < 5 → x.data + x.spare ≤ 4) → u.start.stage = 1 ∧ u.start.idFilled = true) ∧
      tget u.start.stageTime 1 1 = 0 ∧
      u = { State.reset with
        pending := s.pending, free := s.free, answer := s.answer, nv := s.nv, jtag := s.jtag, pins := u.pins, lehr := u.lehr
        start := u.start, flt := u.flt }

/-- REFCLK_STOP takes the PCIe link down and nothing else (R395); PCIE_LINK_UP brings it up, not where TEST_EN was high at the
release of RESET_N (R87, R396). -/
def Obligations.PcieLink : Prop :=
  ∀ (t : Nat) (s : State),
    exec (.refclkStop t) s = .next { s.advance t with
      pins := { s.pins with refclk := false }, start := { s.start with pcieUp := false } } ∧
    (s.running = true → s.pins.testEn = false →
      exec (.pcieLinkUp t) s = .next { s.advance t with
        pins := { s.pins with refclk := true }, start := { s.start with pcieUp := true } }) ∧
    (s.pins.testEn = true → exec (.pcieLinkUp t) s = .next (s.advance t))

/-- FORCE_RECOVERY_N_FALL, FORCE_RECOVERY_N_RISE and RECOVERY_PIN_HELD (R103): the time of the fall is kept, each further whole
hour low raises 0x3008 with its status bit and count, and a rise ends the period. -/
def Obligations.RecoveryPin : Prop :=
  ∀ (t : Nat) (s : State),
    (s.pins.frcLow = false → exec (.forceRecoveryNFall t) s = .next { s.advance t with
      pins := { s.pins with frcLow := true, frcSince := (s.advance t).now, frcHours := 0 } }) ∧
    exec (.forceRecoveryNRise t) s = .next { s.advance t with pins := { s.pins with frcLow := false } } ∧
    (s.running = true → s.pins.frcLow = true →
      s.pins.frcSince + (s.pins.frcHours + 1) * 3600000000000 ≤ (s.advance t).now →
      exec (.recoveryPinHeld t) s = .next (raise0 0x3008 { s.advance t with
        pins := { s.pins with frcHours := s.pins.frcHours + 1 }
        start := { s.start with stRecoveryPin := true, frcHeldHours := min (s.start.frcHeldHours + 1) 4294967295 } }))

/-- IMAGE_STAGE (R86, R101, R103): FORCE_RECOVERY_N sampled low leads to recovery, cause 1; otherwise the part has the image copy
and is in the IMAGE stage if some slot in the order of selection passes every check, and is in recovery, cause 2, without an
image copy if none does. -/
def Obligations.ImageStageSelects : Prop :=
  ∀ (t ea eb : Nat) (bad : List Nat) (s : State), s.clocked = true → s.start.stage = 1 → s.img = none →
    ∃ u, exec (.imageStage t ea eb bad) s = .next u ∧
      u.nv.fuses = s.nv.fuses ∧ u.mem = (s.advance t).mem ∧ u.tiles = s.tiles ∧ u.part = s.part ∧ u.pins = s.pins ∧
      (s.start.frcSampled = true → u.start.stage = 10 ∧ u.start.recoveryCause = 1 ∧ u.img = none) ∧
      (s.start.frcSampled = false →
        let err := fun k => if k = 0 then ea else eb
        ((∀ k ∈ s.nv.slotOrder err, (checkImage s.nv s.start.fuseView (err k) (s.nv.slotImage k)).failed ≠ 0) →
          u.start.stage = 10 ∧ u.start.recoveryCause = 2 ∧ u.img = none) ∧
        ((∃ k ∈ s.nv.slotOrder err, (checkImage s.nv s.start.fuseView (err k) (s.nv.slotImage k)).failed = 0) →
          u.start.stage = 2 ∧ ∃ k ∈ s.nv.slotOrder err,
            (checkImage s.nv s.start.fuseView (err k) (s.nv.slotImage k)).failed = 0 ∧
            u.img = some (checkImage s.nv s.start.fuseView (err k) (s.nv.slotImage k)).image ∧ u.start.slotActive = k))

/-- MEMORY_STAGE (R138, R238, R257, R268): every sector and tile SRAM is zero and unpoisoned, every held word empty, every row-map
entry and count of the feature store clear; more channels out of service than IMG_MAX_CHANNELS_DOWN means FAILED. -/
def Obligations.MemoryStageClears : Prop :=
  ∀ (t : Nat) (found : List ChanTrain) (s : State), s.clocked = true → s.start.stage = 2 → s.img.isSome = true →
    ∃ u, exec (.memoryStage t found) s = .next u ∧
      u = { s.advance t with mem := u.mem, tiles := {}, fs := u.fs, start := u.start, flt := u.flt } ∧
      u.mem.cells = [] ∧ u.mem.poison = [] ∧ u.mem.trained = true ∧ u.mem.lines = [] ∧
      u.fs = { ({} : FsSt) with tablesActive := u.fs.tablesActive, shardsActive := u.fs.shardsActive } ∧
      u.mem.inService = 64 - u.start.channelsDown ∧
      u.start.stage = (if s.im.start.maxChannelsDown < u.start.channelsDown then 11 else 3) ∧
      ∀ p, p < 32 → (tget u.mem.regs p {}).tokens = (s.partEntry p).burstKib * 10240

/-- LIGHT_STAGE (R86, R107, R291): the stage begins, with its time, and changes no fuse, pin, image copy, clock or access status; with
no task resident, as before READY, the light comes on, LENS_CAL_TURN is 0, every engine outside LENS_ENGINE_MASK is DEGRADED with
cause held dark, and the stage's calibrations leave every engine serving or DEGRADED; with every port still in its reset state, as
before FABRIC, nothing beyond the engines, the fabric and the event log changes. -/
def Obligations.LightStageBegins : Prop :=
  ∀ (t : Nat) (lost : List Nat) (runs : List CalRun) (s : State), s.clocked = true → s.start.stage = 3 →
    ∃ u, exec (.lightStage t lost runs) s = .next u ∧
      u.start = { s.start with stage := 4, stageTime := tset s.start.stageTime 4 (s.advance t).devCount } ∧
      u.now = (s.advance t).now ∧ u.nv = s.nv ∧ u.img = s.img ∧ u.pins = s.pins ∧ u.acc = s.acc ∧ u.jtag = s.jtag ∧
      (s.tiles.tiles = [] → s.lens.flight = [] →
        u.lens.lit = true ∧ u.lens.calTurn = 0 ∧ u.lens.comb = s.im.lens.comb ∧ u.lightDone = true ∧
        (∀ n, n < 32 → bit s.im.lens.engineMask n = false → (u.engine n).state = .degraded ∧ (u.engine n).cause = 3) ∧
        (s.fab.ports = [] → u = { s.advance t with start := u.start, lens := u.lens, fab := u.fab, flt := u.flt }))

/-- FABRIC_STAGE begins only when every engine is calibrated or DEGRADED (R86, R291); a part without FAB_CORE lights no port (R304);
in another every port that some plan uses is trained, and fails with cause 1 where it does not train or a direction passes fewer than
FAB_MIN_LANES lanes, is foreign where the far end is of another domain, and else knows its far end and its delay and takes its mode in
plan 0 (R294, R302). ROUND_STAGE follows it (R61): with an outside source the Round unit begins to seek and ROUND_OUT follows its mode;
with GENERATE a part that is its master is in SYNC at 0.0 of revolution 0 at once, at the nominal period of 5.12 µs or more. -/
def Obligations.FabricAndRoundStages : Prop :=
  ∀ (t : Nat) (s : State), s.clocked = true →
    (∀ found, s.start.stage = 4 → s.lightDone = true → s.im.fab.present = false →
      exec (.fabricStage t found) s = .next { s.advance t with
        start := { s.start with stage := 5, stageTime := tset s.start.stageTime 5 (s.advance t).devCount } }) ∧
    (∀ found, s.start.stage = 4 → s.lightDone = false → exec (.fabricStage t found) s = .next (s.advance t)) ∧
    (∀ found, s.start.stage = 4 → s.lightDone = true → s.im.fab.present = true →
      ∃ u, exec (.fabricStage t found) s = .next u ∧
        u = { s.advance t with start := u.start, fab := u.fab, flt := u.flt } ∧
        u.start = { s.start with stage := 5, stageTime := tset s.start.stageTime 5 (s.advance t).devCount } ∧ u.fab.plan = 0 ∧
        ∀ n, n < 16 → s.litPort n = true → (s.port n).stuck = false →
          (found.find? (fun x => x.port = n) = none → (u.port n).state = .failed ∧ (u.port n).failCause = 1) ∧
          ∀ x, found.find? (fun x => x.port = n) = some x →
            (s.tooNarrow x.rxMask x.txMask = true → (u.port n).state = .failed ∧ (u.port n).failCause = 1) ∧
            (s.tooNarrow x.rxMask x.txMask = false →
              (u.port n).farDevice = x.farDevice % 2048 ∧ (u.port n).farPort = x.farPort % 16 ∧
              (u.port n).delayNs = min x.delayNs 65535 ∧
              (x.farDomain ≠ s.im.fab.domainId → (u.port n).state = .foreign) ∧
              (x.farDomain = s.im.fab.domainId → (u.port n).child = x.parentClaim ∧
                (u.port n).state =
                  (if u.portMode 0 n = 0 then .up else if u.portMode 0 n = 1 then .passThrough else .dark)))) ∧
    (s.start.stage = 5 → s.im.round.source = 0 → s.isMaster = true → 1310720 ≤ s.nominal →
      ∃ u, exec (.roundStage t) s = .next u ∧
        u.start = { s.start with stage := 6, stageTime := tset s.start.stageTime 6 (s.advance t).devCount } ∧
        u.pins = { s.pins with
          roundOut := s.im.round.outMode = 1 || (s.im.round.outMode = 2 && s.pins.roundIn) } ∧
        u.round.state = .sync ∧ u.round.synced = true ∧ u.round.angle = 0 ∧ u.round.rev = 0 ∧ u.round.position = 0 ∧
        u.round.refCommitted = true ∧ u.round.refPeriod = s.nominal ∧ u.round.lastEdge = some ((s.advance t).devCount : Int) ∧
        u.round.epoch = (s.advance t).devCount ∧ u.nv = s.nv ∧ u.img = s.img ∧ u.acc = s.acc ∧ u.jtag = s.jtag) ∧
    (s.start.stage = 5 → s.im.round.source ≠ 0 →
      exec (.roundStage t) s = .next { s.advance t with
        start := { s.start with stage := 6, stageTime := tset s.start.stageTime 6 (s.advance t).devCount }
        pins := { s.pins with roundOut := s.im.round.outMode = 2 && s.pins.roundIn }
        fab := { s.fab with lastBeacon := (s.advance t).now }
        round := { s.round with
          state := .seek, refCommitted := false, refPeriod := 0, lastEdge := none, lastArrival := (s.advance t).devCount
          devAngle := 0, devBase := (s.advance t).devCount * 65536, seek := [], mismatchRaised := false } })

/-- JOIN_STAGE begins after entry to SYNC: a domain of one passes it at once, and it or a master is its domain's
first member; another part sends its join request to the master (R26, R86, R306).
RAMP_STAGE begins after the join: the governor is in RAMP_TO_FLOOR, HOLD, DESCEND or ALERT (R78, R79, R82). -/
def Obligations.JoinAndRampStages : Prop :=
  ∀ (t : Nat) (s : State), s.clocked = true →
    (s.start.stage = 6 → s.round.synced = true → s.alone = true →
      exec (.joinStage t) s = .next { s.advance t with
        start := { s.start with stage := 7, stageTime := tset s.start.stageTime 7 (s.advance t).devCount }
        fab := { s.fab with memberMap := setBit s.fab.memberMap s.deviceId } }) ∧
    (s.start.stage = 6 → s.round.synced = true → s.alone = false → s.isMaster = true →
      exec (.joinStage t) s = .next { s.advance t with
        start := { s.start with stage := 7, stageTime := tset s.start.stageTime 7 (s.advance t).devCount }
        fab := { s.fab with masterPresent := true, memberMap := setBit s.fab.memberMap s.deviceId } }) ∧
    (s.start.stage = 6 → s.round.synced = true → s.alone = false → s.isMaster = false →
      exec (.joinStage t) s = .next (requestJoin { s.advance t with
        start := { s.start with stage := 7, stageTime := tset s.start.stageTime 7 (s.advance t).devCount }
        fab := { s.fab with joining := true } })) ∧
    (s.start.stage = 6 → s.round.synced = false → exec (.joinStage t) s = .next (s.advance t)) ∧
    (s.start.stage = 7 → s.joinDone = true →
      ∃ u, exec (.rampStage t) s = .next u ∧
        u = { s.advance t with start := u.start, lehr := u.lehr, round := u.round } ∧
        u.start = { s.start with stage := 8, stageTime := tset s.start.stageTime 8 (s.advance t).devCount } ∧
        u.lehr.holdNs = 0 ∧
        (s.pins.alertLow = true → u.lehr.state = .alert) ∧
        (s.pins.alertLow = false → (s.advance t).lehr.lossNow = true → u.lehr.state = .hold) ∧
        (s.pins.alertLow = false → (s.advance t).lehr.lossNow = false → u.lehr.state = .rampToFloor))

/-- START_STAGE_TIMEOUT (R86): 0x300C with the stage's code, IMG_ST_STAGE_TIMEOUT, once for ROUND and once for JOIN; the stage keeps
waiting, and another stage has no timeout. -/
def Obligations.StageTimeouts : Prop :=
  ∀ (t : Nat) (s : State), s.clocked = true →
    (s.start.stage = 6 → s.round.synced = false → s.start.timeoutRound = false →
      tget s.start.stageTime 6 0 + s.im.start.syncTimeoutS * 1000000000 ≤ (s.advance t).now →
      exec (.startStageTimeout t) s = .next (raise 0x300C 6 { s.advance t with
        start := { s.start with timeoutRound := true, stStageTimeout := true } })) ∧
    (s.start.stage = 7 → s.joinDone = false → s.start.timeoutJoin = false →
      tget s.start.stageTime 7 0 + s.im.start.joinTimeoutS * 1000000000 ≤ (s.advance t).now →
      exec (.startStageTimeout t) s = .next (raise 0x300C 7 { s.advance t with
        start := { s.start with timeoutJoin := true, stStageTimeout := true } })) ∧
    (s.start.stage = 6 → s.start.timeoutRound = true → exec (.startStageTimeout t) s = .next (s.advance t)) ∧
    (s.start.stage = 7 → s.start.timeoutJoin = true → exec (.startStageTimeout t) s = .next (s.advance t)) ∧
    (s.start.stage ≠ 6 → s.start.stage ≠ 7 → exec (.startStageTimeout t) s = .next (s.advance t))

/-- READY (R86, R96, R109, R363, R364): from RAMP with PWR_STATE in GOVERN every change is programmed and the doors open; the
anti-rollback fuse takes the image's step if IMG_ROLLBACK_ADVANCE is set and it is lower, with a counted record of its own, and never
falls. Stopped after some of its programming steps (the operand is the model's, log entry 13) the part has the doors open only if no
step was left; after the first of them the outcome byte is programmed and no fuse has changed. In any other governor state the stage
waits. An image of a lower step than the fused one is never accepted. -/
def Obligations.ReadyOpensDoors : Prop :=
  ∀ (t : Nat) (s : State), s.clocked = true → s.start.stage = 8 →
    ((s.advance t).lehr.state = .govern →
      (∃ u, exec (.ready ⟨t, none⟩) s = .next u ∧
        u = { s.advance t with nv := u.nv, start := u.start, part := u.part, flt := u.flt } ∧
        u.start.stage = 9 ∧ u.start.entry.finished = true ∧ u.part = { s.part with doorsOpen := true } ∧
        (s.start.entry.begun = false → (∀ r ∈ s.im.fuseReqs, r.kind ≠ 5) → u.nv.fuses.rollback =
          (if s.im.start.rollbackAdvance then max s.nv.fuses.rollback s.im.start.rollbackStep else s.nv.fuses.rollback)) ∧
        (s.start.entry.begun = false → s.im.start.rollbackAdvance = true → s.nv.fuses.rollback < s.im.start.rollbackStep →
          ∃ l, u.nv.fuses.log = s.nv.fuses.log ++
            { kind := 5, slot := 0, complete := true, factory := false, imgSeq := s.im.start.sequence
              old := s.nv.fuses.rollback, new := s.im.start.rollbackStep, bootSeq := s.start.bootSeq } :: l) ∧
        FusesGrow s.nv.fuses u.nv.fuses) ∧
      (∀ k, ∃ u, exec (.ready ⟨t, some k⟩) s = .next u ∧ FusesGrow s.nv.fuses u.nv.fuses ∧
        (u.start.stage = 9 ∧ u.part = { s.part with doorsOpen := true } ∧ u.start.entry.finished = true ∨
          u.start.stage = 8 ∧ u.part = s.part ∧ u.start.entry.finished = false)) ∧
      (s.start.entry.begun = false → Memory.wf s = true →
        ∃ u, exec (.ready ⟨t, some 1⟩) s = .next u ∧ u.nv.fuses = s.nv.fuses ∧ u.start.entry.begun = true ∧
          ∀ i, s.start.bootEntry = some i → cellGet 0xFF#8 u.nv.flash (logBase + 32 * i + 9) = 0)) ∧
    (∀ (f : Fuses) (err : Nat) (bs : List Byte), (checkImage s.nv f err bs).failed = 0 →
      f.rollback ≤ (checkImage s.nv f err bs).image.start.rollbackStep) ∧
    (∀ k, (s.advance t).lehr.state ≠ .govern → exec (.ready ⟨t, k⟩) s = .next (s.advance t))

/-- The recovery door (R13, R104, R105): outside recovery it is RO; in recovery a word of the physical function is taken, least
significant byte first, while fewer than 16 bytes have come; RECOVERY_TIMEOUT ends a reception that stood still for 10 s; and
RECOVERY_PROGRAMMING_DONE leaves the delivered bytes in the target slot. -/
def Obligations.RecoveryDoor : Prop :=
  ∀ (t : Nat) (w : BitVec 32) (s : State),
    (s.start.pcieUp = true → s.start.stage ≠ 10 →
      exec (.imgRecoveryDoorWrite t 0 w) s = .next (markDiscarded 0 (s.advance t))) ∧
    (s.start.pcieUp = true → s.start.stage = 10 → s.start.recResult = 1 → s.start.recTotal = 0 → s.start.recBuf.length < 12 →
      exec (.imgRecoveryDoorWrite t 0 w) s = .next { s.advance t with
        start := { s.start with
          recBuf := s.start.recBuf ++ leBytes w.toNat 4, recReceived := s.start.recBuf.length + 4
          recAt := (s.advance t).now } }) ∧
    (s.start.recResult = 1 → s.start.recAt + 10000000000 ≤ (s.advance t).now →
      exec (.recoveryTimeout t) s = .next { s.advance t with
        start := { s.start with recResult := 11, recBuf := [], recTotal := 0 } }) ∧
    (∀ left, s.start.recResult = 3 → Memory.wf s = true →
      ∃ u, exec (.recoveryProgrammingDone t true left) s = .next u ∧
        u = { s.advance t with nv := { s.nv with flash := u.nv.flash }, start := u.start } ∧ u.start.recResult = 4 ∧
        (∀ i, i < s.start.recBuf.length →
          cellGet 0xFF#8 u.nv.flash (slotBase s.start.recTarget + i) = s.start.recBuf.getD i 0) ∧
        ∀ a, (a < slotBase s.start.recTarget ∨ slotBase s.start.recTarget + s.start.recBuf.length ≤ a) →
          cellGet 0xFF#8 u.nv.flash a = cellGet 0xFF#8 s.nv.flash a)

/-- The start stages run strictly in their order (R86): a stage command leaves the stage code as it is, raises it by one, or leads to
RECOVERY, FAILED or QUARANTINED. -/
def Obligations.StagesInOrder : Prop :=
  ∀ (t : Nat) (s u : State) (c : Instr),
    (∃ a b l, c = .imageStage t a b l) ∨ (∃ l, c = .memoryStage t l) ∨ (∃ a b, c = .lightStage t a b) ∨
      (∃ l, c = .fabricStage t l) ∨ c = .roundStage t ∨ c = .joinStage t ∨ c = .rampStage t ∨ (∃ k, c = .ready ⟨t, k⟩) →
    exec c s = .next u →
    u.start.stage = s.start.stage ∨ u.start.stage = s.start.stage + 1 ∨ u.start.stage = 10 ∨ u.start.stage = 11 ∨
      u.start.stage = 12

/-! ### The Round (R31 to R60, R398) -/

/-- ROUND_EDGE outside SYNC's expectations (R36, R56): the first edge of a stay without a previous valid edge writes a ring entry of
class 5 with interval 0xFFFF_FFFF and tooth 0xFF, and ends STALL in SEEK; an edge less than half a reference period after the
last valid one, in any state, is a glitch: it is counted, written to the ring with class 2, and changes nothing else. -/
def Obligations.FirstEdgeAndGlitch : Prop :=
  ∀ (t : Nat) (s : State), s.running = true → s.im.round.source = 1 → s.im.round.outMode ≠ 2 →
    (s.round.lastEdge = none → s.round.state = .seek ∨ s.round.state = .stall →
      ((s.advance t).now - s.round.lastArrival) * 256 < s.im.round.stallTeeth * s.refPeriod ∨ s.round.state = .stall →
      ∃ r, exec (.roundEdge t) s = .next { s.advance t with pins := { s.pins with roundIn := true }, round := r } ∧
        r.state = .seek ∧ r.lastArrival = (s.advance t).now ∧
        r.lastEdge = some (((s.advance t).now : Int) - s.im.round.lineDelay) ∧ r.ringIdx = (s.round.ringIdx + 1) % 1024 ∧
        tget r.ring s.round.ringIdx {} = { interval := 0xFFFFFFFF, tooth := 0xFF, cls := 5, rev := s.round.rev % 65536 }) ∧
    (∀ e : Int, s.round.lastEdge = some e → s.round.state ≠ .reset → s.round.state ≠ .stall →
      ((s.advance t).now - s.round.lastArrival) * 256 < s.im.round.stallTeeth * s.refPeriod →
      2 * ((((s.advance t).now : Int) - s.im.round.lineDelay - e).toNat * 256) < s.refPeriod →
      exec (.roundEdge t) s = .next { s.advance t with
        pins := { s.pins with roundIn := true }
        round := { s.round with
          glitches := min (s.round.glitches + 1) 4294967295, ringIdx := (s.round.ringIdx + 1) % 1024
          ring := tset s.round.ring s.round.ringIdx
            { interval := min (((s.advance t).now : Int) - s.im.round.lineDelay - e).toNat 0xFFFFFFFF, tooth := 0xFF, cls := 2
              rev := s.round.rev % 65536 } } })

/-- ROUND_EDGE learning in SEEK (R37): with no reference committed, a tooth-class interval joins those kept, and until 16 have been
collected the unit stays in SEEK; the ring has one entry more (R56). ROUND_IN_FALLING_EDGE changes no Round register (R29). -/
def Obligations.SeekCollects : Prop :=
  ∀ (t : Nat) (s : State), s.running = true → s.im.round.source = 1 → s.im.round.outMode ≠ 2 →
    (∀ e : Int, s.round.lastEdge = some e → s.round.state = .seek → s.round.refCommitted = false → s.round.seek.length < 15 →
      ((s.advance t).now - s.round.lastArrival) * 256 < s.im.round.stallTeeth * s.refPeriod →
      s.classOf (((s.advance t).now : Int) - s.im.round.lineDelay - e).toNat = 0 →
      ∃ u, exec (.roundEdge t) s = .next u ∧
        u = { s.advance t with pins := { s.pins with roundIn := true }, round := u.round } ∧
        u.round.seek = s.round.seek ++ [(((s.advance t).now : Int) - s.im.round.lineDelay - e).toNat] ∧
        u.round.state = .seek ∧ u.round.lastArrival = (s.advance t).now ∧ u.round.ringIdx = (s.round.ringIdx + 1) % 1024) ∧
    exec (.roundInFallingEdge t) s = .next { s.advance t with pins := { s.pins with roundIn := false } }

/-- STALL_TIMEOUT (R36, R39, R40): RND_STALL_TEETH reference periods after the last edge's arrival, outside SYNC, the unit is in STALL
without a reference, RND_STALL_COUNT and RND_ST_STALL tell it, and the ring has an entry of class 4. -/
def Obligations.StallTimeout : Prop :=
  ∀ (t : Nat) (s : State), s.running = true → s.im.round.source ≠ 0 →
    s.round.state = .seek ∨ s.round.state = .confirm ∨ s.round.state = .lost →
    s.im.round.stallTeeth * s.refPeriod ≤ ((s.advance t).now - s.round.lastArrival) * 256 →
    ∃ u, exec (.stallTimeout t) s = .next u ∧
      u.round.state = .stall ∧ u.round.refCommitted = false ∧ u.round.lastEdge = none ∧ u.round.stStall = true ∧
      u.round.stalls = min (s.round.stalls + 1) 4294967295 ∧ u.round.ringIdx = (s.round.ringIdx + 1) % 1024 ∧
      (tget u.round.ring s.round.ringIdx {}).cls = 4 ∧ u.round.slots = s.round.slots ∧ u.round.angle = s.round.angle ∧
      u.nv = s.nv ∧ u.img = s.img ∧ u.pins = s.pins ∧ u.tiles = s.tiles ∧ u.start = s.start ∧ u.acc = s.acc

/-- MICRO_TICK (R41, R60): in SYNC, once the next tick's moment has come, the counter takes the next angle; at an angle with no
sample, no slot and no deferred request it changes nothing else. -/
def Obligations.MicroTick : Prop :=
  ∀ (t : Nat) (s : State), s.running = true → s.round.state = .sync → s.round.angle < s.round.haltAngle →
    (s.round.angle + 1 - s.round.position * 256) * s.refPeriod ≤
      (((s.advance t).now : Int) - s.round.lastEdge.getD ((s.advance t).now : Int)).toNat * 65536 →
    (∀ x ∈ s.im.round.samples, x.1 ≠ s.round.angle + 1) → s.im.round.outMode ≠ 1 → s.round.deferred = [] →
    (∀ p ∈ s.round.slots, p.2.state = .armed → p.2.angle ≠ s.round.angle + 1) →
    exec (.microTick t) s = .next { s.advance t with
      round := { s.round with angle := s.round.angle + 1, defers := min s.round.defers 4294967295 } }

/-- DEVICE_TIME_ANGLE_TICK (R398): outside SYNC the device-time angle takes a tick each reference period; it is not shown in RND_ANGLE and
arms and fires no event slot. -/
def Obligations.DeviceTimeAngle : Prop :=
  ∀ (t : Nat) (s : State), s.running = true → s.round.state ≠ .reset → s.round.state ≠ .sync →
    s.round.devBase + s.refPeriod ≤ (s.advance t).now * 65536 →
    ∃ u, exec (.deviceTimeAngleTick t) s = .next u ∧
      u.round = { s.round with devAngle := (s.round.devAngle + 1) % 65536, devBase := s.round.devBase + s.refPeriod } ∧
      u.nv = s.nv ∧ u.img = s.img ∧ u.pins = s.pins ∧ u.start = s.start ∧ u.tiles = s.tiles ∧ u.flt = s.flt ∧
      u.mem.cells = s.mem.cells ∧ u.acc = s.acc

/-- GENERATED_TOOTH (R28, R33): in SYNC with source GENERATE a tooth that comes when it is due marks the next n.0: the position rises,
RND_ANGLE is n.0, and with no slot armed and no sample but at 0.0 nothing outside the Round unit changes but the markers queued at the
ports of a master with FAB_CORE (R34). -/
def Obligations.GeneratedTooth : Prop :=
  ∀ (s : State) (e : Nat) (t : Nat), s.running = true → s.round.state = .sync → s.im.round.source = 0 →
    s.round.refCommitted = true → s.round.refPeriod = s.nominal → 256 ∣ s.nominal → 0 < s.nominal →
    s.round.position < 253 → s.round.position * 256 ≤ s.round.angle → s.round.angle ≤ s.round.haltAngle →
    s.round.lastEdge = some (e : Int) → t = e + s.nominal / 256 → s.now ≤ t →
    s.round.slots = [] → s.round.deferred = [] → s.round.waiting = [] → s.im.round.outMode ≠ 1 →
    (∀ x ∈ s.im.round.samples, x.1 = 0) →
    ∃ u, exec (.generatedTooth t) s = .next u ∧
      u = { s.advance t with round := u.round, fab := { s.fab with ports := u.fab.ports } } ∧
      (s.isMaster = false ∨ s.inDomain 6 = false → u.fab = s.fab) ∧
      u.round.state = .sync ∧ u.round.position = s.round.position + 1 ∧
      u.round.angle = (s.round.position + 1) * 256 ∧ u.round.rev = s.round.rev ∧ u.round.lastEdge = some (t : Int) ∧
      u.round.ringIdx = (s.round.ringIdx + 1) % 1024

/-- ROUND_MARK on the active parent port (R34, R307, R310): the part's depth is one more than the marker's hops; a tooth-0 marker is kept
with its count, epoch and corrected arrival; with another source than FABRIC the counter does not move. From any other port
it is ignored. -/
def Obligations.RoundMark : Prop :=
  ∀ (t n : Nat) (m : MarkMsg) (s : State), s.inDomain 6 = true → s.isMaster = false → (s.port n).carries = true →
    (n = s.fab.parentActive → s.im.round.source ≠ 2 →
      ∃ u, exec (.roundMark t n m) s = .next u ∧
        u = { s.advance t with round := u.round, fab := u.fab, free := s.free + 1 } ∧ u.fab.depth = (m.hops + 1) % 8 ∧
        u.round = { s.round with marker := u.round.marker } ∧
        u.round.marker = if m.tooth = 0 then
            some { rev := m.rev % 2 ^ 32, epoch := m.epoch % 2 ^ 64
                   stamp := ((s.advance t).now : Int) - ((m.delayNs + (s.port n).delayNs : Nat) : Int) }
          else s.round.marker) ∧
    (n ≠ s.fab.parentActive → exec (.roundMark t n m) s = .next (s.advance t))

/-- ARM_REQUEST (R48, R49), of an owner that makes it (the governor and the Lens block ask for their own angle only, R65, R280):
refused while the angle is not valid; refused and counted if its target has been reached; else the lowest FREE slot of the owner's
range is armed with it, a pool owner's request without a free slot is deferred to the next revolution and counted, and any other
owner's is refused. -/
def Obligations.ArmRequest : Prop :=
  ∀ (t : Nat) (q : ArmReq) (s : State), s.running = true → s.round.jumping = false → q.wf = true →
    ((s.advance t).ownerAsks q = false → exec (.armRequest t q) s = .next (s.advance t)) ∧
    ((s.advance t).ownerAsks q = true →
    (s.angleValid = false → exec (.armRequest t q) s = .next { s.advance t with answer := [2] }) ∧
    (s.angleValid = true → q.next = false → s.reached q.rev q.angle = true →
      exec (.armRequest t q) s = .next { s.advance t with
        round := { s.round with armRefused := min (s.round.armRefused + 1) 4294967295 }, answer := [2] }) ∧
    (s.angleValid = true → q.next = true ∨ s.reached q.rev q.angle = false →
      (let e : EvSlot :=
          { angle := q.angle, offset := q.offset, owner := q.owner, state := .armed, tag := q.tag, rev := q.rev
            next := q.next, due := s.targetRev q, fireAt := 0 }
        ∀ k, s.freeSlot q.owner = some k →
          exec (.armRequest t q) s = .next { s.advance t with
            round := { s.round with slots := tset s.round.slots k e }, answer := [0, k] }) ∧
      (s.freeSlot q.owner = none → q.owner = 1 ∨ q.owner = 4 →
        exec (.armRequest t q) s = .next { s.advance t with
          round := { s.round with
            defers := min (s.round.defers + 1) 4294967295
            deferred := s.round.deferred ++ [⟨q, (s.targetRev q + 1) % 2 ^ 32⟩] }
          answer := [1] }) ∧
      (s.freeSlot q.owner = none → q.owner ≠ 1 → q.owner ≠ 4 →
        exec (.armRequest t q) s = .next { s.advance t with answer := [2] })))

/-- EVENT_SLOT_FIRE, and MICRO_TICK at an armed slot's angle (R50, R60): the slot passes from ARMED to TIMING and records the device
time of that moment, and fires at once with offset 0; a slot in TIMING whose offset has passed since then is FREE again and counted,
and its owner acts, in whatever state the Round is; a lower slot that expires on the same nanosecond has fired before it; one whose
offset has not passed, or in another state, does not fire. -/
def Obligations.EventSlotFire : Prop :=
  ∀ (t n : Nat) (s : State), s.running = true →
    (s.round.state = .sync → s.round.angle < s.round.haltAngle →
      (s.round.angle + 1 - s.round.position * 256) * s.refPeriod ≤
        (((s.advance t).now : Int) - s.round.lastEdge.getD ((s.advance t).now : Int)).toNat * 65536 →
      (∀ x ∈ s.im.round.samples, x.1 ≠ s.round.angle + 1) → s.im.round.outMode ≠ 1 → s.round.deferred = [] →
      s.slotsAt (s.round.angle + 1) = [n] →
      (0 < (s.evSlot n).offset →
        exec (.microTick t) s = .next { s.advance t with
          round := { s.round with
            angle := s.round.angle + 1, defers := min s.round.defers 4294967295
            slots := tset s.round.slots n { s.evSlot n with state := .timing, fireAt := (s.advance t).now } } }) ∧
      ((s.evSlot n).offset = 0 → (s.evSlot n).owner = 4 →
        ∃ u, exec (.microTick t) s = .next u ∧ (u.evSlot n).state = .free ∧
          u.round.fired = min (s.round.fired + 1) 4294967295 ∧ u = { s.advance t with round := u.round })) ∧
    ((s.evSlot n).state = .timing → (s.evSlot n).fireAt + (s.evSlot n).offset * 1000 ≤ (s.advance t).now →
      (s.slotsWith n = [n] →
        exec (.eventSlotFire t n) s = .next (ownerActs (s.evSlot n) (releaseSlot n { s.advance t with
          round := { s.round with fired := min (s.round.fired + 1) 4294967295 } })) ∧
        (n < 16 → (s.evSlot n).owner = 4 →
          exec (.eventSlotFire t n) s = .next { s.advance t with
            round := { s.round with
              fired := min (s.round.fired + 1) 4294967295
              slots := tset s.round.slots n { s.evSlot n with state := .free } } })) ∧
      ∀ k, s.slotsWith n = [k, n] → k < n → s.round.deferred = [] → (s.evSlot k).owner = 4 → (s.evSlot n).owner = 4 →
        ∃ u, exec (.eventSlotFire t n) s = .next u ∧ (u.evSlot k).state = .free ∧ (u.evSlot n).state = .free ∧
          u = { s.advance t with round := { s.round with fired := min (s.round.fired + 2) 4294967295, slots := u.round.slots } }) ∧
    ((s.evSlot n).state ≠ .timing ∨ (s.advance t).now < (s.evSlot n).fireAt + (s.evSlot n).offset * 1000 →
      exec (.eventSlotFire t n) s = .next (s.advance t))

/-! ### Lehr (R62 to R82) -/

/-- SEGMENT_END and PLATEAU_REACHED (R65, R78, R82): the setpoint rests at the segment's end value, and a hold that waited for the end
begins; the start plateau is held at 120 W. -/
def Obligations.SetpointRests : Prop :=
  ∀ (t : Nat) (s : State),
    (∀ goal, (s.advance t).lehr.motion = .segment goal → (s.advance t).lehr.setpoint = goal → s.lehr.holdPending = false →
      exec (.segmentEnd t) s = .next { s.advance t with lehr := { (s.advance t).lehr with motion := .still } }) ∧
    (∀ goal, (s.advance t).lehr.motion = .segment goal → (s.advance t).lehr.setpoint = goal → s.lehr.holdPending = true →
      s.lehr.holdExpired = false →
      exec (.segmentEnd t) s = .next { s.advance t with
        lehr := { (s.advance t).lehr with motion := .still, holdPending := false, state := .hold } }) ∧
    ((s.advance t).lehr.motion = .plateau → (s.advance t).lehr.setpoint = 120 * 256000000000 →
      exec (.plateauReached t) s = .next { s.advance t with lehr := { (s.advance t).lehr with motion := .still } })

/-- CONTROL_TICK (R67, R68, R70, R75): measured power is taken up to 1,100 W; the governor's tick changes nothing outside Lehr's registers,
the comb powers, the event log and the free counter; no ballast goes beyond what the idle MXEs can take; with no ballast left and power
above 101 % of the setpoint the throttle tightens by one stage, below 99 % it relaxes by one. -/
def Obligations.ControlTick : Prop :=
  ∀ (t : Nat) (r : PowerReading) (s : State), s.running = true →
    ∃ u, exec (.controlTick t r) s = .next u ∧
      u = { s.advance t with
        lehr := u.lehr, flt := u.flt, free := u.free
        lens := { (s.advance t).lens with combPwr0 := u.lens.combPwr0, combPwr1 := u.lens.combPwr1 } } ∧
      u.lehr.work = min r.measuredMw 1100000 - s.lehr.ballast ∧
      (1100000 < r.measuredMw → u.lehr.stAdcClamp = true) ∧
      u.lehr.setpoint = (s.advance t).lehr.setpoint ∧ u.lehr.motion = (s.advance t).lehr.motion ∧
      u.lehr.state = (s.advance t).lehr.state ∧
      ((s.advance t).governs = true →
        let goal := uToMw (s.advance t).lehr.setpoint
        u.lehr.idleMxe = r.idleMxe.take 64 ∧ u.lehr.ballastAvail = 630000 * u.lehr.idleSum / 4096 ∧
        u.lehr.ballast ≤ u.lehr.ballastAvail ∧
        (goal * 101 < min r.measuredMw 1100000 * 100 → u.lehr.ballast = 0 →
          u.lehr.throttle = min (s.lehr.throttle + 1) (s.clockStages + 1)) ∧
        (min r.measuredMw 1100000 * 100 < goal * 99 → u.lehr.throttle = s.lehr.throttle - 1)) ∧
      (s.img = none → u.lehr.ballast = s.lehr.ballast ∧ u.lehr.throttle = s.lehr.throttle)

/-- CLAIM_IDLE_RELEASE (R62): a partition idle at PWR_IDLE_RELEASE_REV consecutive 0.0 angles loses its claim, and no other does.
POWER_HOLD_EXPIRED (R78, step 2): in HOLD with the hold limit reached, 0x2003 is raised, PWR_ST_HOLD_EXPIRED set, and the setpoint
begins its descent to the floor in DESCEND. -/
def Obligations.ClaimsAndHolds : Prop :=
  ∀ (t p : Nat) (s : State),
    (s.im.pwr.idleRev ≤ tget s.lehr.idleRevs p 0 → s.partitionBusy p = false →
      ∃ u, exec (.claimIdleRelease t p) s = .next u ∧
        u = { s.advance t with lehr := { (s.advance t).lehr with claims := u.lehr.claims } } ∧
        tget u.lehr.claims p 0 = 0 ∧ ∀ k, k ≠ p → tget u.lehr.claims k 0 = tget s.lehr.claims k 0) ∧
    (tget s.lehr.idleRevs p 0 < s.im.pwr.idleRev ∨ s.partitionBusy p = true →
      exec (.claimIdleRelease t p) s = .next (s.advance t)) ∧
    (s.lehr.state = .hold → s.lehr.lossNow = true → s.lehr.holdExpired = false →
      s.im.pwr.holdS * 1000000000 ≤ (s.advance t).lehr.holdNs →
      exec (.powerHoldExpired t) s = .next (raise0 0x2003 { s.advance t with
        lehr := { (s.advance t).lehr with
          holdExpired := true, stHoldExpired := true, state := .descend, motion := .descent (s.lehr.floorW * 256000000000) } }))

/-- PWR_ALERT_N_ASSERT and PWR_ALERT_N_RELEASE (R79): in GOVERN the alert raises 0x2001, is counted, and brings the setpoint at once to the
lower of the floor and the present setpoint, in ALERT, without ballast; at the release with no loss in force the governor is in
GOVERN or RAMP_TO_FLOOR by its setpoint, in HOLD with a loss in force. -/
def Obligations.Alert : Prop :=
  ∀ (t : Nat) (s : State),
    (s.running = true → s.pins.alertLow = false → (s.advance t).lehr.state = .govern →
      exec (.pwrAlertNAssert t) s = .next (raise0 0x2001 { s.advance t with
        pins := { s.pins with alertLow := true }
        lehr := { (s.advance t).lehr with
          alerts := min (s.lehr.alerts + 1) 4294967295, stAlert := true, state := .alert, motion := .still
          setpoint := min (s.lehr.floorW * 256000000000) (s.advance t).lehr.setpoint, ballast := 0, holdPending := false } })) ∧
    (s.lehr.state = .alert → s.lehr.lossNow = true → s.lehr.holdExpired = false →
      exec (.pwrAlertNRelease t) s = .next { s.advance t with
        pins := { s.pins with alertLow := false }
        lehr := { (s.advance t).lehr with holdPending := false, motion := .still, state := .hold } }) ∧
    (s.lehr.state = .alert → s.lehr.lossNow = false →
      ∃ u, exec (.pwrAlertNRelease t) s = .next u ∧
        u = { s.advance t with pins := { s.pins with alertLow := false }, lehr := u.lehr, round := u.round } ∧
        u.lehr = { (s.advance t).lehr with
          state := if s.lehr.floorW * 256000000000 ≤ (s.advance t).lehr.setpoint then .govern else .rampToFloor })

/-- THERMAL_TRIP (R80, R109, R370): the governor is TRIPPED, keeps the setpoint in force, applies no ballast, the light stops, 0x2002 is
raised, and the doors close; no parcel or letter is left. No fuse and no byte of flash changes, but that on the entry to READY a change
that has its record completes and no further one starts; the start stage stays. -/
def Obligations.ThermalTrip : Prop :=
  ∀ (t die : Nat) (s : State), s.running = true → s.lehr.state ≠ .tripped →
    ∃ u, exec (.thermalTrip t die) s = .next u ∧
      u.lehr.state = .tripped ∧ u.lehr.setpoint = (s.advance t).lehr.setpoint ∧ u.lehr.ballast = 0 ∧
      u.lens.lit = false ∧ u.lpResetPin = .high ∧ u.part.doorsOpen = false ∧ u.part.parcels = [] ∧ u.part.letters = [] ∧ u.img = s.img ∧
      u.pins = s.pins ∧ bit u.flt.sev 3 = true ∧ u.start.stage = s.start.stage ∧ FusesGrow s.nv.fuses u.nv.fuses ∧
      (s.start.stage ≠ 8 → u.nv = s.nv ∧ u.start = s.start) ∧
      (s.start.stage = 8 → u.start.entry.cur = none ∧ u.start.entry.todo = [] ∧
        (s.start.entry.cur = none → u.nv = s.nv))

/-! ### Tiles and stream commands (R110 to R137) -/

/-- NOP, FUSED and END ask for the next command of a live task with fewer than 32 commands read, none of them an END (R113 to R115,
R258): its 128 bytes are requested from memory, counted by the partition's regulator and queued at their channel, or waiting at the
regulator in their turn; the command joins the task's commands in their order, and nothing else but what can move on the tile changes.
Where the next command is another one only that moves. An END that can complete is passed and counted, its signal made (R115, R144). -/
def Obligations.CommandsRead : Prop :=
  ∀ (t tile slot : Nat) (s : State) (ws : List Nat) (bad : Bool),
    let a := s.advance t
    let k := a.task tile slot
    k.state.live = true → a.clocked = true →
    (s.lehr.gateIssue = false → k.cmds.length < 32 → (∀ c ∈ k.cmds, opOf c.words ≠ 3) → a.cmdWords k k.nextCmd = (ws, bad) →
      let r : Req :=
        { tile := tile, slot := slot, cmd := k.nextCmd, context := k.context, queue := k.partition
          dev := some (k.cmdBase + 128 * k.nextCmd), len := 128, kind := .command }
      let b := a.updTask tile slot fun k => { k with
        nextCmd := k.nextCmd + 1, cmds := k.cmds ++ [{ index := k.nextCmd, words := ws, phase := .reading }] }
      (bad = true ∨ opOf ws = 0 ∨ 3 < opOf ws →
        ∃ m, exec (.nop t tile slot) s = .next (pumpTile tile m) ∧ m = meterCmd k tile slot b) ∧
      (bad = true ∨ opOf ws = 1 ∨ 3 < opOf ws →
        ∃ m, exec (.fused t tile slot) s = .next (pumpTile tile m) ∧ m = meterCmd k tile slot b) ∧
      (bad = false → opOf ws ≤ 3 → opOf ws ≠ 0 → exec (.nop t tile slot) s = .next (pumpTile tile a)) ∧
      (bad = false → opOf ws ≤ 3 → opOf ws ≠ 1 → exec (.fused t tile slot) s = .next (pumpTile tile a)) ∧
      let m := meterCmd k tile slot b
      m = { b with mem := { b.mem with regs := m.mem.regs, chans := m.mem.chans } } ∧
      (k.partition < 32 → (a.partEntry k.partition).rate = 0 →
        (tget m.mem.regs k.partition {}).bytes = min ((tget a.mem.regs k.partition {}).bytes + 128) 18446744073709551615 ∧
        tget (m.chan r.channel).queues k.partition [] =
          tget (a.chan r.channel).queues k.partition [] ++ [{ r with seq := (a.chan r.channel).arrivals }]) ∧
      (k.partition < 32 → (a.partEntry k.partition).rate ≠ 0 → m.mem.chans = a.mem.chans ∧
        (tget m.mem.regs k.partition {}).waiting = (tget a.mem.regs k.partition {}).waiting ++ [r])) ∧
    ((∃ c ∈ k.cmds, opOf c.words = 3) →
      let v := pumpTile tile a
      (∀ c r, (v.task tile slot).cmds = c :: r → opOf c.words = 3 → (v.task tile slot).state.live = true → v.clocked = true →
        v.mayComplete tile c = true → c.refuse = false → signalCtr c.words = 63 →
        ∃ b, exec (.endTask t tile slot) s = .next (pumpTile tile (passEnd tile slot b)) ∧
          b = { v with tiles := { v.tiles with tiles := b.tiles.tiles } } ∧
          b.task tile slot = { v.task tile slot with cmds := r } ∧
          (b.tile tile).cmdDone = min ((v.tile tile).cmdDone + 1) 4294967295) ∧
      (∀ c r, (v.task tile slot).cmds = c :: r → opOf c.words ≠ 3 ∨ v.mayComplete tile c = false →
        exec (.endTask t tile slot) s = .next v))

/-- A command whose words have arrived is checked in its turn (R114, R127, R142): one that is not valid ends its task by 0x4003 with
TILE_ST_INVALID set, one that names a counter its parcel does not own by 0x5006, and a poisoned one by 0x4002; the command does not
run, and the parcel ends. One that passes waits for its turn. The value 63 names no counter and is never foreign. -/
def Obligations.CommandsRefused : Prop :=
  ∀ (tile slot : Nat) (s : State) (c : Cmd),
    let k := s.task tile slot
    k.state.live = true → k.cmds.find? Cmd.unread = some c → c.phase = .read →
    (c.badWords = true → checkCommand tile slot s = endTask tile slot 0x4002
      (raiseFor 0x4002 tile k.parcel (s.updTile tile fun x => { x with stPoison := true }))) ∧
    (c.badWords = false → s.cmdValid k c.words = false → checkCommand tile slot s = endTask tile slot 0x4003
      (raiseFor 0x4003 tile k.parcel (s.updTile tile fun x => { x with stInvalid := true }))) ∧
    (c.badWords = false → s.cmdValid k c.words = true → cmdForeign k c.words = true →
      checkCommand tile slot s = endTask tile slot 0x5006
        (raiseFor 0x5006 (tile / 64) k.parcel
          (s.updCsu (tile / 64) fun u => { u with foreign := min (u.foreign + 1) 4294967295, stForeign := true }))) ∧
    (c.badWords = true ∨ s.cmdValid k c.words = false ∨ cmdForeign k c.words = true →
      (∀ p ∈ (reap (checkCommand tile slot s)).part.parcels, p.id ≠ k.parcel) ∧
        ∀ p, s.parcel k.parcel = some p → (tile, slot) ∈ p.tasks →
          ((reap (checkCommand tile slot s)).task tile slot).state = .free) ∧
    (c.badWords = false → s.cmdValid k c.words = true → cmdForeign k c.words = false →
      ∃ u, checkCommand tile slot s = u ∧ u = { s with tiles := { s.tiles with tiles := u.tiles.tiles } } ∧
        (u.task tile slot).cmds.map Cmd.index = k.cmds.map Cmd.index ∧ (u.task tile slot).state = k.state ∧
        ∀ y ∈ (u.task tile slot).cmds, y.index = c.index → y.phase = .waiting) ∧
    ((waitCtr c.words ≠ 63 ∧ bit k.ctrMask (waitCtr c.words) = false) ∨
        (signalCtr c.words ≠ 63 ∧ bit k.ctrMask (signalCtr c.words) = false) ↔ cmdForeign k c.words = true)

/-- DRAIN at the front of a task (R128, R156, R157): a flush empties the context's cluster-cache lines; of scope 0 it then moves on; of
cluster scope the task arrives at its parcel's record and waits there; of partition or domain scope it waits, and the last task of the
cluster sends the cluster's arrivals on. -/
def Obligations.DrainRuns : Prop :=
  ∀ (t tile slot : Nat) (s : State) (c : Cmd) (r : List Cmd),
    let a := s.advance t
    let k := a.task tile slot
    k.cmds = c :: r → opOf c.words = 2 → c.phase = .waiting → k.state.live = true → s.lehr.gateIssue = false →
    a.clocked = true → a.waitMet tile c.words = true →
    (drainScope c.words = 0 → drainFlush c.words = false →
      exec (.drain t tile slot) s = .next (pumpTile tile (a.updCmd tile slot c.index fun x => { x with phase := .storing }))) ∧
    (drainScope c.words = 0 → drainFlush c.words = true →
      exec (.drain t tile slot) s = .next (pumpTile tile
        (((flushContext (tile / 64) k.context a).2.taskFlags tile slot (flushContext (tile / 64) k.context a).1).updCmd tile slot
          c.index fun x => { x with phase := .storing }))) ∧
    (drainScope c.words = 1 → drainFlush c.words = false → ∀ n, a.recordOf 0 (tile / 64) k.parcel = some n →
      exec (.drain t tile slot) s = .next (pumpTile tile (arriveAt 0 (tile / 64) n (k.drains1 % 65536) 1
        ((a.updTask tile slot fun k => { k with drains1 := k.drains1 + 1 }).updCmd tile slot c.index fun x =>
          { x with phase := .barrier, gen := k.drains1 % 65536 })))) ∧
    (2 ≤ drainScope c.words → drainFlush c.words = false →
      ∀ n p, a.recordOf (drainScope c.words - 1) (tile / 64) k.parcel = some n → a.parcel k.parcel = some p →
        let gen := k.drains (drainScope c.words) % 65536
        let b := (a.updTask tile slot fun k => k.addDrain (drainScope c.words)).updCmd tile slot c.index fun x =>
          { x with phase := .barrier, gen := gen }
        let m := markFirst (drainScope c.words - 1) (tile / 64) n gen b
        let here := b.arrivedIn k.parcel (tile / 64) (drainScope c.words) gen
        (here < (p.tasks.filter fun x => x.1 / 64 = tile / 64).length →
          exec (.drain t tile slot) s = .next (pumpTile tile m)) ∧
        ((p.tasks.filter fun x => x.1 / 64 = tile / 64).length ≤ here →
          exec (.drain t tile slot) s = .next (pumpTile tile { m with sync := { m.sync with
            flight := m.sync.flight ++
              [arriveMsg a.deviceId (tile / 64) (drainScope c.words - 1) n gen k.context here] } })))

/-- FETCH_PHASE_START (R121, R122, R123, R133): the command whose turn it is, its wait met, begins its fetch phase, with the group, the
revolution, angle and time of its issue; the first of a group takes the group's buffer; its task closes the group where the command
names the swap; only the tile's own state changes, and then what can move moves. While the group's swap is awaited no fetch begins. -/
def Obligations.FetchPhaseStarts : Prop :=
  ∀ (t tile slot : Nat) (s : State) (c : Cmd),
    let a := s.advance t
    let k := a.task tile slot
    (k.state.live = true → k.closed = false → s.lehr.gateIssue = false → a.clocked = true →
      a.nextFetch tile k.cmds = some c → a.waitMet tile c.words = true →
      ∃ b, exec (.fetchPhaseStart t tile slot) s = .next (pumpTile tile b) ∧
        b = { a with tiles := { a.tiles with tiles := b.tiles.tiles } } ∧ (∀ i, i ≠ tile → b.tile i = a.tile i) ∧
        (b.task tile slot).closed = swapAfter c.words ∧ (b.task tile slot).opened = true ∧
        (k.opened = false → (b.task tile slot).bufAddr = bufAddrOf c.words ∧
          (b.task tile slot).halfBytes = halfBytesOf c.words ∧ (b.task tile slot).groupOff = 0) ∧
        (k.opened = true → (b.task tile slot).bufAddr = k.bufAddr ∧ (b.task tile slot).halfBytes = k.halfBytes ∧
          (b.task tile slot).groupOff = k.groupOff) ∧
        (b.task tile slot).cmds.map Cmd.index = k.cmds.map Cmd.index ∧
        ∀ y ∈ (b.task tile slot).cmds, y.index = c.index → y.phase = .indexing ∧ y.issued = true ∧ y.group = k.group ∧
          y.issueRev = s.round.rev ∧ y.issueAngle = s.round.angle ∧ y.issueTime = a.now ∧ y.issueValid = s.angleValid) ∧
    (k.closed = true ∨ a.nextFetch tile k.cmds = none →
      exec (.fetchPhaseStart t tile slot) s = .next (pumpTile tile a))

/-- BUFFER_SWAP (R123): once every fetch of the group has landed and the compute phases before have ended, the halves change places and
the group's commands are fetched, whether or not the task holds the pipeline; before that only what can move moves. -/
def Obligations.BuffersSwap : Prop :=
  ∀ (t tile slot : Nat) (s : State),
    let a := s.advance t
    let k := a.task tile slot
    (k.state.live = true → k.closed = true → k.computing = none → a.awaits tile slot = false → a.clocked = true →
      exec (.bufferSwap t tile slot) s = .next (pumpTile tile (a.updTask tile slot fun x => { x with
        useHalf := x.fillHalf, fillHalf := 1 - x.fillHalf, group := x.group + 1, groupOff := 0, closed := false, opened := false
        cmds := x.cmds.map fun c => if c.phase = .fetching then { c with phase := .fetched } else c }))) ∧
    (k.closed = false ∨ k.computing.isSome = true ∨ a.awaits tile slot = true →
      exec (.bufferSwap t tile slot) s = .next (pumpTile tile a))

/-- COMMAND_COMPLETE (R121, R137, R144): the oldest command of a task, its compute phase ended and its stores acknowledged, leaves,
TILE_CMD_DONE counts it, and its signal rises by its increment; a NOP whose wait is met does so too, but not while the throttle gates
new commands; one that is not complete stays. -/
def Obligations.CommandCompletes : Prop :=
  ∀ (t tile slot : Nat) (s : State) (c : Cmd) (r : List Cmd),
    let a := s.advance t
    let b := (a.updTask tile slot fun k => { k with cmds := k.cmds.drop 1 }).updTile tile fun x =>
      { x with cmdDone := min (x.cmdDone + 1) 4294967295 }
    let done := if opOf c.words = 0 then c.phase = .waiting ∧ a.waitMet tile c.words = true ∧ s.lehr.gateIssue = false
      else c.complete = true
    (a.task tile slot).cmds = c :: r → (a.task tile slot).state.live = true → a.clocked = true → opOf c.words ≤ 2 →
    c.refuse = false →
    (done → signalCtr c.words = 63 →
      exec (.commandComplete t tile slot) s = .next (pumpTile tile (takeOver tile slot b))) ∧
    (done → signalCtr c.words ≠ 63 →
      exec (.commandComplete t tile slot) s =
        .next (pumpTile tile (takeOver tile slot (addCounter tile (signalCtr c.words) (signalInc c.words) b)))) ∧
    (¬ done → exec (.commandComplete t tile slot) s = .next a)

/-- TASK_SWITCH (R129): the running task that waits on late data gives the pipeline to the ready task that goes next, and
TILE_TASK_SWITCH counts it; a task that does not wait keeps it. A ready real-time task takes the pipeline at a command boundary of
whatever task runs (R130). -/
def Obligations.TasksSwitch : Prop :=
  ∀ (t tile slot n : Nat) (k : Task) (s : State),
    let a := s.advance t
    (a.tile tile).tasks.find? (fun p => p.2.state = .running) = some (slot, k) → a.nextReady tile = some n →
    (a.late tile slot = true → a.isRt k.context = false → a.clocked = true → slot ≠ n →
      ∃ b, exec (.taskSwitch t tile) s = .next (pumpTile tile b) ∧ b = { a with tiles := { a.tiles with tiles := b.tiles.tiles } } ∧
        (b.tile tile).running = n ∧ (b.tile tile).switches = min ((a.tile tile).switches + 1) 4294967295 ∧
        b.task tile n = { a.task tile n with state := .running } ∧
        b.task tile slot = { a.task tile slot with state := .lateData, readySince := a.now } ∧
        ∀ i, i ≠ tile → b.tile i = a.tile i) ∧
    (a.late tile slot = false → exec (.taskSwitch t tile) s = .next a) ∧
    ((a.task tile slot).state = .running → a.isRt (a.task tile n).context = true → slot ≠ n →
      ((takeOver tile slot a).tile tile).running = n ∧ ((takeOver tile slot a).task tile n).state = .running ∧
        ((takeOver tile slot a).task tile slot).state = .ready)

/-- DEADLINE_CLOSE (R131, R132): a command of a real-time context whose close is reached before it is complete misses: TILE_MISS_COUNT
and TILE_ST_MISS tell it and 0x4001 is raised, once for the command; one whose completion comes at or beyond its close misses as it
completes. -/
def Obligations.DeadlineMisses : Prop :=
  ∀ (t tile slot : Nat) (s : State) (c : Cmd),
    let a := s.advance t
    let k := a.task tile slot
    k.cmds = [c] → k.state.live = true → a.clocked = true → a.deadlineOpen k c = true →
    (a.closeReached c = true → c.complete = false → missAbandon c.words = false →
      exec (.deadlineClose t tile slot) s = .next (pumpTile tile (raiseFor 0x4001 tile k.parcel
        ((a.updTile tile fun x => { x with misses := min (x.misses + 1) 4294967295, stMiss := true }).updCmd tile slot c.index
          fun x => { x with missed := true })))) ∧
    (a.closeReached c = false → exec (.deadlineClose t tile slot) s = .next (pumpTile tile a)) ∧
    (a.closeReached c = true → c.complete = true → c.late = none →
      stampCmd tile slot a c = raiseFor 0x4001 tile k.parcel
        (((a.updCmd tile slot c.index fun x => { x with late := some true }).updTile tile fun x =>
          { x with misses := min (x.misses + 1) 4294967295, stMiss := true }).updCmd tile slot c.index
            fun x => { x with missed := true }))

/-! ### Synchronisation (R138 to R165) -/

/-- SIGNAL (R140, R141, R152, R153): with the counter owned by a parcel of the message's context, its count rises by the increment, and
where nothing watches it nothing else changes; a counter that saturates sets its tile's bit in SYNC_SAT_TILES and
SYNC_ST_SATURATED, raises 0x5001 once, and satisfies every wait on it; a message for a counter that is not so owned, or before READY, is
dropped and counted in SYNC_STALE_DROPS; before the FABRIC stage no message is taken (R165). -/
def Obligations.Signals : Prop :=
  ∀ (t : Nat) (m : SyncMsg) (s : State), m.kind = 1 → (s.advance t).clocked = true →
    let a := { s.advance t with sync := { s.sync with flight := s.sync.flight.erase m } }
    let tile := m.cluster * 64 + m.tile
    let x := s.counter tile m.index
    (s.start.stage = 9 → m.index < 48 → s.ownerContext x.owner = some m.context →
      x.count + m.payload < 0xFFFFFFFF →
      (∀ p ∈ s.sync.watches, p.2.source ≠ ctrKey tile m.index) → (∀ p ∈ s.sync.sendWatches, p.2.source ≠ ctrKey tile m.index) →
      exec (.signal t m) s = .next { a with
        sync := { a.sync with counters := tset s.sync.counters (ctrKey tile m.index) { x with count := x.count + m.payload } } }) ∧
    (s.start.stage = 9 → m.index < 48 → m.tile < 64 → s.ownerContext x.owner = some m.context →
      x.count < 0xFFFFFFFF → 0xFFFFFFFF ≤ x.count + m.payload →
      (∀ p ∈ s.sync.watches, p.2.source ≠ ctrKey tile m.index) → (∀ p ∈ s.sync.sendWatches, p.2.source ≠ ctrKey tile m.index) →
      let full := fun (raised : Bool) =>
        { a with sync := { a.sync with
          counters := tset s.sync.counters (ctrKey tile m.index) { x with count := 0xFFFFFFFF, satRaised := raised }
          csus := tset s.sync.csus m.cluster { s.csu m.cluster with
            satTiles := setBit (s.csu m.cluster).satTiles m.tile, stSaturated := true } } }
      (x.satRaised = true → exec (.signal t m) s = .next (full true)) ∧
      (x.satRaised = false → exec (.signal t m) s = .next (raiseFor 0x5001 m.cluster (x.owner - 1) (full true)))) ∧
    (x.count = 0xFFFFFFFF → ∀ ws : List Nat, waitCtr ws = m.index → s.waitMet tile ws = true) ∧
    (5 ≤ s.start.stage → s.start.stage ≤ 9 → s.start.stage ≠ 9 ∨ 48 ≤ m.index ∨ s.ownerContext x.owner ≠ some m.context →
      exec (.signal t m) s = .next (a.updCsu m.cluster fun c => { c with staleDrops := min (c.staleDrops + 1) 4294967295 })) ∧
    (s.start.stage < 5 ∨ 9 < s.start.stage → exec (.signal t m) s = .next (s.advance t))

/-- FILL (R146, R149, R153): an empty word of the context's parcel takes the value and is full; a fill of a full one is queued, or
with 64 in the queue is dropped and counted, raising 0x5002 at the first of the revolution; a word that is emptied takes its oldest
queued fill; without an owner of the context a fill is stale. What waited for the word then moves on. -/
def Obligations.Fills : Prop :=
  ∀ (t : Nat) (m : SyncMsg) (s : State), m.kind = 2 → (s.advance t).clocked = true →
    let a := { s.advance t with sync := { s.sync with flight := s.sync.flight.erase m } }
    let tile := m.cluster * 64 + m.tile
    (s.start.stage = 9 → s.ownerContext (s.heldOwnerOf tile m.index) = some m.context → m.tile < 64 →
      (s.heldFull tile m.index = false →
        exec (.fill t m) s = .next (pumpTile tile
          ((a.sramWrite tile (0x3F000 + 8 * m.index) (leBytes m.payload 8)).setFull tile m.index true))) ∧
      (s.heldFull tile m.index = true → (s.csu m.cluster).hfq.length < 64 →
        exec (.fill t m) s = .next (pumpTile tile (a.updCsu m.cluster fun u => { u with
          hfq := u.hfq ++ [(tile, m.index, m.payload)], hfqHigh := max u.hfqHigh (u.hfq.length + 1) }))) ∧
      (s.heldFull tile m.index = true → 64 ≤ (s.csu m.cluster).hfq.length → (s.csu m.cluster).dropRaised = true →
        exec (.fill t m) s = .next (pumpTile tile (a.updCsu m.cluster fun c => { c with
          heldDrops := min (c.heldDrops + 1) 4294967295, stFillLost := true, dropRaised := true }))) ∧
      (s.heldFull tile m.index = true → 64 ≤ (s.csu m.cluster).hfq.length → (s.csu m.cluster).dropRaised = false →
        exec (.fill t m) s = .next (pumpTile tile (raiseFor 0x5002 m.cluster (s.heldOwnerOf tile m.index - 1)
          (a.updCsu m.cluster fun c => { c with
            heldDrops := min (c.heldDrops + 1) 4294967295, stFillLost := true, dropRaised := true }))))) ∧
    (m.tile < 64 →
      (∀ v pre post, (s.csu m.cluster).hfq = pre ++ (tile, m.index, v) :: post → (∀ q ∈ pre, ¬(q.1 = tile ∧ q.2.1 = m.index)) →
        emptyWord tile m.index s = (State.sramWrite tile (0x3F000 + 8 * m.index) (leBytes v 8)
          ((s.setFull tile m.index false).updCsu m.cluster fun u => { u with hfq := pre ++ post })).setFull tile m.index true) ∧
      ((∀ q ∈ (s.csu m.cluster).hfq, ¬(q.1 = tile ∧ q.2.1 = m.index)) →
        emptyWord tile m.index s = s.setFull tile m.index false)) ∧
    (∀ c, ((endRevolution s).csu c).dropRaised = false) ∧
    (5 ≤ s.start.stage → s.start.stage ≤ 9 →
      s.start.stage ≠ 9 ∨ s.ownerContext (s.heldOwnerOf tile m.index) ≠ some m.context →
      exec (.fill t m) s = .next (pumpTile tile
        (a.updCsu m.cluster fun c => { c with staleDrops := min (c.staleDrops + 1) 4294967295 }))) ∧
    (s.start.stage < 5 ∨ 9 < s.start.stage → exec (.fill t m) s = .next (s.advance t))

/-- ARRIVE and RELEASE (R157, R158): at the home of its record (a cluster or partition record, or a domain record at the master) an
arrival of the record's own generation is counted with its time, and the one that brings the count to the expected number releases that
generation: the next one begins and the release goes out; one of the next generation counts for that. A domain arrival on another part
waits there for the part's own tasks, and then goes up as one message. A release frees the tasks that wait for it, one with the abort
mark ends them, and a domain release is passed on below. -/
def Obligations.BarrierMessages : Prop :=
  ∀ (t : Nat) (m : SyncMsg) (s : State), (s.advance t).clocked = true → s.start.stage = 9 →
    let a := { s.advance t with sync := { s.sync with flight := s.sync.flight.erase m } }
    let b := s.bar m.level m.cluster m.index
    (m.kind = 3 → m.level < 2 ∨ (m.level = 2 ∧ s.isMaster = true) → b.active = true →
      (b.withheld = false → m.gen = b.gen → b.arrived + m.payload < b.expected →
        exec (.arrive t m) s = .next (a.setBar m.level m.cluster m.index { b with
          arrived := b.arrived + m.payload, lastArrival := a.now, firstArrival := some (b.firstArrival.getD a.now) })) ∧
      (b.withheld = false → m.gen = b.gen → b.arrived + m.payload = b.expected → 0 < b.expected → b.nextArrived = 0 →
        (m.level = 2 → s.scheduledPlan m.index = none) →
        ∃ u, exec (.arrive t m) s = .next u ∧ u = { a with sync := u.sync, fab := u.fab } ∧
          u.bar m.level m.cluster m.index = { b with
            gen := (b.gen + 1) % 65536, arrived := 0, nextArrived := 0, lastArrival := a.now, firstArrival := none
            slowRaised := false, withheld := false } ∧
          u.sync.released = (if m.level = 0 then s.sync.released else min (s.sync.released + 1) 4294967295) ∧
          (m.level < 2 → u.fab = s.fab) ∧
          u.sync.flight = a.sync.flight ++ (if m.level = 0 then
              [releaseMsg a.deviceId m.cluster 0 m.index b.gen b.context false]
            else if m.level = 1 then
              ((a.parcel b.parcel).toList.flatMap Parcel.clusters).map fun c =>
                releaseMsg a.deviceId c 1 m.index b.gen b.context false
            else [releaseMsg a.deviceId 0 2 m.index b.gen b.context false])) ∧
      (m.gen ≠ b.gen → m.gen = (b.gen + 1) % 65536 →
        exec (.arrive t m) s =
          .next (a.setBar m.level m.cluster m.index { b with nextArrived := b.nextArrived + m.payload }))) ∧
    (m.kind = 3 → m.level = 2 → s.isMaster = false →
      let key := m.index * 65536 + m.gen
      let own := tget s.sync.domOwn key (0, false)
      let kids := tget s.sync.domKids key 0
      let need := match s.domParcel m.index with | some p => p.tasks.length | none => 0
      m.device ≠ s.deviceId →
      (own.1 < need → exec (.arrive t m) s = .next { a with
        sync := { a.sync with domKids := tset s.sync.domKids key (kids + m.payload) } }) ∧
      (need ≤ own.1 → own.2 = false → 0 < own.1 + (kids + m.payload) →
        ∃ u, exec (.arrive t m) s = .next u ∧ tget u.sync.domOwn key (0, false) = (own.1, true) ∧ tget u.sync.domKids key 0 = 0 ∧
          u = sendSyncOn s.fab.parentActive 1
            (syncBytes (arriveMsg s.im.fab.masterId 0 2 m.index m.gen m.context (own.1 + (kids + m.payload))))
            { a with sync := { a.sync with domOwn := u.sync.domOwn, domKids := u.sync.domKids } })) ∧
    (m.kind = 4 → m.level < 2 ∨ (m.level = 2 ∧ s.isMaster = false) →
      ∃ u, exec (.release t m) s = .next u ∧ u.nv = s.nv ∧ u.pins = s.pins ∧ u.start = s.start ∧
        (m.level < 2 → u = releaseTasks m a) ∧
        (m.level = 2 → tget u.sync.domGen m.index 0 = (m.gen + 1) % 65536) ∧
        ∀ tile slot, (a.task tile slot).state ≠ .free → m.level = 2 ∨ tile / 64 = m.cluster →
          a.recordOf m.level (tile / 64) (a.task tile slot).parcel = some m.index →
          (m.abort = false → (u.task tile slot).cmds =
            (a.task tile slot).cmds.map fun x => if x.awaits m then { x with phase := .storing } else x) ∧
          (m.abort = true → (∃ x ∈ (a.task tile slot).cmds, x.awaits m = true) → (u.task tile slot).state = .ended))

/-- BARRIER_SLOW (R159): a record pending for SYNC_BARRIER_SLOW_MS since its first arrival is counted and raises 0x5005, once; one that is
not is left alone. -/
def Obligations.BarrierSlow : Prop :=
  ∀ (t level unit record : Nat) (s : State), level ≤ 2 →
    let a := s.advance t
    let b := s.bar level unit record
    (∀ f, b.firstArrival = some f → b.active = true → b.slowRaised = false → f + s.im.sync.slowMs * 1000000 ≤ a.now →
      exec (.barrierSlow t level unit record) s = .next (raiseFor 0x5005 (record + 0x100 * level) b.parcel
        (let x := a.setBar level unit record { b with slowRaised := true }
         { x with sync := { x.sync with slow := min (s.sync.slow + 1) 4294967295, stSlow := true } }))) ∧
    (b.firstArrival = none ∨ b.active = false ∨ b.slowRaised = true → exec (.barrierSlow t level unit record) s = .next a)

/-! ### Marver and rings (R175 to R180) -/

/-- MARVER_COMBINE, DONE_ACTION and ROTATION (R175 to R180): the first due combine of a cluster with none under way adds its rows and
writes them, and no tile SRAM, counter or barrier changes; the done action goes out once, when every write of the combine has been
acknowledged, and is counted; once every member has
ended its ring command, each slice lands at the next member, in the other half of the area, and no other byte of SRAM
changes. -/
def Obligations.CombinesAndRotations : Prop :=
  ∀ (t cluster slot : Nat) (s : State),
    let a := s.advance t
    a.clocked = true →
    (∀ (d : Nat × Nat) (e : Combine), (∀ k ∈ s.sync.combining, k / 8 ≠ cluster) →
      s.sync.due.find? (fun x => x.2 / 8 = cluster) = some d → tfind s.sync.combines d.2 = some e →
      ∃ u, exec (.marverCombine t cluster) s = .next u ∧
        u = { a with
          tiles := { a.tiles with clusters := u.tiles.clusters }, mem := u.mem, part := u.part, flt := u.flt
          sync := { a.sync with
            due := s.sync.due.erase d, combining := s.sync.combining ++ [d.2], combines := u.sync.combines } } ∧
        let r := combineRows cluster d.2 e e.rows 0
          { a with sync := { a.sync with due := s.sync.due.erase d, combining := s.sync.combining ++ [d.2] } }
        u = if r.1 = 0 then r.2 else reportFlags cluster e.parcel r.1 r.2) ∧
    (∀ e : Combine, tfind s.sync.combines (cluster * 8 + slot) = some e → e.writes ≠ 0 →
      exec (.doneAction t cluster slot) s = .next a) ∧
    (∀ e : Combine, slot < 8 → s.sync.combining.contains (cluster * 8 + slot) = true →
      tfind s.sync.combines (cluster * 8 + slot) = some e → e.writes = 0 → e.doneMsg.device = a.deviceId → e.doneMsg.kind = 1 →
      exec (.doneAction t cluster slot) s = .next { a with
        sync := { a.sync with
          combining := s.sync.combining.erase (cluster * 8 + slot), flight := s.sync.flight ++ [e.doneMsg] }
        tiles := { a.tiles with clusters := tset s.tiles.clusters cluster { s.cluster cluster with
          combinesDone := min ((s.cluster cluster).combinesDone + 1) 4294967295 } } }) ∧
    (∀ r : Ring, Memory.wf s = true → slot < 8 → tfind s.sync.rings (cluster * 8 + slot) = some r → 2 ≤ r.size →
      r.area + 2 * r.sliceBytes ≤ 0x40000 → (∀ n ∈ r.ended, r.next ≤ n) →
      let tile := cluster * 64 + r.first
      let src := r.area + (r.next - 1) % 2 * r.sliceBytes
      let dst := r.area + r.next % 2 * r.sliceBytes
      ∃ b, exec (.rotation t cluster slot) s = .next (pumpTiles ((List.range r.size).map fun i => tile + i) b) ∧
        b = { a with
          tiles := { a.tiles with sram := b.tiles.sram, poison := b.tiles.poison, clusters := b.tiles.clusters }
          sync := { a.sync with rings := tset s.sync.rings (cluster * 8 + slot) { r with landed := r.next } } } ∧
        (b.cluster cluster).rotations = min ((s.cluster cluster).rotations + 1) 4294967295 ∧
        (∀ i, i < r.size → ∀ k, k < r.sliceBytes →
          b.sramByte (tile + (i + 1) % r.size) (dst + k) = s.sramByte (tile + i) (src + k)) ∧
        ∀ n x, (n < tile ∨ tile + r.size ≤ n ∨ x % 0x40000 < dst ∨ dst + r.sliceBytes ≤ x % 0x40000) →
          b.sramByte n x = s.sramByte n x) ∧
    (∀ r : Ring, tfind s.sync.rings (cluster * 8 + slot) = some r → (∃ n ∈ r.ended, n < r.next) →
      exec (.rotation t cluster slot) s = .next a)

/-! ### The feature store (R213 to R235) -/

/-- ROW_REQUEST, ROW_RESPONSE and ROW_HOME_UNREACHABLE (R217, R218, R220): a row for a tile is served from the cluster cache's replica, a
device replica, its home here, or its home's part, in that order. At its home a row of a valid entry is read from its live slot, its
sectors requested, and delivered, counted once, with the passes repeated meanwhile; the fourth failing pass delivers a torn row; an
entry that is not valid is an unresolved one; on a channel held out of service the row is poisoned (assumption log, entry 84).
A returned row whose sectors have arrived lands at its reserved bytes and nowhere else, and what can move moves. -/
def Obligations.RowsServed : Prop :=
  ∀ (t i : Nat) (s : State),
    let a := s.advance t
    a.clocked = true →
    (∀ (q : RowReq) (ats : List RowAttempt), s.fs.reqs[i]? = some q →
      let b := { a with fs := { a.fs with reqs := dropAt s.fs.reqs i } }
      let held := fun (cc : Bool) => s.fs.replicas.find? fun r => r.table = q.table && r.row = q.row && r.cc == cc
      (∀ r, q.whom.remote = false → (held true).orElse (fun _ => held false) = some r → a.failedPasses ats < 4 →
        exec (.rowRequest t i ats) s = .next { b with fs := { b.fs with
          rereads := min (s.fs.rereads + min (a.failedPasses ats) 3) 4294967295
          repHits := min (s.fs.repHits + 1) 18446744073709551615
          replicas := s.fs.replicas.map fun y =>
            if y.table = r.table && y.row = r.row && y.cc = r.cc then { y with hits := y.hits + 1 } else y
          resps := s.fs.resps ++ [{ req := q, bytes := copyBytes (a.replicaBytes r) q.bytes }] } }) ∧
      (∀ ft, a.im.table q.table = some ft → q.whom.remote = false → held true = none → held false = none →
        (ft.home q.row).1 ≠ a.deviceId →
        exec (.rowRequest t i ats) s =
          .next (if a.admitted (ft.home q.row).1 then askHome q (ft.home q.row).1 b
            else pushResp (poisonResp q 0) (noteUnreachable q b))) ∧
      ∀ ft, a.im.table q.table = some ft →
        q.whom.remote = true ∨ (held true = none ∧ held false = none ∧ (ft.home q.row).1 = a.deviceId) →
        let k := a.homeKey ft q.row
        let m := a.rowMap k.1 k.2
        let n := a.firstShard ft.id + m.shard
        let far := if q.whom.remote then min (s.fs.remote + 1) 18446744073709551615 else s.fs.remote
        let count := fun (j : Nat) => tset s.fs.shards j { s.shard j with
          live := min ((s.shard j).live + 1) 4294967295, hot := hotCount q.row q.whom (s.shard j).hot }
        (a.inService (shardChan k.1) = false →
          exec (.rowRequest t i ats) s = .next { b with fs := { b.fs with
            served := min (s.fs.served + 1) 18446744073709551615, remote := far
            resps := s.fs.resps ++ [poisonResp q 0], shards := count k.1 } }) ∧
        (a.inService (shardChan k.1) = true → m.valid = false →
          exec (.rowRequest t i ats) s = .next (pushResp (poisonResp q 1) (noteUnresolved q b))) ∧
        (a.inService (shardChan k.1) = true → m.valid = true → a.failedPasses ats < 4 →
          let off := a.slotOff n m.cell (flag m.ver)
          let r : RowResp :=
            { req := q, bytes := a.chanRead (shardChan n) off q.bytes, id := s.fs.nextRow + 1
              pending := (pieces 64 (q.bytes / 64 + 2) off 0 q.bytes).length }
          let e := { b with fs := { b.fs with
            served := min (s.fs.served + 1) 18446744073709551615, remote := far, nextRow := s.fs.nextRow + 1
            rereads := min (s.fs.rereads + min (a.failedPasses ats) 3) 4294967295
            resps := s.fs.resps ++ [r], shards := count n } }
          ∃ u, exec (.rowRequest t i ats) s = .next u ∧
            u = askSectors (shardChan n) off q.bytes (s.fs.nextRow + 1) (a.rowQueue q.whom) e ∧
            u = { e with mem := { e.mem with chans := u.mem.chans } }) ∧
        (a.inService (shardChan k.1) = true → m.valid = true → a.failedPasses ats = 4 →
          ∃ u, exec (.rowRequest t i ats) s = .next u ∧ u = { a with fs := u.fs, flt := u.flt, part := u.part } ∧
            u.fs.stTorn = true ∧ u.fs.torn = min (s.fs.torn + 1) 4294967295 ∧
            u.fs.resps = s.fs.resps ++ [poisonResp q 2])) ∧
    (∀ (r : RowResp), s.fs.resps[i]? = some r →
      let b := { a with fs := { a.fs with resps := dropAt s.fs.resps i } }
      (r.pending ≠ 0 → exec (.rowResponse t i) s = .next a) ∧
      (r.pending = 0 → r.req.whom.remote = true → exec (.rowResponse t i) s = .next (returnRow r b)) ∧
      ∀ p : RowPlace, r.pending = 0 → r.req.whom = .tile p → r.req.also = [] → p.part = 2 →
        (a.lives p = false → exec (.rowResponse t i) s = .next (settleTiles b)) ∧
        (a.lives p = true → r.bytes.length ≤ 0x40000 → Memory.wf s = true →
          ∃ u, exec (.rowResponse t i) s = .next (settleTiles u) ∧ u = { b with tiles := u.tiles } ∧
            (∀ j, j < r.bytes.length → u.sramByte p.tile (p.place + j) = (r.bytes.getD j (0, false)).1) ∧
            ∀ x y, (x ≠ p.tile ∨ ∀ j, j < r.bytes.length → y % 0x40000 ≠ (p.place + j) % 0x40000) →
              u.sramByte x y = s.sramByte x y)) ∧
    (∀ (tag : Nat) (q : RowReq), s.fs.remoteReqs.find? (fun q => q.tag = tag) = some q →
      (q.since + 10000000 ≤ a.now →
        exec (.rowHomeUnreachable t tag) s = .next (pushResp (poisonResp q 0) (noteUnreachable q
          (dropReplicasOf (a.homeOf q.table q.row) { a with fs := { a.fs with
            remoteReqs := s.fs.remoteReqs.erase q
            partials := s.fs.partials.filter fun x => !(x.kind = 3 && x.tag = tag) } })))) ∧
      (a.now < q.since + 10000000 → exec (.rowHomeUnreachable t tag) s = .next a))

/-- LETTER_WRITE, LETTER_UNLOAD, SETTLE_EXPIRY and LETTER_COMPLETE (R225, R226, R237, R341): a live row without replicas takes the new
version in one entry change, a row that is not valid takes a free cell, an unloaded one is not valid, a write-once row is not written
twice nor unloaded; before the settle time of the last change has passed the row is held busy; an entry on a channel held out of service
counts as applied without effect (assumption log, entry 84); a cell is free when its settling time has passed; the report goes out when
every entry has been applied or refused. -/
def Obligations.LettersApplied : Prop :=
  ∀ (t i : Nat) (s : State),
    let a := s.advance t
    (∀ (e : Entry) (ft : FsTable) (unload : Bool), a.entryAt i unload = some (e, ft) → e.origin = none → s.fs.replicas = [] →
      s.fs.holders = [] →
      let c : Instr := if unload then .letterUnload t i else .letterWrite t i
      let k := a.homeKey ft e.row
      let m := a.rowMap k.1 k.2
      let on := a.inService (shardChan k.1)
      (ft.live = false → unload = true ∨ (on = true ∧ m.valid = true) → exec c s = .next (endEntry e true a)) ∧
      (ft.live = true ∨ unload = false → on = false → exec c s = .next (endEntry e false a)) ∧
      (ft.live = true → on = true →
        (if unload then a.past s.fs.written k.1 k.2 else a.settled k.1 k.2) = false →
        exec c s = .next (holdRow e k.1 k.2 a)) ∧
      (unload = false → on = true → m.valid = false → (ft.live = true → a.settled k.1 k.2 = true) →
        ∀ cell, a.freeCell k.1 = some cell →
        ∃ u, exec c s = .next u ∧ u = { a with fs := u.fs, part := u.part, mem := u.mem } ∧
          (u.rowMap k.1 k.2).valid = true ∧ (u.rowMap k.1 k.2).cell = cell ∧
          (u.rowMap k.1 k.2).shard = (ft.home e.row).2.1 ∧
          (u.rowMap k.1 k.2).ver = (if ft.live then !m.ver else false) ∧
          u.fs.applied = min (s.fs.applied + 1) 4294967295 ∧ u.fs.entries = s.fs.entries.erase e) ∧
      (ft.live = true → unload = true → on = true → a.past s.fs.written k.1 k.2 = true →
        ∃ u, exec c s = .next u ∧ u = { a with fs := u.fs, part := u.part } ∧
          u.rowMap k.1 k.2 = { m with valid := false, busy := false, replicated := false } ∧
          u.fs.applied = min (s.fs.applied + 1) 4294967295 ∧ u.fs.entries = s.fs.entries.erase e) ∧
      (ft.live = true → unload = false → on = true → m.valid = true → a.settled k.1 k.2 = true →
        ∃ u, exec c s = .next u ∧ u = { a with fs := u.fs, part := u.part, mem := u.mem } ∧
          u.rowMap k.1 k.2 = { m with ver := !m.ver, valid := true, busy := false, replicated := false } ∧
          u.fs.applied = min (s.fs.applied + 1) 4294967295 ∧ u.fs.entries = s.fs.entries.erase e)) ∧
    (∀ x : Settle, s.fs.settles[i]? = some x →
      (a.now < x.due → exec (.settleExpiry t i) s = .next a) ∧
      (a.clocked = true → x.due ≤ a.now → x.replicaBytes = 0 →
        exec (.settleExpiry t i) s = .next { a with fs := { a.fs with
          settles := dropAt s.fs.settles i, replicas := s.fs.replicas ++ x.next.toList
          shards := tset s.fs.shards x.shard { s.shard x.shard with
            usedCells := (s.shard x.shard).usedCells.erase x.cell } } }) ∧
      (a.clocked = true → x.due ≤ a.now → x.replicaBytes ≠ 0 →
        exec (.settleExpiry t i) s = .next { a with fs := { a.fs with
          settles := dropAt s.fs.settles i, replicas := s.fs.replicas ++ x.next.toList } })) ∧
    (∀ l : Letter, s.part.letters.find? (fun l => l.id = i) = some l →
      (l.left = 0 →
        exec (.letterComplete t i) s = .next (sendReport
          { via := l.via, address := l.report, kind := 2, outcome := 0, context := l.context, flags := 0, reason := 0
            tag := l.tag, serial := l.serial, fault := 0, refused := min l.refused 65535, rev := s.round.rev
            devtime := a.devCount } (endLetter l a))) ∧
      (l.left ≠ 0 → exec (.letterComplete t i) s = .next a))

/-- REPLICA_COPY, REPLICA_INVALIDATE, INVALIDATE_ACKNOWLEDGEMENT, INVALIDATION_TIMEOUT, REPLICA_DROP and SUPERVISOR_REVIEW (R226,
R230 to R233): a copy that fits is held, a poisoned one is not, and one that finds no place is given back and counted; an
invalidation leaves no replica of its row here; a holder that has answered or been silent for 10 ms is struck; and a review takes
back the hot-row tables. -/
def Obligations.Replicas : Prop :=
  ∀ (t : Nat) (m : ReplicaMsg) (s : State),
    let a := s.advance t
    let h := a.holdersOf m.table m.row
    let h' := { h with awaiting := h.awaiting.erase m.device, devices := h.devices.erase m.device }
    a.clocked = true →
    (m.bytes.any Prod.snd = true → exec (.replicaCopy t m) s = .next a) ∧
    (m.bytes.any Prod.snd = false → a.replicaHere m.table m.row false = false →
      a.replicaUsed false + a.replicaSize m.table ≤ a.replicaRoom false →
      (s.fs.replicas.filter fun r => !r.cc).length < 65536 →
      exec (.replicaCopy t m) s = .next { a with fs := { a.fs with
        replicas := s.fs.replicas ++ [{ table := m.table, row := m.row, cc := false, bytes := m.bytes, hits := 0, lastHits := 0
                                        idleRevs := 0, placed := s.fs.replicaPlaces, chan := s.fs.replicaPlaces % 64 }]
        replicaPlaces := s.fs.replicaPlaces + 1 } }) ∧
    (m.bytes.any Prod.snd = false → a.replicaHere m.table m.row false = false →
      a.replicaRoom false < a.replicaUsed false + a.replicaSize m.table → (∀ r ∈ s.fs.replicas, r.cc = true) →
      exec (.replicaCopy t m) s = .next (tellRow 5 m.table m.row m.device 2 (denyReplica m.table a))) ∧
    (∃ u, exec (.replicaInvalidate t m) s = .next u ∧ u = { a with fs := u.fs, fab := u.fab } ∧
      u.fs = { s.fs with replicas := u.fs.replicas, settles := u.fs.settles } ∧
      u.fs.replicas = s.fs.replicas.filter fun x => !(x.table = m.table && x.row = m.row)) ∧
    (∀ c, c = .invalidateAcknowledgement t m ∨ (c = .invalidationTimeout t m ∧ h.since + 10000000 ≤ a.now) →
      h.awaiting.contains m.device = true →
      (h'.awaiting ≠ [] → exec c s = .next (setHolders h' a)) ∧
      (h'.awaiting = [] → ∀ e, s.fs.entries.find? (fun e => e.table = m.table && e.row = m.row && e.stage = 1) = some e →
        exec c s = .next (commitEntry e (setHolders h' a)))) ∧
    (a.now < h.since + 10000000 → exec (.invalidationTimeout t m) s = .next a) ∧
    (a.homeOf m.table m.row = a.deviceId →
      exec (.replicaDrop t m) s = .next (noteReplicated m.table m.row
        (setHolders { h with devices := h.devices.erase m.device } a))) ∧
    (a.homeOf m.table m.row ≠ a.deviceId → ∀ r, s.fs.replicas.find? (fun r => r.ofRow m.table m.row && !r.cc) = some r →
      exec (.replicaDrop t m) s = .next (leaveReplica r a)) ∧
    (s.fs.reviewDue = true → s.start.stage = 9 →
      ∃ u, exec (.supervisorReview t) s = .next u ∧
        u = { a with mem := u.mem, fs := u.fs, fab := u.fab, flt := u.flt } ∧ u.fs.reviewDue = false ∧
        ∀ n, (u.shard n).hotRead = []) ∧
    (s.fs.reviewDue = false → exec (.supervisorReview t) s = .next a)

/-! ### Memory (R238 to R268) -/

/-- MEMORY_REQUEST_ACCEPT, MEMORY_READ_DONE, WRITE_TO_DEVICE_DONE and REGULATOR_ADMIT (R247, R248, R252, R253, R258): the next queue
in turn gives its oldest request one of the 112 slots, a read with the data of that moment, a store its acknowledgement; one to a
page under retirement is held there. A clean read's data lands and frees its slot, a write's slot is free when none of its lines
waits in the write-combining buffer; a regulator with the tokens for its oldest request admits and charges it, and it goes on to its
channel's queue. What the answers let the tiles do follows. -/
def Obligations.MemoryRequests : Prop :=
  ∀ (t c i : Nat) (s : State),
    let a := s.advance t
    let ch := a.chan c
    (∀ (q : Nat) (r : Req), ch.requests < 112 → ch.nextQueue 33 ch.turn = some (q, r) →
      let b := a.updChan c fun x => { x with
        queues := tset x.queues q ((tget x.queues q []).drop 1), turn := (q + 1) % 33 }
      exec (.memoryRequestAccept t c) s = .next (settleTiles (serveReq c r b)) ∧
      ∀ (d : Nat), r.dev = some d → ch.state = 1 →
        (r.kind = .command ∨ (∃ l, r.kind = .fetch l) ∨ (∃ l, r.kind = .index l) →
          (b.chan c).holds ch.slots r d = false →
          ∃ u, exec (.memoryRequestAccept t c) s = .next (settleTiles u) ∧
            u = { a with mem := { a.mem with chans := u.mem.chans } } ∧
            u.chan c = Chan.noteHigh 0 { b.chan c with slots := ch.slots ++ [{ req := r, data := a.reqBytes r d }] } ∧
            ∀ n, n ≠ c → u.chan n = s.chan n) ∧
        (∀ bs p, r.kind = .store bs p → (b.chan c).holds ch.slots r d = false →
          exec (.memoryRequestAccept t c) s =
            .next (settleTiles (takeSlot c { req := r } (ackWrite r 0 (devWrite d bs p b))))) ∧
        ((b.chan c).holds ch.slots r d = true →
          exec (.memoryRequestAccept t c) s = .next (settleTiles (takeSlot c { req := r, held := true } b)))) ∧
    (112 ≤ ch.requests ∨ ch.nextQueue 33 ch.turn = none → exec (.memoryRequestAccept t c) s = .next (settleTiles a)) ∧
    (∀ (x : Slot) (d : Nat), ch.slots[i]? = some x → x.req.writes = false → x.req.dev = some d →
      let b := a.updChan c fun y => { y with
        slots := dropAt y.slots i
        rdBytes := min (y.rdBytes + 32 * ((devOff d + x.req.len + 31) / 32 - devOff d / 32)) 18446744073709551615 }
      (∀ land, x.req.kind = .fetch land → x.held = false → ch.holding (devOff d) = false →
        exec (.memoryReadDone t c i []) s = .next (settleTiles (resumeHeld c (landRead x.req land x.data b)))) ∧
      (x.req.kind = .command → x.held = false → ch.holding (devOff d) = false →
        exec (.memoryReadDone t c i []) s = .next (settleTiles (resumeHeld c (landCommand x.req x.data b)))) ∧
      (x.held = true ∨ ch.holding (devOff d) = true →
        ∀ ecc, exec (.memoryReadDone t c i ecc) s = .next (settleTiles a)) ∧
      exec (.writeToDeviceDone t c i) s = .next a) ∧
    (∀ (x : Slot) (d : Nat) (bs : List Byte) (p : Bool), ch.slots[i]? = some x → x.req.kind = .store bs p → x.req.dev = some d →
      (x.held = false → ch.wcb = [] →
        exec (.writeToDeviceDone t c i) s = .next (a.updChan c fun y => { y with slots := dropAt y.slots i })) ∧
      (∀ w ∈ ch.wcb, w.line = devOff d / 64 → 0 < x.req.len → exec (.writeToDeviceDone t c i) s = .next a)) ∧
    (∀ (r : Req) (rest : List Req), (tget a.mem.regs c {}).waiting = r :: rest →
      let g := tget a.mem.regs c {}
      let m := { a with mem := { a.mem with regs := tset a.mem.regs c { g with
        tokens := g.tokens - 10 * r.len, waiting := rest, bytes := min (g.bytes + r.len) 18446744073709551615 } } }
      (10 * r.len ≤ g.tokens ∨ (a.partEntry c).rate = 0 →
        exec (.regulatorAdmit t c) s = .next (settleTiles (enqueueReq r m)) ∧
        (r.dev.isSome = true → r.kind = .command ∨ (∃ l, r.kind = .fetch l) ∨ (∃ bs p, r.kind = .store bs p) →
          tget ((enqueueReq r m).chan r.channel).queues r.queue [] =
            tget (s.chan r.channel).queues r.queue [] ++ [{ r with seq := (s.chan r.channel).arrivals }])) ∧
      (g.tokens < 10 * r.len → (a.partEntry c).rate ≠ 0 → exec (.regulatorAdmit t c) s = .next (settleTiles a)))

/-- RETIREMENT_COPY_DONE, WCB_IDLE_EVICTION, REFRESH, SCRUB_READ and SELF_REFRESH_ENTRY (R249, R252 to R256): a copied page is
mapped to its spare and holds its bytes, in the retirement table too; every write-combining entry idle for 2 µs leaves, while
reserved slots last for the reads of its partial sectors; a scrub finding is counted and poisons its sector; a quiet channel enters
self-refresh. -/
def Obligations.MemoryUpkeep : Prop :=
  ∀ (t c : Nat) (s : State),
    let a := s.advance t
    let ch := a.chan c
    (∀ (r : Retiring) (rest : List Retiring), ch.retiring = r :: rest →
      ∃ u, exec (.retirementCopyDone t c []) s = .next (settleTiles u) ∧
        (u.chan c).retiring = rest ∧ (u.chan c).map = ch.map ++ [(r.page, r.spare)] ∧
        (u.chan c).retiredPages = min (ch.retiredPages + 1) 127 ∧ (u.chan c).stRetired = true ∧
        u.mem.retTable = s.mem.retTable ++ [⟨c, r.spare, r.cause, r.page⟩] ∧
        u.tiles.sram = s.tiles.sram ∧ u.nv.fuses = s.nv.fuses ∧ u.pins = s.pins ∧ u.img = s.img ∧ u.round = s.round ∧
        (ch.slots = [] → ch.wcb = [] → Memory.wf s = true → ∀ k, k < 65536 →
          cellGet 0 u.mem.cells (rawKeyOf c (a.pageRaw (spareCode r.spare)) + k) =
            cellGet 0 s.mem.cells (rawKeyOf c (a.pageRaw r.page) + k))) ∧
    (ch.retiring = [] →
      exec (.retirementCopyDone t c []) s = .next (settleTiles a) ∧
      ((∀ x ∈ ch.slots, x.held = false) →
        ch.reservedUsed + (ch.wcb.filter fun w => w.last + 2000 ≤ a.now).length ≤ 16 →
        ∃ u, exec (.wcbIdleEviction t c) s = .next (settleTiles u) ∧
          u = { a with mem := { a.mem with cells := u.mem.cells, poison := u.mem.poison, chans := u.mem.chans } } ∧
          (u.chan c).wcb =
            ch.wcb.filter (fun w => !(ch.wcb.any fun x => x.line = w.line && x.last + 2000 ≤ a.now)) ∧
          ∀ n, n ≠ c → u.chan n = s.chan n)) ∧
    (∀ bank, exec (.refresh t c bank) s = .next (if bank < 32 ∧ ch.state = 1 then
      a.updChan c fun x => { x with refreshes := x.refreshes + 1 } else a)) ∧
    (ch.state = 1 → ch.reservedFree = true →
      exec (.scrubRead t c .clean) s = .next (a.updChan c fun x => Chan.noteHigh 1 { x with
        scrubAt := (x.scrubAt + 1) % a.scrubSectors, sr := false, idleSince := a.now
        rdBytes := min (x.rdBytes + 32) 18446744073709551615 }) ∧
      (∃ u, exec (.scrubRead t c .linkCorrected) s = .next u ∧ u = { a with mem := { a.mem with chans := u.mem.chans } } ∧
        (u.chan c).linkCe = min (ch.linkCe + 1) 4294967295 ∧ (u.chan c).ce = ch.ce) ∧
      (∃ u, exec (.scrubRead t c .corrected) s = .next u ∧ u = { a with mem := { a.mem with chans := u.mem.chans }, flt := u.flt } ∧
        (u.chan c).ce = min (ch.ce + 1) 4294967295 ∧ (u.chan c).scrubAt = (ch.scrubAt + 1) % a.scrubSectors) ∧
      ∃ u, exec (.scrubRead t c .uncorrectable) s = .next u ∧
        u = { a with mem := { a.mem with poison := u.mem.poison, chans := u.mem.chans }, flt := u.flt } ∧
        (u.chan c).ue = min (ch.ue + 1) 4294967295 ∧ (u.chan c).stUe = true ∧
        (ch.scrubAt < a.im.dataBytes / 32 → u.mem.poison.contains (rawKeyOf c (32 * ch.scrubAt) / 32) = true)) ∧
    (ch.state ≠ 1 ∨ ch.reservedFree = false → ∀ e, exec (.scrubRead t c e) s = .next a) ∧
    (ch.state = 1 → s.im.mem.srIdleMs ≠ 0 → a.quiet = true →
      max ch.idleSince s.part.lastBusy + s.im.mem.srIdleMs * 1000000 ≤ a.now → ch.slots = [] → ch.queues = [] →
      exec (.selfRefreshEntry t c) s = .next (a.updChan c fun x => { x with sr := true })) ∧
    (a.quiet = false → exec (.selfRefreshEntry t c) s = .next a)

/-- TG_START, TG_STOP and TG_RUN_END (R260): the physical function starts and stops the generator of a channel held out of service; a run
takes the settings in force, and its results stand when it ends, no more passes than were asked for and a first mismatch within the
bytes it covers; any other write is discarded and recorded. -/
def Obligations.TrafficGenerator : Prop :=
  ∀ (t c r : Nat) (w : BitVec 32) (x : TgResult) (s : State),
    let a := s.advance t
    let g := (a.chan c).tg
    s.start.pcieUp = true →
    (r = 0 → c < 64 → 2 ≤ (a.chan c).state →
      (w.toNat % 2 = 1 → g.busy = false →
        exec (.tgStart t r c w) s = .next (a.updChan c fun y => { y with tg := { g with
          go := true, busy := true, mode := w.toNat / 2 % 4, pattern := w.toNat / 8 % 4, passesDone := 0, errors := 0
          firstErr := 0, ce := 0
          run := { mode := w.toNat / 2 % 4, pattern := w.toNat / 8 % 4, seed := g.seed, base := g.base, len := g.len
                   passes := g.passes } } })) ∧
      (w.toNat % 2 = 0 →
        exec (.tgStop t r c w) s = .next (a.updChan c fun y => { y with tg := { g with
          go := false, mode := w.toNat / 2 % 4, pattern := w.toNat / 8 % 4 } }))) ∧
    (r ≠ 0 ∨ 64 ≤ c ∨ (a.chan c).state < 2 →
      exec (.tgStart t r c w) s = .next (markDiscarded r a) ∧ exec (.tgStop t r c w) s = .next (markDiscarded r a)) ∧
    (g.busy = true → ∃ e : Tg,
      exec (.tgRunEnd t c x) s = .next (a.updChan c fun y => { y with tg := e }) ∧
        e = { g with
          go := false, busy := false, passesDone := e.passesDone, errors := e.errors, firstErr := e.firstErr
          ce := min x.corrected 4294967295, written := e.written } ∧
        e.passesDone = min (if g.run.passes = 0 then x.passes else min x.passes g.run.passes) 65535 ∧
        e.errors = (if g.run.len = 0 then 0 else min x.errors 4294967295) ∧
        (e.errors = 0 → e.firstErr = 0) ∧
        (e.errors ≠ 0 → g.run.base ≤ e.firstErr ∧ e.firstErr < g.run.base + 65536 * g.run.len) ∧
        e.written = (if g.run.mode = 1 ∨ g.run.len = 0 then g.written else g.run :: g.written)) ∧
    (g.busy = false → exec (.tgRunEnd t c x) s = .next a)

/-! ### Lens (R269 to R291) -/

/-- LENS_REQUEST, MATRIX_LOAD_DONE, INTEGRATION_WINDOW and ACTIVITY_MICROSECOND (R270, R271, R274 to R277): an engine serves
requests in order of arrival for the matrix it holds and loads the one that the oldest request names; a tile's requests come in the
order it sent them; a window takes one vector within the microsecond's limit and returns its codes to the tile. -/
def Obligations.LensServes : Prop :=
  ∀ (t i n : Nat) (s : State),
    let a := s.advance t
    let e := a.engine n
    a.clocked = true →
    (∀ q : LensReq, s.lens.flight[i]? = some q → (s.lens.flight.take i).any (fun r => r.tile = q.tile) = true →
      exec (.lensRequest t i) s = .next a) ∧
    (∀ q : LensReq, s.lens.flight[i]? = some q → (s.lens.flight.take i).any (fun r => r.tile = q.tile) = false →
      a.engineOf q.tile = n →
      let b := { a with lens := { a.lens with
        flight := dropAt s.lens.flight i, engines := tset a.lens.engines n { e with queue := e.queue ++ [q] } } }
      exec (.lensRequest t i) s = .next (nextMatrix n b) ∧
      (e.state ≠ .serving → exec (.lensRequest t i) s = .next b) ∧
      (e.state = .serving → e.queue = [] → e.matrix = none → ∀ p, s.parcel q.parcel = some p →
        exec (.lensRequest t i) s = .next (seeDev n (p.base + ((p.sections.getD 5 (0, 0)).1 + 4112 * q.handle)) 4112
          { b with lens := { b.lens with engines := tset a.lens.engines n { e with
            queue := [q], state := .loading, loading := some (b.matrixOf p q.handle), drain := none } } }))) ∧
    (e.state = .loading → e.queue = [] →
      exec (.matrixLoadDone t n) s = .next { a with lens := { a.lens with engines := tset a.lens.engines n { e with
        state := if e.calPending then .calibrating else .serving, matrix := e.loading, loading := none
        loads := min (e.loads + 1) 4294967295, calPending := false, ovrLeft := [], shadowLeft := [], frozen := false
        cleanWindows := 0, drain := if e.calPending then e.drain else none } } }) ∧
    (e.state ≠ .loading → exec (.matrixLoadDone t n) s = .next a) ∧
    (n < 32 → exec (.activityMicrosecond t n) s = .next { a with lens := { a.lens with
      engines := tset a.lens.engines n { e with lastUs := e.thisUs, thisUs := 0 } } }) ∧
    (∀ (q : LensReq) (m : Matrix) (r : List LensReq), e.state = .serving → e.matrix = some m → e.queue = q :: r →
      m.serves q = true → e.drain = none → e.thisUs < e.limit → e.ovrLeft = [] → e.shadowLeft = [] → e.frozen = false →
      (∀ x ∈ idealCodes m q.levels, -512 ≤ x ∧ x ≤ 511) → r = [] →
      let codes := (List.range 64).map fun j =>
        max (-512) (min 511 ((idealCodes m q.levels).getD j 0 + (laneErrors (a.codeLimit n e) (fun _ => false) false s.free).getD j 0))
      exec (.integrationWindow t n) s = .next (landCodes e m q codes { a with
        free := s.free + 1
        lens := { a.lens with engines := tset a.lens.engines n { e with
          queue := [], vectors := min (e.vectors + 1) 18446744073709551615, thisUs := e.thisUs + 1, cleanWindows := 0
          ovrCount := min e.ovrCount 4294967295, shadowCount := min e.shadowCount 4294967295 } } })) ∧
    (e.state = .off ∨ e.state = .degraded → exec (.integrationWindow t n) s = .next a)

/-- CALIBRATION_DONE, PILOT_CORRECTION and LIGHT_SOURCE_LOST (R279 to R283): a run within the dark threshold with a good fit is
adopted and the turn moves on; another aborts, and the third in a row leaves the engine DEGRADED; a lost source degrades the engines
it lights and fails the ports it lights (R293), in quarantine too. -/
def Obligations.LensCalibrates : Prop :=
  ∀ (t n dark : Nat) (fit : Bool) (s : State),
    let a := s.advance t
    let e := a.engine n
    a.clocked = true →
    (e.state = .calibrating →
      (fit = true → dark ≤ s.im.lens.darkThresh * 16 → e.queue = [] →
        ∃ u, exec (.calibrationDone t n dark fit) s = .next u ∧
          u = { a with lens := { a.lens with engines := u.lens.engines, calTurn := u.lens.calTurn } } ∧
          u.engine n = { e with
            state := .serving, dark := min dark 65535, aborts := 0, calDone := min (e.calDone + 1) 4294967295
            calDevtime := a.devCount, adopted := e.adopted + 1, drift := 0, ovrLeft := [], shadowLeft := []
            frozen := false, cleanWindows := 0, drain := none
            loads := if e.matrix.isSome then min (e.loads + 1) 4294967295 else e.loads } ∧
          ∀ k, k ≠ n → u.engine k = a.engine k) ∧
      (fit = false ∨ s.im.lens.darkThresh * 16 < dark → e.aborts < 2 → e.queue = [] →
        ∃ u, exec (.calibrationDone t n dark fit) s = .next u ∧
          u = { a with lens := { a.lens with engines := u.lens.engines }, flt := u.flt } ∧
          (u.engine n).state = .serving ∧ (u.engine n).aborts = e.aborts + 1 ∧ (u.engine n).stCalAbort = true ∧
          (u.engine n).calAborted = min (e.calAborted + 1) 4294967295 ∧ (u.engine n).adopted = e.adopted) ∧
      (fit = false ∨ s.im.lens.darkThresh * 16 < dark → 2 ≤ e.aborts →
        ∃ u, exec (.calibrationDone t n dark fit) s = .next u ∧ (u.engine n).state = .degraded ∧ (u.engine n).cause = 1 ∧
          (u.engine n).stDegraded = true ∧ u.lens.calTurn = s.lens.calTurn ∧ u.nv = s.nv ∧ u.pins = s.pins)) ∧
    (e.state ≠ .calibrating → exec (.calibrationDone t n dark fit) s = .next a) ∧
    (e.state = .serving → e.frozen = false →
      exec (.pilotCorrection t n dark) s = .next { a with lens := { a.lens with
        engines := tset a.lens.engines n { e with drift := min dark 65535 } } }) ∧
    (e.state ≠ .serving ∨ e.frozen = true → exec (.pilotCorrection t n dark) s = .next a) ∧
    (s.lens.lit = true ∨ s.quarantined = true → s.lens.comb = false → n < 4 → bit s.lens.bankLost n = false →
      ∃ u, exec (.lightSourceLost t n) s = .next u ∧
        u.lens.bankLost = setBit s.lens.bankLost n ∧ u.lens.stLight = true ∧
        (s.lens.lit = true → ∀ k, 8 * n ≤ k → k < 8 * n + 8 → (u.engine k).state = .degraded) ∧
        (s.im.fab.present = true → ∀ k, 4 * n ≤ k → k < 4 * n + 4 → (u.port k).state = .failed ∧
          ((s.port k).state ≠ .failed → (u.port k).failCause = 3)) ∧
        u.nv = s.nv ∧ u.pins = s.pins ∧ u.start = s.start) ∧
    (s.lens.lit = false → s.quarantined = false → exec (.lightSourceLost t n) s = .next a)

/-! ### The fabric and the domain (R292 to R321) -/

/-- FLIT_RECEIVE, FLIT_SEND, REPLAY_TIMEOUT and ACK_TIMEOUT (R297, R298, R303): a flit with a wrong CRC is counted and nothing else; its
acknowledgement and credits are taken, then a flit in sequence is accepted and another is rejected with a NAK; a sent flit takes
the next sequence number, stays in the replay buffer and uses its credits; a flit of a replayed buffer goes out again with its own
number, and its eighth replay retrains the port; a timeout replays the buffer or retrains the port, and the fifth retrain
fails it. -/
def Obligations.LinkLayer : Prop :=
  ∀ (t n : Nat) (s : State),
    let a := s.fabricTime t
    let p := a.port n
    s.running = true →
    (∀ bs : List Byte, n < 16 → p.receives = true →
      let h := headerOf bs
      let b := takeAllHeld (takeCredits n h.crVc h.credits (takeAck n h.ack a))
      let c := if h.nak then replayPort n b else b
      (flitOk bs = false → exec (.flitReceive t n bs) s = .next (settleSwitch { a with fab := { a.fab with
        ports := tset a.fab.ports n { p with crcErrors := min (p.crcErrors + 1) 4294967295 } } })) ∧
      (flitOk bs = true →
        (h.type = 0 ∨ 3 < h.type → exec (.flitReceive t n bs) s = .next (settleSwitch c)) ∧
        (1 ≤ h.type → h.type ≤ 3 → h.seq ≠ p.expectSeq → exec (.flitReceive t n bs) s = .next (settleSwitch (rejectFlit n c))) ∧
        (1 ≤ h.type → h.type ≤ 2 → h.seq = p.expectSeq →
          exec (.flitReceive t n bs) s = .next (settleSwitch (deliverFlit n (h.flit (bs.drop 16)) (acceptFlit n h c)))) ∧
        (h.type = 3 → h.seq = p.expectSeq → exec (.flitReceive t n bs) s = .next (settleSwitch (acceptFlit n h c))))) ∧
    (∀ vc : Nat, n < 16 → p.receives = true → p.state ≠ .retraining →
      let c := p.owed
      let ack := (p.expectSeq + 4095) % 4096
      let out := fun (seq : Nat) (f : Flit) => wireWords (flitBytes
        { type := f.type, vc := f.vc, seq := seq, ack := ack, nak := p.nakDue, dst := f.dst, src := f.src, crVc := c.1
          credits := c.2, count := f.count, hops := f.hops } f.payload)
      let q := { p with nakDue := false, returned := tset p.returned c.1 (tget p.returned c.1 0 - c.2) }
      (∀ f : Flit, p.again = none → a.nextFlit n vc = some f → f.hold = none → f.origin = none →
        exec (.flitSend t n vc) s = .next { a with
          answer := out p.nextSeq f
          fab := { a.fab with ports := tset a.fab.ports n { q with
            nextSeq := (p.nextSeq + 1) % 4096, replay := p.replay ++ [{ seq := p.nextSeq, flit := f }]
            txFlits := min (p.txFlits + 1) 18446744073709551615
            queues := tset p.queues vc ((tget p.queues vc []).drop 1)
            credits := if vc = 4 then p.credits else tset p.credits vc (tget p.credits vc 0 + vcCost vc f.count) } } }) ∧
      (∀ (j : Nat) (x : Sent), p.again = some (j, x) →
        let b := { a with fab := { a.fab with ports := tset a.fab.ports n { q with
          replay := p.replay.set j { x with times := x.times + 1 }
          resend := if j + 1 < p.replay.length then some (j + 1) else none } } }
        (x.times < 7 → exec (.flitSend t n vc) s = .next { b with answer := out x.seq x.flit }) ∧
        (7 ≤ x.times → exec (.flitSend t n vc) s = .next { retrainPort n b with answer := out x.seq x.flit })) ∧
      (p.again = none → a.nextFlit n vc = none →
        exec (.flitSend t n vc) s = .next { a with
          answer := wireWords (flitBytes
            { type := 0, vc := 0, seq := p.nextSeq, ack := ack, nak := p.nakDue, dst := 0, src := a.deviceId, crVc := c.1
              credits := c.2, count := 0, hops := 0 } [])
          fab := { a.fab with ports := tset a.fab.ports n q } })) ∧
    (p.state = .up → p.replay ≠ [] →
      exec (.replayTimeout t n) s = .next (a.updPort n fun p => { p with
        replays := min (p.replays + 1) 4294967295, resend := some 0 })) ∧
    (p.state = .up → p.replay ≠ [] → p.retrains < 4 →
      exec (.ackTimeout t n) s = .next (State.updPort n (fun p => { p with state := .retraining })
        (raise 0x900A n (a.updPort n fun p => { p with
          retrains := p.retrains + 1, replay := p.replay.map (fun x => { x with times := 0 }), resend := none })))) ∧
    (p.state = .up → p.replay ≠ [] → p.retrains = 4 →
      ∃ u, exec (.ackTimeout t n) s = .next u ∧ (u.port n).state = .failed ∧ (u.port n).failCause = 2 ∧ u.fab.stPort = true ∧
        u.nv = s.nv ∧ u.pins = s.pins ∧ u.start = s.start) ∧
    (p.replay = [] → exec (.replayTimeout t n) s = .next a ∧ exec (.ackTimeout t n) s = .next a)

/-- PORT_RETRAIN_DONE, CONTROL_FLIT, PROBE_TIMEOUT, PROBE_REPEAT and RECONF (R294, R301 to R303): a port retrained on enough lanes
is up with its buffer replayed, and failed on fewer; a probe is answered, an answer brings its circuit up, and one without an answer
takes it down; a plan change arms a slot, and one whose slot cannot be armed switches at once and is counted late. Where no switch
waits, the commands change nothing else as time passes. -/
def Obligations.CircuitsChange : Prop :=
  ∀ (t n : Nat) (s : State),
    let a := s.fabricTime t
    let p := a.port n
    s.running = true →
    (s.fab.switching = none → s.fab.reconfs = [] → a = s.advance t) ∧
    (∀ rx tx : Nat,
      let b := a.updPort n fun p => { p with
        laneMap := rx % 65536, widthRx := min s.im.fab.portLanes (popCount rx 16)
        widthTx := min s.im.fab.portLanes (popCount tx 16) }
      (p.state = .retraining → s.tooNarrow rx tx = false →
        let c := replayPort n (noteNarrow n (b.updPort n fun p => { p with state := .up, pendingMode := none }))
        (p.pendingMode = none → exec (.portRetrainDone t n rx tx) s = .next c) ∧
        (p.pendingMode ≠ none → exec (.portRetrainDone t n rx tx) s = .next (setPort a.fab.plan c n))) ∧
      (p.state = .retraining → s.tooNarrow rx tx = true → exec (.portRetrainDone t n rx tx) s = .next (failPort n 2 b)) ∧
      (p.state = .training → p.probing = true →
        (s.tooNarrow rx tx = false → exec (.portRetrainDone t n rx tx) s = .next (noteNarrow n b)) ∧
        (s.tooNarrow rx tx = true → exec (.portRetrainDone t n rx tx) s = .next (finishReconf (failPort n 1 b)))) ∧
      (p.state ≠ .retraining → p.probing = false → exec (.portRetrainDone t n rx tx) s = .next a)) ∧
    (n < 16 → p.receives = true →
      exec (.controlFlit t n .training) s = .next a ∧
      (∀ rt ta, exec (.controlFlit t n (.delay rt ta)) s = .next (a.updPort n fun p => { p with
        delayNs := min (rt / 2 - ta) 65535 })) ∧
      exec (.controlFlit t n .probe) s = .next (queueFlit n (probeFlit a.deviceId 5) a) ∧
      (p.probing = true ∨ p.state = .circuitDown → a.fab.reconfs = [] →
        exec (.controlFlit t n .probeAnswer) s = .next (a.updPort n fun p => { p with state := .up, probing := false })) ∧
      ∀ dom d f claim,
        let far := fun (p : Port) => { p with farDevice := d % 2048, farPort := f % 16 }
        let b := if dom = s.im.fab.domainId then a.updPort n (fun p => { far p with child := p.child || claim })
          else if p.state = .foreign then a.updPort n far
          else raise 0x9008 n (a.updPort n fun p => { far p with state := .foreign })
        (s.start.stage ≤ 5 → exec (.controlFlit t n (.identity dom d f claim)) s = .next b) ∧
        (5 < s.start.stage → exec (.controlFlit t n (.identity dom d f claim)) s = .next (queueFlit n (identityFlit n b) b))) ∧
    (p.probing = true → p.circuitRaised = false → a.fab.reconfs = [] →
      exec (.probeTimeout t n) s = .next (raise 0x9005 n { a with fab := { a.fab with
        stCircuit := true
        ports := tset a.fab.ports n { p with state := .circuitDown, probing := false, circuitRaised := true } } })) ∧
    (p.probing = false → exec (.probeTimeout t n) s = .next a) ∧
    (p.state = .circuitDown → exec (.probeRepeat t n) s = .next (queueFlit n (probeFlit a.deviceId 4) a)) ∧
    (p.state ≠ .circuitDown → exec (.probeRepeat t n) s = .next a) ∧
    (∀ m : ReconfMsg, s.isMaster = false → a.quarantined = false → a.clocked = true → n = a.fab.parentActive → p.carries = true →
      a.round.jumping = false →
      let b := toChildren 1 (reconfBytes m) a
      let late := { b.fab with reconfLate := min (b.fab.reconfLate + 1) 4294967295 }
      (a.angleValid = false → exec (.reconf t n m) s = .next (beginSwitch m.plan { b with fab := late })) ∧
      (a.angleValid = true → a.reached m.rev m.angle = true →
        exec (.reconf t n m) s = .next (beginSwitch m.plan { b with
          fab := late, round := { b.round with armRefused := min (b.round.armRefused + 1) 4294967295 } })) ∧
      (a.angleValid = true → a.reached m.rev m.angle = false → a.freeSlot 2 = none →
        exec (.reconf t n m) s = .next (beginSwitch m.plan { b with fab := late })) ∧
      (∀ k, a.angleValid = true → a.reached m.rev m.angle = false → a.freeSlot 2 = some k →
        let e : EvSlot :=
          { angle := m.angle, offset := 0, owner := 2, state := .armed, tag := m.plan, rev := m.rev, next := false, due := m.rev
            fireAt := 0 }
        exec (.reconf t n m) s = .next { b with round := { b.round with slots := tset b.round.slots k e } }))

/-- JOIN_REQUEST_TIMER, JOIN_REQUEST and JOIN_ANSWER (R300, R304, R306, R308): an unanswered request goes out again; the master
answers with the code of Table 12.5 and admits a part on code 0; a relay passes a request on one hop further; an answer of code 0
gives the bitmap, and another quarantines the part. -/
def Obligations.PartsJoin : Prop :=
  ∀ (t n : Nat) (m : JoinReq) (ans : JoinAns) (s : State),
    let a := s.advance t
    (s.fab.joining = true → a.inDomain 7 = true → exec (.joinRequestTimer t) s = .next (requestJoin a)) ∧
    (s.fab.joining = false → exec (.joinRequestTimer t) s = .next a) ∧
    (s.isMaster = true → a.inDomain 7 = true → (s.port n).carries = true →
      let b := noteRequest n m a
      (m.digest ≠ s.fab.digest → exec (.joinRequest t n m) s = .next (sendAnswer m.device m.tag 1 b)) ∧
      (m.digest = s.fab.digest → s.im.fab.domainSize ≤ m.device →
        exec (.joinRequest t n m) s = .next (sendAnswer m.device m.tag 2 b)) ∧
      (∀ x, m.digest = s.fab.digest → m.device < s.im.fab.domainSize → m.device ≠ s.deviceId →
        s.fab.members.find? (fun y => y.device = m.device) = some x → x.serial ≠ m.serial →
        exec (.joinRequest t n m) s = .next (sendAnswer m.device m.tag 3 b)) ∧
      (m.digest = s.fab.digest → m.device < s.im.fab.domainSize → m.device = s.deviceId → m.serial ≠ s.nv.serial →
        exec (.joinRequest t n m) s = .next (sendAnswer m.device m.tag 3 b)) ∧
      (m.digest = s.fab.digest → m.device < s.im.fab.domainSize → m.device ≠ s.deviceId →
        (∀ x ∈ s.fab.members, x.device = m.device → x.serial = m.serial) →
        ∃ u, exec (.joinRequest t n m) s = .next u ∧ u = sendAnswer m.device m.tag 0 (admitMember m b) ∧
          u = { a with fab := u.fab } ∧ u.fab.memberMap = setBit s.fab.memberMap m.device ∧
          u.fab.memberGen = (s.fab.memberGen + 1) % 65536 ∧ tget u.fab.down m.device 16 = n)) ∧
    (s.isMaster = false → a.inDomain 7 = true → (s.port n).carries = true →
      (n ≠ s.fab.parentActive → m.hops < 6 →
        exec (.joinRequest t n m) s = .next (sendJoin { m with hops := m.hops + 1 } (noteRequest n m a))) ∧
      (n = s.fab.parentActive ∨ 6 ≤ m.hops → exec (.joinRequest t n m) s = .next a)) ∧
    (s.isMaster = false → s.alone = false → ans.device = s.deviceId → a.inDomain 7 = true →
      (ans.code = 0 → exec (.joinAnswer t ans) s = .next (dropStrangers { a with fab := { a.fab with
        epoch := ans.epoch % 4294967296, memberMap := ans.bitmap % 2 ^ 2048, memberGen := ans.memberGen % 65536
        joining := false, waitAdopt := s.fab.waitAdopt || s.fab.joining, genMismatch := 0 } })) ∧
      (ans.code ≠ 0 →
        ∃ u, exec (.joinAnswer t ans) s = .next u ∧ u.fab.role = 3 ∧ u.fab.quarCause = ans.code ∧ u.start.stage = 12 ∧
          u.part = { s.part with doorsOpen := false } ∧ u.lens.lit = false ∧ u.nv = s.nv ∧ u.mem = a.mem ∧ u.tiles = s.tiles))

/-- BEACON_TIMER, BEACON, MEMBER, MASTER_TIMEOUT and SEND_DATA (R307, R310 to R312, R314): the master sends its beacon on every port that
carries traffic; a member keeps the time of the beacon; two masters of one name are quarantined; another epoch means a restarted
master, and the part joins again; a MEMBER changes the bitmap; silence for FAB_MASTER_TIMEOUT_MS is the loss of the master; and
send data of a member lands in the reservation or in memory. -/
def Obligations.DomainLives : Prop :=
  ∀ (t n : Nat) (s : State),
    let a := s.advance t
    (s.isMaster = true → s.alone = false → a.inDomain 6 = true →
      exec (.beaconTimer t) s = .next ((List.range 16).foldl (fun s n => if (s.port n).carries then
        sendSyncOn n 1 (beaconBytes { master := a.deviceId, epoch := s.fab.epoch, memberGen := s.fab.memberGen
                                      masterTime := a.devCount }) s else s) a)) ∧
    (s.isMaster = false ∨ s.alone = true → exec (.beaconTimer t) s = .next a) ∧
    (∀ m : BeaconMsg, a.inDomain 6 = true → (s.port n).carries = true →
      (s.isMaster = true → m.master = s.deviceId →
        ∃ u, exec (.beacon t n m) s = .next u ∧ u.fab.role = 3 ∧ u.fab.quarCause = 4 ∧ u.start.stage = 12 ∧ u.nv = s.nv) ∧
      (s.isMaster = true → m.master ≠ s.deviceId → exec (.beacon t n m) s = .next a) ∧
      (s.isMaster = false → n ≠ s.fab.parentActive → exec (.beacon t n m) s = .next a) ∧
      (s.isMaster = false → n = s.fab.parentActive → s.childPorts = [] → s.fab.rejoin = false → s.fab.joined = true →
        m.epoch = s.fab.epoch → s.fab.lostRaised = false → m.memberGen = s.fab.memberGen →
        exec (.beacon t n m) s = .next { a with fab := { a.fab with
          lastBeacon := a.now, beaconEpoch := some m.epoch, altTried := false, masterPresent := true, genMismatch := 0 } }) ∧
      (s.isMaster = false → n = s.fab.parentActive → s.childPorts = [] →
        (s.fab.joined = true ∨ s.fab.waitAdopt = true) → m.epoch ≠ s.fab.epoch →
        ∃ u, exec (.beacon t n m) s = .next u ∧
          u = changeEpoch { a with fab := { a.fab with lastBeacon := a.now, beaconEpoch := some m.epoch, altTried := false } } ∧
          u.fab.stEpoch = true ∧ u.fab.rejoin = true ∧ u.fab.joining = true ∧ u.fab.joined = false ∧ u.nv = s.nv)) ∧
    (∀ m : MemberMsg, a.inDomain 6 = true → (s.port n).carries = true → s.isMaster = false → n = s.fab.parentActive →
      s.childPorts = [] →
      (m.change = 1 → exec (.member t n m) s = .next { a with fab := { a.fab with
        memberGen := m.gen % 65536, memberMap := setBit s.fab.memberMap m.device } }) ∧
      (m.change = 2 → exec (.member t n m) s = .next (dropReplicasOf m.device { a with fab := { a.fab with
        memberGen := m.gen % 65536, memberMap := clearBit s.fab.memberMap m.device } }))) ∧
    (s.isMaster = false → s.im.fab.present = true → s.quarantined = false → s.running = true → 6 ≤ s.start.stage →
      s.start.stage ≤ 9 → s.fab.lostRaised = false →
      (s.fab.lastBeacon + s.im.fab.masterTimeoutMs * 1000000 ≤ a.now → 16 ≤ s.im.fab.altParent →
        ∃ u, exec (.masterTimeout t) s = .next u ∧ u = loseMaster a ∧ u.fab.masterPresent = false ∧ u.fab.stMasterLost = true ∧
          u.fab.lostRaised = true ∧ u.fab.masterLostCount = min (s.fab.masterLostCount + 1) 4294967295 ∧ u.nv = s.nv ∧
          u.fab.memberMap = s.fab.memberMap ∧ ∀ r ∈ u.fs.replicas, s.homeOf r.table r.row = s.deviceId) ∧
      (a.now < s.fab.lastBeacon + s.im.fab.masterTimeoutMs * 1000000 → exec (.masterTimeout t) s = .next a)) ∧
    (∀ d : SendData, s.start.stage = 9 → a.clocked = true →
      let b := leaveLanding d.port (s.fabricTime t)
      (s.admitted d.src = false → exec (.sendData t d) s = .next b) ∧
      (s.admitted d.src = true → d.toReservation = true → s.rxBytes = 0 → exec (.sendData t d) s = .next (refuseSend d b)) ∧
      (s.admitted d.src = true → d.toReservation = true → s.rxBytes ≠ 0 → d.last = false →
        exec (.sendData t d) s = .next (landReserved (d.cluster % 64 * 64 + d.tile % 64) d.address d.sectors b)) ∧
      (s.admitted d.src = true → d.toReservation = false → d.last = false →
        exec (.sendData t d) s = .next (landMemory d.cluster d.context d.address d.sectors b)) ∧
      (s.admitted d.src = true → d.toReservation = false → d.last = true → d.sectors = [] →
        exec (.sendData t d) s = .next { b with sync := { b.sync with flight := b.sync.flight ++
          [{ kind := 1, device := s.deviceId, cluster := d.cluster % 64, tile := d.tile % 64, index := d.counter, level := 0
             context := d.context, gen := 0, abort := false, payload := 1 }] } }))

/-! ### Doors, posts and parcels (R322 to R347) -/

/-- PART_DOOR_WRITE, DOOR_TORN, POST_RECEIVED, POST_READ_TIMEOUT and FUNCTION_LEVEL_RESET (R327, R328, R334, R345): five words of a
descriptor are staged and the sixth makes a post; an unfinished one goes after 1 ms; a post that passes every check is accepted and
one that fails is refused with its reason; a read that has not ended in 100 ms is refused with reason 10; a reset of a function
clears its staged words and its access status. -/
def Obligations.PostsTaken : Prop :=
  ∀ (t f : Nat) (w : BitVec 32) (s : State),
    let a := s.advance t
    let d := tget s.part.doors f {}
    (f < 128 → s.start.pcieUp = true →
      (s.start.stage = 10 → exec (.partDoorWrite t f w) s = .next (markDiscarded f a)) ∧
      (s.start.stage ≠ 10 → d.words.length < 5 →
        ∃ since, exec (.partDoorWrite t f w) s = .next { a with part := { a.part with
          doors := tset s.part.doors f { words := d.words ++ [w.toNat], since := since } } } ∧
          since = if d.words.isEmpty then a.now else d.since) ∧
      (s.start.stage = 9 → s.part.doorsOpen = true → a.doorReason = 0 → d.words.length = 5 →
        1 ≤ d.words.getD 2 0 / 2 ^ 28 % 16 → d.words.getD 2 0 / 2 ^ 28 % 16 ≤ 2 → 64 ≤ d.words.getD 2 0 % 2 ^ 28 →
        d.words.getD 0 0 % 8 = 0 → d.words.getD 3 0 % 32 = 0 →
        exec (.partDoorWrite t f w) s = .next { a with part := { a.part with
          doors := tdel s.part.doors f, nextId := s.part.nextId + 1
          posts := s.part.posts ++ [{ id := s.part.nextId, via := .pcie f, context := f
                                      kind := d.words.getD 2 0 / 2 ^ 28 % 16
                                      len := d.words.getD 2 0 % 2 ^ 28
                                      src := d.words.getD 0 0 + d.words.getD 1 0 * 2 ^ 32
                                      report := d.words.getD 3 0 + d.words.getD 4 0 * 2 ^ 32, tag := w.toNat
                                      since := a.now }] } })) ∧
    (s.start.pcieUp = false → exec (.partDoorWrite t f w) s = .next a ∧ exec (.functionLevelReset t f) s = .next a) ∧
    (s.start.pcieUp = true → exec (.functionLevelReset t f) s = .next { a with
      part := { a.part with doors := tdel s.part.doors f }, acc := tdel s.acc f }) ∧
    (d.words ≠ [] → d.since + 1000000 ≤ a.now →
      exec (.doorTorn t f) s = .next { a with part := { a.part with
        doors := tdel s.part.doors f, doorTorn := min (s.part.doorTorn + 1) 4294967295 } }) ∧
    (d.words = [] ∨ a.now < d.since + 1000000 → exec (.doorTorn t f) s = .next a) ∧
    (∀ p : Post, s.part.posts.find? (fun p => p.id = f) = some p →
      let b := { a with part := { a.part with posts := s.part.posts.filter fun x => x.id ≠ f } }
      (∀ body : List Byte, a.doorReason = 0 → body.length = p.len →
        (∀ base, b.bodyReason p body = 0 → b.findArea p.context p.len = some base →
          exec (.postReceived t f body) s = .next (acceptPost p body base b)) ∧
        (b.bodyReason p body = 2 → headerRead p.kind body = false →
          exec (.postReceived t f body) s = .next (refusePost p 0 0 2 b))) ∧
      (∀ body : List Byte, a.doorReason ≠ 0 → body = [] → 0 < p.len →
        exec (.postReceived t f body) s = .next (refusePost p 0 0 a.doorReason b)) ∧
      (a.doorReason = 0 → 0 < p.len → p.since + 100000000 ≤ a.now →
        exec (.postReadTimeout t f) s = .next (refusePost p 0 0 10 b)) ∧
      (a.now < p.since + 100000000 → exec (.postReadTimeout t f) s = .next a))

/-- TLS_HANDSHAKE, NETWORK_FRAME, CONNECTION_CLOSE, TASK_PLACEMENT and PARCEL_LIMIT (R329, R330, R336, R338): a client known to a
context gets a connection and another is refused and counted; a frame with a bad header ends its connection; a loaded parcel is
placed when its resources are free; and one at its limit ends with outcome 3 and 0xA003, unless all its tasks complete their END at
that moment. -/
def Obligations.WorkFromOutside : Prop :=
  ∀ (t port conn : Nat) (s : State),
    let a := s.advance t
    (∀ client : Nat, s.start.ethUp = true → (∃ n ∈ s.im.nets, n.port = port) →
      (∀ c, s.im.contexts.find? (fun c => c.net && c.client = client) = some c →
        (s.part.conns.filter fun x => x.1 = port).length < 32 → (∀ x ∈ s.part.conns, x.1 = port → x.2.1 ≠ conn) →
        exec (.tlsHandshake t port conn client) s = .next { a with part := { a.part with
          conns := s.part.conns ++ [(port, conn, c.id)] } }) ∧
      (s.im.contexts.find? (fun c => c.net && c.client = client) = none →
        exec (.tlsHandshake t port conn client) s = .next { a with part := { a.part with
          tlsRefused := min (s.part.tlsRefused + 1) 4294967295 } })) ∧
    exec (.connectionClose t port conn) s = .next { a with part := { a.part with
      conns := s.part.conns.filter fun x => !(x.1 = port && x.2.1 = conn) } } ∧
    (∀ (header body : List Byte) (x : Nat × Nat × Nat),
      s.part.conns.find? (fun x => x.1 = port && x.2.1 = conn) = some x →
      (numAt header 12 4 ≠ 0 ∨ numAt header 8 4 < 64 →
        exec (.networkFrame t port conn header body) s = exec (.connectionClose t port conn) s) ∧
      (numAt header 0 4 = 1 ∨ numAt header 0 4 = 2 → numAt header 12 4 = 0 → 64 ≤ numAt header 8 4 →
        numAt header 8 4 ≤ 268435455 →
        exec (.networkFrame t port conn header body) s = .next (checkPost
          { id := s.part.nextId, via := .net port conn, context := x.2.2, kind := numAt header 0 4, len := numAt header 8 4, src := 0
            report := 0, tag := numAt header 4 4, since := a.now } body
          { a with part := { a.part with nextId := s.part.nextId + 1 } }))) ∧
    (∀ (id : Nat) (p : Parcel), a.parcel id = some p →
      (p.state = .running → p.limitRev ≠ 0 → p.limitRev ≤ p.revs → a.allEnd p = true → a.clocked = true →
        exec (.parcelLimit t id) s = .next (p.tasks.foldl (fun s t =>
          if (s.task t.1 t.2).parcel = id then doCommandComplete t.1 t.2 s else s) a)) ∧
      (p.state = .running ∨ p.state = .loading → p.limitRev ≠ 0 → p.limitRev ≤ p.revs → p.state = .loading ∨ a.allEnd p = false →
        ∃ u, exec (.parcelLimit t id) s = .next u ∧ u = endParcel id 3 0xA003 0 (raiseFor 0xA003 0xFFFF id a) ∧
          (∀ x ∈ u.part.parcels, x.id ≠ id) ∧ u.part.stLimit = true ∧ u.part.stEnded = true ∧ u.nv = s.nv ∧ u.pins = s.pins ∧
          u.start = s.start ∧ u.round.angle = s.round.angle) ∧
      (p.limitRev = 0 ∨ p.revs < p.limitRev → exec (.parcelLimit t id) s = .next a) ∧
      (p.state = .loading → p.loadsLeft = 0 → a.clocked = true → a.resourcesFree p = true →
        let es := a.taskTable p
        let b := es.foldl (placeOwned (p.id + 1)) (placeKept p (placeClaim p a))
        let c := placeBarriers p (placeMap p (es.foldl (placeTask p) b))
        exec (.taskPlacement t id) s = .next (armNext p.context (checkPlaced p.id
          (placeSends p (placeRings p (placeCombines p (placeWatches p c))))))) ∧
      (p.state = .loading → p.loadsLeft = 0 → a.clocked = true → a.resourcesFree p = false →
        exec (.taskPlacement t id) s = .next (awaitRelease p a)) ∧
      (p.state ≠ .loading ∨ p.loadsLeft ≠ 0 → exec (.taskPlacement t id) s = .next a))

/-! ### Status access (R13, R354 to R357, R366, R367) -/

/-- STATUS_READ_LOW_HALF, STATUS_READ_HIGH_HALF, BAD_SIZE_READ, W1C_WRITE and REGISTER_WRITE (R13, R355 to R357): a word of one word is read
without any effect; the low half of a 64-bit value latches the high half, which the next read of it answers; a read of bad size
answers zeros and sets its bit; a write clears the W1C bits written as one and no others, and none that the present SYSCLK cycle has
set; a discarded write sets its bit. -/
def Obligations.StatusSpace : Prop :=
  ∀ (t o : Nat) (w : BitVec 32) (s : State),
    let a := s.advance t
    let q := a.accOf 0
    let c := a.cycle
    s.start.pcieUp = true →
    (o % 4 = 0 →
      (a.pairOf 0 o = none → exec (.statusReadLowHalf t 0 false o 4) s = .next { a with answer := [a.statusWord 0 o] }) ∧
      (a.pairOf 0 o = some o →
        exec (.statusReadLowHalf t 0 false o 4) s = .next { a with
          answer := [a.statusWord 0 o]
          acc := tset s.acc 0 { q with shadow := a.statusWord 0 (o + 4), tag := some o } }) ∧
      (a.pairOf 0 (o + 4) = some o → q.tag = some o →
        exec (.statusReadHighHalf t 0 false (o + 4)) s = .next { a with
          answer := [q.shadow], acc := tset s.acc 0 { q with tag := none } }) ∧
      (a.pairOf 0 (o + 4) = some o → q.tag ≠ some o →
        exec (.statusReadHighHalf t 0 false (o + 4)) s = .next { a with
          answer := [a.statusWord 0 (o + 4)], acc := tset s.acc 0 { q with stale := true } })) ∧
    (∀ size, ¬(size = 4 ∧ o % 4 = 0) → ¬(size = 8 ∧ o % 8 = 0) →
      exec (.badSizeRead t 0 o size) s = .next { a with
        answer := List.replicate ((size + 3) / 4) 0, acc := tset s.acc 0 { q with badSize := true } } ∧
      (size ≠ 4 → exec (.registerWrite t 0 false o size w) s = .next { a with
        acc := tset s.acc 0 { q with badSize := true } })) ∧
    (let n := w.toNat
     exec (.w1cWrite t 0 false 0x10060 w) s = .next { a with round := { a.round with
        stLost := s.round.stLost && !(bit n 0 && c.round.stLost), stStall := s.round.stStall && !(bit n 1 && c.round.stStall)
        stCancel := s.round.stCancel && !(bit n 2 && c.round.stCancel)
        stMismatch := s.round.stMismatch && !(bit n 3 && c.round.stMismatch) } } ∧
     exec (.w1cWrite t 0 false 0x20060 w) s = .next { a with lehr := { a.lehr with
        stAlert := a.lehr.stAlert && !(bit n 0 && c.lehr.stAlert)
        stHoldExpired := a.lehr.stHoldExpired && !(bit n 1 && c.lehr.stHoldExpired)
        stOob := a.lehr.stOob && !(bit n 2 && c.lehr.stOob), stShortfall := a.lehr.stShortfall && !(bit n 3 && c.lehr.stShortfall)
        stDerate := a.lehr.stDerate && !(bit n 4 && c.lehr.stDerate)
        stAdcClamp := a.lehr.stAdcClamp && !(bit n 5 && c.lehr.stAdcClamp) } } ∧
     exec (.w1cWrite t 0 false 0xD0080 w) s = .next { a with acc := tset s.acc 0 { q with
        stale := q.stale && !(bit n 0 && (tget c.acc 0 {}).stale)
        discarded := q.discarded && !(bit n 1 && (tget c.acc 0 {}).discarded)
        badSize := q.badSize && !(bit n 2 && (tget c.acc 0 {}).badSize) } }) ∧
    (0xE0000 ≤ o → o < 0x100000 → o % 4 = 0 →
      exec (.registerWrite t 0 false o 4 w) s = .next { a with acc := tset s.acc 0 { q with discarded := true } }) ∧
    (exec (.registerWrite t 0 true 0 4 w) s = .next (doPartDoorWrite 0 w a))

/-- The SMBus commands (R366) and the JTAG instructions (R367): at its own address alone the part reads words as requester 128 and clears
access status, a bit set in this SYSCLK cycle aside, unless a wrong PEC comes with the write; a PEC follows a read whose host asks for
it; IDCODE gives 0x14096A8B, EXTEST is obeyed only while RESET_N is low, STATUS_READ loads the word of its offset, and every other code
is BYPASS. -/
def Obligations.SmbusAndJtag : Prop :=
  ∀ (t : Nat) (s : State),
    let a := s.advance t
    let own := 0x58 + s.pins.smbAddr % 4
    let fresh := fun (r : Nat) => { a.accOf r with
      stale := (a.accOf r).stale && !(tget a.cycle.acc r {}).stale
      discarded := (a.accOf r).discarded && !(tget a.cycle.acc r {}).discarded
      badSize := (a.accOf r).badSize && !(tget a.cycle.acc r {}).badSize }
    (s.running = true → ∀ pec : Bool,
      (∀ o n, o % 4 = 0 → o < 16777216 → 0 < n → n ≤ 63 →
        let x := readWords 128 n o a
        exec (.smbusStatusRead ⟨t, own, pec⟩ o n) s = .next { x.2 with
          answer := blockAnswer own 0x10 ([4] ++ leBytes o 3 ++ leBytes n 1) pec x.1 }) ∧
      (∀ i, i < 16 →
        let x := readWords 128 8 (0x20400 + 32 * i) a
        exec (.smbusPowerSample ⟨t, own, pec⟩ i) s = .next { x.2 with answer := blockAnswer own (0x20 + i) [] pec x.1 }) ∧
      exec (.smbusAccessStatus ⟨t, own, pec⟩) s = .next { a with answer := blockAnswer own 0x11 [] pec [(a.accOf 128).word 128] } ∧
      exec (.smbusSummary ⟨t, own, pec⟩) s = .next { a with answer := blockAnswer own 0x30 [] pec a.summary } ∧
      exec (.smbusAccessClear ⟨t, own, pec⟩ true) s = .next (a.setAcc 128 (fresh 128)) ∧
      exec (.smbusAccessClear ⟨t, own, false⟩ pec) s = .next (a.setAcc 128 (fresh 128)) ∧
      exec (.smbusAccessClear ⟨t, own, true⟩ false) s = .next a) ∧
    (∀ (addr code : Nat) (req : List Byte) (ws : List Nat), blockAnswer addr code req false ws = ws ∧
      ∃ c < 256, blockAnswer addr code req true ws = ws ++ [c]) ∧
    (∀ (addr o n i : Nat) (pec : Bool), s.running = false ∨ addr ≠ own →
      exec (.smbusStatusRead ⟨t, addr, pec⟩ o n) s = .next { a with answer := [] } ∧
      exec (.smbusPowerSample ⟨t, addr, pec⟩ i) s = .next { a with answer := [] } ∧
      exec (.smbusAccessStatus ⟨t, addr, pec⟩) s = .next { a with answer := [] } ∧
      exec (.smbusSummary ⟨t, addr, pec⟩) s = .next { a with answer := [] } ∧ ∀ ok, exec (.smbusAccessClear ⟨t, addr, pec⟩ ok) s = .next a) ∧
    exec (.idcode t) s = .next { a with jtag := { a.jtag with ir := 2 }, answer := [0x14096A8B] } ∧
    (s.pins.resetN = true → exec (.extest t) s = .next { a with jtag := { a.jtag with ir := 0 }, answer := [] }) ∧
    (s.pins.resetN = false → ∃ v, exec (.extest t) s = .next { a with
      jtag := { a.jtag with ir := 0 }, free := s.free + 1, answer := [v] }) ∧
    (∀ cells, ∃ v, exec (.samplePreload t cells) s = .next { a with
      jtag := { a.jtag with ir := 1, cells := cells }, free := s.free + 1, answer := [v] }) ∧
    (∀ o, o % 4 = 0 → o < 16777216 →
      ∃ u, exec (.statusRead t o) s = .next u ∧
        u = { a with acc := u.acc, jtag := { a.jtag with ir := 0x20, offset := o, data := u.jtag.data }, answer := u.answer } ∧
        u.answer = [u.jtag.data] ∧ u.jtag.data = (readWord 129 o { a with jtag := { a.jtag with ir := 0x20 }, answer := [] }).1) ∧
    exec (.accClear t) s = .next { a with
      jtag := { a.jtag with ir := 0x21 }, answer := []
      acc := tset s.acc 129 (fresh 129) } ∧
    (∀ code, code % 256 = 0xFF → exec (.bypass t code) s = .next { a with jtag := { a.jtag with ir := 0xFF }, answer := [] }) ∧
    ∀ code, code % 256 ∈ [0x00, 0x01, 0x02, 0x20, 0x21] → exec (.bypass t code) s = .next a

/-! ### The whole block -/

/-- The commands that belong to the running part, outside the start, the Round, Lehr, the fabric and the accesses, leave alone: the pins,
the fuses and the flash, the image copy, the start block, the access status, the JTAG port, the words last read, device time's
count, the Round's counter, angle and reference and the governor's setpoint and state. -/
def Obligations.RunningPartFrame : Prop :=
  ∀ (s u : State) (t a b n : Nat) (c : Instr),
    c ∈ ([.nop t a b, .fused t a b, .drain t a b, .endTask t a b, .fetchPhaseStart t a b, .bufferSwap t a b, .commandComplete t a b,
          .taskSwitch t a, .deadlineClose t a b, .barrierSlow t a b n, .marverCombine t a, .doneAction t a b, .rotation t a b,
          .rowResponse t a, .rowHomeUnreachable t a, .letterWrite t a, .letterUnload t a, .settleExpiry t a, .supervisorReview t,
          .letterComplete t a, .memoryRequestAccept t a, .wcbIdleEviction t a, .regulatorAdmit t a, .refresh t a b,
          .selfRefreshEntry t a, .lensRequest t a, .matrixLoadDone t a, .integrationWindow t a, .activityMicrosecond t a,
          .lightSourceLost t a, .parcelLimit t a, .taskPlacement t a] : List Instr) ∨
      (∃ m, c = .signal t m ∨ c = .fill t m ∨ c = .arrive t m ∨ c = .release t m) ∨
      (∃ m, c = .replicaCopy t m ∨ c = .replicaInvalidate t m ∨ c = .invalidateAcknowledgement t m ∨ c = .replicaDrop t m ∨
        c = .invalidationTimeout t m) ∨
      (∃ l, c = .rowRequest t a l) ∨ (∃ l, c = .postReceived t a l) →
    exec c s = .next u →
    u.pending = s.pending ∧ u.now = (s.advance t).now ∧ u.answer = s.answer ∧ u.pins = s.pins ∧ u.nv = s.nv ∧ u.img = s.img ∧
      u.start = s.start ∧ u.acc = s.acc ∧ u.jtag = s.jtag ∧ u.round.state = s.round.state ∧ u.round.angle = s.round.angle ∧
      u.round.rev = s.round.rev ∧ u.round.epoch = s.round.epoch ∧ u.round.refPeriod = s.round.refPeriod ∧
      u.lehr.setpoint = (s.advance t).lehr.setpoint ∧ u.lehr.state = (s.advance t).lehr.state ∧
      (Memory.wf s = true → Memory.wf u = true)

/-- Every command of the block completes, and every step is a safe one. Each of the 130 forms of a command, with any operands and in any
state, answers a next state and leaves the queue to the step: never a fault or a refusal. A step keeps every byte store in canonical
form; no fuse setting moves back (R64, R96, R359, R364): neither anti-rollback nor the fused ceiling falls, a programmed key slot
keeps its digest, a revoked one stays revoked, and the fuse log only grows; and the part's own constants are never written. -/
def Obligations.EveryStepSafe : Prop :=
  (∀ (c : Instr) (s : State), ∃ u, exec c s = .next u ∧ u.pending = s.pending) ∧
  ∀ s : State, SafeStep s ∧
    ∀ u, step s = .next u → u.nv.variantC = s.nv.variantC ∧ u.nv.serial = s.nv.serial ∧
      u.nv.supvRelease = s.nv.supvRelease ∧ u.nv.devKey = s.nv.devKey

/-- What reset leaves (Tables 2.7, 3.2, 4.9 and 15.9, R84, R360, R388): held in reset, no image, every unit in its reset state and
no byte listed in any store; of the fuses the factory's: anti-rollback 0, 450 W, no lock, key slot 0 with its digest and its record,
which counts against no limit. -/
def Obligations.ResetState : Prop :=
  let r := State.reset
  Memory.wf r = true ∧ r.pending = [] ∧ r.running = false ∧ r.img = none ∧ r.start.stage = 0 ∧ r.round.state = .reset ∧
    r.round.angle = 0 ∧ r.round.rev = 0 ∧ r.lehr.state = .reset ∧ r.lehr.setpoint = 0 ∧ r.fab.role = 0 ∧
    r.part.doorsOpen = false ∧ r.flt.seqNext = 1 ∧ r.nv.fuses.rollback = 0 ∧ r.nv.fuses.ceilingW = 450 ∧
    r.nv.fuses.planLock = 0 ∧ r.nv.fuses.keys = [{ programmed := true, digest := Config.factoryKeyDigest }, {}, {}, {}] ∧
    (∃ x, r.nv.fuses.log = [x] ∧ x.kind = 2 ∧ x.slot = 0 ∧ x.factory = true ∧ x.complete = true) ∧
    (∀ k, r.nv.fuses.changes k = 0) ∧
    (∀ c, (r.chan c).state = 0) ∧ (∀ n, (r.engine n).state = .off) ∧ (∀ n, (r.port n).state = .dark) ∧
    (∀ n, (r.evSlot n).state = .free) ∧ (∀ x y, (r.task x y).state = .free) ∧
    r.lpResetPin = .low ∧ r.qspiPins = .highZ ∧ r.qspiCsPin = .pulledUp ∧ r.smbSdaPin = .released ∧ r.jtagTdoPin = .highZ ∧
    r.pciePins = .idle ∧ r.ethPins = .off ∧ r.roundOutPin = .low ∧ ∀ n, r.opticalPin n = .dark
end

