-- ==== Sys2Proof/Laws/State.lean ====
section
/-! SUPPORT. What each update of a part of State leaves alone: one lemma per field, true by unfolding. -/

namespace Sys2Proof.Machine

variable (s : State) (t : Nat)

/-! ### The passing of time changes `now`, the start of the SYSCLK cycle, the governor, the regulators and the engines only -/

@[simp] theorem State.advance_pending : (s.advance t).pending = s.pending := by unfold State.advance; split <;> rfl
@[simp] theorem State.advance_free : (s.advance t).free = s.free := by unfold State.advance; split <;> rfl
@[simp] theorem State.advance_answer : (s.advance t).answer = s.answer := by unfold State.advance; split <;> rfl
@[simp] theorem State.advance_pins : (s.advance t).pins = s.pins := by unfold State.advance; split <;> rfl
@[simp] theorem State.advance_nv : (s.advance t).nv = s.nv := by unfold State.advance; split <;> rfl
@[simp] theorem State.advance_img : (s.advance t).img = s.img := by unfold State.advance; split <;> rfl
@[simp] theorem State.advance_start : (s.advance t).start = s.start := by unfold State.advance; split <;> rfl
@[simp] theorem State.advance_round : (s.advance t).round = s.round := by unfold State.advance; split <;> rfl
@[simp] theorem State.advance_tiles : (s.advance t).tiles = s.tiles := by unfold State.advance; split <;> rfl
@[simp] theorem State.advance_sync : (s.advance t).sync = s.sync := by unfold State.advance; split <;> rfl
@[simp] theorem State.advance_fs : (s.advance t).fs = s.fs := by unfold State.advance; split <;> rfl
@[simp] theorem State.advance_fab : (s.advance t).fab = s.fab := by unfold State.advance; split <;> rfl
@[simp] theorem State.advance_part : (s.advance t).part = s.part := by unfold State.advance; split <;> rfl
@[simp] theorem State.advance_flt : (s.advance t).flt = s.flt := by unfold State.advance; split <;> rfl
@[simp] theorem State.advance_acc : (s.advance t).acc = s.acc := by unfold State.advance; split <;> rfl
@[simp] theorem State.advance_jtag : (s.advance t).jtag = s.jtag := by unfold State.advance; split <;> rfl
@[simp] theorem State.advance_mem_cells : (s.advance t).mem.cells = s.mem.cells := by unfold State.advance; split <;> rfl
@[simp] theorem State.advance_mem_poison : (s.advance t).mem.poison = s.mem.poison := by unfold State.advance; split <;> rfl
@[simp] theorem State.advance_mem_chans : (s.advance t).mem.chans = s.mem.chans := by unfold State.advance; split <;> rfl
@[simp] theorem State.advance_mem_lines : (s.advance t).mem.lines = s.mem.lines := by unfold State.advance; split <;> rfl
@[simp] theorem State.advance_mem_retTable : (s.advance t).mem.retTable = s.mem.retTable := by unfold State.advance; split <;> rfl
@[simp] theorem State.advance_mem_generalMib : (s.advance t).mem.generalMib = s.mem.generalMib := by unfold State.advance; split <;> rfl
@[simp] theorem State.advance_mem_inService : (s.advance t).mem.inService = s.mem.inService := by unfold State.advance; split <;> rfl
@[simp] theorem State.advance_mem_stUnlogged : (s.advance t).mem.stUnlogged = s.mem.stUnlogged := by unfold State.advance; split <;> rfl
@[simp] theorem State.advance_mem_trained : (s.advance t).mem.trained = s.mem.trained := by unfold State.advance; split <;> rfl
@[simp] theorem State.advance_lens_comb : (s.advance t).lens.comb = s.lens.comb := by unfold State.advance; split <;> rfl
@[simp] theorem State.advance_lens_bankLost : (s.advance t).lens.bankLost = s.lens.bankLost := by unfold State.advance; split <;> rfl
@[simp] theorem State.advance_lens_combLost : (s.advance t).lens.combLost = s.lens.combLost := by unfold State.advance; split <;> rfl
@[simp] theorem State.advance_lens_lit : (s.advance t).lens.lit = s.lens.lit := by unfold State.advance; split <;> rfl
@[simp] theorem State.advance_lens_calTurn : (s.advance t).lens.calTurn = s.lens.calTurn := by unfold State.advance; split <;> rfl
@[simp] theorem State.advance_lens_combPwr0 : (s.advance t).lens.combPwr0 = s.lens.combPwr0 := by unfold State.advance; split <;> rfl
@[simp] theorem State.advance_lens_combPwr1 : (s.advance t).lens.combPwr1 = s.lens.combPwr1 := by unfold State.advance; split <;> rfl
@[simp] theorem State.advance_lens_stLight : (s.advance t).lens.stLight = s.lens.stLight := by unfold State.advance; split <;> rfl
@[simp] theorem State.advance_lens_flight : (s.advance t).lens.flight = s.lens.flight := by unfold State.advance; split <;> rfl

theorem State.advance_now (h : s.running = true) : (s.advance t).now = max s.now t := by unfold State.advance; simp [h]

/-- Within one SYSCLK cycle of 20 ns what it began with stays; a later cycle begins with the state it finds (R370). -/
theorem State.advance_cycle (h : s.running = true) :
    (s.advance t).cycle = if max s.now t / 20 = s.now / 20 then s.cycle else s.cycleNow := by
  unfold State.advance; simp [h]

theorem State.advance_off (h : s.running = false) : s.advance t = s := by unfold State.advance; simp [h]

@[simp] theorem State.advance_im : (s.advance t).im = s.im := by simp [State.im]

@[simp] theorem State.advance_running : (s.advance t).running = s.running := by simp [State.running]
@[simp] theorem State.advance_angleValid : (s.advance t).angleValid = s.angleValid := by simp [State.angleValid]
@[simp] theorem State.advance_isMaster : (s.advance t).isMaster = s.isMaster := by simp [State.isMaster]
@[simp] theorem State.advance_alone : (s.advance t).alone = s.alone := by simp [State.alone]
@[simp] theorem State.advance_deviceId : (s.advance t).deviceId = s.deviceId := by simp [State.deviceId]
@[simp] theorem State.advance_accOf (r : Nat) : (s.advance t).accOf r = s.accOf r := by simp [State.accOf]
@[simp] theorem State.advance_chan (c : Nat) : (s.advance t).chan c = s.chan c := by simp [State.chan]
@[simp] theorem State.advance_heldOut (c : Nat) : (s.advance t).heldOut c = s.heldOut c := by simp [State.heldOut]
@[simp] theorem State.advance_tile (n : Nat) : (s.advance t).tile n = s.tile n := by simp [State.tile]
@[simp] theorem State.advance_task (n k : Nat) : (s.advance t).task n k = s.task n k := by simp [State.task]
@[simp] theorem State.advance_evSlot (n : Nat) : (s.advance t).evSlot n = s.evSlot n := by simp [State.evSlot]
@[simp] theorem State.advance_port (n : Nat) : (s.advance t).port n = s.port n := by simp [State.port]

/-- The governor is TRIPPED after some time exactly if it was before. -/
theorem State.advance_tripped : (s.advance t).lehr.state = .tripped ↔ s.lehr.state = .tripped := by
  unfold State.advance
  split
  · simp only [LehrSt.advance]
    split <;> simp_all
  · rfl

theorem PwrState.ne_tripped (p : PwrState) : (p != .tripped) = decide (p ≠ .tripped) := by cases p <;> rfl

@[simp] theorem State.advance_clocked : (s.advance t).clocked = s.clocked := by
  simp [State.clocked, PwrState.ne_tripped, State.advance_tripped s t]

/-! ### setStart -/

@[simp] theorem State.setStart_pending (x : StartSt) : (s.setStart x).pending = s.pending := rfl
@[simp] theorem State.setStart_now (x : StartSt) : (s.setStart x).now = s.now := rfl
@[simp] theorem State.setStart_free (x : StartSt) : (s.setStart x).free = s.free := rfl
@[simp] theorem State.setStart_answer (x : StartSt) : (s.setStart x).answer = s.answer := rfl
@[simp] theorem State.setStart_pins (x : StartSt) : (s.setStart x).pins = s.pins := rfl
@[simp] theorem State.setStart_nv (x : StartSt) : (s.setStart x).nv = s.nv := rfl
@[simp] theorem State.setStart_img (x : StartSt) : (s.setStart x).img = s.img := rfl
@[simp] theorem State.setStart_round (x : StartSt) : (s.setStart x).round = s.round := rfl
@[simp] theorem State.setStart_lehr (x : StartSt) : (s.setStart x).lehr = s.lehr := rfl
@[simp] theorem State.setStart_tiles (x : StartSt) : (s.setStart x).tiles = s.tiles := rfl
@[simp] theorem State.setStart_sync (x : StartSt) : (s.setStart x).sync = s.sync := rfl
@[simp] theorem State.setStart_mem (x : StartSt) : (s.setStart x).mem = s.mem := rfl
@[simp] theorem State.setStart_fs (x : StartSt) : (s.setStart x).fs = s.fs := rfl
@[simp] theorem State.setStart_lens (x : StartSt) : (s.setStart x).lens = s.lens := rfl
@[simp] theorem State.setStart_fab (x : StartSt) : (s.setStart x).fab = s.fab := rfl
@[simp] theorem State.setStart_part (x : StartSt) : (s.setStart x).part = s.part := rfl
@[simp] theorem State.setStart_flt (x : StartSt) : (s.setStart x).flt = s.flt := rfl
@[simp] theorem State.setStart_acc (x : StartSt) : (s.setStart x).acc = s.acc := rfl
@[simp] theorem State.setStart_jtag (x : StartSt) : (s.setStart x).jtag = s.jtag := rfl
@[simp] theorem State.setStart_cycle (x : StartSt) : (s.setStart x).cycle = s.cycle := rfl
@[simp] theorem State.setStart_start (x : StartSt) : (s.setStart x).start = x := rfl

/-! ### setRound -/

@[simp] theorem State.setRound_pending (x : RoundSt) : (s.setRound x).pending = s.pending := rfl
@[simp] theorem State.setRound_now (x : RoundSt) : (s.setRound x).now = s.now := rfl
@[simp] theorem State.setRound_free (x : RoundSt) : (s.setRound x).free = s.free := rfl
@[simp] theorem State.setRound_answer (x : RoundSt) : (s.setRound x).answer = s.answer := rfl
@[simp] theorem State.setRound_pins (x : RoundSt) : (s.setRound x).pins = s.pins := rfl
@[simp] theorem State.setRound_nv (x : RoundSt) : (s.setRound x).nv = s.nv := rfl
@[simp] theorem State.setRound_img (x : RoundSt) : (s.setRound x).img = s.img := rfl
@[simp] theorem State.setRound_start (x : RoundSt) : (s.setRound x).start = s.start := rfl
@[simp] theorem State.setRound_lehr (x : RoundSt) : (s.setRound x).lehr = s.lehr := rfl
@[simp] theorem State.setRound_tiles (x : RoundSt) : (s.setRound x).tiles = s.tiles := rfl
@[simp] theorem State.setRound_sync (x : RoundSt) : (s.setRound x).sync = s.sync := rfl
@[simp] theorem State.setRound_mem (x : RoundSt) : (s.setRound x).mem = s.mem := rfl
@[simp] theorem State.setRound_fs (x : RoundSt) : (s.setRound x).fs = s.fs := rfl
@[simp] theorem State.setRound_lens (x : RoundSt) : (s.setRound x).lens = s.lens := rfl
@[simp] theorem State.setRound_fab (x : RoundSt) : (s.setRound x).fab = s.fab := rfl
@[simp] theorem State.setRound_part (x : RoundSt) : (s.setRound x).part = s.part := rfl
@[simp] theorem State.setRound_flt (x : RoundSt) : (s.setRound x).flt = s.flt := rfl
@[simp] theorem State.setRound_acc (x : RoundSt) : (s.setRound x).acc = s.acc := rfl
@[simp] theorem State.setRound_jtag (x : RoundSt) : (s.setRound x).jtag = s.jtag := rfl
@[simp] theorem State.setRound_cycle (x : RoundSt) : (s.setRound x).cycle = s.cycle := rfl
@[simp] theorem State.setRound_round (x : RoundSt) : (s.setRound x).round = x := rfl

/-! ### setLehr -/

@[simp] theorem State.setLehr_pending (x : LehrSt) : (s.setLehr x).pending = s.pending := rfl
@[simp] theorem State.setLehr_now (x : LehrSt) : (s.setLehr x).now = s.now := rfl
@[simp] theorem State.setLehr_free (x : LehrSt) : (s.setLehr x).free = s.free := rfl
@[simp] theorem State.setLehr_answer (x : LehrSt) : (s.setLehr x).answer = s.answer := rfl
@[simp] theorem State.setLehr_pins (x : LehrSt) : (s.setLehr x).pins = s.pins := rfl
@[simp] theorem State.setLehr_nv (x : LehrSt) : (s.setLehr x).nv = s.nv := rfl
@[simp] theorem State.setLehr_img (x : LehrSt) : (s.setLehr x).img = s.img := rfl
@[simp] theorem State.setLehr_start (x : LehrSt) : (s.setLehr x).start = s.start := rfl
@[simp] theorem State.setLehr_round (x : LehrSt) : (s.setLehr x).round = s.round := rfl
@[simp] theorem State.setLehr_tiles (x : LehrSt) : (s.setLehr x).tiles = s.tiles := rfl
@[simp] theorem State.setLehr_sync (x : LehrSt) : (s.setLehr x).sync = s.sync := rfl
@[simp] theorem State.setLehr_mem (x : LehrSt) : (s.setLehr x).mem = s.mem := rfl
@[simp] theorem State.setLehr_fs (x : LehrSt) : (s.setLehr x).fs = s.fs := rfl
@[simp] theorem State.setLehr_lens (x : LehrSt) : (s.setLehr x).lens = s.lens := rfl
@[simp] theorem State.setLehr_fab (x : LehrSt) : (s.setLehr x).fab = s.fab := rfl
@[simp] theorem State.setLehr_part (x : LehrSt) : (s.setLehr x).part = s.part := rfl
@[simp] theorem State.setLehr_flt (x : LehrSt) : (s.setLehr x).flt = s.flt := rfl
@[simp] theorem State.setLehr_acc (x : LehrSt) : (s.setLehr x).acc = s.acc := rfl
@[simp] theorem State.setLehr_jtag (x : LehrSt) : (s.setLehr x).jtag = s.jtag := rfl
@[simp] theorem State.setLehr_cycle (x : LehrSt) : (s.setLehr x).cycle = s.cycle := rfl
@[simp] theorem State.setLehr_lehr (x : LehrSt) : (s.setLehr x).lehr = x := rfl

/-! ### setAcc -/

@[simp] theorem State.setAcc_pending (r : Nat) (a : Acc) : (s.setAcc r a).pending = s.pending := rfl
@[simp] theorem State.setAcc_now (r : Nat) (a : Acc) : (s.setAcc r a).now = s.now := rfl
@[simp] theorem State.setAcc_free (r : Nat) (a : Acc) : (s.setAcc r a).free = s.free := rfl
@[simp] theorem State.setAcc_answer (r : Nat) (a : Acc) : (s.setAcc r a).answer = s.answer := rfl
@[simp] theorem State.setAcc_pins (r : Nat) (a : Acc) : (s.setAcc r a).pins = s.pins := rfl
@[simp] theorem State.setAcc_nv (r : Nat) (a : Acc) : (s.setAcc r a).nv = s.nv := rfl
@[simp] theorem State.setAcc_img (r : Nat) (a : Acc) : (s.setAcc r a).img = s.img := rfl
@[simp] theorem State.setAcc_start (r : Nat) (a : Acc) : (s.setAcc r a).start = s.start := rfl
@[simp] theorem State.setAcc_round (r : Nat) (a : Acc) : (s.setAcc r a).round = s.round := rfl
@[simp] theorem State.setAcc_lehr (r : Nat) (a : Acc) : (s.setAcc r a).lehr = s.lehr := rfl
@[simp] theorem State.setAcc_tiles (r : Nat) (a : Acc) : (s.setAcc r a).tiles = s.tiles := rfl
@[simp] theorem State.setAcc_sync (r : Nat) (a : Acc) : (s.setAcc r a).sync = s.sync := rfl
@[simp] theorem State.setAcc_mem (r : Nat) (a : Acc) : (s.setAcc r a).mem = s.mem := rfl
@[simp] theorem State.setAcc_fs (r : Nat) (a : Acc) : (s.setAcc r a).fs = s.fs := rfl
@[simp] theorem State.setAcc_lens (r : Nat) (a : Acc) : (s.setAcc r a).lens = s.lens := rfl
@[simp] theorem State.setAcc_fab (r : Nat) (a : Acc) : (s.setAcc r a).fab = s.fab := rfl
@[simp] theorem State.setAcc_part (r : Nat) (a : Acc) : (s.setAcc r a).part = s.part := rfl
@[simp] theorem State.setAcc_flt (r : Nat) (a : Acc) : (s.setAcc r a).flt = s.flt := rfl
@[simp] theorem State.setAcc_jtag (r : Nat) (a : Acc) : (s.setAcc r a).jtag = s.jtag := rfl
@[simp] theorem State.setAcc_cycle (r : Nat) (a : Acc) : (s.setAcc r a).cycle = s.cycle := rfl

/-! ### updChan -/

@[simp] theorem State.updChan_pending (c : Nat) (f : Chan → Chan) : (s.updChan c f).pending = s.pending := rfl
@[simp] theorem State.updChan_now (c : Nat) (f : Chan → Chan) : (s.updChan c f).now = s.now := rfl
@[simp] theorem State.updChan_free (c : Nat) (f : Chan → Chan) : (s.updChan c f).free = s.free := rfl
@[simp] theorem State.updChan_answer (c : Nat) (f : Chan → Chan) : (s.updChan c f).answer = s.answer := rfl
@[simp] theorem State.updChan_pins (c : Nat) (f : Chan → Chan) : (s.updChan c f).pins = s.pins := rfl
@[simp] theorem State.updChan_nv (c : Nat) (f : Chan → Chan) : (s.updChan c f).nv = s.nv := rfl
@[simp] theorem State.updChan_img (c : Nat) (f : Chan → Chan) : (s.updChan c f).img = s.img := rfl
@[simp] theorem State.updChan_start (c : Nat) (f : Chan → Chan) : (s.updChan c f).start = s.start := rfl
@[simp] theorem State.updChan_round (c : Nat) (f : Chan → Chan) : (s.updChan c f).round = s.round := rfl
@[simp] theorem State.updChan_lehr (c : Nat) (f : Chan → Chan) : (s.updChan c f).lehr = s.lehr := rfl
@[simp] theorem State.updChan_tiles (c : Nat) (f : Chan → Chan) : (s.updChan c f).tiles = s.tiles := rfl
@[simp] theorem State.updChan_sync (c : Nat) (f : Chan → Chan) : (s.updChan c f).sync = s.sync := rfl
@[simp] theorem State.updChan_fs (c : Nat) (f : Chan → Chan) : (s.updChan c f).fs = s.fs := rfl
@[simp] theorem State.updChan_lens (c : Nat) (f : Chan → Chan) : (s.updChan c f).lens = s.lens := rfl
@[simp] theorem State.updChan_fab (c : Nat) (f : Chan → Chan) : (s.updChan c f).fab = s.fab := rfl
@[simp] theorem State.updChan_part (c : Nat) (f : Chan → Chan) : (s.updChan c f).part = s.part := rfl
@[simp] theorem State.updChan_flt (c : Nat) (f : Chan → Chan) : (s.updChan c f).flt = s.flt := rfl
@[simp] theorem State.updChan_acc (c : Nat) (f : Chan → Chan) : (s.updChan c f).acc = s.acc := rfl
@[simp] theorem State.updChan_jtag (c : Nat) (f : Chan → Chan) : (s.updChan c f).jtag = s.jtag := rfl
@[simp] theorem State.updChan_cycle (c : Nat) (f : Chan → Chan) : (s.updChan c f).cycle = s.cycle := rfl

/-! ### updTile -/

@[simp] theorem State.updTile_pending (n : Nat) (f : Tile → Tile) : (s.updTile n f).pending = s.pending := rfl
@[simp] theorem State.updTile_now (n : Nat) (f : Tile → Tile) : (s.updTile n f).now = s.now := rfl
@[simp] theorem State.updTile_free (n : Nat) (f : Tile → Tile) : (s.updTile n f).free = s.free := rfl
@[simp] theorem State.updTile_answer (n : Nat) (f : Tile → Tile) : (s.updTile n f).answer = s.answer := rfl
@[simp] theorem State.updTile_pins (n : Nat) (f : Tile → Tile) : (s.updTile n f).pins = s.pins := rfl
@[simp] theorem State.updTile_nv (n : Nat) (f : Tile → Tile) : (s.updTile n f).nv = s.nv := rfl
@[simp] theorem State.updTile_img (n : Nat) (f : Tile → Tile) : (s.updTile n f).img = s.img := rfl
@[simp] theorem State.updTile_start (n : Nat) (f : Tile → Tile) : (s.updTile n f).start = s.start := rfl
@[simp] theorem State.updTile_round (n : Nat) (f : Tile → Tile) : (s.updTile n f).round = s.round := rfl
@[simp] theorem State.updTile_lehr (n : Nat) (f : Tile → Tile) : (s.updTile n f).lehr = s.lehr := rfl
@[simp] theorem State.updTile_sync (n : Nat) (f : Tile → Tile) : (s.updTile n f).sync = s.sync := rfl
@[simp] theorem State.updTile_mem (n : Nat) (f : Tile → Tile) : (s.updTile n f).mem = s.mem := rfl
@[simp] theorem State.updTile_fs (n : Nat) (f : Tile → Tile) : (s.updTile n f).fs = s.fs := rfl
@[simp] theorem State.updTile_lens (n : Nat) (f : Tile → Tile) : (s.updTile n f).lens = s.lens := rfl
@[simp] theorem State.updTile_fab (n : Nat) (f : Tile → Tile) : (s.updTile n f).fab = s.fab := rfl
@[simp] theorem State.updTile_part (n : Nat) (f : Tile → Tile) : (s.updTile n f).part = s.part := rfl
@[simp] theorem State.updTile_flt (n : Nat) (f : Tile → Tile) : (s.updTile n f).flt = s.flt := rfl
@[simp] theorem State.updTile_acc (n : Nat) (f : Tile → Tile) : (s.updTile n f).acc = s.acc := rfl
@[simp] theorem State.updTile_jtag (n : Nat) (f : Tile → Tile) : (s.updTile n f).jtag = s.jtag := rfl
@[simp] theorem State.updTile_cycle (n : Nat) (f : Tile → Tile) : (s.updTile n f).cycle = s.cycle := rfl

/-! ### updTask -/

@[simp] theorem State.updTask_pending (n k : Nat) (f : Task → Task) : (s.updTask n k f).pending = s.pending := rfl
@[simp] theorem State.updTask_now (n k : Nat) (f : Task → Task) : (s.updTask n k f).now = s.now := rfl
@[simp] theorem State.updTask_free (n k : Nat) (f : Task → Task) : (s.updTask n k f).free = s.free := rfl
@[simp] theorem State.updTask_answer (n k : Nat) (f : Task → Task) : (s.updTask n k f).answer = s.answer := rfl
@[simp] theorem State.updTask_pins (n k : Nat) (f : Task → Task) : (s.updTask n k f).pins = s.pins := rfl
@[simp] theorem State.updTask_nv (n k : Nat) (f : Task → Task) : (s.updTask n k f).nv = s.nv := rfl
@[simp] theorem State.updTask_img (n k : Nat) (f : Task → Task) : (s.updTask n k f).img = s.img := rfl
@[simp] theorem State.updTask_start (n k : Nat) (f : Task → Task) : (s.updTask n k f).start = s.start := rfl
@[simp] theorem State.updTask_round (n k : Nat) (f : Task → Task) : (s.updTask n k f).round = s.round := rfl
@[simp] theorem State.updTask_lehr (n k : Nat) (f : Task → Task) : (s.updTask n k f).lehr = s.lehr := rfl
@[simp] theorem State.updTask_sync (n k : Nat) (f : Task → Task) : (s.updTask n k f).sync = s.sync := rfl
@[simp] theorem State.updTask_mem (n k : Nat) (f : Task → Task) : (s.updTask n k f).mem = s.mem := rfl
@[simp] theorem State.updTask_fs (n k : Nat) (f : Task → Task) : (s.updTask n k f).fs = s.fs := rfl
@[simp] theorem State.updTask_lens (n k : Nat) (f : Task → Task) : (s.updTask n k f).lens = s.lens := rfl
@[simp] theorem State.updTask_fab (n k : Nat) (f : Task → Task) : (s.updTask n k f).fab = s.fab := rfl
@[simp] theorem State.updTask_part (n k : Nat) (f : Task → Task) : (s.updTask n k f).part = s.part := rfl
@[simp] theorem State.updTask_flt (n k : Nat) (f : Task → Task) : (s.updTask n k f).flt = s.flt := rfl
@[simp] theorem State.updTask_acc (n k : Nat) (f : Task → Task) : (s.updTask n k f).acc = s.acc := rfl
@[simp] theorem State.updTask_jtag (n k : Nat) (f : Task → Task) : (s.updTask n k f).jtag = s.jtag := rfl
@[simp] theorem State.updTask_cycle (n k : Nat) (f : Task → Task) : (s.updTask n k f).cycle = s.cycle := rfl

/-! ### updCluster -/

@[simp] theorem State.updCluster_pending (c : Nat) (f : Cluster → Cluster) : (s.updCluster c f).pending = s.pending := rfl
@[simp] theorem State.updCluster_now (c : Nat) (f : Cluster → Cluster) : (s.updCluster c f).now = s.now := rfl
@[simp] theorem State.updCluster_free (c : Nat) (f : Cluster → Cluster) : (s.updCluster c f).free = s.free := rfl
@[simp] theorem State.updCluster_answer (c : Nat) (f : Cluster → Cluster) : (s.updCluster c f).answer = s.answer := rfl
@[simp] theorem State.updCluster_pins (c : Nat) (f : Cluster → Cluster) : (s.updCluster c f).pins = s.pins := rfl
@[simp] theorem State.updCluster_nv (c : Nat) (f : Cluster → Cluster) : (s.updCluster c f).nv = s.nv := rfl
@[simp] theorem State.updCluster_img (c : Nat) (f : Cluster → Cluster) : (s.updCluster c f).img = s.img := rfl
@[simp] theorem State.updCluster_start (c : Nat) (f : Cluster → Cluster) : (s.updCluster c f).start = s.start := rfl
@[simp] theorem State.updCluster_round (c : Nat) (f : Cluster → Cluster) : (s.updCluster c f).round = s.round := rfl
@[simp] theorem State.updCluster_lehr (c : Nat) (f : Cluster → Cluster) : (s.updCluster c f).lehr = s.lehr := rfl
@[simp] theorem State.updCluster_sync (c : Nat) (f : Cluster → Cluster) : (s.updCluster c f).sync = s.sync := rfl
@[simp] theorem State.updCluster_mem (c : Nat) (f : Cluster → Cluster) : (s.updCluster c f).mem = s.mem := rfl
@[simp] theorem State.updCluster_fs (c : Nat) (f : Cluster → Cluster) : (s.updCluster c f).fs = s.fs := rfl
@[simp] theorem State.updCluster_lens (c : Nat) (f : Cluster → Cluster) : (s.updCluster c f).lens = s.lens := rfl
@[simp] theorem State.updCluster_fab (c : Nat) (f : Cluster → Cluster) : (s.updCluster c f).fab = s.fab := rfl
@[simp] theorem State.updCluster_part (c : Nat) (f : Cluster → Cluster) : (s.updCluster c f).part = s.part := rfl
@[simp] theorem State.updCluster_flt (c : Nat) (f : Cluster → Cluster) : (s.updCluster c f).flt = s.flt := rfl
@[simp] theorem State.updCluster_acc (c : Nat) (f : Cluster → Cluster) : (s.updCluster c f).acc = s.acc := rfl
@[simp] theorem State.updCluster_jtag (c : Nat) (f : Cluster → Cluster) : (s.updCluster c f).jtag = s.jtag := rfl
@[simp] theorem State.updCluster_cycle (c : Nat) (f : Cluster → Cluster) : (s.updCluster c f).cycle = s.cycle := rfl

/-! ### updCsu -/

@[simp] theorem State.updCsu_pending (c : Nat) (f : Csu → Csu) : (s.updCsu c f).pending = s.pending := rfl
@[simp] theorem State.updCsu_now (c : Nat) (f : Csu → Csu) : (s.updCsu c f).now = s.now := rfl
@[simp] theorem State.updCsu_free (c : Nat) (f : Csu → Csu) : (s.updCsu c f).free = s.free := rfl
@[simp] theorem State.updCsu_answer (c : Nat) (f : Csu → Csu) : (s.updCsu c f).answer = s.answer := rfl
@[simp] theorem State.updCsu_pins (c : Nat) (f : Csu → Csu) : (s.updCsu c f).pins = s.pins := rfl
@[simp] theorem State.updCsu_nv (c : Nat) (f : Csu → Csu) : (s.updCsu c f).nv = s.nv := rfl
@[simp] theorem State.updCsu_img (c : Nat) (f : Csu → Csu) : (s.updCsu c f).img = s.img := rfl
@[simp] theorem State.updCsu_start (c : Nat) (f : Csu → Csu) : (s.updCsu c f).start = s.start := rfl
@[simp] theorem State.updCsu_round (c : Nat) (f : Csu → Csu) : (s.updCsu c f).round = s.round := rfl
@[simp] theorem State.updCsu_lehr (c : Nat) (f : Csu → Csu) : (s.updCsu c f).lehr = s.lehr := rfl
@[simp] theorem State.updCsu_tiles (c : Nat) (f : Csu → Csu) : (s.updCsu c f).tiles = s.tiles := rfl
@[simp] theorem State.updCsu_mem (c : Nat) (f : Csu → Csu) : (s.updCsu c f).mem = s.mem := rfl
@[simp] theorem State.updCsu_fs (c : Nat) (f : Csu → Csu) : (s.updCsu c f).fs = s.fs := rfl
@[simp] theorem State.updCsu_lens (c : Nat) (f : Csu → Csu) : (s.updCsu c f).lens = s.lens := rfl
@[simp] theorem State.updCsu_fab (c : Nat) (f : Csu → Csu) : (s.updCsu c f).fab = s.fab := rfl
@[simp] theorem State.updCsu_part (c : Nat) (f : Csu → Csu) : (s.updCsu c f).part = s.part := rfl
@[simp] theorem State.updCsu_flt (c : Nat) (f : Csu → Csu) : (s.updCsu c f).flt = s.flt := rfl
@[simp] theorem State.updCsu_acc (c : Nat) (f : Csu → Csu) : (s.updCsu c f).acc = s.acc := rfl
@[simp] theorem State.updCsu_jtag (c : Nat) (f : Csu → Csu) : (s.updCsu c f).jtag = s.jtag := rfl
@[simp] theorem State.updCsu_cycle (c : Nat) (f : Csu → Csu) : (s.updCsu c f).cycle = s.cycle := rfl

/-! ### updEngine -/

@[simp] theorem State.updEngine_pending (n : Nat) (f : Engine → Engine) : (s.updEngine n f).pending = s.pending := rfl
@[simp] theorem State.updEngine_now (n : Nat) (f : Engine → Engine) : (s.updEngine n f).now = s.now := rfl
@[simp] theorem State.updEngine_free (n : Nat) (f : Engine → Engine) : (s.updEngine n f).free = s.free := rfl
@[simp] theorem State.updEngine_answer (n : Nat) (f : Engine → Engine) : (s.updEngine n f).answer = s.answer := rfl
@[simp] theorem State.updEngine_pins (n : Nat) (f : Engine → Engine) : (s.updEngine n f).pins = s.pins := rfl
@[simp] theorem State.updEngine_nv (n : Nat) (f : Engine → Engine) : (s.updEngine n f).nv = s.nv := rfl
@[simp] theorem State.updEngine_img (n : Nat) (f : Engine → Engine) : (s.updEngine n f).img = s.img := rfl
@[simp] theorem State.updEngine_start (n : Nat) (f : Engine → Engine) : (s.updEngine n f).start = s.start := rfl
@[simp] theorem State.updEngine_round (n : Nat) (f : Engine → Engine) : (s.updEngine n f).round = s.round := rfl
@[simp] theorem State.updEngine_lehr (n : Nat) (f : Engine → Engine) : (s.updEngine n f).lehr = s.lehr := rfl
@[simp] theorem State.updEngine_tiles (n : Nat) (f : Engine → Engine) : (s.updEngine n f).tiles = s.tiles := rfl
@[simp] theorem State.updEngine_sync (n : Nat) (f : Engine → Engine) : (s.updEngine n f).sync = s.sync := rfl
@[simp] theorem State.updEngine_mem (n : Nat) (f : Engine → Engine) : (s.updEngine n f).mem = s.mem := rfl
@[simp] theorem State.updEngine_fs (n : Nat) (f : Engine → Engine) : (s.updEngine n f).fs = s.fs := rfl
@[simp] theorem State.updEngine_fab (n : Nat) (f : Engine → Engine) : (s.updEngine n f).fab = s.fab := rfl
@[simp] theorem State.updEngine_part (n : Nat) (f : Engine → Engine) : (s.updEngine n f).part = s.part := rfl
@[simp] theorem State.updEngine_flt (n : Nat) (f : Engine → Engine) : (s.updEngine n f).flt = s.flt := rfl
@[simp] theorem State.updEngine_acc (n : Nat) (f : Engine → Engine) : (s.updEngine n f).acc = s.acc := rfl
@[simp] theorem State.updEngine_jtag (n : Nat) (f : Engine → Engine) : (s.updEngine n f).jtag = s.jtag := rfl
@[simp] theorem State.updEngine_cycle (n : Nat) (f : Engine → Engine) : (s.updEngine n f).cycle = s.cycle := rfl

/-! ### updPort -/

@[simp] theorem State.updPort_pending (n : Nat) (f : Port → Port) : (s.updPort n f).pending = s.pending := rfl
@[simp] theorem State.updPort_now (n : Nat) (f : Port → Port) : (s.updPort n f).now = s.now := rfl
@[simp] theorem State.updPort_free (n : Nat) (f : Port → Port) : (s.updPort n f).free = s.free := rfl
@[simp] theorem State.updPort_answer (n : Nat) (f : Port → Port) : (s.updPort n f).answer = s.answer := rfl
@[simp] theorem State.updPort_pins (n : Nat) (f : Port → Port) : (s.updPort n f).pins = s.pins := rfl
@[simp] theorem State.updPort_nv (n : Nat) (f : Port → Port) : (s.updPort n f).nv = s.nv := rfl
@[simp] theorem State.updPort_img (n : Nat) (f : Port → Port) : (s.updPort n f).img = s.img := rfl
@[simp] theorem State.updPort_start (n : Nat) (f : Port → Port) : (s.updPort n f).start = s.start := rfl
@[simp] theorem State.updPort_round (n : Nat) (f : Port → Port) : (s.updPort n f).round = s.round := rfl
@[simp] theorem State.updPort_lehr (n : Nat) (f : Port → Port) : (s.updPort n f).lehr = s.lehr := rfl
@[simp] theorem State.updPort_tiles (n : Nat) (f : Port → Port) : (s.updPort n f).tiles = s.tiles := rfl
@[simp] theorem State.updPort_sync (n : Nat) (f : Port → Port) : (s.updPort n f).sync = s.sync := rfl
@[simp] theorem State.updPort_mem (n : Nat) (f : Port → Port) : (s.updPort n f).mem = s.mem := rfl
@[simp] theorem State.updPort_fs (n : Nat) (f : Port → Port) : (s.updPort n f).fs = s.fs := rfl
@[simp] theorem State.updPort_lens (n : Nat) (f : Port → Port) : (s.updPort n f).lens = s.lens := rfl
@[simp] theorem State.updPort_part (n : Nat) (f : Port → Port) : (s.updPort n f).part = s.part := rfl
@[simp] theorem State.updPort_flt (n : Nat) (f : Port → Port) : (s.updPort n f).flt = s.flt := rfl
@[simp] theorem State.updPort_acc (n : Nat) (f : Port → Port) : (s.updPort n f).acc = s.acc := rfl
@[simp] theorem State.updPort_jtag (n : Nat) (f : Port → Port) : (s.updPort n f).jtag = s.jtag := rfl
@[simp] theorem State.updPort_cycle (n : Nat) (f : Port → Port) : (s.updPort n f).cycle = s.cycle := rfl

/-! ### updCtx -/

@[simp] theorem State.updCtx_pending (c : Nat) (f : Ctx → Ctx) : (s.updCtx c f).pending = s.pending := rfl
@[simp] theorem State.updCtx_now (c : Nat) (f : Ctx → Ctx) : (s.updCtx c f).now = s.now := rfl
@[simp] theorem State.updCtx_free (c : Nat) (f : Ctx → Ctx) : (s.updCtx c f).free = s.free := rfl
@[simp] theorem State.updCtx_answer (c : Nat) (f : Ctx → Ctx) : (s.updCtx c f).answer = s.answer := rfl
@[simp] theorem State.updCtx_pins (c : Nat) (f : Ctx → Ctx) : (s.updCtx c f).pins = s.pins := rfl
@[simp] theorem State.updCtx_nv (c : Nat) (f : Ctx → Ctx) : (s.updCtx c f).nv = s.nv := rfl
@[simp] theorem State.updCtx_img (c : Nat) (f : Ctx → Ctx) : (s.updCtx c f).img = s.img := rfl
@[simp] theorem State.updCtx_start (c : Nat) (f : Ctx → Ctx) : (s.updCtx c f).start = s.start := rfl
@[simp] theorem State.updCtx_round (c : Nat) (f : Ctx → Ctx) : (s.updCtx c f).round = s.round := rfl
@[simp] theorem State.updCtx_lehr (c : Nat) (f : Ctx → Ctx) : (s.updCtx c f).lehr = s.lehr := rfl
@[simp] theorem State.updCtx_tiles (c : Nat) (f : Ctx → Ctx) : (s.updCtx c f).tiles = s.tiles := rfl
@[simp] theorem State.updCtx_sync (c : Nat) (f : Ctx → Ctx) : (s.updCtx c f).sync = s.sync := rfl
@[simp] theorem State.updCtx_mem (c : Nat) (f : Ctx → Ctx) : (s.updCtx c f).mem = s.mem := rfl
@[simp] theorem State.updCtx_fs (c : Nat) (f : Ctx → Ctx) : (s.updCtx c f).fs = s.fs := rfl
@[simp] theorem State.updCtx_lens (c : Nat) (f : Ctx → Ctx) : (s.updCtx c f).lens = s.lens := rfl
@[simp] theorem State.updCtx_fab (c : Nat) (f : Ctx → Ctx) : (s.updCtx c f).fab = s.fab := rfl
@[simp] theorem State.updCtx_flt (c : Nat) (f : Ctx → Ctx) : (s.updCtx c f).flt = s.flt := rfl
@[simp] theorem State.updCtx_acc (c : Nat) (f : Ctx → Ctx) : (s.updCtx c f).acc = s.acc := rfl
@[simp] theorem State.updCtx_jtag (c : Nat) (f : Ctx → Ctx) : (s.updCtx c f).jtag = s.jtag := rfl
@[simp] theorem State.updCtx_cycle (c : Nat) (f : Ctx → Ctx) : (s.updCtx c f).cycle = s.cycle := rfl

/-! ### updParcel -/

@[simp] theorem State.updParcel_pending (i : Nat) (f : Parcel → Parcel) : (s.updParcel i f).pending = s.pending := rfl
@[simp] theorem State.updParcel_now (i : Nat) (f : Parcel → Parcel) : (s.updParcel i f).now = s.now := rfl
@[simp] theorem State.updParcel_free (i : Nat) (f : Parcel → Parcel) : (s.updParcel i f).free = s.free := rfl
@[simp] theorem State.updParcel_answer (i : Nat) (f : Parcel → Parcel) : (s.updParcel i f).answer = s.answer := rfl
@[simp] theorem State.updParcel_pins (i : Nat) (f : Parcel → Parcel) : (s.updParcel i f).pins = s.pins := rfl
@[simp] theorem State.updParcel_nv (i : Nat) (f : Parcel → Parcel) : (s.updParcel i f).nv = s.nv := rfl
@[simp] theorem State.updParcel_img (i : Nat) (f : Parcel → Parcel) : (s.updParcel i f).img = s.img := rfl
@[simp] theorem State.updParcel_start (i : Nat) (f : Parcel → Parcel) : (s.updParcel i f).start = s.start := rfl
@[simp] theorem State.updParcel_round (i : Nat) (f : Parcel → Parcel) : (s.updParcel i f).round = s.round := rfl
@[simp] theorem State.updParcel_lehr (i : Nat) (f : Parcel → Parcel) : (s.updParcel i f).lehr = s.lehr := rfl
@[simp] theorem State.updParcel_tiles (i : Nat) (f : Parcel → Parcel) : (s.updParcel i f).tiles = s.tiles := rfl
@[simp] theorem State.updParcel_sync (i : Nat) (f : Parcel → Parcel) : (s.updParcel i f).sync = s.sync := rfl
@[simp] theorem State.updParcel_mem (i : Nat) (f : Parcel → Parcel) : (s.updParcel i f).mem = s.mem := rfl
@[simp] theorem State.updParcel_fs (i : Nat) (f : Parcel → Parcel) : (s.updParcel i f).fs = s.fs := rfl
@[simp] theorem State.updParcel_lens (i : Nat) (f : Parcel → Parcel) : (s.updParcel i f).lens = s.lens := rfl
@[simp] theorem State.updParcel_fab (i : Nat) (f : Parcel → Parcel) : (s.updParcel i f).fab = s.fab := rfl
@[simp] theorem State.updParcel_flt (i : Nat) (f : Parcel → Parcel) : (s.updParcel i f).flt = s.flt := rfl
@[simp] theorem State.updParcel_acc (i : Nat) (f : Parcel → Parcel) : (s.updParcel i f).acc = s.acc := rfl
@[simp] theorem State.updParcel_jtag (i : Nat) (f : Parcel → Parcel) : (s.updParcel i f).jtag = s.jtag := rfl
@[simp] theorem State.updParcel_cycle (i : Nat) (f : Parcel → Parcel) : (s.updParcel i f).cycle = s.cycle := rfl

/-! ### updShard -/

@[simp] theorem State.updShard_pending (n : Nat) (f : Shard → Shard) : (s.updShard n f).pending = s.pending := rfl
@[simp] theorem State.updShard_now (n : Nat) (f : Shard → Shard) : (s.updShard n f).now = s.now := rfl
@[simp] theorem State.updShard_free (n : Nat) (f : Shard → Shard) : (s.updShard n f).free = s.free := rfl
@[simp] theorem State.updShard_answer (n : Nat) (f : Shard → Shard) : (s.updShard n f).answer = s.answer := rfl
@[simp] theorem State.updShard_pins (n : Nat) (f : Shard → Shard) : (s.updShard n f).pins = s.pins := rfl
@[simp] theorem State.updShard_nv (n : Nat) (f : Shard → Shard) : (s.updShard n f).nv = s.nv := rfl
@[simp] theorem State.updShard_img (n : Nat) (f : Shard → Shard) : (s.updShard n f).img = s.img := rfl
@[simp] theorem State.updShard_start (n : Nat) (f : Shard → Shard) : (s.updShard n f).start = s.start := rfl
@[simp] theorem State.updShard_round (n : Nat) (f : Shard → Shard) : (s.updShard n f).round = s.round := rfl
@[simp] theorem State.updShard_lehr (n : Nat) (f : Shard → Shard) : (s.updShard n f).lehr = s.lehr := rfl
@[simp] theorem State.updShard_tiles (n : Nat) (f : Shard → Shard) : (s.updShard n f).tiles = s.tiles := rfl
@[simp] theorem State.updShard_sync (n : Nat) (f : Shard → Shard) : (s.updShard n f).sync = s.sync := rfl
@[simp] theorem State.updShard_mem (n : Nat) (f : Shard → Shard) : (s.updShard n f).mem = s.mem := rfl
@[simp] theorem State.updShard_lens (n : Nat) (f : Shard → Shard) : (s.updShard n f).lens = s.lens := rfl
@[simp] theorem State.updShard_fab (n : Nat) (f : Shard → Shard) : (s.updShard n f).fab = s.fab := rfl
@[simp] theorem State.updShard_part (n : Nat) (f : Shard → Shard) : (s.updShard n f).part = s.part := rfl
@[simp] theorem State.updShard_flt (n : Nat) (f : Shard → Shard) : (s.updShard n f).flt = s.flt := rfl
@[simp] theorem State.updShard_acc (n : Nat) (f : Shard → Shard) : (s.updShard n f).acc = s.acc := rfl
@[simp] theorem State.updShard_jtag (n : Nat) (f : Shard → Shard) : (s.updShard n f).jtag = s.jtag := rfl
@[simp] theorem State.updShard_cycle (n : Nat) (f : Shard → Shard) : (s.updShard n f).cycle = s.cycle := rfl

/-! ### setSlot -/

@[simp] theorem State.setSlot_pending (n : Nat) (e : EvSlot) : (s.setSlot n e).pending = s.pending := rfl
@[simp] theorem State.setSlot_now (n : Nat) (e : EvSlot) : (s.setSlot n e).now = s.now := rfl
@[simp] theorem State.setSlot_free (n : Nat) (e : EvSlot) : (s.setSlot n e).free = s.free := rfl
@[simp] theorem State.setSlot_answer (n : Nat) (e : EvSlot) : (s.setSlot n e).answer = s.answer := rfl
@[simp] theorem State.setSlot_pins (n : Nat) (e : EvSlot) : (s.setSlot n e).pins = s.pins := rfl
@[simp] theorem State.setSlot_nv (n : Nat) (e : EvSlot) : (s.setSlot n e).nv = s.nv := rfl
@[simp] theorem State.setSlot_img (n : Nat) (e : EvSlot) : (s.setSlot n e).img = s.img := rfl
@[simp] theorem State.setSlot_start (n : Nat) (e : EvSlot) : (s.setSlot n e).start = s.start := rfl
@[simp] theorem State.setSlot_lehr (n : Nat) (e : EvSlot) : (s.setSlot n e).lehr = s.lehr := rfl
@[simp] theorem State.setSlot_tiles (n : Nat) (e : EvSlot) : (s.setSlot n e).tiles = s.tiles := rfl
@[simp] theorem State.setSlot_sync (n : Nat) (e : EvSlot) : (s.setSlot n e).sync = s.sync := rfl
@[simp] theorem State.setSlot_mem (n : Nat) (e : EvSlot) : (s.setSlot n e).mem = s.mem := rfl
@[simp] theorem State.setSlot_fs (n : Nat) (e : EvSlot) : (s.setSlot n e).fs = s.fs := rfl
@[simp] theorem State.setSlot_lens (n : Nat) (e : EvSlot) : (s.setSlot n e).lens = s.lens := rfl
@[simp] theorem State.setSlot_fab (n : Nat) (e : EvSlot) : (s.setSlot n e).fab = s.fab := rfl
@[simp] theorem State.setSlot_part (n : Nat) (e : EvSlot) : (s.setSlot n e).part = s.part := rfl
@[simp] theorem State.setSlot_flt (n : Nat) (e : EvSlot) : (s.setSlot n e).flt = s.flt := rfl
@[simp] theorem State.setSlot_acc (n : Nat) (e : EvSlot) : (s.setSlot n e).acc = s.acc := rfl
@[simp] theorem State.setSlot_jtag (n : Nat) (e : EvSlot) : (s.setSlot n e).jtag = s.jtag := rfl
@[simp] theorem State.setSlot_cycle (n : Nat) (e : EvSlot) : (s.setSlot n e).cycle = s.cycle := rfl

/-! ### raise: the event log only -/

@[simp] theorem raiseFull_pending (c u d : Nat) (x : Option Nat) : (raiseFull c u x d s).pending = s.pending := rfl
@[simp] theorem raise_pending (c u : Nat) : (raise c u s).pending = s.pending := rfl
@[simp] theorem raise0_pending (c : Nat) : (raise0 c s).pending = s.pending := rfl
@[simp] theorem raiseFull_now (c u d : Nat) (x : Option Nat) : (raiseFull c u x d s).now = s.now := rfl
@[simp] theorem raise_now (c u : Nat) : (raise c u s).now = s.now := rfl
@[simp] theorem raise0_now (c : Nat) : (raise0 c s).now = s.now := rfl
@[simp] theorem raiseFull_free (c u d : Nat) (x : Option Nat) : (raiseFull c u x d s).free = s.free := rfl
@[simp] theorem raise_free (c u : Nat) : (raise c u s).free = s.free := rfl
@[simp] theorem raise0_free (c : Nat) : (raise0 c s).free = s.free := rfl
@[simp] theorem raiseFull_answer (c u d : Nat) (x : Option Nat) : (raiseFull c u x d s).answer = s.answer := rfl
@[simp] theorem raise_answer (c u : Nat) : (raise c u s).answer = s.answer := rfl
@[simp] theorem raise0_answer (c : Nat) : (raise0 c s).answer = s.answer := rfl
@[simp] theorem raiseFull_pins (c u d : Nat) (x : Option Nat) : (raiseFull c u x d s).pins = s.pins := rfl
@[simp] theorem raise_pins (c u : Nat) : (raise c u s).pins = s.pins := rfl
@[simp] theorem raise0_pins (c : Nat) : (raise0 c s).pins = s.pins := rfl
@[simp] theorem raiseFull_nv (c u d : Nat) (x : Option Nat) : (raiseFull c u x d s).nv = s.nv := rfl
@[simp] theorem raise_nv (c u : Nat) : (raise c u s).nv = s.nv := rfl
@[simp] theorem raise0_nv (c : Nat) : (raise0 c s).nv = s.nv := rfl
@[simp] theorem raiseFull_img (c u d : Nat) (x : Option Nat) : (raiseFull c u x d s).img = s.img := rfl
@[simp] theorem raise_img (c u : Nat) : (raise c u s).img = s.img := rfl
@[simp] theorem raise0_img (c : Nat) : (raise0 c s).img = s.img := rfl
@[simp] theorem raiseFull_start (c u d : Nat) (x : Option Nat) : (raiseFull c u x d s).start = s.start := rfl
@[simp] theorem raise_start (c u : Nat) : (raise c u s).start = s.start := rfl
@[simp] theorem raise0_start (c : Nat) : (raise0 c s).start = s.start := rfl
@[simp] theorem raiseFull_round (c u d : Nat) (x : Option Nat) : (raiseFull c u x d s).round = s.round := rfl
@[simp] theorem raise_round (c u : Nat) : (raise c u s).round = s.round := rfl
@[simp] theorem raise0_round (c : Nat) : (raise0 c s).round = s.round := rfl
@[simp] theorem raiseFull_lehr (c u d : Nat) (x : Option Nat) : (raiseFull c u x d s).lehr = s.lehr := rfl
@[simp] theorem raise_lehr (c u : Nat) : (raise c u s).lehr = s.lehr := rfl
@[simp] theorem raise0_lehr (c : Nat) : (raise0 c s).lehr = s.lehr := rfl
@[simp] theorem raiseFull_tiles (c u d : Nat) (x : Option Nat) : (raiseFull c u x d s).tiles = s.tiles := rfl
@[simp] theorem raise_tiles (c u : Nat) : (raise c u s).tiles = s.tiles := rfl
@[simp] theorem raise0_tiles (c : Nat) : (raise0 c s).tiles = s.tiles := rfl
@[simp] theorem raiseFull_sync (c u d : Nat) (x : Option Nat) : (raiseFull c u x d s).sync = s.sync := rfl
@[simp] theorem raise_sync (c u : Nat) : (raise c u s).sync = s.sync := rfl
@[simp] theorem raise0_sync (c : Nat) : (raise0 c s).sync = s.sync := rfl
@[simp] theorem raiseFull_mem (c u d : Nat) (x : Option Nat) : (raiseFull c u x d s).mem = s.mem := rfl
@[simp] theorem raise_mem (c u : Nat) : (raise c u s).mem = s.mem := rfl
@[simp] theorem raise0_mem (c : Nat) : (raise0 c s).mem = s.mem := rfl
@[simp] theorem raiseFull_fs (c u d : Nat) (x : Option Nat) : (raiseFull c u x d s).fs = s.fs := rfl
@[simp] theorem raise_fs (c u : Nat) : (raise c u s).fs = s.fs := rfl
@[simp] theorem raise0_fs (c : Nat) : (raise0 c s).fs = s.fs := rfl
@[simp] theorem raiseFull_lens (c u d : Nat) (x : Option Nat) : (raiseFull c u x d s).lens = s.lens := rfl
@[simp] theorem raise_lens (c u : Nat) : (raise c u s).lens = s.lens := rfl
@[simp] theorem raise0_lens (c : Nat) : (raise0 c s).lens = s.lens := rfl
@[simp] theorem raiseFull_fab (c u d : Nat) (x : Option Nat) : (raiseFull c u x d s).fab = s.fab := rfl
@[simp] theorem raise_fab (c u : Nat) : (raise c u s).fab = s.fab := rfl
@[simp] theorem raise0_fab (c : Nat) : (raise0 c s).fab = s.fab := rfl
@[simp] theorem raiseFull_part (c u d : Nat) (x : Option Nat) : (raiseFull c u x d s).part = s.part := rfl
@[simp] theorem raise_part (c u : Nat) : (raise c u s).part = s.part := rfl
@[simp] theorem raise0_part (c : Nat) : (raise0 c s).part = s.part := rfl
@[simp] theorem raiseFull_acc (c u d : Nat) (x : Option Nat) : (raiseFull c u x d s).acc = s.acc := rfl
@[simp] theorem raise_acc (c u : Nat) : (raise c u s).acc = s.acc := rfl
@[simp] theorem raise0_acc (c : Nat) : (raise0 c s).acc = s.acc := rfl
@[simp] theorem raiseFull_jtag (c u d : Nat) (x : Option Nat) : (raiseFull c u x d s).jtag = s.jtag := rfl
@[simp] theorem raiseFull_cycle (c u d : Nat) (x : Option Nat) : (raiseFull c u x d s).cycle = s.cycle := rfl
@[simp] theorem raise_jtag (c u : Nat) : (raise c u s).jtag = s.jtag := rfl
@[simp] theorem raise_cycle (c u : Nat) : (raise c u s).cycle = s.cycle := rfl
@[simp] theorem raise0_jtag (c : Nat) : (raise0 c s).jtag = s.jtag := rfl
@[simp] theorem raise0_cycle (c : Nat) : (raise0 c s).cycle = s.cycle := rfl

/-! ### draw: the free counter only -/

@[simp] theorem State.draw_pending : s.draw.2.pending = s.pending := rfl
@[simp] theorem State.draw_now : s.draw.2.now = s.now := rfl
@[simp] theorem State.draw_answer : s.draw.2.answer = s.answer := rfl
@[simp] theorem State.draw_pins : s.draw.2.pins = s.pins := rfl
@[simp] theorem State.draw_nv : s.draw.2.nv = s.nv := rfl
@[simp] theorem State.draw_img : s.draw.2.img = s.img := rfl
@[simp] theorem State.draw_start : s.draw.2.start = s.start := rfl
@[simp] theorem State.draw_round : s.draw.2.round = s.round := rfl
@[simp] theorem State.draw_lehr : s.draw.2.lehr = s.lehr := rfl
@[simp] theorem State.draw_tiles : s.draw.2.tiles = s.tiles := rfl
@[simp] theorem State.draw_sync : s.draw.2.sync = s.sync := rfl
@[simp] theorem State.draw_mem : s.draw.2.mem = s.mem := rfl
@[simp] theorem State.draw_fs : s.draw.2.fs = s.fs := rfl
@[simp] theorem State.draw_lens : s.draw.2.lens = s.lens := rfl
@[simp] theorem State.draw_fab : s.draw.2.fab = s.fab := rfl
@[simp] theorem State.draw_part : s.draw.2.part = s.part := rfl
@[simp] theorem State.draw_flt : s.draw.2.flt = s.flt := rfl
@[simp] theorem State.draw_acc : s.draw.2.acc = s.acc := rfl
@[simp] theorem State.draw_jtag : s.draw.2.jtag = s.jtag := rfl
@[simp] theorem State.draw_cycle : s.draw.2.cycle = s.cycle := rfl

end Sys2Proof.Machine
end

