-- ==== Sys2Proof/Laws/Tables.lean ====
section
/-! SUPPORT. Tables and byte memories: a read after a write, and the canonical form that every write keeps. -/

namespace Sys2Proof.Machine

variable {α : Type}

/-! ### Tables -/

@[simp] theorem tget_nil (k : Nat) (d : α) : tget ([] : Tab α) k d = d := rfl

@[simp] theorem tfind_nil (k : Nat) : tfind ([] : Tab α) k = none := rfl

@[simp] theorem tget_tset_same (m : Tab α) (k : Nat) (v d : α) : tget (tset m k v) k d = v := by
  induction m with
  | nil => simp [tset, tget]
  | cons p r ih =>
    obtain ⟨a, x⟩ := p
    by_cases h : a = k
    · simp [tset, tget, h]
    · by_cases h' : k < a
      · simp [tset, tget, h, h']
      · simp [tset, tget, h, h', ih]

theorem tget_tset_other (m : Tab α) {j k : Nat} (v d : α) (h : j ≠ k) : tget (tset m k v) j d = tget m j d := by
  induction m with
  | nil => simp [tset, tget, h.symm]
  | cons p r ih =>
    obtain ⟨a, x⟩ := p
    by_cases h1 : a = k
    · subst h1; simp [tset, tget, h.symm]
    · by_cases h2 : k < a
      · simp [tset, tget, h1, h2, h.symm]
      · simp [tset, tget, h1, h2, ih]

@[simp] theorem tget_tupd_same (m : Tab α) (k : Nat) (d : α) (f : α → α) : tget (tupd m k d f) k d = f (tget m k d) := by
  simp [tupd]

theorem tget_tupd_other (m : Tab α) {j k : Nat} (d : α) (f : α → α) (h : j ≠ k) :
    tget (tupd m k d f) j d = tget m j d := by
  simp [tupd, tget_tset_other _ _ _ h]

@[simp] theorem tfind_tset_same (m : Tab α) (k : Nat) (v : α) : tfind (tset m k v) k = some v := by
  induction m with
  | nil => simp [tset, tfind]
  | cons p r ih =>
    obtain ⟨a, x⟩ := p
    by_cases h : a = k
    · simp [tset, tfind, h]
    · by_cases h' : k < a
      · simp [tset, tfind, h, h']
      · simp [tset, tfind, h, h', ih]

theorem tget_of_tfind {m : Tab α} {k : Nat} {v : α} (d : α) (h : tfind m k = some v) : tget m k d = v := by
  induction m with
  | nil => simp at h
  | cons p r ih =>
    obtain ⟨a, x⟩ := p
    by_cases e : a = k
    · simp [tfind, e] at h; simp [tget, e, h]
    · simp [tfind, e] at h; simp [tget, e, ih h]

@[simp] theorem tget_tdel_same (m : Tab α) (k : Nat) (d : α) : tget (tdel m k) k d = d := by
  induction m with
  | nil => rfl
  | cons p r ih =>
    obtain ⟨a, x⟩ := p
    by_cases h : a = k
    · simpa [tdel, h] using ih
    · simpa [tdel, tget, h] using ih

theorem tget_tdel_other (m : Tab α) {j k : Nat} (d : α) (h : j ≠ k) : tget (tdel m k) j d = tget m j d := by
  induction m with
  | nil => rfl
  | cons p r ih =>
    obtain ⟨a, x⟩ := p
    by_cases e : a = k
    · subst e; simpa [tdel, tget, h.symm] using ih
    · by_cases e' : a = j
      · subst e'; simp [tdel, tget, e]
      · simpa [tdel, tget, e, e'] using ih

/-! ### Byte memories -/

theorem cellGet_cellSet_same (u : Byte) (m : List Host.Cell) (a : Nat) (b : Byte) (lo : Nat) (h : cellsFrom u lo m = true) :
    cellGet u (cellSet u m a b) a = b := by
  induction m generalizing lo with
  | nil => by_cases hb : b = u <;> simp [cellSet, cellGet, hb]
  | cons p r ih =>
    obtain ⟨k, c⟩ := p
    simp only [cellsFrom, Bool.and_eq_true, decide_eq_true_eq, bne_iff_ne, ne_eq] at h
    have skip : ∀ (l : List Host.Cell) (z : Nat), cellsFrom u z l = true → a < z → cellGet u l a = u := by
      intro l
      induction l with
      | nil => intros; rfl
      | cons q l ih2 =>
        intro z hz ha
        obtain ⟨j, d⟩ := q
        simp only [cellsFrom, Bool.and_eq_true, decide_eq_true_eq, bne_iff_ne, ne_eq] at hz
        have hj : j ≠ a := by omega
        simp [cellGet, hj, ih2 (j + 1) hz.2 (by omega)]
    by_cases h1 : k = a
    · subst h1
      by_cases hb : b = u
      · subst hb; simpa [cellSet] using skip r (k + 1) h.2 (by omega)
      · simp [cellSet, cellGet, hb]
    · by_cases h2 : a < k
      · by_cases hb : b = u
        · subst hb
          have := skip r (k + 1) h.2 (by omega)
          simp [cellSet, cellGet, h1, h2, this]
        · simp [cellSet, cellGet, h1, h2, hb]
      · simp [cellSet, cellGet, h1, h2, ih (k + 1) h.2]

/-- A write leaves every other address as it was. -/
theorem cellGet_cellSet_other (u : Byte) (m : List Host.Cell) {a x : Nat} (b : Byte) (h : x ≠ a) :
    cellGet u (cellSet u m a b) x = cellGet u m x := by
  induction m with
  | nil => by_cases hb : b = u <;> simp [cellSet, cellGet, hb, h.symm]
  | cons p r ih =>
    obtain ⟨k, c⟩ := p
    by_cases h1 : k = a
    · subst h1; by_cases hb : b = u <;> simp [cellSet, cellGet, hb, h.symm]
    · by_cases h2 : a < k
      · by_cases hb : b = u <;> simp [cellSet, cellGet, h1, h2, hb, h.symm]
      · simp [cellSet, cellGet, h1, h2, ih]

theorem cellsFrom_weaken {u : Byte} {lo lo' : Nat} {m : List Host.Cell} (h : lo' ≤ lo) (hm : cellsFrom u lo m = true) :
    cellsFrom u lo' m = true := by
  cases m with
  | nil => rfl
  | cons p r =>
    simp only [cellsFrom, Bool.and_eq_true, decide_eq_true_eq] at *
    exact ⟨⟨by omega, hm.1.2⟩, hm.2⟩

theorem cellsFrom_cellSet {u : Byte} {lo : Nat} {m : List Host.Cell} {a : Nat} (b : Byte) (ha : lo ≤ a)
    (h : cellsFrom u lo m = true) : cellsFrom u lo (cellSet u m a b) = true := by
  induction m generalizing lo with
  | nil => by_cases hb : b = u <;> simp [cellSet, cellsFrom, hb, ha]
  | cons p r ih =>
    obtain ⟨k, c⟩ := p
    simp only [cellsFrom, Bool.and_eq_true, decide_eq_true_eq, bne_iff_ne, ne_eq] at h
    by_cases h1 : k = a
    · subst h1
      by_cases hb : b = u
      · simpa [cellSet, hb] using cellsFrom_weaken (by omega) h.2
      · simp [cellSet, cellsFrom, hb, ha, h.2]
    · by_cases h2 : a < k
      · by_cases hb : b = u
        · simp [cellSet, cellsFrom, h1, h2, hb, h.1.1, h.1.2, h.2]
        · have : a + 1 ≤ k := h2
          simp [cellSet, cellsFrom, h1, h2, hb, ha, this, h.1.2, h.2]
      · simp [cellSet, cellsFrom, h1, h2, h.1.1, h.1.2, ih (show k + 1 ≤ a by omega) h.2]

/-- Every write of a byte keeps the canonical form. -/
theorem cellsWf_cellSet {u : Byte} {m : List Host.Cell} (a : Nat) (b : Byte) (h : cellsWf u m = true) :
    cellsWf u (cellSet u m a b) = true :=
  cellsFrom_cellSet b (Nat.zero_le a) h

theorem cellsWf_writeBytes {u : Byte} {m : List Host.Cell} (a : Nat) (bs : List Byte) (h : cellsWf u m = true) :
    cellsWf u (writeBytes u m a bs) = true := by
  induction bs generalizing m a with
  | nil => exact h
  | cons b r ih => exact ih (a + 1) (cellsWf_cellSet a b h)

theorem cellsFrom_filter {u : Byte} {lo : Nat} {m : List Host.Cell} (p : Host.Cell → Bool) (h : cellsFrom u lo m = true) :
    cellsFrom u lo (m.filter p) = true := by
  induction m generalizing lo with
  | nil => rfl
  | cons q r ih =>
    obtain ⟨k, c⟩ := q
    simp only [cellsFrom, Bool.and_eq_true, decide_eq_true_eq, bne_iff_ne, ne_eq] at h
    by_cases hp : p (k, c) = true
    · simp [hp, cellsFrom, h.1.1, h.1.2, ih h.2]
    · simp [hp, cellsFrom_weaken (show lo ≤ k + 1 by omega) (ih h.2)]

/-- Dropping a range keeps the canonical form. -/
theorem cellsWf_clearRange {u : Byte} {m : List Host.Cell} (a n : Nat) (h : cellsWf u m = true) :
    cellsWf u (clearRange m a n) = true :=
  cellsFrom_filter _ h

/-- A write reads back, in a memory of canonical form. -/
theorem cellGet_cellSet {u : Byte} {m : List Host.Cell} (a : Nat) (b : Byte) (h : cellsWf u m = true) :
    cellGet u (cellSet u m a b) a = b :=
  cellGet_cellSet_same u m a b 0 h

/-- Bytes outside a run that is written read as before. -/
theorem cellGet_writeBytes_other (u : Byte) (m : List Host.Cell) {a x : Nat} (bs : List Byte)
    (h : x < a ∨ a + bs.length ≤ x) : cellGet u (writeBytes u m a bs) x = cellGet u m x := by
  induction bs generalizing m a with
  | nil => rfl
  | cons b r ih =>
    simp only [List.length_cons] at h
    have hx : x ≠ a := by omega
    rw [writeBytes, ih _ (by omega), cellGet_cellSet_other u m b hx]

end Sys2Proof.Machine
end

