-- ==== Sys2Proof/Laws/Frame.lean ====
section
/-! SUPPORT. What the operations leave alone. `Keeps s u` holds of an operation that runs tasks, memory, the feature store,
the fabric or a door: it changes no register of the start, the image, the fuses, the pins and the ports of access, and of the
Round and the governor only slots, requests and claims; and it keeps the byte stores in canonical form. -/

set_option linter.unusedTactic false
set_option linter.unreachableTactic false

namespace Sys2Proof.Machine

/-- What every operation of the running part leaves alone. -/
structure Keeps (s u : State) : Prop where
  pending : u.pending = s.pending
  now : u.now = s.now
  answer : u.answer = s.answer
  pins : u.pins = s.pins
  nv : u.nv = s.nv
  img : u.img = s.img
  start : u.start = s.start
  acc : u.acc = s.acc
  jtag : u.jtag = s.jtag
  cycle : u.cycle = s.cycle
  round : u.round = { s.round with
    slots := u.round.slots, deferred := u.round.deferred, defers := u.round.defers, armRefused := u.round.armRefused
    waiting := u.round.waiting, cancelled := u.round.cancelled }
  lehr : u.lehr = { s.lehr with claims := u.lehr.claims, idleRevs := u.lehr.idleRevs }
  cells : cellsWf 0 s.mem.cells = true → cellsWf 0 u.mem.cells = true
  sram : cellsWf 0 s.tiles.sram = true → cellsWf 0 u.tiles.sram = true

theorem Keeps.refl (s : State) : Keeps s s :=
  ⟨rfl, rfl, rfl, rfl, rfl, rfl, rfl, rfl, rfl, rfl, rfl, rfl, id, id⟩

theorem Keeps.mk' {s0 s : State} {free : Nat} {round : RoundSt} {lehr : LehrSt} {tiles : TilesSt} {sync : SyncSt} {mem : MemSt}
    {fs : FsSt} {lens : LensSt} {fab : FabSt} {part : PartSt} {flt : FltSt} (h : Keeps s0 s)
    (hr : round = { s.round with
      slots := round.slots, deferred := round.deferred, defers := round.defers, armRefused := round.armRefused
      waiting := round.waiting, cancelled := round.cancelled })
    (hl : lehr = { s.lehr with claims := lehr.claims, idleRevs := lehr.idleRevs })
    (hc : cellsWf 0 s.mem.cells = true → cellsWf 0 mem.cells = true)
    (hs : cellsWf 0 s.tiles.sram = true → cellsWf 0 tiles.sram = true) :
    Keeps s0 ⟨s.pending, s.now, free, s.answer, s.pins, s.nv, s.img, s.start, round, lehr, tiles, sync, mem, fs, lens, fab, part,
      flt, s.acc, s.jtag, s.cycle⟩ := by
  refine ⟨h.pending, h.now, h.answer, h.pins, h.nv, h.img, h.start, h.acc, h.jtag, h.cycle, ?_, ?_, fun x => hc (h.cells x),
    fun x => hs (h.sram x)⟩
  · rw [hr, h.round]
  · rw [hl, h.lehr]

theorem Keeps.trans {a b c : State} (h : Keeps a b) (k : Keeps b c) : Keeps a c := by
  refine ⟨k.pending.trans h.pending, k.now.trans h.now, k.answer.trans h.answer, k.pins.trans h.pins, k.nv.trans h.nv,
    k.img.trans h.img, k.start.trans h.start, k.acc.trans h.acc, k.jtag.trans h.jtag, k.cycle.trans h.cycle,
    ?_, ?_, fun x => k.cells (h.cells x), fun x => k.sram (h.sram x)⟩
  · rw [k.round, h.round]
  · rw [k.lehr, h.lehr]

theorem Keeps.ite {s0 a b : State} {c : Prop} [Decidable c] (ha : c → Keeps s0 a) (hb : ¬c → Keeps s0 b) :
    Keeps s0 (if c then a else b) := by
  split
  · exact ha ‹_›
  · exact hb ‹_›

theorem Keeps.foldl {α : Type} {s0 s : State} {f : State → α → State} {l : List α}
    (hf : ∀ s x, Keeps s0 s → Keeps s0 (f s x)) (h : Keeps s0 s) : Keeps s0 (l.foldl f s) := by
  induction l generalizing s with
  | nil => exact h
  | cons a r ih => exact ih (hf s a h)

theorem Keeps.foldl2 {α β : Type} {s0 : State} {x : β × State} {f : β × State → α → β × State} {l : List α}
    (hf : ∀ x a, Keeps s0 x.2 → Keeps s0 (f x a).2) (h : Keeps s0 x.2) : Keeps s0 (l.foldl f x).2 := by
  induction l generalizing x with
  | nil => exact h
  | cons a r ih => exact ih (hf x a h)

theorem Keeps.foldl22 {α β γ : Type} {s0 : State} {x : β × γ × State} {f : β × γ × State → α → β × γ × State} {l : List α}
    (hf : ∀ x a, Keeps s0 x.2.2 → Keeps s0 (f x a).2.2) (h : Keeps s0 x.2.2) : Keeps s0 (l.foldl f x).2.2 := by
  induction l generalizing x with
  | nil => exact h
  | cons a r ih => exact ih (hf x a h)

theorem Keeps.of_pair {β : Type} {s0 u : State} {x : β × State} {b : β} (e : x = (b, u)) (h : Keeps s0 x.2) : Keeps s0 u := by
  subst e; exact h

theorem Keeps.of_pair2 {β γ : Type} {s0 u : State} {x : β × γ × State} {b : β} {c : γ} (e : x = (b, c, u)) (h : Keeps s0 x.2.2) :
    Keeps s0 u := by
  subst e; exact h


theorem draw_keeps {s : State} {s0 : State} (hk : Keeps s0 s) :
    Keeps s0 (State.draw s).2 := by
  unfold State.draw
  try dsimp only
  repeat' first
    | (intro _; try dsimp only)
    | with_reducible assumption
    | (with_reducible refine Keeps.mk' ?_ rfl rfl (fun x => x) (fun x => x)
       first
         | with_reducible assumption)

theorem raiseFull_keeps {code unit : Nat} {ctx : Option Nat} {detail : Nat} {s : State} {s0 : State} (hk : Keeps s0 s) :
    Keeps s0 (raiseFull code unit ctx detail s) := by
  unfold raiseFull
  try dsimp only
  repeat' first
    | (intro _; try dsimp only)
    | with_reducible assumption
    | (with_reducible refine Keeps.mk' ?_ rfl rfl (fun x => x) (fun x => x)
       first
         | with_reducible assumption)

theorem raise_keeps {code unit : Nat} {s : State} {s0 : State} (hk : Keeps s0 s) :
    Keeps s0 (raise code unit s) := by
  unfold raise
  try dsimp only
  repeat' first
    | (intro _; try dsimp only)
    | with_reducible assumption
    | with_reducible apply raiseFull_keeps

theorem raise0_keeps {code : Nat} {s : State} {s0 : State} (hk : Keeps s0 s) :
    Keeps s0 (raise0 code s) := by
  unfold raise0
  try dsimp only
  repeat' first
    | (intro _; try dsimp only)
    | with_reducible assumption
    | with_reducible apply raise_keeps

theorem logFuse_keeps {index : Nat} {s : State} {s0 : State} (hk : Keeps s0 s) :
    Keeps s0 (logFuse index s) := by
  unfold logFuse
  try dsimp only
  repeat' first
    | (intro _; try dsimp only)
    | with_reducible assumption
    | (with_reducible refine Keeps.mk' ?_ rfl rfl (fun x => x) (fun x => x)
       first
         | with_reducible assumption)

theorem setTile_keeps {s : State} {t : Nat} {x : Tile} {s0 : State} (hk : Keeps s0 s) :
    Keeps s0 (State.setTile s t x) := by
  unfold State.setTile
  try dsimp only
  repeat' first
    | (intro _; try dsimp only)
    | with_reducible assumption
    | (with_reducible refine Keeps.mk' ?_ rfl rfl (fun x => x) (fun x => x)
       first
         | with_reducible assumption)

theorem updTile_keeps {t : Nat} {f : Tile → Tile} {s : State} {s0 : State} (hk : Keeps s0 s) :
    Keeps s0 (State.updTile t f s) := by
  unfold State.updTile
  try dsimp only
  repeat' first
    | (intro _; try dsimp only)
    | with_reducible assumption
    | with_reducible apply setTile_keeps

theorem updTask_keeps {t k : Nat} {f : Task → Task} {s : State} {s0 : State} (hk : Keeps s0 s) :
    Keeps s0 (State.updTask t k f s) := by
  unfold State.updTask
  try dsimp only
  repeat' first
    | (intro _ _ _; try dsimp only)
    | (intro _; try dsimp only)
    | with_reducible assumption
    | with_reducible apply updTile_keeps
    | (with_reducible refine Keeps.mk' ?_ rfl rfl (fun x => x) (fun x => x)
       first
         | with_reducible assumption
         | with_reducible apply updTile_keeps)

theorem updCluster_keeps {c : Nat} {f : Cluster → Cluster} {s : State} {s0 : State} (hk : Keeps s0 s) :
    Keeps s0 (State.updCluster c f s) := by
  unfold State.updCluster
  try dsimp only
  repeat' first
    | (intro _; try dsimp only)
    | with_reducible assumption
    | (with_reducible refine Keeps.mk' ?_ rfl rfl (fun x => x) (fun x => x)
       first
         | with_reducible assumption)

theorem updCmd_keeps {t k i : Nat} {f : Cmd → Cmd} {s : State} {s0 : State} (hk : Keeps s0 s) :
    Keeps s0 (State.updCmd t k i f s) := by
  unfold State.updCmd
  try dsimp only
  repeat' first
    | (intro _ _ _; try dsimp only)
    | (intro _; try dsimp only)
    | with_reducible assumption
    | with_reducible apply updTask_keeps

theorem taskFlags_keeps {t k w : Nat} {s : State} {s0 : State} (hk : Keeps s0 s) :
    Keeps s0 (State.taskFlags t k w s) := by
  unfold State.taskFlags
  try dsimp only
  repeat' first
    | (intro _ _ _; try dsimp only)
    | (intro _; try dsimp only)
    | with_reducible apply Keeps.ite
    | with_reducible assumption
    | with_reducible apply updTask_keeps
    | split
    | (with_reducible refine Keeps.mk' ?_ rfl rfl (fun x => x) (fun x => x)
       first
         | with_reducible assumption
         | with_reducible apply Keeps.ite
         | with_reducible apply updTask_keeps
         | split)

theorem countOutside_keeps {c : Nat} {s : State} {s0 : State} (hk : Keeps s0 s) :
    Keeps s0 (State.countOutside c s) := by
  unfold State.countOutside
  try dsimp only
  repeat' first
    | (intro _ _ _; try dsimp only)
    | (intro _; try dsimp only)
    | with_reducible assumption
    | with_reducible apply updCluster_keeps
    | (with_reducible refine Keeps.mk' ?_ rfl rfl (fun x => x) (fun x => x)
       first
         | with_reducible assumption
         | with_reducible apply updCluster_keeps)

theorem sramPut_keeps {t a : Nat} {b : Byte} {s s0 : State} (h : Keeps s0 s) : Keeps s0 (State.sramPut t a b s) :=
  Keeps.mk' h rfl rfl id (cellsWf_cellSet _ _)

theorem sramWrite_keeps {t a : Nat} {bs : List Byte} {s s0 : State} (h : Keeps s0 s) : Keeps s0 (State.sramWrite t a bs s) := by
  induction bs generalizing a s with
  | nil => exact h
  | cons b r ih => exact ih (sramPut_keeps h)

theorem tagLine_keeps {t a : Nat} {poison : Bool} {s : State} {s0 : State} (hk : Keeps s0 s) :
    Keeps s0 (State.tagLine t a poison s) := by
  unfold State.tagLine
  try dsimp only
  repeat' first
    | (intro _ _ _; try dsimp only)
    | (intro _; try dsimp only)
    | with_reducible apply Keeps.ite
    | with_reducible assumption
    | split
    | (with_reducible refine Keeps.mk' ?_ rfl rfl (fun x => x) (fun x => x)
       first
         | with_reducible assumption
         | with_reducible apply Keeps.ite
         | split)

theorem tagRange_keeps {t a n : Nat} {poison : Bool} {s : State} {s0 : State} (hk : Keeps s0 s) :
    Keeps s0 (State.tagRange t a n poison s) := by
  unfold State.tagRange
  try dsimp only
  repeat' first
    | (intro _ _ _; try dsimp only)
    | (intro _; try dsimp only)
    | with_reducible assumption
    | with_reducible apply tagLine_keeps
    | with_reducible apply Keeps.foldl
    | with_reducible apply Keeps.foldl2
    | with_reducible apply Keeps.foldl22

theorem sramStore_keeps {t a : Nat} {bs : List Byte} {poison : Bool} {s : State} {s0 : State} (hk : Keeps s0 s) :
    Keeps s0 (State.sramStore t a bs poison s) := by
  unfold State.sramStore
  try dsimp only
  repeat' first
    | (intro _; try dsimp only)
    | with_reducible apply Keeps.ite
    | with_reducible assumption
    | with_reducible apply sramWrite_keeps
    | with_reducible apply tagRange_keeps
    | split

theorem setFull_keeps {t i : Nat} {full : Bool} {s : State} {s0 : State} (hk : Keeps s0 s) :
    Keeps s0 (State.setFull t i full s) := by
  unfold State.setFull
  try dsimp only
  repeat' first
    | (intro _ _ _; try dsimp only)
    | (intro _; try dsimp only)
    | with_reducible apply Keeps.ite
    | with_reducible assumption
    | split
    | (with_reducible refine Keeps.mk' ?_ rfl rfl (fun x => x) (fun x => x)
       first
         | with_reducible assumption
         | with_reducible apply Keeps.ite
         | split)

theorem updChan_keeps {c : Nat} {f : Chan → Chan} {s : State} {s0 : State} (hk : Keeps s0 s) :
    Keeps s0 (State.updChan c f s) := by
  unfold State.updChan
  try dsimp only
  repeat' first
    | (intro _; try dsimp only)
    | with_reducible assumption
    | (with_reducible refine Keeps.mk' ?_ rfl rfl (fun x => x) (fun x => x)
       first
         | with_reducible assumption)

theorem setPoison_keeps {k : Nat} {poison : Bool} {s : State} {s0 : State} (hk : Keeps s0 s) :
    Keeps s0 (State.setPoison k poison s) := by
  unfold State.setPoison
  try dsimp only
  repeat' first
    | (intro _ _ _; try dsimp only)
    | (intro _; try dsimp only)
    | with_reducible apply Keeps.ite
    | with_reducible assumption
    | split
    | (with_reducible refine Keeps.mk' ?_ rfl rfl (fun x => x) (fun x => x)
       first
         | with_reducible assumption
         | with_reducible apply Keeps.ite
         | split)

theorem putByte_keeps {c off : Nat} {b : Byte} {s s0 : State} (h : Keeps s0 s) : Keeps s0 (State.putByte c off b s) :=
  Keeps.mk' h rfl rfl (cellsWf_cellSet _ _) id

theorem takeSlot_keeps {c : Nat} {x : Slot} {s : State} {s0 : State} (hk : Keeps s0 s) :
    Keeps s0 (takeSlot c x s) := by
  unfold takeSlot
  try dsimp only
  repeat' first
    | (intro _ _ _; try dsimp only)
    | (intro _; try dsimp only)
    | with_reducible assumption
    | with_reducible apply updChan_keeps
    | (with_reducible refine Keeps.mk' ?_ rfl rfl (fun x => x) (fun x => x)
       first
         | with_reducible assumption
         | with_reducible apply updChan_keeps)

theorem reservedRead_keeps {c off n : Nat} {s : State} {s0 : State} (hk : Keeps s0 s) :
    Keeps s0 (reservedRead c off n s) := by
  unfold reservedRead
  try dsimp only
  repeat' first
    | (intro _; try dsimp only)
    | with_reducible assumption
    | with_reducible apply takeSlot_keeps
    | (with_reducible refine Keeps.mk' ?_ rfl rfl (fun x => x) (fun x => x)
       first
         | with_reducible assumption
         | with_reducible apply takeSlot_keeps)

theorem writeEntry_keeps {c : Nat} {w : Wcb} {s : State} {s0 : State} (hk : Keeps s0 s) :
    Keeps s0 (writeEntry c w s) := by
  unfold writeEntry
  try dsimp only
  repeat' first
    | (intro _ _ _; try dsimp only)
    | (intro _; try dsimp only)
    | with_reducible assumption
    | with_reducible apply setPoison_keeps
    | with_reducible apply putByte_keeps
    | with_reducible apply updChan_keeps
    | with_reducible apply Keeps.foldl
    | with_reducible apply Keeps.foldl2
    | with_reducible apply Keeps.foldl22
    | (with_reducible refine Keeps.mk' ?_ rfl rfl (fun x => x) (fun x => x)
       first
         | with_reducible assumption
         | with_reducible apply setPoison_keeps
         | with_reducible apply putByte_keeps
         | with_reducible apply updChan_keeps
         | with_reducible apply Keeps.foldl
         | with_reducible apply Keeps.foldl2
         | with_reducible apply Keeps.foldl22)

theorem evictRead_keeps {c : Nat} {w : Wcb} {s : State} {s0 : State} (hk : Keeps s0 s) :
    Keeps s0 (evictRead c w s) := by
  unfold evictRead
  try dsimp only
  repeat' first
    | (intro _; try dsimp only)
    | with_reducible apply Keeps.ite
    | with_reducible assumption
    | with_reducible apply reservedRead_keeps
    | split

theorem evictEntry_keeps {c : Nat} {w : Wcb} {s : State} {s0 : State} (hk : Keeps s0 s) :
    Keeps s0 (evictEntry c w s) := by
  unfold evictEntry
  try dsimp only
  repeat' first
    | (intro _ _ _; try dsimp only)
    | (intro _; try dsimp only)
    | with_reducible assumption
    | with_reducible apply writeEntry_keeps
    | with_reducible apply evictRead_keeps
    | with_reducible apply updChan_keeps
    | (with_reducible refine Keeps.mk' ?_ rfl rfl (fun x => x) (fun x => x)
       first
         | with_reducible assumption
         | with_reducible apply writeEntry_keeps
         | with_reducible apply evictRead_keeps
         | with_reducible apply updChan_keeps)

theorem evictLine_keeps {c line : Nat} {s : State} {s0 : State} (hk : Keeps s0 s) :
    Keeps s0 (evictLine c line s) := by
  unfold evictLine
  try dsimp only
  repeat' first
    | (intro _; try dsimp only)
    | with_reducible apply Keeps.ite
    | with_reducible assumption
    | with_reducible apply evictEntry_keeps
    | split
    | (with_reducible refine Keeps.mk' ?_ rfl rfl (fun x => x) (fun x => x)
       first
         | with_reducible assumption
         | with_reducible apply Keeps.ite
         | with_reducible apply evictEntry_keeps
         | split)

theorem makeRoom_keeps {c : Nat} {s : State} {s0 : State} (hk : Keeps s0 s) :
    Keeps s0 (makeRoom c s) := by
  unfold makeRoom
  try dsimp only
  repeat' first
    | (intro _ _ _; try dsimp only)
    | (intro _; try dsimp only)
    | with_reducible apply Keeps.ite
    | with_reducible assumption
    | with_reducible apply evictEntry_keeps
    | split
    | (with_reducible refine Keeps.mk' ?_ rfl rfl (fun x => x) (fun x => x)
       first
         | with_reducible assumption
         | with_reducible apply Keeps.ite
         | with_reducible apply evictEntry_keeps
         | split)

theorem wcbWrite_keeps {c off : Nat} {bs : List Byte} {poison : Bool} {s : State} {s0 : State} (hk : Keeps s0 s) :
    Keeps s0 (wcbWrite c off bs poison s) := by
  unfold wcbWrite
  try dsimp only
  repeat' first
    | (intro _ _ _; try dsimp only)
    | (intro _; try dsimp only)
    | with_reducible apply Keeps.ite
    | with_reducible assumption
    | with_reducible apply makeRoom_keeps
    | with_reducible apply updChan_keeps
    | with_reducible apply evictLine_keeps
    | split
    | (with_reducible refine Keeps.mk' ?_ rfl rfl (fun x => x) (fun x => x)
       first
         | with_reducible assumption
         | with_reducible apply Keeps.ite
         | with_reducible apply makeRoom_keeps
         | with_reducible apply updChan_keeps
         | with_reducible apply evictLine_keeps
         | split)

theorem devWriteLines_keeps {x0 : Nat} {x1 : Nat} {x2 : List Byte} {x3 : Bool} {s : State} {s0 : State} (hk : Keeps s0 s) :
    Keeps s0 (devWriteLines x0 x1 x2 x3 s) := by
  induction x0 generalizing x1 x2 x3 s with
  | zero =>
    simp only [devWriteLines]
    try dsimp only
    repeat' first
      | (intro _; try dsimp only)
      | with_reducible apply Keeps.ite
      | with_reducible assumption
      | with_reducible apply wcbWrite_keeps
      | split
  | succ n ih =>
    simp only [devWriteLines]
    try dsimp only
    repeat' first
      | (intro _; try dsimp only)
      | with_reducible apply Keeps.ite
      | with_reducible assumption
      | with_reducible apply ih
      | with_reducible apply wcbWrite_keeps
      | split

theorem devWrite_keeps {d : Nat} {bs : List Byte} {poison : Bool} {s : State} {s0 : State} (hk : Keeps s0 s) :
    Keeps s0 (devWrite d bs poison s) := by
  unfold devWrite
  try dsimp only
  repeat' first
    | (intro _; try dsimp only)
    | with_reducible assumption
    | with_reducible apply devWriteLines_keeps

theorem pushReq_keeps {r : Req} {s : State} {s0 : State} (hk : Keeps s0 s) :
    Keeps s0 (pushReq r s) := by
  unfold pushReq
  try dsimp only
  repeat' first
    | (intro _ _ _; try dsimp only)
    | (intro _; try dsimp only)
    | with_reducible assumption
    | with_reducible apply updChan_keeps
    | (with_reducible refine Keeps.mk' ?_ rfl rfl (fun x => x) (fun x => x)
       first
         | with_reducible assumption
         | with_reducible apply updChan_keeps)

theorem seeRuns_keeps {queue : Nat} {x0 : Nat} {x1 : Nat} {x2 : Nat} {s : State} {s0 : State} (hk : Keeps s0 s) :
    Keeps s0 (seeRuns queue x0 x1 x2 s) := by
  induction x0 generalizing queue x1 x2 s with
  | zero =>
    simp only [seeRuns]
    try dsimp only
    repeat' first
      | (intro _; try dsimp only)
      | with_reducible apply Keeps.ite
      | with_reducible assumption
      | with_reducible apply pushReq_keeps
      | split
  | succ n ih =>
    simp only [seeRuns]
    try dsimp only
    repeat' first
      | (intro _; try dsimp only)
      | with_reducible apply Keeps.ite
      | with_reducible assumption
      | with_reducible apply ih
      | with_reducible apply pushReq_keeps
      | split

theorem seeDev_keeps {queue d n : Nat} {s : State} {s0 : State} (hk : Keeps s0 s) :
    Keeps s0 (seeDev queue d n s) := by
  unfold seeDev
  try dsimp only
  repeat' first
    | (intro _; try dsimp only)
    | with_reducible assumption
    | with_reducible apply seeRuns_keeps

theorem countWrites_keeps {key : Nat} {d : Int} {s : State} {s0 : State} (hk : Keeps s0 s) :
    Keeps s0 (countWrites key d s) := by
  unfold countWrites
  try dsimp only
  repeat' first
    | (intro _ _ _; try dsimp only)
    | (intro _; try dsimp only)
    | with_reducible apply Keeps.ite
    | with_reducible assumption
    | split
    | (with_reducible refine Keeps.mk' ?_ rfl rfl (fun x => x) (fun x => x)
       first
         | with_reducible assumption
         | with_reducible apply Keeps.ite
         | split)

theorem noteWrite_keeps {queue d n : Nat} {key : Option Nat} {s : State} {s0 : State} (hk : Keeps s0 s) :
    Keeps s0 (noteWrite queue d n key s) := by
  unfold noteWrite
  try dsimp only
  repeat' first
    | (intro _; try dsimp only)
    | with_reducible assumption
    | with_reducible apply pushReq_keeps
    | with_reducible apply countWrites_keeps
    | split
    | (with_reducible refine Keeps.mk' ?_ rfl rfl (fun x => x) (fun x => x)
       first
         | with_reducible assumption
         | with_reducible apply pushReq_keeps
         | with_reducible apply countWrites_keeps
         | split)

theorem ctxWriteLines_keeps {cluster queue ctx : Nat} {key : Option Nat} {x0 : Nat} {x1 : Nat} {x2 : List Byte} {x3 : Bool} {s : State} {s0 : State} (hk : Keeps s0 s) :
    Keeps s0 (ctxWriteLines cluster queue ctx key x0 x1 x2 x3 s) := by
  induction x0 generalizing cluster queue ctx key x1 x2 x3 s with
  | zero =>
    simp only [ctxWriteLines]
    try dsimp only
    repeat' first
      | (intro _; try dsimp only)
      | with_reducible apply Keeps.ite
      | with_reducible assumption
      | with_reducible apply noteWrite_keeps
      | with_reducible apply devWrite_keeps
      | with_reducible apply countOutside_keeps
      | split
      | (with_reducible refine Keeps.mk' ?_ rfl rfl (fun x => x) (fun x => x)
         first
           | with_reducible assumption
           | with_reducible apply Keeps.ite
           | with_reducible apply noteWrite_keeps
           | with_reducible apply devWrite_keeps
           | with_reducible apply countOutside_keeps
           | split)
  | succ n ih =>
    simp only [ctxWriteLines]
    try dsimp only
    repeat' first
      | (intro _; try dsimp only)
      | with_reducible apply Keeps.ite
      | with_reducible assumption
      | with_reducible apply ih
      | with_reducible apply noteWrite_keeps
      | with_reducible apply devWrite_keeps
      | with_reducible apply countOutside_keeps
      | split
      | (with_reducible refine Keeps.mk' ?_ rfl rfl (fun x => x) (fun x => x)
         first
           | with_reducible assumption
           | with_reducible apply Keeps.ite
           | with_reducible apply ih
           | with_reducible apply noteWrite_keeps
           | with_reducible apply devWrite_keeps
           | with_reducible apply countOutside_keeps
           | split)

theorem ctxWrite_keeps {cluster queue ctx a : Nat} {key : Option Nat} {bs : List Byte} {poison : Bool} {s : State} {s0 : State} (hk : Keeps s0 s) :
    Keeps s0 (ctxWrite cluster queue ctx a key bs poison s) := by
  unfold ctxWrite
  try dsimp only
  repeat' first
    | (intro _; try dsimp only)
    | with_reducible assumption
    | with_reducible apply ctxWriteLines_keeps

theorem seeCtxRuns_keeps {cluster queue ctx : Nat} {x0 : Nat} {x1 : Nat} {x2 : Nat} {s : State} {s0 : State} (hk : Keeps s0 s) :
    Keeps s0 (seeCtxRuns cluster queue ctx x0 x1 x2 s) := by
  induction x0 generalizing cluster queue ctx x1 x2 s with
  | zero =>
    simp only [seeCtxRuns]
    try dsimp only
    repeat' first
      | (intro _; try dsimp only)
      | with_reducible apply Keeps.ite
      | with_reducible assumption
      | with_reducible apply pushReq_keeps
      | with_reducible apply countOutside_keeps
      | split
      | (with_reducible refine Keeps.mk' ?_ rfl rfl (fun x => x) (fun x => x)
         first
           | with_reducible assumption
           | with_reducible apply Keeps.ite
           | with_reducible apply pushReq_keeps
           | with_reducible apply countOutside_keeps
           | split)
  | succ n ih =>
    simp only [seeCtxRuns]
    try dsimp only
    repeat' first
      | (intro _; try dsimp only)
      | with_reducible apply Keeps.ite
      | with_reducible assumption
      | with_reducible apply ih
      | with_reducible apply pushReq_keeps
      | with_reducible apply countOutside_keeps
      | split
      | (with_reducible refine Keeps.mk' ?_ rfl rfl (fun x => x) (fun x => x)
         first
           | with_reducible assumption
           | with_reducible apply Keeps.ite
           | with_reducible apply ih
           | with_reducible apply pushReq_keeps
           | with_reducible apply countOutside_keeps
           | split)

theorem seeCtx_keeps {cluster queue ctx a n : Nat} {s : State} {s0 : State} (hk : Keeps s0 s) :
    Keeps s0 (seeCtx cluster queue ctx a n s) := by
  unfold seeCtx
  try dsimp only
  repeat' first
    | (intro _; try dsimp only)
    | with_reducible assumption
    | with_reducible apply seeCtxRuns_keeps

theorem memAdd_keeps {fp wide poison : Bool} {d e : Nat} {s : State} {s0 : State} (hk : Keeps s0 s) :
    Keeps s0 (memAdd fp wide poison d e s).2 := by
  unfold memAdd
  try dsimp only
  repeat' first
    | (intro _ _ _; try dsimp only)
    | (intro _; try dsimp only)
    | with_reducible apply Keeps.ite
    | with_reducible assumption
    | with_reducible apply devWrite_keeps
    | with_reducible apply updChan_keeps
    | split
    | (with_reducible refine Keeps.mk' ?_ rfl rfl (fun x => x) (fun x => x)
       first
         | with_reducible assumption
         | with_reducible apply Keeps.ite
         | with_reducible apply devWrite_keeps
         | with_reducible apply updChan_keeps
         | split)

theorem memAdds_keeps {fp wide poison : Bool} {x0 : Nat} {x1 : List Nat} {s : State} {s0 : State} (hk : Keeps s0 s) :
    Keeps s0 (memAdds fp wide poison x0 x1 s).2 := by
  induction x1 generalizing fp wide poison x0 s with
  | nil =>
    simp only [memAdds]
    try dsimp only
    repeat' first
      | (intro _; try dsimp only)
      | with_reducible assumption
      | with_reducible apply memAdd_keeps
      | refine Keeps.of_pair (by with_reducible assumption) (memAdd_keeps ?_)
  | cons b r ih =>
    simp only [memAdds]
    try dsimp only
    repeat' first
      | (intro _; try dsimp only)
      | with_reducible assumption
      | with_reducible apply ih
      | with_reducible apply memAdd_keeps
      | refine Keeps.of_pair (by with_reducible assumption) (memAdd_keeps ?_)
      | refine Keeps.of_pair (by with_reducible assumption) (ih ?_)

theorem flushAdd_keeps {l : AtomicLine} {acc : Nat × State} {o : Nat} {s0 : State} (hk : Keeps s0 acc.2) :
    Keeps s0 (flushAdd l acc o).2 := by
  unfold flushAdd
  try dsimp only
  repeat' first
    | (intro _; try dsimp only)
    | with_reducible apply Keeps.ite
    | with_reducible assumption
    | with_reducible apply devWrite_keeps
    | with_reducible apply updChan_keeps
    | split

theorem flushLine_keeps {l : AtomicLine} {s : State} {s0 : State} (hk : Keeps s0 s) :
    Keeps s0 (flushLine l s).2 := by
  unfold flushLine
  try dsimp only
  repeat' first
    | (intro _ _ _; try dsimp only)
    | (intro _; try dsimp only)
    | with_reducible assumption
    | with_reducible apply flushAdd_keeps
    | with_reducible apply Keeps.foldl
    | with_reducible apply Keeps.foldl2
    | with_reducible apply Keeps.foldl22
    | (with_reducible refine Keeps.mk' ?_ rfl rfl (fun x => x) (fun x => x)
       first
         | with_reducible assumption
         | with_reducible apply Keeps.foldl
         | with_reducible apply Keeps.foldl2
         | with_reducible apply Keeps.foldl22)

theorem flushContext_keeps {cluster ctx : Nat} {s : State} {s0 : State} (hk : Keeps s0 s) :
    Keeps s0 (flushContext cluster ctx s).2 := by
  unfold flushContext
  try dsimp only
  repeat' first
    | (intro _ _ _; try dsimp only)
    | (intro _; try dsimp only)
    | with_reducible assumption
    | with_reducible apply flushLine_keeps
    | refine Keeps.of_pair (by with_reducible assumption) (flushLine_keeps ?_)
    | with_reducible apply Keeps.foldl
    | with_reducible apply Keeps.foldl2
    | with_reducible apply Keeps.foldl22

theorem touchLine_keeps {cluster ctx queue line phase : Nat} {fp wide : Bool} {s : State} {s0 : State} (hk : Keeps s0 s) :
    Keeps s0 (touchLine cluster ctx queue line phase fp wide s).2 := by
  unfold touchLine
  try dsimp only
  repeat' first
    | (intro _ _ _; try dsimp only)
    | (intro _; try dsimp only)
    | with_reducible apply Keeps.ite
    | with_reducible assumption
    | with_reducible apply flushLine_keeps
    | refine Keeps.of_pair (by with_reducible assumption) (flushLine_keeps ?_)
    | with_reducible apply seeDev_keeps
    | split
    | (with_reducible refine Keeps.mk' ?_ rfl rfl (fun x => x) (fun x => x)
       first
         | with_reducible assumption
         | with_reducible apply Keeps.ite
         | with_reducible apply flushLine_keeps
         | refine Keeps.of_pair (by with_reducible assumption) (flushLine_keeps ?_)
         | with_reducible apply seeDev_keeps
         | split)

theorem lineAdd_keeps {cluster ctx queue d e : Nat} {fp wide poison : Bool} {s : State} {s0 : State} (hk : Keeps s0 s) :
    Keeps s0 (lineAdd cluster ctx queue d e fp wide poison s).2 := by
  unfold lineAdd
  try dsimp only
  repeat' first
    | (intro _ _ _; try dsimp only)
    | (intro _; try dsimp only)
    | with_reducible apply Keeps.ite
    | with_reducible assumption
    | with_reducible apply touchLine_keeps
    | refine Keeps.of_pair (by with_reducible assumption) (touchLine_keeps ?_)
    | split
    | (with_reducible refine Keeps.mk' ?_ rfl rfl (fun x => x) (fun x => x)
       first
         | with_reducible assumption
         | with_reducible apply Keeps.ite
         | with_reducible apply touchLine_keeps
         | refine Keeps.of_pair (by with_reducible assumption) (touchLine_keeps ?_)
         | split)

theorem lineAdds_keeps {cluster ctx queue : Nat} {fp wide poison : Bool} {x0 : Nat} {x1 : List Nat} {s : State} {s0 : State} (hk : Keeps s0 s) :
    Keeps s0 (lineAdds cluster ctx queue fp wide poison x0 x1 s).2 := by
  induction x1 generalizing cluster ctx queue fp wide poison x0 s with
  | nil =>
    simp only [lineAdds]
    try dsimp only
    repeat' first
      | (intro _; try dsimp only)
      | with_reducible assumption
      | with_reducible apply lineAdd_keeps
      | refine Keeps.of_pair (by with_reducible assumption) (lineAdd_keeps ?_)
  | cons b r ih =>
    simp only [lineAdds]
    try dsimp only
    repeat' first
      | (intro _; try dsimp only)
      | with_reducible assumption
      | with_reducible apply ih
      | with_reducible apply lineAdd_keeps
      | refine Keeps.of_pair (by with_reducible assumption) (lineAdd_keeps ?_)
      | refine Keeps.of_pair (by with_reducible assumption) (ih ?_)

theorem beginRetire_keeps {c page cause : Nat} {s : State} {s0 : State} (hk : Keeps s0 s) :
    Keeps s0 (beginRetire c page cause s) := by
  unfold beginRetire
  try dsimp only
  repeat' first
    | (intro _ _ _; try dsimp only)
    | (intro _; try dsimp only)
    | with_reducible apply Keeps.ite
    | with_reducible assumption
    | with_reducible apply updChan_keeps
    | with_reducible apply raise_keeps
    | split
    | (with_reducible refine Keeps.mk' ?_ rfl rfl (fun x => x) (fun x => x)
       first
         | with_reducible assumption
         | with_reducible apply Keeps.ite
         | with_reducible apply updChan_keeps
         | with_reducible apply raise_keeps
         | split)

theorem foundCe_keeps {c raw page : Nat} {s : State} {s0 : State} (hk : Keeps s0 s) :
    Keeps s0 (foundCe c raw page s) := by
  unfold foundCe
  try dsimp only
  repeat' first
    | (intro _ _ _; try dsimp only)
    | (intro _; try dsimp only)
    | with_reducible apply Keeps.ite
    | with_reducible assumption
    | with_reducible apply updChan_keeps
    | with_reducible apply beginRetire_keeps
    | split
    | (with_reducible refine Keeps.mk' ?_ rfl rfl (fun x => x) (fun x => x)
       first
         | with_reducible assumption
         | with_reducible apply Keeps.ite
         | with_reducible apply updChan_keeps
         | with_reducible apply beginRetire_keeps
         | split)

theorem foundUe_keeps {c raw page : Nat} {stale retire : Bool} {s : State} {s0 : State} (hk : Keeps s0 s) :
    Keeps s0 (foundUe c raw page stale retire s) := by
  unfold foundUe
  try dsimp only
  repeat' first
    | (intro _ _ _; try dsimp only)
    | (intro _; try dsimp only)
    | with_reducible apply Keeps.ite
    | with_reducible assumption
    | with_reducible apply setPoison_keeps
    | with_reducible apply updChan_keeps
    | with_reducible apply raiseFull_keeps
    | with_reducible apply beginRetire_keeps
    | split
    | (with_reducible refine Keeps.mk' ?_ rfl rfl (fun x => x) (fun x => x)
       first
         | with_reducible assumption
         | with_reducible apply Keeps.ite
         | with_reducible apply setPoison_keeps
         | with_reducible apply updChan_keeps
         | with_reducible apply raiseFull_keeps
         | with_reducible apply beginRetire_keeps
         | split)

theorem foundLink_keeps {c : Nat} {s : State} {s0 : State} (hk : Keeps s0 s) :
    Keeps s0 (foundLink c s) := by
  unfold foundLink
  try dsimp only
  repeat' first
    | (intro _ _ _; try dsimp only)
    | (intro _; try dsimp only)
    | with_reducible assumption
    | with_reducible apply updChan_keeps
    | (with_reducible refine Keeps.mk' ?_ rfl rfl (fun x => x) (fun x => x)
       first
         | with_reducible assumption
         | with_reducible apply updChan_keeps)

theorem foundAt_keeps {c off : Nat} {e : Ecc} {stale : Bool} {s : State} {s0 : State} (hk : Keeps s0 s) :
    Keeps s0 (foundAt c off e stale s) := by
  unfold foundAt
  try dsimp only
  repeat' first
    | (intro _; try dsimp only)
    | with_reducible assumption
    | with_reducible apply foundLink_keeps
    | with_reducible apply foundCe_keeps
    | with_reducible apply foundUe_keeps
    | split
    | (with_reducible refine Keeps.mk' ?_ rfl rfl (fun x => x) (fun x => x)
       first
         | with_reducible assumption
         | with_reducible apply foundLink_keeps
         | with_reducible apply foundCe_keeps
         | with_reducible apply foundUe_keeps
         | split)

theorem copyPage_keeps {c page spare : Nat} {s s0 : State} (h : Keeps s0 s) : Keeps s0 (copyPage c page spare s) :=
  Keeps.mk' h rfl rfl
    (fun w => by
      generalize s.mem.cells.filter _ = l
      have := cellsWf_clearRange (u := 0#8) (rawKeyOf c (s.pageRaw (spareCode spare))) 65536 w
      revert this
      generalize clearRange _ _ _ = m
      intro this
      induction l generalizing m with
      | nil => exact this
      | cons x r ih => exact ih _ (cellsWf_cellSet _ _ this)) id

theorem copyFinding_keeps {c spare page : Nat} {e : EccAt} {s : State} {s0 : State} (hk : Keeps s0 s) :
    Keeps s0 (copyFinding c spare page e s) := by
  unfold copyFinding
  try dsimp only
  repeat' first
    | (intro _ _ _; try dsimp only)
    | (intro _; try dsimp only)
    | with_reducible apply Keeps.ite
    | with_reducible assumption
    | with_reducible apply foundLink_keeps
    | with_reducible apply updChan_keeps
    | with_reducible apply setPoison_keeps
    | with_reducible apply raiseFull_keeps
    | split
    | (with_reducible refine Keeps.mk' ?_ rfl rfl (fun x => x) (fun x => x)
       first
         | with_reducible assumption
         | with_reducible apply Keeps.ite
         | with_reducible apply foundLink_keeps
         | with_reducible apply updChan_keeps
         | with_reducible apply setPoison_keeps
         | with_reducible apply raiseFull_keeps
         | split)

theorem storeDone_keeps {r : Req} {w : Nat} {s : State} {s0 : State} (hk : Keeps s0 s) :
    Keeps s0 (storeDone r w s) := by
  unfold storeDone
  try dsimp only
  repeat' first
    | (intro _ _ _; try dsimp only)
    | (intro _; try dsimp only)
    | with_reducible apply Keeps.ite
    | with_reducible assumption
    | with_reducible apply updCmd_keeps
    | with_reducible apply taskFlags_keeps
    | split
    | (with_reducible refine Keeps.mk' ?_ rfl rfl (fun x => x) (fun x => x)
       first
         | with_reducible assumption
         | with_reducible apply Keeps.ite
         | with_reducible apply updCmd_keeps
         | with_reducible apply taskFlags_keeps
         | split)

theorem loadDone_keeps {id : Nat} {s : State} {s0 : State} (hk : Keeps s0 s) :
    Keeps s0 (loadDone id s) := by
  unfold loadDone
  try dsimp only
  repeat' first
    | (intro _ _ _; try dsimp only)
    | (intro _; try dsimp only)
    | with_reducible apply Keeps.ite
    | with_reducible assumption
    | split
    | (with_reducible refine Keeps.mk' ?_ rfl rfl (fun x => x) (fun x => x)
       first
         | with_reducible assumption
         | with_reducible apply Keeps.ite
         | split)

theorem landBytes_keeps {t dst : Nat} {bs : List (Byte × Bool)} {s : State} {s0 : State} (hk : Keeps s0 s) :
    Keeps s0 (landBytes t dst bs s) := by
  unfold landBytes
  try dsimp only
  repeat' first
    | (intro _ _ _; try dsimp only)
    | (intro _; try dsimp only)
    | with_reducible apply Keeps.ite
    | with_reducible assumption
    | with_reducible apply sramWrite_keeps
    | with_reducible apply tagLine_keeps
    | with_reducible apply Keeps.foldl
    | with_reducible apply Keeps.foldl2
    | with_reducible apply Keeps.foldl22
    | split

theorem landRead_keeps {r : Req} {land : List Landing} {data : List (Byte × Bool)} {s : State} {s0 : State} (hk : Keeps s0 s) :
    Keeps s0 (landRead r land data s) := by
  unfold landRead
  try dsimp only
  repeat' first
    | (intro _ _ _; try dsimp only)
    | (intro _; try dsimp only)
    | with_reducible apply Keeps.ite
    | with_reducible assumption
    | with_reducible apply landBytes_keeps
    | with_reducible apply Keeps.foldl
    | with_reducible apply Keeps.foldl2
    | with_reducible apply Keeps.foldl22
    | split

theorem landIndex_keeps {r : Req} {land : List Landing} {data : List (Byte × Bool)} {s : State} {s0 : State} (hk : Keeps s0 s) :
    Keeps s0 (landIndex r land data s) := by
  unfold landIndex
  try dsimp only
  repeat' first
    | (intro _ _ _; try dsimp only)
    | (intro _; try dsimp only)
    | with_reducible apply Keeps.ite
    | with_reducible assumption
    | with_reducible apply updCmd_keeps
    | split
    | (with_reducible refine Keeps.mk' ?_ rfl rfl (fun x => x) (fun x => x)
       first
         | with_reducible assumption
         | with_reducible apply Keeps.ite
         | with_reducible apply updCmd_keeps
         | split)

theorem landCommand_keeps {r : Req} {data : List (Byte × Bool)} {s : State} {s0 : State} (hk : Keeps s0 s) :
    Keeps s0 (landCommand r data s) := by
  unfold landCommand
  try dsimp only
  repeat' first
    | (intro _ _ _; try dsimp only)
    | (intro _; try dsimp only)
    | with_reducible apply Keeps.ite
    | with_reducible assumption
    | with_reducible apply updCmd_keeps
    | split
    | (with_reducible refine Keeps.mk' ?_ rfl rfl (fun x => x) (fun x => x)
       first
         | with_reducible assumption
         | with_reducible apply Keeps.ite
         | with_reducible apply updCmd_keeps
         | split)

theorem landSectors_keeps {row off : Nat} {data : List (Byte × Bool)} {s : State} {s0 : State} (hk : Keeps s0 s) :
    Keeps s0 (landSectors row off data s) := by
  unfold landSectors
  try dsimp only
  repeat' first
    | (intro _ _ _; try dsimp only)
    | (intro _; try dsimp only)
    | with_reducible apply Keeps.ite
    | with_reducible assumption
    | split
    | (with_reducible refine Keeps.mk' ?_ rfl rfl (fun x => x) (fun x => x)
       first
         | with_reducible assumption
         | with_reducible apply Keeps.ite
         | split)

theorem answerRead_keeps {r : Req} {data : List (Byte × Bool)} {s : State} {s0 : State} (hk : Keeps s0 s) :
    Keeps s0 (answerRead r data s) := by
  unfold answerRead
  try dsimp only
  repeat' first
    | (intro _; try dsimp only)
    | with_reducible assumption
    | with_reducible apply landRead_keeps
    | with_reducible apply landIndex_keeps
    | with_reducible apply landCommand_keeps
    | with_reducible apply landSectors_keeps
    | split
    | (with_reducible refine Keeps.mk' ?_ rfl rfl (fun x => x) (fun x => x)
       first
         | with_reducible assumption
         | with_reducible apply landRead_keeps
         | with_reducible apply landIndex_keeps
         | with_reducible apply landCommand_keeps
         | with_reducible apply landSectors_keeps
         | split)

theorem ackWrite_keeps {r : Req} {w : Nat} {s : State} {s0 : State} (hk : Keeps s0 s) :
    Keeps s0 (ackWrite r w s) := by
  unfold ackWrite
  try dsimp only
  repeat' first
    | (intro _; try dsimp only)
    | with_reducible assumption
    | with_reducible apply storeDone_keeps
    | with_reducible apply countWrites_keeps
    | with_reducible apply loadDone_keeps
    | split
    | (with_reducible refine Keeps.mk' ?_ rfl rfl (fun x => x) (fun x => x)
       first
         | with_reducible assumption
         | with_reducible apply storeDone_keeps
         | with_reducible apply countWrites_keeps
         | with_reducible apply loadDone_keeps
         | split)

theorem discardAck_keeps {r : Req} {s : State} {s0 : State} (hk : Keeps s0 s) :
    Keeps s0 (discardAck r s) := by
  unfold discardAck
  try dsimp only
  repeat' first
    | (intro _; try dsimp only)
    | with_reducible assumption
    | with_reducible apply ackWrite_keeps
    | with_reducible apply answerRead_keeps

theorem answerOutside_keeps {r : Req} {s : State} {s0 : State} (hk : Keeps s0 s) :
    Keeps s0 (answerOutside r s) := by
  unfold answerOutside
  try dsimp only
  repeat' first
    | (intro _; try dsimp only)
    | with_reducible apply Keeps.ite
    | with_reducible assumption
    | with_reducible apply discardAck_keeps
    | with_reducible apply countOutside_keeps
    | split

theorem enqueueReq_keeps {r : Req} {s : State} {s0 : State} (hk : Keeps s0 s) :
    Keeps s0 (enqueueReq r s) := by
  unfold enqueueReq
  try dsimp only
  repeat' first
    | (intro _; try dsimp only)
    | with_reducible apply Keeps.ite
    | with_reducible assumption
    | with_reducible apply answerOutside_keeps
    | with_reducible apply lineAdds_keeps
    | refine Keeps.of_pair (by with_reducible assumption) (lineAdds_keeps ?_)
    | with_reducible apply ackWrite_keeps
    | with_reducible apply pushReq_keeps
    | split
    | (with_reducible refine Keeps.mk' ?_ rfl rfl (fun x => x) (fun x => x)
       first
         | with_reducible assumption
         | with_reducible apply Keeps.ite
         | with_reducible apply answerOutside_keeps
         | with_reducible apply lineAdds_keeps
         | refine Keeps.of_pair (by with_reducible assumption) (lineAdds_keeps ?_)
         | with_reducible apply ackWrite_keeps
         | with_reducible apply pushReq_keeps
         | split)

theorem issueReq_keeps {r : Req} {s : State} {s0 : State} (hk : Keeps s0 s) :
    Keeps s0 (issueReq r s) := by
  unfold issueReq
  try dsimp only
  repeat' first
    | (intro _ _ _; try dsimp only)
    | (intro _; try dsimp only)
    | with_reducible apply Keeps.ite
    | with_reducible assumption
    | with_reducible apply enqueueReq_keeps
    | split
    | (with_reducible refine Keeps.mk' ?_ rfl rfl (fun x => x) (fun x => x)
       first
         | with_reducible assumption
         | with_reducible apply Keeps.ite
         | with_reducible apply enqueueReq_keeps
         | split)

theorem issueReqs_keeps {rs : List Req} {s : State} {s0 : State} (hk : Keeps s0 s) :
    Keeps s0 (issueReqs rs s) := by
  unfold issueReqs
  try dsimp only
  repeat' first
    | (intro _ _ _; try dsimp only)
    | (intro _; try dsimp only)
    | with_reducible assumption
    | with_reducible apply issueReq_keeps
    | with_reducible apply Keeps.foldl
    | with_reducible apply Keeps.foldl2
    | with_reducible apply Keeps.foldl22

theorem serveNow_keeps {c : Nat} {r : Req} {d : Nat} {s : State} {s0 : State} (hk : Keeps s0 s) :
    Keeps s0 (serveNow c r d s).2 := by
  unfold serveNow
  try dsimp only
  repeat' first
    | (intro _; try dsimp only)
    | with_reducible assumption
    | with_reducible apply ackWrite_keeps
    | with_reducible apply devWrite_keeps
    | with_reducible apply memAdds_keeps
    | refine Keeps.of_pair (by with_reducible assumption) (memAdds_keeps ?_)
    | with_reducible apply reservedRead_keeps
    | split
    | (with_reducible refine Keeps.mk' ?_ rfl rfl (fun x => x) (fun x => x)
       first
         | with_reducible assumption
         | with_reducible apply ackWrite_keeps
         | with_reducible apply devWrite_keeps
         | with_reducible apply memAdds_keeps
         | refine Keeps.of_pair (by with_reducible assumption) (memAdds_keeps ?_)
         | with_reducible apply reservedRead_keeps
         | split)

theorem serveReq_keeps {c : Nat} {r : Req} {s : State} {s0 : State} (hk : Keeps s0 s) :
    Keeps s0 (serveReq c r s) := by
  unfold serveReq
  try dsimp only
  repeat' first
    | (intro _; try dsimp only)
    | with_reducible apply Keeps.ite
    | with_reducible assumption
    | with_reducible apply discardAck_keeps
    | with_reducible apply takeSlot_keeps
    | with_reducible apply serveNow_keeps
    | refine Keeps.of_pair (by with_reducible assumption) (serveNow_keeps ?_)
    | split
    | (with_reducible refine Keeps.mk' ?_ rfl rfl (fun x => x) (fun x => x)
       first
         | with_reducible assumption
         | with_reducible apply Keeps.ite
         | with_reducible apply discardAck_keeps
         | with_reducible apply takeSlot_keeps
         | with_reducible apply serveNow_keeps
         | refine Keeps.of_pair (by with_reducible assumption) (serveNow_keeps ?_)
         | split)

theorem resumeSlot_keeps {c : Nat} {s : State} {i : Nat} {s0 : State} (hk : Keeps s0 s) :
    Keeps s0 (resumeSlot c s i) := by
  unfold resumeSlot
  try dsimp only
  repeat' first
    | (intro _ _ _; try dsimp only)
    | (intro _; try dsimp only)
    | with_reducible apply Keeps.ite
    | with_reducible assumption
    | with_reducible apply serveNow_keeps
    | refine Keeps.of_pair (by with_reducible assumption) (serveNow_keeps ?_)
    | with_reducible apply updChan_keeps
    | split
    | (with_reducible refine Keeps.mk' ?_ rfl rfl (fun x => x) (fun x => x)
       first
         | with_reducible assumption
         | with_reducible apply Keeps.ite
         | with_reducible apply serveNow_keeps
         | refine Keeps.of_pair (by with_reducible assumption) (serveNow_keeps ?_)
         | with_reducible apply updChan_keeps
         | split)

theorem resumeHeld_keeps {c : Nat} {s : State} {s0 : State} (hk : Keeps s0 s) :
    Keeps s0 (resumeHeld c s) := by
  unfold resumeHeld
  try dsimp only
  repeat' first
    | (intro _ _ _; try dsimp only)
    | (intro _; try dsimp only)
    | with_reducible assumption
    | with_reducible apply resumeSlot_keeps
    | with_reducible apply Keeps.foldl
    | with_reducible apply Keeps.foldl2
    | with_reducible apply Keeps.foldl22

theorem doMemoryRequestAccept_keeps {c : Nat} {s : State} {s0 : State} (hk : Keeps s0 s) :
    Keeps s0 (doMemoryRequestAccept c s) := by
  unfold doMemoryRequestAccept
  try dsimp only
  repeat' first
    | (intro _ _ _; try dsimp only)
    | (intro _; try dsimp only)
    | with_reducible apply Keeps.ite
    | with_reducible assumption
    | with_reducible apply serveReq_keeps
    | with_reducible apply updChan_keeps
    | split
    | (with_reducible refine Keeps.mk' ?_ rfl rfl (fun x => x) (fun x => x)
       first
         | with_reducible assumption
         | with_reducible apply Keeps.ite
         | with_reducible apply serveReq_keeps
         | with_reducible apply updChan_keeps
         | split)

theorem foundSectors_keeps {c off : Nat} {stale : List Nat} {x0 : List Ecc} {s : State} {s0 : State} (hk : Keeps s0 s) :
    Keeps s0 (foundSectors c off stale x0 s) := by
  induction x0 generalizing c off stale s with
  | nil =>
    simp only [foundSectors]
    try dsimp only
    repeat' first
      | (intro _; try dsimp only)
      | with_reducible assumption
      | with_reducible apply foundAt_keeps
  | cons b r ih =>
    simp only [foundSectors]
    try dsimp only
    repeat' first
      | (intro _; try dsimp only)
      | with_reducible assumption
      | with_reducible apply ih
      | with_reducible apply foundAt_keeps

theorem doMemoryReadDone_keeps {c slot : Nat} {ecc : List Ecc} {s : State} {s0 : State} (hk : Keeps s0 s) :
    Keeps s0 (doMemoryReadDone c slot ecc s) := by
  unfold doMemoryReadDone
  try dsimp only
  repeat' first
    | (intro _ _ _; try dsimp only)
    | (intro _; try dsimp only)
    | with_reducible apply Keeps.ite
    | with_reducible assumption
    | with_reducible apply updChan_keeps
    | with_reducible apply foundSectors_keeps
    | with_reducible apply resumeHeld_keeps
    | with_reducible apply answerRead_keeps
    | split
    | (with_reducible refine Keeps.mk' ?_ rfl rfl (fun x => x) (fun x => x)
       first
         | with_reducible assumption
         | with_reducible apply Keeps.ite
         | with_reducible apply updChan_keeps
         | with_reducible apply foundSectors_keeps
         | with_reducible apply resumeHeld_keeps
         | with_reducible apply answerRead_keeps
         | split)

theorem doWriteToDeviceDone_keeps {c slot : Nat} {s : State} {s0 : State} (hk : Keeps s0 s) :
    Keeps s0 (doWriteToDeviceDone c slot s) := by
  unfold doWriteToDeviceDone
  try dsimp only
  repeat' first
    | (intro _ _ _; try dsimp only)
    | (intro _; try dsimp only)
    | with_reducible apply Keeps.ite
    | with_reducible assumption
    | with_reducible apply updChan_keeps
    | split
    | (with_reducible refine Keeps.mk' ?_ rfl rfl (fun x => x) (fun x => x)
       first
         | with_reducible assumption
         | with_reducible apply Keeps.ite
         | with_reducible apply updChan_keeps
         | split)

theorem evictPage_keeps {c code : Nat} {s : State} {s0 : State} (hk : Keeps s0 s) :
    Keeps s0 (evictPage c code s) := by
  unfold evictPage
  try dsimp only
  repeat' first
    | (intro _ _ _; try dsimp only)
    | (intro _; try dsimp only)
    | with_reducible assumption
    | with_reducible apply evictLine_keeps
    | with_reducible apply Keeps.foldl
    | with_reducible apply Keeps.foldl2
    | with_reducible apply Keeps.foldl22

theorem doWcbIdleEviction_keeps {c : Nat} {s : State} {s0 : State} (hk : Keeps s0 s) :
    Keeps s0 (doWcbIdleEviction c s) := by
  unfold doWcbIdleEviction
  try dsimp only
  repeat' first
    | (intro _ _ _; try dsimp only)
    | (intro _; try dsimp only)
    | with_reducible assumption
    | with_reducible apply resumeHeld_keeps
    | with_reducible apply evictLine_keeps
    | with_reducible apply Keeps.foldl
    | with_reducible apply Keeps.foldl2
    | with_reducible apply Keeps.foldl22

theorem doRegulatorAdmit_keeps {p : Nat} {s : State} {s0 : State} (hk : Keeps s0 s) :
    Keeps s0 (doRegulatorAdmit p s) := by
  unfold doRegulatorAdmit
  try dsimp only
  repeat' first
    | (intro _; try dsimp only)
    | with_reducible apply Keeps.ite
    | with_reducible assumption
    | with_reducible apply enqueueReq_keeps
    | split
    | (with_reducible refine Keeps.mk' ?_ rfl rfl (fun x => x) (fun x => x)
       first
         | with_reducible assumption
         | with_reducible apply Keeps.ite
         | with_reducible apply enqueueReq_keeps
         | split)

theorem doRefresh_keeps {c : Nat} {s : State} {s0 : State} (hk : Keeps s0 s) :
    Keeps s0 (doRefresh c s) := by
  unfold doRefresh
  try dsimp only
  repeat' first
    | (intro _ _ _; try dsimp only)
    | (intro _; try dsimp only)
    | with_reducible apply Keeps.ite
    | with_reducible assumption
    | with_reducible apply updChan_keeps
    | split
    | (with_reducible refine Keeps.mk' ?_ rfl rfl (fun x => x) (fun x => x)
       first
         | with_reducible assumption
         | with_reducible apply Keeps.ite
         | with_reducible apply updChan_keeps
         | split)

theorem doScrubRead_keeps {c : Nat} {e : Ecc} {s : State} {s0 : State} (hk : Keeps s0 s) :
    Keeps s0 (doScrubRead c e s) := by
  unfold doScrubRead
  try dsimp only
  repeat' first
    | (intro _ _ _; try dsimp only)
    | (intro _; try dsimp only)
    | with_reducible apply Keeps.ite
    | with_reducible assumption
    | with_reducible apply updChan_keeps
    | with_reducible apply foundLink_keeps
    | with_reducible apply foundCe_keeps
    | with_reducible apply foundUe_keeps
    | split
    | (with_reducible refine Keeps.mk' ?_ rfl rfl (fun x => x) (fun x => x)
       first
         | with_reducible assumption
         | with_reducible apply Keeps.ite
         | with_reducible apply updChan_keeps
         | with_reducible apply foundLink_keeps
         | with_reducible apply foundCe_keeps
         | with_reducible apply foundUe_keeps
         | split)

theorem doSelfRefreshEntry_keeps {c : Nat} {s : State} {s0 : State} (hk : Keeps s0 s) :
    Keeps s0 (doSelfRefreshEntry c s) := by
  unfold doSelfRefreshEntry
  try dsimp only
  repeat' first
    | (intro _ _ _; try dsimp only)
    | (intro _; try dsimp only)
    | with_reducible apply Keeps.ite
    | with_reducible assumption
    | with_reducible apply updChan_keeps
    | split
    | (with_reducible refine Keeps.mk' ?_ rfl rfl (fun x => x) (fun x => x)
       first
         | with_reducible assumption
         | with_reducible apply Keeps.ite
         | with_reducible apply updChan_keeps
         | split)

theorem tgControl_keeps {c w : Nat} {s : State} {s0 : State} (hk : Keeps s0 s) :
    Keeps s0 (tgControl c w s) := by
  unfold tgControl
  try dsimp only
  repeat' first
    | (intro _ _ _; try dsimp only)
    | (intro _; try dsimp only)
    | with_reducible apply Keeps.ite
    | with_reducible assumption
    | with_reducible apply updChan_keeps
    | split
    | (with_reducible refine Keeps.mk' ?_ rfl rfl (fun x => x) (fun x => x)
       first
         | with_reducible assumption
         | with_reducible apply Keeps.ite
         | with_reducible apply updChan_keeps
         | split)

theorem doTgRunEnd_keeps {c : Nat} {x : TgResult} {s : State} {s0 : State} (hk : Keeps s0 s) :
    Keeps s0 (doTgRunEnd c x s) := by
  unfold doTgRunEnd
  try dsimp only
  repeat' first
    | (intro _ _ _; try dsimp only)
    | (intro _; try dsimp only)
    | with_reducible apply Keeps.ite
    | with_reducible assumption
    | with_reducible apply updChan_keeps
    | split
    | (with_reducible refine Keeps.mk' ?_ rfl rfl (fun x => x) (fun x => x)
       first
         | with_reducible assumption
         | with_reducible apply Keeps.ite
         | with_reducible apply updChan_keeps
         | split)

theorem updPort_keeps {n : Nat} {f : Port → Port} {s : State} {s0 : State} (hk : Keeps s0 s) :
    Keeps s0 (State.updPort n f s) := by
  unfold State.updPort
  try dsimp only
  repeat' first
    | (intro _; try dsimp only)
    | with_reducible assumption
    | (with_reducible refine Keeps.mk' ?_ rfl rfl (fun x => x) (fun x => x)
       first
         | with_reducible assumption)

theorem oweCredits_keeps {port vc k : Nat} {s : State} {s0 : State} (hk : Keeps s0 s) :
    Keeps s0 (oweCredits port vc k s) := by
  unfold oweCredits
  try dsimp only
  repeat' first
    | (intro _ _ _; try dsimp only)
    | (intro _; try dsimp only)
    | with_reducible assumption
    | with_reducible apply updPort_keeps
    | (with_reducible refine Keeps.mk' ?_ rfl rfl (fun x => x) (fun x => x)
       first
         | with_reducible assumption
         | with_reducible apply updPort_keeps)

theorem leaveBuffer_keeps {f : Flit} {s : State} {s0 : State} (hk : Keeps s0 s) :
    Keeps s0 (leaveBuffer f s) := by
  unfold leaveBuffer
  try dsimp only
  repeat' first
    | (intro _; try dsimp only)
    | with_reducible assumption
    | with_reducible apply oweCredits_keeps
    | split
    | (with_reducible refine Keeps.mk' ?_ rfl rfl (fun x => x) (fun x => x)
       first
         | with_reducible assumption
         | with_reducible apply oweCredits_keeps
         | split)

theorem queueFlit_keeps {port : Nat} {f : Flit} {s : State} {s0 : State} (hk : Keeps s0 s) :
    Keeps s0 (queueFlit port f s) := by
  unfold queueFlit
  try dsimp only
  repeat' first
    | (intro _ _ _; try dsimp only)
    | (intro _; try dsimp only)
    | with_reducible apply Keeps.ite
    | with_reducible assumption
    | with_reducible apply leaveBuffer_keeps
    | with_reducible apply updPort_keeps
    | split
    | (with_reducible refine Keeps.mk' ?_ rfl rfl (fun x => x) (fun x => x)
       first
         | with_reducible assumption
         | with_reducible apply Keeps.ite
         | with_reducible apply leaveBuffer_keeps
         | with_reducible apply updPort_keeps
         | split)

theorem sendReply_keeps {hold : Option Nat} {type vc cluster dst count : Nat} {payload : List Byte} {s : State} {s0 : State} (hk : Keeps s0 s) :
    Keeps s0 (sendReply hold type vc cluster dst count payload s) := by
  unfold sendReply
  try dsimp only
  repeat' first
    | (intro _; try dsimp only)
    | with_reducible apply Keeps.ite
    | with_reducible assumption
    | with_reducible apply queueFlit_keeps
    | split
    | (with_reducible refine Keeps.mk' ?_ rfl rfl (fun x => x) (fun x => x)
       first
         | with_reducible assumption
         | with_reducible apply Keeps.ite
         | with_reducible apply queueFlit_keeps
         | split)

theorem sendFlit_keeps {type vc cluster dst count : Nat} {payload : List Byte} {s : State} {s0 : State} (hk : Keeps s0 s) :
    Keeps s0 (sendFlit type vc cluster dst count payload s) := by
  unfold sendFlit
  try dsimp only
  repeat' first
    | (intro _; try dsimp only)
    | with_reducible assumption
    | with_reducible apply sendReply_keeps

theorem sendSyncOn_keeps {port count : Nat} {payload : List Byte} {s : State} {s0 : State} (hk : Keeps s0 s) :
    Keeps s0 (sendSyncOn port count payload s) := by
  unfold sendSyncOn
  try dsimp only
  repeat' first
    | (intro _; try dsimp only)
    | with_reducible assumption
    | with_reducible apply queueFlit_keeps
    | (with_reducible refine Keeps.mk' ?_ rfl rfl (fun x => x) (fun x => x)
       first
         | with_reducible assumption
         | with_reducible apply queueFlit_keeps)

theorem toChildren_keeps {count : Nat} {payload : List Byte} {s : State} {s0 : State} (hk : Keeps s0 s) :
    Keeps s0 (toChildren count payload s) := by
  unfold toChildren
  try dsimp only
  repeat' first
    | (intro _ _ _; try dsimp only)
    | (intro _; try dsimp only)
    | with_reducible assumption
    | with_reducible apply sendSyncOn_keeps
    | with_reducible apply Keeps.foldl
    | with_reducible apply Keeps.foldl2
    | with_reducible apply Keeps.foldl22

theorem sendSync_keeps {cluster : Nat} {m : SyncMsg} {s : State} {s0 : State} (hk : Keeps s0 s) :
    Keeps s0 (sendSync cluster m s) := by
  unfold sendSync
  try dsimp only
  repeat' first
    | (intro _; try dsimp only)
    | with_reducible apply Keeps.ite
    | with_reducible assumption
    | with_reducible apply sendFlit_keeps
    | split
    | (with_reducible refine Keeps.mk' ?_ rfl rfl (fun x => x) (fun x => x)
       first
         | with_reducible assumption
         | with_reducible apply Keeps.ite
         | with_reducible apply sendFlit_keeps
         | split)

theorem setSlot_keeps {n : Nat} {e : EvSlot} {s : State} {s0 : State} (hk : Keeps s0 s) :
    Keeps s0 (State.setSlot n e s) := by
  unfold State.setSlot
  try dsimp only
  repeat' first
    | (intro _; try dsimp only)
    | with_reducible assumption
    | (with_reducible refine Keeps.mk' ?_ rfl rfl (fun x => x) (fun x => x)
       first
         | with_reducible assumption)

theorem armIn_keeps {n : Nat} {q : ArmReq} {s : State} {s0 : State} (hk : Keeps s0 s) :
    Keeps s0 (armIn n q s) := by
  unfold armIn
  try dsimp only
  repeat' first
    | (intro _; try dsimp only)
    | with_reducible assumption
    | with_reducible apply setSlot_keeps
    | (with_reducible refine Keeps.mk' ?_ rfl rfl (fun x => x) (fun x => x)
       first
         | with_reducible assumption
         | with_reducible apply setSlot_keeps)

theorem takeRequest_keeps {q : ArmReq} {s : State} {s0 : State} (hk : Keeps s0 s) :
    Keeps s0 (takeRequest q s).2 := by
  unfold takeRequest
  try dsimp only
  repeat' first
    | (intro _; try dsimp only)
    | with_reducible apply Keeps.ite
    | with_reducible assumption
    | with_reducible apply armIn_keeps
    | split
    | (with_reducible refine Keeps.mk' ?_ rfl rfl (fun x => x) (fun x => x)
       first
         | with_reducible assumption
         | with_reducible apply Keeps.ite
         | with_reducible apply armIn_keeps
         | split)

theorem requestSlot_keeps {q : ArmReq} {s : State} {s0 : State} (hk : Keeps s0 s) :
    Keeps s0 (requestSlot q s).2 := by
  unfold requestSlot
  try dsimp only
  repeat' first
    | (intro _; try dsimp only)
    | with_reducible apply Keeps.ite
    | with_reducible assumption
    | with_reducible apply takeRequest_keeps
    | refine Keeps.of_pair (by with_reducible assumption) (takeRequest_keeps ?_)
    | split
    | (with_reducible refine Keeps.mk' ?_ rfl rfl (fun x => x) (fun x => x)
       first
         | with_reducible assumption
         | with_reducible apply Keeps.ite
         | with_reducible apply takeRequest_keeps
         | refine Keeps.of_pair (by with_reducible assumption) (takeRequest_keeps ?_)
         | split)

theorem armDeferred_keeps {s : State} {s0 : State} (hk : Keeps s0 s) :
    Keeps s0 (armDeferred s) := by
  unfold armDeferred
  try dsimp only
  repeat' first
    | (intro _; try dsimp only)
    | with_reducible assumption
    | with_reducible apply armIn_keeps
    | split
    | (with_reducible refine Keeps.mk' ?_ rfl rfl (fun x => x) (fun x => x)
       first
         | with_reducible assumption
         | with_reducible apply armIn_keeps
         | split)

theorem releaseSlot_keeps {n : Nat} {s : State} {s0 : State} (hk : Keeps s0 s) :
    Keeps s0 (releaseSlot n s) := by
  unfold releaseSlot
  try dsimp only
  repeat' first
    | (intro _; try dsimp only)
    | with_reducible apply Keeps.ite
    | with_reducible assumption
    | with_reducible apply setSlot_keeps
    | with_reducible apply armDeferred_keeps
    | split
    | (with_reducible refine Keeps.mk' ?_ rfl rfl (fun x => x) (fun x => x)
       first
         | with_reducible assumption
         | with_reducible apply Keeps.ite
         | with_reducible apply setSlot_keeps
         | with_reducible apply armDeferred_keeps
         | split)

theorem moveDeferred_keeps {angle : Nat} {s : State} {s0 : State} (hk : Keeps s0 s) :
    Keeps s0 (moveDeferred angle s) := by
  unfold moveDeferred
  try dsimp only
  repeat' first
    | (intro _ _ _; try dsimp only)
    | (intro _; try dsimp only)
    | with_reducible apply Keeps.ite
    | with_reducible assumption
    | split
    | (with_reducible refine Keeps.mk' ?_ rfl rfl (fun x => x) (fun x => x)
       first
         | with_reducible assumption
         | with_reducible apply Keeps.ite
         | split)

theorem armReconf_keeps {plan angle rev : Nat} {s : State} {s0 : State} (hk : Keeps s0 s) :
    Keeps s0 (armReconf plan angle rev s).2 := by
  unfold armReconf
  try dsimp only
  repeat' first
    | (intro _; try dsimp only)
    | with_reducible assumption
    | with_reducible apply requestSlot_keeps
    | refine Keeps.of_pair (by with_reducible assumption) (requestSlot_keeps ?_)
    | (with_reducible refine Keeps.mk' ?_ rfl rfl (fun x => x) (fun x => x)
       first
         | with_reducible assumption
         | with_reducible apply requestSlot_keeps
         | refine Keeps.of_pair (by with_reducible assumption) (requestSlot_keeps ?_))

theorem skipReconf_keeps {s : State} {s0 : State} (hk : Keeps s0 s) :
    Keeps s0 (skipReconf s) := by
  unfold skipReconf
  try dsimp only
  repeat' first
    | (intro _; try dsimp only)
    | with_reducible assumption
    | with_reducible apply raise0_keeps

theorem noteNarrow_keeps {n : Nat} {s : State} {s0 : State} (hk : Keeps s0 s) :
    Keeps s0 (noteNarrow n s) := by
  unfold noteNarrow
  try dsimp only
  repeat' first
    | (intro _ _ _; try dsimp only)
    | (intro _; try dsimp only)
    | with_reducible apply Keeps.ite
    | with_reducible assumption
    | with_reducible apply raise_keeps
    | with_reducible apply updPort_keeps
    | split
    | (with_reducible refine Keeps.mk' ?_ rfl rfl (fun x => x) (fun x => x)
       first
         | with_reducible assumption
         | with_reducible apply Keeps.ite
         | with_reducible apply raise_keeps
         | with_reducible apply updPort_keeps
         | split)

theorem terminatePort_keeps {n : Nat} {s : State} {s0 : State} (hk : Keeps s0 s) :
    Keeps s0 (terminatePort n s) := by
  unfold terminatePort
  try dsimp only
  repeat' first
    | (intro _ _ _; try dsimp only)
    | (intro _; try dsimp only)
    | with_reducible assumption
    | with_reducible apply updPort_keeps
    | with_reducible apply noteNarrow_keeps
    | with_reducible apply queueFlit_keeps
    | (with_reducible refine Keeps.mk' ?_ rfl rfl (fun x => x) (fun x => x)
       first
         | with_reducible assumption
         | with_reducible apply updPort_keeps
         | with_reducible apply noteNarrow_keeps
         | with_reducible apply queueFlit_keeps)

theorem reroute_keeps {n : Nat} {fs : List Flit} {s : State} {s0 : State} (hk : Keeps s0 s) :
    Keeps s0 (reroute n fs s) := by
  unfold reroute
  try dsimp only
  repeat' first
    | (intro _ _ _; try dsimp only)
    | (intro _; try dsimp only)
    | with_reducible apply Keeps.ite
    | with_reducible assumption
    | with_reducible apply leaveBuffer_keeps
    | with_reducible apply queueFlit_keeps
    | with_reducible apply Keeps.foldl
    | with_reducible apply Keeps.foldl2
    | with_reducible apply Keeps.foldl22
    | split

theorem rerouteQueue_keeps {n : Nat} {s : State} {s0 : State} (hk : Keeps s0 s) :
    Keeps s0 (rerouteQueue n s) := by
  unfold rerouteQueue
  try dsimp only
  repeat' first
    | (intro _ _ _; try dsimp only)
    | (intro _; try dsimp only)
    | with_reducible assumption
    | with_reducible apply reroute_keeps
    | with_reducible apply updPort_keeps
    | (with_reducible refine Keeps.mk' ?_ rfl rfl (fun x => x) (fun x => x)
       first
         | with_reducible assumption
         | with_reducible apply reroute_keeps
         | with_reducible apply updPort_keeps)

theorem setPort_keeps {plan : Nat} {s : State} {n : Nat} {s0 : State} (hk : Keeps s0 s) :
    Keeps s0 (setPort plan s n) := by
  unfold setPort
  try dsimp only
  repeat' first
    | (intro _ _ _; try dsimp only)
    | (intro _; try dsimp only)
    | with_reducible apply Keeps.ite
    | with_reducible assumption
    | with_reducible apply updPort_keeps
    | with_reducible apply terminatePort_keeps
    | with_reducible apply rerouteQueue_keeps
    | split
    | (with_reducible refine Keeps.mk' ?_ rfl rfl (fun x => x) (fun x => x)
       first
         | with_reducible assumption
         | with_reducible apply Keeps.ite
         | with_reducible apply updPort_keeps
         | with_reducible apply terminatePort_keeps
         | with_reducible apply rerouteQueue_keeps
         | split)

theorem switchPlan_keeps {plan : Nat} {s : State} {s0 : State} (hk : Keeps s0 s) :
    Keeps s0 (switchPlan plan s) := by
  unfold switchPlan
  try dsimp only
  repeat' first
    | (intro _ _ _; try dsimp only)
    | (intro _; try dsimp only)
    | with_reducible apply Keeps.ite
    | with_reducible assumption
    | with_reducible apply setPort_keeps
    | with_reducible apply Keeps.foldl
    | with_reducible apply Keeps.foldl2
    | with_reducible apply Keeps.foldl22
    | split
    | (with_reducible refine Keeps.mk' ?_ rfl rfl (fun x => x) (fun x => x)
       first
         | with_reducible assumption
         | with_reducible apply Keeps.ite
         | with_reducible apply setPort_keeps
         | with_reducible apply Keeps.foldl
         | with_reducible apply Keeps.foldl2
         | with_reducible apply Keeps.foldl22
         | split)

theorem completeSwitch_keeps {s : State} {s0 : State} (hk : Keeps s0 s) :
    Keeps s0 (completeSwitch s) := by
  unfold completeSwitch
  try dsimp only
  repeat' first
    | (intro _; try dsimp only)
    | with_reducible assumption
    | with_reducible apply switchPlan_keeps
    | split
    | (with_reducible refine Keeps.mk' ?_ rfl rfl (fun x => x) (fun x => x)
       first
         | with_reducible assumption
         | with_reducible apply switchPlan_keeps
         | split)

theorem dueSwitch_keeps {s : State} {s0 : State} (hk : Keeps s0 s) :
    Keeps s0 (dueSwitch s) := by
  unfold dueSwitch
  try dsimp only
  repeat' first
    | (intro _; try dsimp only)
    | with_reducible apply Keeps.ite
    | with_reducible assumption
    | with_reducible apply switchPlan_keeps
    | split
    | (with_reducible refine Keeps.mk' ?_ rfl rfl (fun x => x) (fun x => x)
       first
         | with_reducible assumption
         | with_reducible apply Keeps.ite
         | with_reducible apply switchPlan_keeps
         | split)

theorem beginSwitch_keeps {plan : Nat} {s : State} {s0 : State} (hk : Keeps s0 s) :
    Keeps s0 (beginSwitch plan s) := by
  unfold beginSwitch
  try dsimp only
  repeat' first
    | (intro _; try dsimp only)
    | with_reducible assumption
    | with_reducible apply completeSwitch_keeps
    | with_reducible apply dueSwitch_keeps
    | (with_reducible refine Keeps.mk' ?_ rfl rfl (fun x => x) (fun x => x)
       first
         | with_reducible assumption
         | with_reducible apply completeSwitch_keeps
         | with_reducible apply dueSwitch_keeps)

theorem updParcel_keeps {id : Nat} {f : Parcel → Parcel} {s : State} {s0 : State} (hk : Keeps s0 s) :
    Keeps s0 (State.updParcel id f s) := by
  unfold State.updParcel
  try dsimp only
  repeat' first
    | (intro _ _ _; try dsimp only)
    | (intro _; try dsimp only)
    | with_reducible apply Keeps.ite
    | with_reducible assumption
    | split
    | (with_reducible refine Keeps.mk' ?_ rfl rfl (fun x => x) (fun x => x)
       first
         | with_reducible assumption
         | with_reducible apply Keeps.ite
         | split)

theorem raiseFor_keeps {code unit pid : Nat} {s : State} {s0 : State} (hk : Keeps s0 s) :
    Keeps s0 (raiseFor code unit pid s) := by
  unfold raiseFor
  try dsimp only
  repeat' first
    | (intro _; try dsimp only)
    | with_reducible assumption
    | with_reducible apply raiseFull_keeps
    | with_reducible apply raise_keeps
    | split
    | (with_reducible refine Keeps.mk' ?_ rfl rfl (fun x => x) (fun x => x)
       first
         | with_reducible assumption
         | with_reducible apply raiseFull_keeps
         | with_reducible apply raise_keeps
         | split)

theorem raiseOnce_keeps {code unit pid : Nat} {s : State} {s0 : State} (hk : Keeps s0 s) :
    Keeps s0 (raiseOnce code unit pid s) := by
  unfold raiseOnce
  try dsimp only
  repeat' first
    | (intro _ _ _; try dsimp only)
    | (intro _; try dsimp only)
    | with_reducible apply Keeps.ite
    | with_reducible assumption
    | with_reducible apply raiseFor_keeps
    | with_reducible apply updParcel_keeps
    | split
    | (with_reducible refine Keeps.mk' ?_ rfl rfl (fun x => x) (fun x => x)
       first
         | with_reducible assumption
         | with_reducible apply Keeps.ite
         | with_reducible apply raiseFor_keeps
         | with_reducible apply updParcel_keeps
         | split)

theorem reportFlags_keeps {cluster pid w : Nat} {s : State} {s0 : State} (hk : Keeps s0 s) :
    Keeps s0 (reportFlags cluster pid w s) := by
  unfold reportFlags
  try dsimp only
  repeat' first
    | (intro _ _ _; try dsimp only)
    | (intro _; try dsimp only)
    | with_reducible apply Keeps.ite
    | with_reducible assumption
    | with_reducible apply updCluster_keeps
    | with_reducible apply updParcel_keeps
    | with_reducible apply raiseOnce_keeps
    | split
    | (with_reducible refine Keeps.mk' ?_ rfl rfl (fun x => x) (fun x => x)
       first
         | with_reducible assumption
         | with_reducible apply Keeps.ite
         | with_reducible apply updCluster_keeps
         | with_reducible apply updParcel_keeps
         | with_reducible apply raiseOnce_keeps
         | split)

theorem updCsu_keeps {c : Nat} {f : Csu → Csu} {s : State} {s0 : State} (hk : Keeps s0 s) :
    Keeps s0 (State.updCsu c f s) := by
  unfold State.updCsu
  try dsimp only
  repeat' first
    | (intro _; try dsimp only)
    | with_reducible assumption
    | (with_reducible refine Keeps.mk' ?_ rfl rfl (fun x => x) (fun x => x)
       first
         | with_reducible assumption)

theorem staleDrop_keeps {cluster : Nat} {s : State} {s0 : State} (hk : Keeps s0 s) :
    Keeps s0 (staleDrop cluster s) := by
  unfold staleDrop
  try dsimp only
  repeat' first
    | (intro _ _ _; try dsimp only)
    | (intro _; try dsimp only)
    | with_reducible assumption
    | with_reducible apply updCsu_keeps
    | (with_reducible refine Keeps.mk' ?_ rfl rfl (fun x => x) (fun x => x)
       first
         | with_reducible assumption
         | with_reducible apply updCsu_keeps)

theorem setBar_keeps {level cluster index : Nat} {b : Barrier} {s : State} {s0 : State} (hk : Keeps s0 s) :
    Keeps s0 (State.setBar level cluster index b s) := by
  unfold State.setBar
  try dsimp only
  repeat' first
    | (intro _; try dsimp only)
    | with_reducible apply Keeps.ite
    | with_reducible assumption
    | split
    | (with_reducible refine Keeps.mk' ?_ rfl rfl (fun x => x) (fun x => x)
       first
         | with_reducible assumption
         | with_reducible apply Keeps.ite
         | split)

theorem sendFlits_keeps {e : Send} {x0 : Nat} {x1 : Nat} {x2 : List (List Byte × Bool)} {s : State} {s0 : State} (hk : Keeps s0 s) :
    Keeps s0 (sendFlits e x0 x1 x2 s) := by
  induction x0 generalizing e x1 x2 s with
  | zero =>
    simp only [sendFlits]
    try dsimp only
    repeat' first
      | (intro _; try dsimp only)
      | with_reducible apply Keeps.ite
      | with_reducible assumption
      | with_reducible apply queueFlit_keeps
      | split
      | (with_reducible refine Keeps.mk' ?_ rfl rfl (fun x => x) (fun x => x)
         first
           | with_reducible assumption
           | with_reducible apply Keeps.ite
           | with_reducible apply queueFlit_keeps
           | split)
  | succ n ih =>
    simp only [sendFlits]
    try dsimp only
    repeat' first
      | (intro _; try dsimp only)
      | with_reducible apply Keeps.ite
      | with_reducible assumption
      | with_reducible apply ih
      | with_reducible apply queueFlit_keeps
      | split
      | (with_reducible refine Keeps.mk' ?_ rfl rfl (fun x => x) (fun x => x)
         first
           | with_reducible assumption
           | with_reducible apply Keeps.ite
           | with_reducible apply ih
           | with_reducible apply queueFlit_keeps
           | split)

theorem landReserved_keeps {tile : Nat} {x0 : Nat} {x1 : List (List Byte × Bool)} {s : State} {s0 : State} (hk : Keeps s0 s) :
    Keeps s0 (landReserved tile x0 x1 s) := by
  induction x1 generalizing tile x0 s with
  | nil =>
    simp only [landReserved]
    try dsimp only
    repeat' first
      | (intro _; try dsimp only)
      | with_reducible apply Keeps.ite
      | with_reducible assumption
      | with_reducible apply sramWrite_keeps
      | with_reducible apply tagLine_keeps
      | split
  | cons b r ih =>
    simp only [landReserved]
    try dsimp only
    repeat' first
      | (intro _; try dsimp only)
      | with_reducible apply Keeps.ite
      | with_reducible assumption
      | with_reducible apply ih
      | with_reducible apply sramWrite_keeps
      | with_reducible apply tagLine_keeps
      | split

theorem landMemory_keeps {cluster ctx : Nat} {x0 : Nat} {x1 : List (List Byte × Bool)} {s : State} {s0 : State} (hk : Keeps s0 s) :
    Keeps s0 (landMemory cluster ctx x0 x1 s) := by
  induction x1 generalizing cluster ctx x0 s with
  | nil =>
    simp only [landMemory]
    try dsimp only
    repeat' first
      | (intro _; try dsimp only)
      | with_reducible assumption
      | with_reducible apply ctxWrite_keeps
  | cons b r ih =>
    simp only [landMemory]
    try dsimp only
    repeat' first
      | (intro _; try dsimp only)
      | with_reducible assumption
      | with_reducible apply ih
      | with_reducible apply ctxWrite_keeps

theorem discardSend_keeps {pid : Nat} {s : State} {s0 : State} (hk : Keeps s0 s) :
    Keeps s0 (discardSend pid s) := by
  unfold discardSend
  try dsimp only
  repeat' first
    | (intro _; try dsimp only)
    | with_reducible assumption
    | with_reducible apply raiseOnce_keeps
    | (with_reducible refine Keeps.mk' ?_ rfl rfl (fun x => x) (fun x => x)
       first
         | with_reducible assumption
         | with_reducible apply raiseOnce_keeps)

theorem fireSend_keeps {e : Send} {s : State} {s0 : State} (hk : Keeps s0 s) :
    Keeps s0 (fireSend e s) := by
  unfold fireSend
  try dsimp only
  repeat' first
    | (intro _; try dsimp only)
    | with_reducible apply Keeps.ite
    | with_reducible assumption
    | with_reducible apply discardSend_keeps
    | with_reducible apply seeCtx_keeps
    | with_reducible apply sendFlits_keeps
    | with_reducible apply sendSync_keeps
    | with_reducible apply landReserved_keeps
    | with_reducible apply landMemory_keeps
    | split

theorem watchAct_keeps {cluster : Nat} {act : WatchAct} {s : State} {s0 : State} (hk : Keeps s0 s) :
    Keeps s0 (watchAct cluster act s) := by
  unfold watchAct
  try dsimp only
  repeat' first
    | (intro _; try dsimp only)
    | with_reducible apply Keeps.ite
    | with_reducible assumption
    | with_reducible apply sendSync_keeps
    | with_reducible apply fireSend_keeps
    | split
    | (with_reducible refine Keeps.mk' ?_ rfl rfl (fun x => x) (fun x => x)
       first
         | with_reducible assumption
         | with_reducible apply Keeps.ite
         | with_reducible apply sendSync_keeps
         | with_reducible apply fireSend_keeps
         | split)

theorem watchActs_keeps {cluster : Nat} {act : WatchAct} {x0 : Nat} {s : State} {s0 : State} (hk : Keeps s0 s) :
    Keeps s0 (watchActs cluster act x0 s) := by
  induction x0 generalizing cluster act s with
  | zero =>
    simp only [watchActs]
    try dsimp only
    repeat' first
      | (intro _; try dsimp only)
      | with_reducible assumption
      | with_reducible apply watchAct_keeps
  | succ n ih =>
    simp only [watchActs]
    try dsimp only
    repeat' first
      | (intro _; try dsimp only)
      | with_reducible assumption
      | with_reducible apply ih
      | with_reducible apply watchAct_keeps

theorem checkWatch_keeps {key : Nat} {s : State} {s0 : State} (hk : Keeps s0 s) :
    Keeps s0 (checkWatch key s) := by
  unfold checkWatch
  try dsimp only
  repeat' first
    | (intro _ _ _; try dsimp only)
    | (intro _; try dsimp only)
    | with_reducible apply Keeps.ite
    | with_reducible assumption
    | with_reducible apply updCsu_keeps
    | with_reducible apply watchActs_keeps
    | split
    | (with_reducible refine Keeps.mk' ?_ rfl rfl (fun x => x) (fun x => x)
       first
         | with_reducible assumption
         | with_reducible apply Keeps.ite
         | with_reducible apply updCsu_keeps
         | with_reducible apply watchActs_keeps
         | split)

theorem endSend_keeps {slot : Nat} {last : Bool} {s : State} {s0 : State} (hk : Keeps s0 s) :
    Keeps s0 (endSend slot last s) := by
  unfold endSend
  try dsimp only
  repeat' first
    | (intro _; try dsimp only)
    | with_reducible apply Keeps.ite
    | with_reducible assumption
    | split
    | (with_reducible refine Keeps.mk' ?_ rfl rfl (fun x => x) (fun x => x)
       first
         | with_reducible assumption
         | with_reducible apply Keeps.ite
         | split)

theorem checkSend_keeps {slot : Nat} {s : State} {s0 : State} (hk : Keeps s0 s) :
    Keeps s0 (checkSend slot s) := by
  unfold checkSend
  try dsimp only
  repeat' first
    | (intro _; try dsimp only)
    | with_reducible apply Keeps.ite
    | with_reducible assumption
    | with_reducible apply endSend_keeps
    | with_reducible apply watchActs_keeps
    | split
    | (with_reducible refine Keeps.mk' ?_ rfl rfl (fun x => x) (fun x => x)
       first
         | with_reducible assumption
         | with_reducible apply Keeps.ite
         | with_reducible apply endSend_keeps
         | with_reducible apply watchActs_keeps
         | split)

theorem checkSource_keeps {key : Nat} {s : State} {s0 : State} (hk : Keeps s0 s) :
    Keeps s0 (checkSource key s) := by
  unfold checkSource
  try dsimp only
  repeat' first
    | (intro _ _ _; try dsimp only)
    | (intro _; try dsimp only)
    | with_reducible assumption
    | with_reducible apply checkSend_keeps
    | with_reducible apply checkWatch_keeps
    | with_reducible apply Keeps.foldl
    | with_reducible apply Keeps.foldl2
    | with_reducible apply Keeps.foldl22

theorem noteSaturated_keeps {tile n : Nat} {s : State} {s0 : State} (hk : Keeps s0 s) :
    Keeps s0 (noteSaturated tile n s) := by
  unfold noteSaturated
  try dsimp only
  repeat' first
    | (intro _ _ _; try dsimp only)
    | (intro _; try dsimp only)
    | with_reducible apply Keeps.ite
    | with_reducible assumption
    | with_reducible apply updCsu_keeps
    | with_reducible apply raiseFor_keeps
    | split
    | (with_reducible refine Keeps.mk' ?_ rfl rfl (fun x => x) (fun x => x)
       first
         | with_reducible assumption
         | with_reducible apply Keeps.ite
         | with_reducible apply updCsu_keeps
         | with_reducible apply raiseFor_keeps
         | split)

theorem addCounter_keeps {tile n inc : Nat} {s : State} {s0 : State} (hk : Keeps s0 s) :
    Keeps s0 (addCounter tile n inc s) := by
  unfold addCounter
  try dsimp only
  repeat' first
    | (intro _; try dsimp only)
    | with_reducible apply Keeps.ite
    | with_reducible assumption
    | with_reducible apply noteSaturated_keeps
    | with_reducible apply checkSource_keeps
    | split
    | (with_reducible refine Keeps.mk' ?_ rfl rfl (fun x => x) (fun x => x)
       first
         | with_reducible assumption
         | with_reducible apply Keeps.ite
         | with_reducible apply noteSaturated_keeps
         | with_reducible apply checkSource_keeps
         | split)

theorem landed_keeps {m : SyncMsg} {s : State} {s0 : State} (hk : Keeps s0 s) :
    Keeps s0 (landed m s) := by
  unfold landed
  try dsimp only
  repeat' first
    | (intro _; try dsimp only)
    | with_reducible assumption
    | (with_reducible refine Keeps.mk' ?_ rfl rfl (fun x => x) (fun x => x)
       first
         | with_reducible assumption)

theorem takeSignal_keeps {m : SyncMsg} {s : State} {s0 : State} (hk : Keeps s0 s) :
    Keeps s0 (takeSignal m s) := by
  unfold takeSignal
  try dsimp only
  repeat' first
    | (intro _; try dsimp only)
    | with_reducible apply Keeps.ite
    | with_reducible assumption
    | with_reducible apply addCounter_keeps
    | with_reducible apply staleDrop_keeps
    | split

theorem fillWord_keeps {tile i v : Nat} {s : State} {s0 : State} (hk : Keeps s0 s) :
    Keeps s0 (fillWord tile i v s) := by
  unfold fillWord
  try dsimp only
  repeat' first
    | (intro _; try dsimp only)
    | with_reducible assumption
    | with_reducible apply sramWrite_keeps
    | with_reducible apply setFull_keeps

theorem dropFill_keeps {cluster pid : Nat} {s : State} {s0 : State} (hk : Keeps s0 s) :
    Keeps s0 (dropFill cluster pid s) := by
  unfold dropFill
  try dsimp only
  repeat' first
    | (intro _ _ _; try dsimp only)
    | (intro _; try dsimp only)
    | with_reducible apply Keeps.ite
    | with_reducible assumption
    | with_reducible apply updCsu_keeps
    | with_reducible apply raiseFor_keeps
    | split
    | (with_reducible refine Keeps.mk' ?_ rfl rfl (fun x => x) (fun x => x)
       first
         | with_reducible assumption
         | with_reducible apply Keeps.ite
         | with_reducible apply updCsu_keeps
         | with_reducible apply raiseFor_keeps
         | split)

theorem remoteFill_keeps {tile i v : Nat} {s : State} {s0 : State} (hk : Keeps s0 s) :
    Keeps s0 (remoteFill tile i v s) := by
  unfold remoteFill
  try dsimp only
  repeat' first
    | (intro _ _ _; try dsimp only)
    | (intro _; try dsimp only)
    | with_reducible apply Keeps.ite
    | with_reducible assumption
    | with_reducible apply fillWord_keeps
    | with_reducible apply dropFill_keeps
    | with_reducible apply updCsu_keeps
    | split
    | (with_reducible refine Keeps.mk' ?_ rfl rfl (fun x => x) (fun x => x)
       first
         | with_reducible assumption
         | with_reducible apply Keeps.ite
         | with_reducible apply fillWord_keeps
         | with_reducible apply dropFill_keeps
         | with_reducible apply updCsu_keeps
         | split)

theorem takeFill_keeps {m : SyncMsg} {s : State} {s0 : State} (hk : Keeps s0 s) :
    Keeps s0 (takeFill m s) := by
  unfold takeFill
  try dsimp only
  repeat' first
    | (intro _; try dsimp only)
    | with_reducible apply Keeps.ite
    | with_reducible assumption
    | with_reducible apply remoteFill_keeps
    | with_reducible apply staleDrop_keeps
    | split

theorem emptyWord_keeps {tile i : Nat} {s : State} {s0 : State} (hk : Keeps s0 s) :
    Keeps s0 (emptyWord tile i s) := by
  unfold emptyWord
  try dsimp only
  repeat' first
    | (intro _ _ _; try dsimp only)
    | (intro _; try dsimp only)
    | with_reducible assumption
    | with_reducible apply setFull_keeps
    | with_reducible apply fillWord_keeps
    | with_reducible apply updCsu_keeps
    | split
    | (with_reducible refine Keeps.mk' ?_ rfl rfl (fun x => x) (fun x => x)
       first
         | with_reducible assumption
         | with_reducible apply setFull_keeps
         | with_reducible apply fillWord_keeps
         | with_reducible apply updCsu_keeps
         | split)

theorem releaseBelow_keeps {index gen ctx : Nat} {abort : Bool} {s : State} {s0 : State} (hk : Keeps s0 s) :
    Keeps s0 (releaseBelow index gen ctx abort s) := by
  unfold releaseBelow
  try dsimp only
  repeat' first
    | (intro _ _ _; try dsimp only)
    | (intro _; try dsimp only)
    | with_reducible assumption
    | with_reducible apply sendSyncOn_keeps
    | with_reducible apply Keeps.foldl
    | with_reducible apply Keeps.foldl2
    | with_reducible apply Keeps.foldl22

theorem broadcastRelease_keeps {level cluster index gen ctx pid : Nat} {s : State} {s0 : State} (hk : Keeps s0 s) :
    Keeps s0 (broadcastRelease level cluster index gen ctx pid s) := by
  unfold broadcastRelease
  try dsimp only
  repeat' first
    | (intro _ _ _; try dsimp only)
    | (intro _; try dsimp only)
    | with_reducible apply Keeps.ite
    | with_reducible assumption
    | with_reducible apply releaseBelow_keeps
    | with_reducible apply Keeps.foldl
    | with_reducible apply Keeps.foldl2
    | with_reducible apply Keeps.foldl22
    | split
    | (with_reducible refine Keeps.mk' ?_ rfl rfl (fun x => x) (fun x => x)
       first
         | with_reducible assumption
         | with_reducible apply Keeps.ite
         | with_reducible apply releaseBelow_keeps
         | with_reducible apply Keeps.foldl
         | with_reducible apply Keeps.foldl2
         | with_reducible apply Keeps.foldl22
         | split)

theorem releaseBar_keeps {level cluster index : Nat} {s : State} {s0 : State} (hk : Keeps s0 s) :
    Keeps s0 (releaseBar level cluster index s) := by
  unfold releaseBar
  try dsimp only
  repeat' first
    | (intro _; try dsimp only)
    | with_reducible apply Keeps.ite
    | with_reducible assumption
    | with_reducible apply setBar_keeps
    | with_reducible apply broadcastRelease_keeps
    | split
    | (with_reducible refine Keeps.mk' ?_ rfl rfl (fun x => x) (fun x => x)
       first
         | with_reducible assumption
         | with_reducible apply Keeps.ite
         | with_reducible apply setBar_keeps
         | with_reducible apply broadcastRelease_keeps
         | split
         | dsimp only)
    | dsimp only

theorem startReconf_keeps {index plan : Nat} {s : State} {s0 : State} (hk : Keeps s0 s) :
    Keeps s0 (startReconf index plan s).2 := by
  unfold startReconf
  try dsimp only
  repeat' first
    | (intro _ _ _; try dsimp only)
    | (intro _; try dsimp only)
    | with_reducible apply Keeps.ite
    | with_reducible assumption
    | with_reducible apply skipReconf_keeps
    | with_reducible apply setBar_keeps
    | with_reducible apply toChildren_keeps
    | with_reducible apply armReconf_keeps
    | refine Keeps.of_pair (by with_reducible assumption) (armReconf_keeps ?_)
    | with_reducible apply beginSwitch_keeps
    | split
    | (with_reducible refine Keeps.mk' ?_ rfl rfl (fun x => x) (fun x => x)
       first
         | with_reducible assumption
         | with_reducible apply Keeps.ite
         | with_reducible apply skipReconf_keeps
         | with_reducible apply setBar_keeps
         | with_reducible apply toChildren_keeps
         | with_reducible apply armReconf_keeps
         | refine Keeps.of_pair (by with_reducible assumption) (armReconf_keeps ?_)
         | with_reducible apply beginSwitch_keeps
         | split)

theorem settleBar_keeps {level cluster index : Nat} {x0 : Nat} {s : State} {s0 : State} (hk : Keeps s0 s) :
    Keeps s0 (settleBar level cluster index x0 s) := by
  induction x0 generalizing level cluster index s with
  | zero =>
    simp only [settleBar]
    try dsimp only
    repeat' first
      | (intro _; try dsimp only)
      | with_reducible apply Keeps.ite
      | with_reducible assumption
      | with_reducible apply startReconf_keeps
      | refine Keeps.of_pair (by with_reducible assumption) (startReconf_keeps ?_)
      | with_reducible apply releaseBar_keeps
      | split
      | (with_reducible refine Keeps.mk' ?_ rfl rfl (fun x => x) (fun x => x)
         first
           | with_reducible assumption
           | with_reducible apply Keeps.ite
           | with_reducible apply startReconf_keeps
           | refine Keeps.of_pair (by with_reducible assumption) (startReconf_keeps ?_)
           | with_reducible apply releaseBar_keeps
           | split)
  | succ n ih =>
    simp only [settleBar]
    try dsimp only
    repeat' first
      | (intro _; try dsimp only)
      | with_reducible apply Keeps.ite
      | with_reducible assumption
      | with_reducible apply ih
      | with_reducible apply startReconf_keeps
      | refine Keeps.of_pair (by with_reducible assumption) (startReconf_keeps ?_)
      | with_reducible apply releaseBar_keeps
      | split
      | (with_reducible refine Keeps.mk' ?_ rfl rfl (fun x => x) (fun x => x)
         first
           | with_reducible assumption
           | with_reducible apply Keeps.ite
           | with_reducible apply ih
           | with_reducible apply startReconf_keeps
           | refine Keeps.of_pair (by with_reducible assumption) (startReconf_keeps ?_)
           | with_reducible apply releaseBar_keeps
           | split)

theorem arriveAt_keeps {level cluster index gen n : Nat} {s : State} {s0 : State} (hk : Keeps s0 s) :
    Keeps s0 (arriveAt level cluster index gen n s) := by
  unfold arriveAt
  try dsimp only
  repeat' first
    | (intro _; try dsimp only)
    | with_reducible apply Keeps.ite
    | with_reducible assumption
    | with_reducible apply setBar_keeps
    | with_reducible apply staleDrop_keeps
    | with_reducible apply settleBar_keeps
    | split
    | (with_reducible refine Keeps.mk' ?_ rfl rfl (fun x => x) (fun x => x)
       first
         | with_reducible assumption
         | with_reducible apply Keeps.ite
         | with_reducible apply setBar_keeps
         | with_reducible apply staleDrop_keeps
         | with_reducible apply settleBar_keeps
         | split)

theorem passArrivals_keeps {index gen ctx : Nat} {s : State} {s0 : State} (hk : Keeps s0 s) :
    Keeps s0 (passArrivals index gen ctx s) := by
  unfold passArrivals
  try dsimp only
  repeat' first
    | (intro _; try dsimp only)
    | with_reducible apply Keeps.ite
    | with_reducible assumption
    | with_reducible apply sendSyncOn_keeps
    | split
    | (with_reducible refine Keeps.mk' ?_ rfl rfl (fun x => x) (fun x => x)
       first
         | with_reducible assumption
         | with_reducible apply Keeps.ite
         | with_reducible apply sendSyncOn_keeps
         | split)

theorem takeArrive_keeps {m : SyncMsg} {s : State} {s0 : State} (hk : Keeps s0 s) :
    Keeps s0 (takeArrive m s) := by
  unfold takeArrive
  try dsimp only
  repeat' first
    | (intro _ _ _; try dsimp only)
    | (intro _; try dsimp only)
    | with_reducible apply Keeps.ite
    | with_reducible assumption
    | with_reducible apply staleDrop_keeps
    | with_reducible apply arriveAt_keeps
    | with_reducible apply passArrivals_keeps
    | split
    | (with_reducible refine Keeps.mk' ?_ rfl rfl (fun x => x) (fun x => x)
       first
         | with_reducible assumption
         | with_reducible apply Keeps.ite
         | with_reducible apply staleDrop_keeps
         | with_reducible apply arriveAt_keeps
         | with_reducible apply passArrivals_keeps
         | split)

theorem noteAbort_keeps {level index pid : Nat} {s : State} {s0 : State} (hk : Keeps s0 s) :
    Keeps s0 (noteAbort level index pid s) := by
  unfold noteAbort
  try dsimp only
  repeat' first
    | (intro _; try dsimp only)
    | with_reducible assumption
    | with_reducible apply raiseFor_keeps
    | (with_reducible refine Keeps.mk' ?_ rfl rfl (fun x => x) (fun x => x)
       first
         | with_reducible assumption
         | with_reducible apply raiseFor_keeps)

theorem abortBar_keeps {s : State} {k : Nat × Nat × Nat} {s0 : State} (hk : Keeps s0 s) :
    Keeps s0 (abortBar s k) := by
  unfold abortBar
  try dsimp only
  repeat' first
    | (intro _; try dsimp only)
    | with_reducible apply Keeps.ite
    | with_reducible assumption
    | with_reducible apply noteAbort_keeps
    | with_reducible apply releaseBelow_keeps
    | split

theorem abortFar_keeps {p : Parcel} {gen : Nat} {s : State} {s0 : State} (hk : Keeps s0 s) :
    Keeps s0 (abortFar p gen s) := by
  unfold abortFar
  try dsimp only
  repeat' first
    | (intro _; try dsimp only)
    | with_reducible assumption
    | with_reducible apply sendSync_keeps
    | with_reducible apply noteAbort_keeps

theorem abortHome_keeps {m : SyncMsg} {s : State} {s0 : State} (hk : Keeps s0 s) :
    Keeps s0 (abortHome m s) := by
  unfold abortHome
  try dsimp only
  repeat' first
    | (intro _; try dsimp only)
    | with_reducible apply Keeps.ite
    | with_reducible assumption
    | with_reducible apply noteAbort_keeps
    | with_reducible apply releaseBelow_keeps
    | with_reducible apply setBar_keeps
    | split
    | (with_reducible refine Keeps.mk' ?_ rfl rfl (fun x => x) (fun x => x)
       first
         | with_reducible assumption
         | with_reducible apply Keeps.ite
         | with_reducible apply noteAbort_keeps
         | with_reducible apply releaseBelow_keeps
         | with_reducible apply setBar_keeps
         | split)

theorem abortBarriers_keeps {p : Parcel} {x : Pending} {s : State} {s0 : State} (hk : Keeps s0 s) :
    Keeps s0 (abortBarriers p x s) := by
  unfold abortBarriers
  try dsimp only
  repeat' first
    | (intro _ _ _; try dsimp only)
    | (intro _; try dsimp only)
    | with_reducible assumption
    | with_reducible apply abortBar_keeps
    | with_reducible apply abortFar_keeps
    | with_reducible apply Keeps.foldl
    | with_reducible apply Keeps.foldl2
    | with_reducible apply Keeps.foldl22
    | split
    | (with_reducible refine Keeps.mk' ?_ rfl rfl (fun x => x) (fun x => x)
       first
         | with_reducible assumption
         | with_reducible apply abortBar_keeps
         | with_reducible apply abortFar_keeps
         | with_reducible apply Keeps.foldl
         | with_reducible apply Keeps.foldl2
         | with_reducible apply Keeps.foldl22
         | split)

theorem doBarrierSlow_keeps {level unit record : Nat} {s : State} {s0 : State} (hk : Keeps s0 s) :
    Keeps s0 (doBarrierSlow level unit record s) := by
  unfold doBarrierSlow
  try dsimp only
  repeat' first
    | (intro _; try dsimp only)
    | with_reducible apply Keeps.ite
    | with_reducible assumption
    | with_reducible apply setBar_keeps
    | with_reducible apply raiseFor_keeps
    | split
    | (with_reducible refine Keeps.mk' ?_ rfl rfl (fun x => x) (fun x => x)
       first
         | with_reducible assumption
         | with_reducible apply Keeps.ite
         | with_reducible apply setBar_keeps
         | with_reducible apply raiseFor_keeps
         | split)

theorem syncSample_keeps {i : Nat} {s : State} {s0 : State} (hk : Keeps s0 s) :
    Keeps s0 (syncSample i s) := by
  unfold syncSample
  try dsimp only
  repeat' first
    | (intro _ _ _; try dsimp only)
    | (intro _; try dsimp only)
    | with_reducible assumption
    | with_reducible apply Keeps.foldl
    | with_reducible apply Keeps.foldl2
    | with_reducible apply Keeps.foldl22
    | split
    | (with_reducible refine Keeps.mk' ?_ rfl rfl (fun x => x) (fun x => x)
       first
         | with_reducible assumption
         | with_reducible apply Keeps.foldl
         | with_reducible apply Keeps.foldl2
         | with_reducible apply Keeps.foldl22
         | split)

theorem doArrive_keeps {m : SyncMsg} {s : State} {s0 : State} (hk : Keeps s0 s) :
    Keeps s0 (doArrive m s) := by
  unfold doArrive
  try dsimp only
  repeat' first
    | (intro _; try dsimp only)
    | with_reducible apply Keeps.ite
    | with_reducible assumption
    | with_reducible apply takeArrive_keeps
    | with_reducible apply landed_keeps
    | split

theorem updEngine_keeps {e : Nat} {f : Engine → Engine} {s : State} {s0 : State} (hk : Keeps s0 s) :
    Keeps s0 (State.updEngine e f s) := by
  unfold State.updEngine
  try dsimp only
  repeat' first
    | (intro _; try dsimp only)
    | with_reducible assumption
    | (with_reducible refine Keeps.mk' ?_ rfl rfl (fun x => x) (fun x => x)
       first
         | with_reducible assumption)

theorem startLoad_keeps {n : Nat} {q : LensReq} {s : State} {s0 : State} (hk : Keeps s0 s) :
    Keeps s0 (startLoad n q s) := by
  unfold startLoad
  try dsimp only
  repeat' first
    | (intro _ _ _; try dsimp only)
    | (intro _; try dsimp only)
    | with_reducible assumption
    | with_reducible apply seeDev_keeps
    | with_reducible apply updEngine_keeps
    | split
    | (with_reducible refine Keeps.mk' ?_ rfl rfl (fun x => x) (fun x => x)
       first
         | with_reducible assumption
         | with_reducible apply seeDev_keeps
         | with_reducible apply updEngine_keeps
         | split)

theorem nextMatrix_keeps {n : Nat} {s : State} {s0 : State} (hk : Keeps s0 s) :
    Keeps s0 (nextMatrix n s) := by
  unfold nextMatrix
  try dsimp only
  repeat' first
    | (intro _ _ _; try dsimp only)
    | (intro _; try dsimp only)
    | with_reducible apply Keeps.ite
    | with_reducible assumption
    | with_reducible apply updEngine_keeps
    | with_reducible apply startLoad_keeps
    | split
    | (with_reducible refine Keeps.mk' ?_ rfl rfl (fun x => x) (fun x => x)
       first
         | with_reducible assumption
         | with_reducible apply Keeps.ite
         | with_reducible apply updEngine_keeps
         | with_reducible apply startLoad_keeps
         | split)

theorem updCtx_keeps {c : Nat} {f : Ctx → Ctx} {s : State} {s0 : State} (hk : Keeps s0 s) :
    Keeps s0 (State.updCtx c f s) := by
  unfold State.updCtx
  try dsimp only
  repeat' first
    | (intro _; try dsimp only)
    | with_reducible assumption
    | (with_reducible refine Keeps.mk' ?_ rfl rfl (fun x => x) (fun x => x)
       first
         | with_reducible assumption)

theorem sendReport_keeps {r : Report} {s : State} {s0 : State} (hk : Keeps s0 s) :
    Keeps s0 (sendReport r s) := by
  unfold sendReport
  try dsimp only
  repeat' first
    | (intro _ _ _; try dsimp only)
    | (intro _; try dsimp only)
    | with_reducible apply Keeps.ite
    | with_reducible assumption
    | with_reducible apply raiseFull_keeps
    | with_reducible apply updCtx_keeps
    | split
    | (with_reducible refine Keeps.mk' ?_ rfl rfl (fun x => x) (fun x => x)
       first
         | with_reducible assumption
         | with_reducible apply Keeps.ite
         | with_reducible apply raiseFull_keeps
         | with_reducible apply updCtx_keeps
         | split)

theorem deadLetter_keeps {e : DeadLetter} {s : State} {s0 : State} (hk : Keeps s0 s) :
    Keeps s0 (deadLetter e s) := by
  unfold deadLetter
  try dsimp only
  repeat' first
    | (intro _; try dsimp only)
    | with_reducible apply Keeps.ite
    | with_reducible assumption
    | split
    | (with_reducible refine Keeps.mk' ?_ rfl rfl (fun x => x) (fun x => x)
       first
         | with_reducible assumption
         | with_reducible apply Keeps.ite
         | split)

theorem freeRev_keeps {s : State} {s0 : State} (hk : Keeps s0 s) :
    Keeps s0 (freeRev s).2 := by
  unfold freeRev
  try dsimp only
  repeat' first
    | (intro _; try dsimp only)
    | with_reducible assumption
    | with_reducible apply draw_keeps
    | refine Keeps.of_pair (by with_reducible assumption) (draw_keeps ?_)

theorem refuse_keeps {p : Post} {serial epoch reason : Nat} {s : State} {s0 : State} (hk : Keeps s0 s) :
    Keeps s0 (refuse p serial epoch reason s) := by
  unfold refuse
  try dsimp only
  repeat' first
    | (intro _; try dsimp only)
    | with_reducible assumption
    | with_reducible apply deadLetter_keeps
    | with_reducible apply freeRev_keeps
    | refine Keeps.of_pair (by with_reducible assumption) (freeRev_keeps ?_)
    | with_reducible apply sendReport_keeps
    | (with_reducible refine Keeps.mk' ?_ rfl rfl (fun x => x) (fun x => x)
       first
         | with_reducible assumption
         | with_reducible apply deadLetter_keeps
         | with_reducible apply freeRev_keeps
         | refine Keeps.of_pair (by with_reducible assumption) (freeRev_keeps ?_)
         | with_reducible apply sendReport_keeps)

theorem refusePost_keeps {p : Post} {serial epoch reason : Nat} {s : State} {s0 : State} (hk : Keeps s0 s) :
    Keeps s0 (refusePost p serial epoch reason s) := by
  unfold refusePost
  try dsimp only
  repeat' first
    | (intro _; try dsimp only)
    | with_reducible assumption
    | with_reducible apply raiseFull_keeps
    | with_reducible apply refuse_keeps

theorem takeArea_keeps {base len : Nat} {s : State} {s0 : State} (hk : Keeps s0 s) :
    Keeps s0 (takeArea base len s) := by
  unfold takeArea
  try dsimp only
  repeat' first
    | (intro _ _ _; try dsimp only)
    | (intro _; try dsimp only)
    | with_reducible assumption
    | (with_reducible refine Keeps.mk' ?_ rfl rfl (fun x => x) (fun x => x)
       first
         | with_reducible assumption)

theorem freeArea_keeps {base len : Nat} {s : State} {s0 : State} (hk : Keeps s0 s) :
    Keeps s0 (freeArea base len s) := by
  unfold freeArea
  try dsimp only
  repeat' first
    | (intro _ _ _; try dsimp only)
    | (intro _; try dsimp only)
    | with_reducible assumption
    | (with_reducible refine Keeps.mk' ?_ rfl rfl (fun x => x) (fun x => x)
       first
         | with_reducible assumption)

theorem fillPipeline_keeps {tile : Nat} {s : State} {s0 : State} (hk : Keeps s0 s) :
    Keeps s0 (fillPipeline tile s) := by
  unfold fillPipeline
  try dsimp only
  repeat' first
    | (intro _ _ _; try dsimp only)
    | (intro _; try dsimp only)
    | with_reducible apply Keeps.ite
    | with_reducible assumption
    | with_reducible apply updTile_keeps
    | split
    | (with_reducible refine Keeps.mk' ?_ rfl rfl (fun x => x) (fun x => x)
       first
         | with_reducible assumption
         | with_reducible apply Keeps.ite
         | with_reducible apply updTile_keeps
         | split)

theorem dropFlight_keeps {tile slot : Nat} {s : State} {s0 : State} (hk : Keeps s0 s) :
    Keeps s0 (dropFlight tile slot s) := by
  unfold dropFlight
  try dsimp only
  repeat' first
    | (intro _ _ _; try dsimp only)
    | (intro _; try dsimp only)
    | with_reducible assumption
    | with_reducible apply updTile_keeps
    | split
    | (with_reducible refine Keeps.mk' ?_ rfl rfl (fun x => x) (fun x => x)
       first
         | with_reducible assumption
         | with_reducible apply updTile_keeps
         | split)

theorem purgeTask_keeps {tile slot : Nat} {s : State} {s0 : State} (hk : Keeps s0 s) :
    Keeps s0 (purgeTask tile slot s) := by
  unfold purgeTask
  try dsimp only
  repeat' first
    | (intro _; try dsimp only)
    | with_reducible assumption
    | with_reducible apply nextMatrix_keeps
    | with_reducible apply dropFlight_keeps

theorem freeTask_keeps {tile slot : Nat} {s : State} {s0 : State} (hk : Keeps s0 s) :
    Keeps s0 (freeTask tile slot s) := by
  unfold freeTask
  try dsimp only
  repeat' first
    | (intro _ _ _; try dsimp only)
    | (intro _; try dsimp only)
    | with_reducible assumption
    | with_reducible apply reportFlags_keeps
    | with_reducible apply fillPipeline_keeps
    | with_reducible apply purgeTask_keeps
    | with_reducible apply updTile_keeps
    | (with_reducible refine Keeps.mk' ?_ rfl rfl (fun x => x) (fun x => x)
       first
         | with_reducible assumption
         | with_reducible apply reportFlags_keeps
         | with_reducible apply fillPipeline_keeps
         | with_reducible apply purgeTask_keeps
         | with_reducible apply updTile_keeps)

theorem endTask_keeps {tile slot fault : Nat} {s : State} {s0 : State} (hk : Keeps s0 s) :
    Keeps s0 (endTask tile slot fault s) := by
  unfold endTask
  try dsimp only
  repeat' first
    | (intro _ _ _; try dsimp only)
    | (intro _; try dsimp only)
    | with_reducible assumption
    | with_reducible apply reportFlags_keeps
    | with_reducible apply fillPipeline_keeps
    | with_reducible apply purgeTask_keeps
    | with_reducible apply updTask_keeps
    | (with_reducible refine Keeps.mk' ?_ rfl rfl (fun x => x) (fun x => x)
       first
         | with_reducible assumption
         | with_reducible apply reportFlags_keeps
         | with_reducible apply fillPipeline_keeps
         | with_reducible apply purgeTask_keeps
         | with_reducible apply updTask_keeps)

theorem stopTasks_keeps {p : Parcel} {s : State} {s0 : State} (hk : Keeps s0 s) :
    Keeps s0 (stopTasks p s) := by
  unfold stopTasks
  try dsimp only
  repeat' first
    | (intro _ _ _; try dsimp only)
    | (intro _; try dsimp only)
    | with_reducible apply Keeps.ite
    | with_reducible assumption
    | with_reducible apply freeTask_keeps
    | with_reducible apply Keeps.foldl
    | with_reducible apply Keeps.foldl2
    | with_reducible apply Keeps.foldl22
    | split

theorem flushParcel_keeps {p : Parcel} {s : State} {s0 : State} (hk : Keeps s0 s) :
    Keeps s0 (flushParcel p s) := by
  unfold flushParcel
  try dsimp only
  repeat' first
    | (intro _ _ _; try dsimp only)
    | (intro _; try dsimp only)
    | with_reducible apply Keeps.ite
    | with_reducible assumption
    | with_reducible apply flushContext_keeps
    | refine Keeps.of_pair (by with_reducible assumption) (flushContext_keeps ?_)
    | with_reducible apply updParcel_keeps
    | with_reducible apply Keeps.foldl
    | with_reducible apply Keeps.foldl2
    | with_reducible apply Keeps.foldl22
    | split
    | (with_reducible refine Keeps.mk' ?_ rfl rfl (fun x => x) (fun x => x)
       first
         | with_reducible assumption
         | with_reducible apply Keeps.ite
         | with_reducible apply flushContext_keeps
         | refine Keeps.of_pair (by with_reducible assumption) (flushContext_keeps ?_)
         | with_reducible apply updParcel_keeps
         | with_reducible apply Keeps.foldl
         | with_reducible apply Keeps.foldl2
         | with_reducible apply Keeps.foldl22
         | split)

theorem dropParcelFlight_keeps {pid : Nat} {s : State} {s0 : State} (hk : Keeps s0 s) :
    Keeps s0 (dropParcelFlight pid s) := by
  unfold dropParcelFlight
  try dsimp only
  repeat' first
    | (intro _ _ _; try dsimp only)
    | (intro _; try dsimp only)
    | with_reducible apply Keeps.ite
    | with_reducible assumption
    | split
    | (with_reducible refine Keeps.mk' ?_ rfl rfl (fun x => x) (fun x => x)
       first
         | with_reducible assumption
         | with_reducible apply Keeps.ite
         | split)

theorem dropWrites_keeps {slots : List Nat} {s : State} {s0 : State} (hk : Keeps s0 s) :
    Keeps s0 (dropWrites slots s) := by
  unfold dropWrites
  try dsimp only
  repeat' first
    | (intro _ _ _; try dsimp only)
    | (intro _; try dsimp only)
    | with_reducible apply Keeps.ite
    | with_reducible assumption
    | split
    | (with_reducible refine Keeps.mk' ?_ rfl rfl (fun x => x) (fun x => x)
       first
         | with_reducible assumption
         | with_reducible apply Keeps.ite
         | split)

theorem freeParcel_keeps {p : Parcel} {s : State} {s0 : State} (hk : Keeps s0 s) :
    Keeps s0 (freeParcel p s) := by
  unfold freeParcel
  try dsimp only
  repeat' first
    | (intro _ _ _; try dsimp only)
    | (intro _; try dsimp only)
    | with_reducible assumption
    | with_reducible apply dropWrites_keeps
    | with_reducible apply freeArea_keeps
    | (with_reducible refine Keeps.mk' ?_ rfl rfl (fun x => x) (fun x => x)
       first
         | with_reducible assumption
         | with_reducible apply dropWrites_keeps
         | with_reducible apply freeArea_keeps)

theorem endCore_keeps {id outcome fault reason : Nat} {s : State} {s0 : State} (hk : Keeps s0 s) :
    Keeps s0 (endCore id outcome fault reason s) := by
  unfold endCore
  try dsimp only
  repeat' first
    | (intro _ _ _; try dsimp only)
    | (intro _; try dsimp only)
    | with_reducible apply Keeps.ite
    | with_reducible assumption
    | with_reducible apply raiseFor_keeps
    | with_reducible apply abortBarriers_keeps
    | with_reducible apply dropParcelFlight_keeps
    | with_reducible apply stopTasks_keeps
    | with_reducible apply flushParcel_keeps
    | with_reducible apply freeParcel_keeps
    | with_reducible apply deadLetter_keeps
    | with_reducible apply freeRev_keeps
    | refine Keeps.of_pair (by with_reducible assumption) (freeRev_keeps ?_)
    | with_reducible apply sendReport_keeps
    | split
    | (with_reducible refine Keeps.mk' ?_ rfl rfl (fun x => x) (fun x => x)
       first
         | with_reducible assumption
         | with_reducible apply Keeps.ite
         | with_reducible apply raiseFor_keeps
         | with_reducible apply abortBarriers_keeps
         | with_reducible apply dropParcelFlight_keeps
         | with_reducible apply stopTasks_keeps
         | with_reducible apply flushParcel_keeps
         | with_reducible apply freeParcel_keeps
         | with_reducible apply deadLetter_keeps
         | with_reducible apply freeRev_keeps
         | refine Keeps.of_pair (by with_reducible assumption) (freeRev_keeps ?_)
         | with_reducible apply sendReport_keeps
         | split)

theorem requestRelease_keeps {p : Parcel} {s : State} {s0 : State} (hk : Keeps s0 s) :
    Keeps s0 (requestRelease p s).2 := by
  unfold requestRelease
  try dsimp only
  repeat' first
    | (intro _ _ _; try dsimp only)
    | (intro _; try dsimp only)
    | with_reducible apply Keeps.ite
    | with_reducible assumption
    | with_reducible apply updParcel_keeps
    | with_reducible apply requestSlot_keeps
    | refine Keeps.of_pair (by with_reducible assumption) (requestSlot_keeps ?_)
    | split
    | (with_reducible refine Keeps.mk' ?_ rfl rfl (fun x => x) (fun x => x)
       first
         | with_reducible assumption
         | with_reducible apply Keeps.ite
         | with_reducible apply updParcel_keeps
         | with_reducible apply requestSlot_keeps
         | refine Keeps.of_pair (by with_reducible assumption) (requestSlot_keeps ?_)
         | split)

theorem missRelease_keeps {id : Nat} {s : State} {s0 : State} (hk : Keeps s0 s) :
    Keeps s0 (missRelease id s) := by
  unfold missRelease
  try dsimp only
  repeat' first
    | (intro _; try dsimp only)
    | with_reducible assumption
    | with_reducible apply endCore_keeps
    | with_reducible apply raiseFor_keeps

theorem armContext_keeps {x0 : Nat} {x1 : Nat} {s : State} {s0 : State} (hk : Keeps s0 s) :
    Keeps s0 (armContext x0 x1 s) := by
  induction x0 generalizing x1 s with
  | zero =>
    simp only [armContext]
    try dsimp only
    repeat' first
      | (intro _; try dsimp only)
      | with_reducible assumption
      | with_reducible apply requestRelease_keeps
      | refine Keeps.of_pair (by with_reducible assumption) (requestRelease_keeps ?_)
      | with_reducible apply missRelease_keeps
      | split
      | (with_reducible refine Keeps.mk' ?_ rfl rfl (fun x => x) (fun x => x)
         first
           | with_reducible assumption
           | with_reducible apply requestRelease_keeps
           | refine Keeps.of_pair (by with_reducible assumption) (requestRelease_keeps ?_)
           | with_reducible apply missRelease_keeps
           | split)
  | succ n ih =>
    simp only [armContext]
    try dsimp only
    repeat' first
      | (intro _; try dsimp only)
      | with_reducible assumption
      | with_reducible apply ih
      | with_reducible apply requestRelease_keeps
      | refine Keeps.of_pair (by with_reducible assumption) (requestRelease_keeps ?_)
      | with_reducible apply missRelease_keeps
      | split
      | (with_reducible refine Keeps.mk' ?_ rfl rfl (fun x => x) (fun x => x)
         first
           | with_reducible assumption
           | with_reducible apply ih
           | with_reducible apply requestRelease_keeps
           | refine Keeps.of_pair (by with_reducible assumption) (requestRelease_keeps ?_)
           | with_reducible apply missRelease_keeps
           | split)

theorem armNext_keeps {c : Nat} {s : State} {s0 : State} (hk : Keeps s0 s) :
    Keeps s0 (armNext c s) := by
  unfold armNext
  try dsimp only
  repeat' first
    | (intro _; try dsimp only)
    | with_reducible assumption
    | with_reducible apply armContext_keeps

theorem armAll_keeps {s : State} {s0 : State} (hk : Keeps s0 s) :
    Keeps s0 (armAll s) := by
  unfold armAll
  try dsimp only
  repeat' first
    | (intro _ _ _; try dsimp only)
    | (intro _; try dsimp only)
    | with_reducible assumption
    | with_reducible apply armNext_keeps
    | with_reducible apply Keeps.foldl
    | with_reducible apply Keeps.foldl2
    | with_reducible apply Keeps.foldl22

theorem endParcel_keeps {id outcome fault reason : Nat} {s : State} {s0 : State} (hk : Keeps s0 s) :
    Keeps s0 (endParcel id outcome fault reason s) := by
  unfold endParcel
  try dsimp only
  repeat' first
    | (intro _; try dsimp only)
    | with_reducible assumption
    | with_reducible apply armNext_keeps
    | with_reducible apply endCore_keeps
    | split
    | (with_reducible refine Keeps.mk' ?_ rfl rfl (fun x => x) (fun x => x)
       first
         | with_reducible assumption
         | with_reducible apply armNext_keeps
         | with_reducible apply endCore_keeps
         | split)

theorem missParcel_keeps {id : Nat} {s : State} {s0 : State} (hk : Keeps s0 s) :
    Keeps s0 (missParcel id s) := by
  unfold missParcel
  try dsimp only
  repeat' first
    | (intro _; try dsimp only)
    | with_reducible assumption
    | with_reducible apply armNext_keeps
    | with_reducible apply missRelease_keeps
    | split
    | (with_reducible refine Keeps.mk' ?_ rfl rfl (fun x => x) (fun x => x)
       first
         | with_reducible assumption
         | with_reducible apply armNext_keeps
         | with_reducible apply missRelease_keeps
         | split)

theorem reapTask_keeps {s : State} {k : Nat × Nat} {s0 : State} (hk : Keeps s0 s) :
    Keeps s0 (reapTask s k) := by
  unfold reapTask
  try dsimp only
  repeat' first
    | (intro _; try dsimp only)
    | with_reducible apply Keeps.ite
    | with_reducible assumption
    | with_reducible apply endParcel_keeps
    | split

theorem reap_keeps {s : State} {s0 : State} (hk : Keeps s0 s) :
    Keeps s0 (reap s) := by
  unfold reap
  try dsimp only
  repeat' first
    | (intro _ _ _; try dsimp only)
    | (intro _; try dsimp only)
    | with_reducible assumption
    | with_reducible apply reapTask_keeps
    | with_reducible apply Keeps.foldl
    | with_reducible apply Keeps.foldl2
    | with_reducible apply Keeps.foldl22

theorem endLetter_keeps {l : Letter} {s : State} {s0 : State} (hk : Keeps s0 s) :
    Keeps s0 (endLetter l s) := by
  unfold endLetter
  try dsimp only
  repeat' first
    | (intro _ _ _; try dsimp only)
    | (intro _; try dsimp only)
    | with_reducible assumption
    | with_reducible apply freeArea_keeps
    | (with_reducible refine Keeps.mk' ?_ rfl rfl (fun x => x) (fun x => x)
       first
         | with_reducible assumption
         | with_reducible apply freeArea_keeps)

theorem doLetterComplete_keeps {id : Nat} {s : State} {s0 : State} (hk : Keeps s0 s) :
    Keeps s0 (doLetterComplete id s) := by
  unfold doLetterComplete
  try dsimp only
  repeat' first
    | (intro _ _ _; try dsimp only)
    | (intro _; try dsimp only)
    | with_reducible apply Keeps.ite
    | with_reducible assumption
    | with_reducible apply sendReport_keeps
    | with_reducible apply endLetter_keeps
    | split
    | (with_reducible refine Keeps.mk' ?_ rfl rfl (fun x => x) (fun x => x)
       first
         | with_reducible assumption
         | with_reducible apply Keeps.ite
         | with_reducible apply sendReport_keeps
         | with_reducible apply endLetter_keeps
         | split)

theorem refuseAll_keeps {reason : Nat} {s : State} {s0 : State} (hk : Keeps s0 s) :
    Keeps s0 (refuseAll reason s) := by
  unfold refuseAll
  try dsimp only
  repeat' first
    | (intro _ _ _; try dsimp only)
    | (intro _; try dsimp only)
    | with_reducible apply Keeps.ite
    | with_reducible assumption
    | with_reducible apply freeArea_keeps
    | with_reducible apply refuse_keeps
    | with_reducible apply endLetter_keeps
    | with_reducible apply raise0_keeps
    | with_reducible apply Keeps.foldl
    | with_reducible apply Keeps.foldl2
    | with_reducible apply Keeps.foldl22
    | split
    | (with_reducible refine Keeps.mk' ?_ rfl rfl (fun x => x) (fun x => x)
       first
         | with_reducible assumption
         | with_reducible apply Keeps.ite
         | with_reducible apply freeArea_keeps
         | with_reducible apply refuse_keeps
         | with_reducible apply endLetter_keeps
         | with_reducible apply raise0_keeps
         | with_reducible apply Keeps.foldl
         | with_reducible apply Keeps.foldl2
         | with_reducible apply Keeps.foldl22
         | split)

theorem setRowMap_keeps {n e : Nat} {m : RowMap} {s : State} {s0 : State} (hk : Keeps s0 s) :
    Keeps s0 (State.setRowMap n e m s) := by
  unfold State.setRowMap
  try dsimp only
  repeat' first
    | (intro _; try dsimp only)
    | with_reducible assumption
    | (with_reducible refine Keeps.mk' ?_ rfl rfl (fun x => x) (fun x => x)
       first
         | with_reducible assumption)

theorem updShard_keeps {n : Nat} {f : Shard → Shard} {s : State} {s0 : State} (hk : Keeps s0 s) :
    Keeps s0 (State.updShard n f s) := by
  unfold State.updShard
  try dsimp only
  repeat' first
    | (intro _; try dsimp only)
    | with_reducible assumption
    | (with_reducible refine Keeps.mk' ?_ rfl rfl (fun x => x) (fun x => x)
       first
         | with_reducible assumption)

theorem refuseEntry_keeps {letter table : Nat} {s : State} {s0 : State} (hk : Keeps s0 s) :
    Keeps s0 (refuseEntry letter table s) := by
  unfold refuseEntry
  try dsimp only
  repeat' first
    | (intro _ _ _; try dsimp only)
    | (intro _; try dsimp only)
    | with_reducible apply Keeps.ite
    | with_reducible assumption
    | with_reducible apply raiseFull_keeps
    | split
    | (with_reducible refine Keeps.mk' ?_ rfl rfl (fun x => x) (fun x => x)
       first
         | with_reducible assumption
         | with_reducible apply Keeps.ite
         | with_reducible apply raiseFull_keeps
         | split)

theorem rowFlits_keeps {h : RowHead} {x0 : Nat} {x1 : List (Byte × Bool)} {s : State} {s0 : State} (hk : Keeps s0 s) :
    Keeps s0 (rowFlits h x0 x1 s) := by
  induction x0 generalizing h x1 s with
  | zero =>
    simp only [rowFlits]
    try dsimp only
    repeat' first
      | (intro _; try dsimp only)
      | with_reducible apply Keeps.ite
      | with_reducible assumption
      | with_reducible apply sendReply_keeps
      | split
  | succ n ih =>
    simp only [rowFlits]
    try dsimp only
    repeat' first
      | (intro _; try dsimp only)
      | with_reducible apply Keeps.ite
      | with_reducible assumption
      | with_reducible apply ih
      | with_reducible apply sendReply_keeps
      | split

theorem sendRow_keeps {h : RowHead} {bs : List (Byte × Bool)} {s : State} {s0 : State} (hk : Keeps s0 s) :
    Keeps s0 (sendRow h bs s) := by
  unfold sendRow
  try dsimp only
  repeat' first
    | (intro _; try dsimp only)
    | with_reducible assumption
    | with_reducible apply rowFlits_keeps

theorem freshTag_keeps {s : State} {s0 : State} (hk : Keeps s0 s) :
    Keeps s0 (State.freshTag s).2 := by
  unfold State.freshTag
  try dsimp only
  repeat' first
    | (intro _; try dsimp only)
    | with_reducible assumption
    | (with_reducible refine Keeps.mk' ?_ rfl rfl (fun x => x) (fun x => x)
       first
         | with_reducible assumption)

theorem addEntry_keeps {l : Letter} {e : Nat × Nat × List Byte} {s : State} {s0 : State} (hk : Keeps s0 s) :
    Keeps s0 (addEntry l e s) := by
  unfold addEntry
  try dsimp only
  repeat' first
    | (intro _; try dsimp only)
    | with_reducible apply Keeps.ite
    | with_reducible assumption
    | with_reducible apply refuseEntry_keeps
    | with_reducible apply freshTag_keeps
    | refine Keeps.of_pair (by with_reducible assumption) (freshTag_keeps ?_)
    | with_reducible apply sendRow_keeps
    | split
    | (with_reducible refine Keeps.mk' ?_ rfl rfl (fun x => x) (fun x => x)
       first
         | with_reducible assumption
         | with_reducible apply Keeps.ite
         | with_reducible apply refuseEntry_keeps
         | with_reducible apply freshTag_keeps
         | refine Keeps.of_pair (by with_reducible assumption) (freshTag_keeps ?_)
         | with_reducible apply sendRow_keeps
         | split)

theorem acceptPost_keeps {p : Post} {bs : List Byte} {base : Nat} {s : State} {s0 : State} (hk : Keeps s0 s) :
    Keeps s0 (acceptPost p bs base s) := by
  unfold acceptPost
  try dsimp only
  repeat' first
    | (intro _ _ _; try dsimp only)
    | (intro _; try dsimp only)
    | with_reducible apply Keeps.ite
    | with_reducible assumption
    | with_reducible apply takeArea_keeps
    | with_reducible apply devWrite_keeps
    | with_reducible apply updCtx_keeps
    | with_reducible apply addEntry_keeps
    | with_reducible apply armNext_keeps
    | with_reducible apply Keeps.foldl
    | with_reducible apply Keeps.foldl2
    | with_reducible apply Keeps.foldl22
    | split
    | (with_reducible refine Keeps.mk' ?_ rfl rfl (fun x => x) (fun x => x)
       first
         | with_reducible assumption
         | with_reducible apply Keeps.ite
         | with_reducible apply takeArea_keeps
         | with_reducible apply devWrite_keeps
         | with_reducible apply updCtx_keeps
         | with_reducible apply addEntry_keeps
         | with_reducible apply armNext_keeps
         | with_reducible apply Keeps.foldl
         | with_reducible apply Keeps.foldl2
         | with_reducible apply Keeps.foldl22
         | split)

theorem checkPost_keeps {p : Post} {bs : List Byte} {s : State} {s0 : State} (hk : Keeps s0 s) :
    Keeps s0 (checkPost p bs s) := by
  unfold checkPost
  try dsimp only
  repeat' first
    | (intro _; try dsimp only)
    | with_reducible apply Keeps.ite
    | with_reducible assumption
    | with_reducible apply refusePost_keeps
    | with_reducible apply acceptPost_keeps
    | split
    | (with_reducible refine Keeps.mk' ?_ rfl rfl (fun x => x) (fun x => x)
       first
         | with_reducible assumption
         | with_reducible apply Keeps.ite
         | with_reducible apply refusePost_keeps
         | with_reducible apply acceptPost_keeps
         | split)

theorem freshId_keeps {s : State} {s0 : State} (hk : Keeps s0 s) :
    Keeps s0 (State.freshId s).2 := by
  unfold State.freshId
  try dsimp only
  repeat' first
    | (intro _; try dsimp only)
    | with_reducible assumption
    | (with_reducible refine Keeps.mk' ?_ rfl rfl (fun x => x) (fun x => x)
       first
         | with_reducible assumption)

theorem takeDescriptor_keeps {f : Nat} {ws : List Nat} {s : State} {s0 : State} (hk : Keeps s0 s) :
    Keeps s0 (takeDescriptor f ws s) := by
  unfold takeDescriptor
  try dsimp only
  repeat' first
    | (intro _ _ _; try dsimp only)
    | (intro _; try dsimp only)
    | with_reducible apply Keeps.ite
    | with_reducible assumption
    | with_reducible apply freshId_keeps
    | refine Keeps.of_pair (by with_reducible assumption) (freshId_keeps ?_)
    | with_reducible apply refusePost_keeps
    | split
    | (with_reducible refine Keeps.mk' ?_ rfl rfl (fun x => x) (fun x => x)
       first
         | with_reducible assumption
         | with_reducible apply Keeps.ite
         | with_reducible apply freshId_keeps
         | refine Keeps.of_pair (by with_reducible assumption) (freshId_keeps ?_)
         | with_reducible apply refusePost_keeps
         | split)

theorem doDoorTorn_keeps {f : Nat} {s : State} {s0 : State} (hk : Keeps s0 s) :
    Keeps s0 (doDoorTorn f s) := by
  unfold doDoorTorn
  try dsimp only
  repeat' first
    | (intro _; try dsimp only)
    | with_reducible apply Keeps.ite
    | with_reducible assumption
    | split
    | (with_reducible refine Keeps.mk' ?_ rfl rfl (fun x => x) (fun x => x)
       first
         | with_reducible assumption
         | with_reducible apply Keeps.ite
         | split)

theorem doPostReceived_keeps {id : Nat} {body : List Byte} {s : State} {s0 : State} (hk : Keeps s0 s) :
    Keeps s0 (doPostReceived id body s) := by
  unfold doPostReceived
  try dsimp only
  repeat' first
    | (intro _ _ _; try dsimp only)
    | (intro _; try dsimp only)
    | with_reducible assumption
    | with_reducible apply checkPost_keeps
    | split
    | (with_reducible refine Keeps.mk' ?_ rfl rfl (fun x => x) (fun x => x)
       first
         | with_reducible assumption
         | with_reducible apply checkPost_keeps
         | split)

theorem doPostReadTimeout_keeps {id : Nat} {s : State} {s0 : State} (hk : Keeps s0 s) :
    Keeps s0 (doPostReadTimeout id s) := by
  unfold doPostReadTimeout
  try dsimp only
  repeat' first
    | (intro _ _ _; try dsimp only)
    | (intro _; try dsimp only)
    | with_reducible apply Keeps.ite
    | with_reducible assumption
    | with_reducible apply checkPost_keeps
    | split
    | (with_reducible refine Keeps.mk' ?_ rfl rfl (fun x => x) (fun x => x)
       first
         | with_reducible assumption
         | with_reducible apply Keeps.ite
         | with_reducible apply checkPost_keeps
         | split)

theorem doTlsHandshake_keeps {port conn client : Nat} {s : State} {s0 : State} (hk : Keeps s0 s) :
    Keeps s0 (doTlsHandshake port conn client s) := by
  unfold doTlsHandshake
  try dsimp only
  repeat' first
    | (intro _ _ _; try dsimp only)
    | (intro _; try dsimp only)
    | with_reducible apply Keeps.ite
    | with_reducible assumption
    | split
    | (with_reducible refine Keeps.mk' ?_ rfl rfl (fun x => x) (fun x => x)
       first
         | with_reducible assumption
         | with_reducible apply Keeps.ite
         | split)

theorem doConnectionClose_keeps {port conn : Nat} {s : State} {s0 : State} (hk : Keeps s0 s) :
    Keeps s0 (doConnectionClose port conn s) := by
  unfold doConnectionClose
  try dsimp only
  repeat' first
    | (intro _ _ _; try dsimp only)
    | (intro _; try dsimp only)
    | with_reducible assumption
    | (with_reducible refine Keeps.mk' ?_ rfl rfl (fun x => x) (fun x => x)
       first
         | with_reducible assumption)

theorem doNetworkFrame_keeps {port conn : Nat} {header body : List Byte} {s : State} {s0 : State} (hk : Keeps s0 s) :
    Keeps s0 (doNetworkFrame port conn header body s) := by
  unfold doNetworkFrame
  try dsimp only
  repeat' first
    | (intro _ _ _; try dsimp only)
    | (intro _; try dsimp only)
    | with_reducible apply Keeps.ite
    | with_reducible assumption
    | with_reducible apply doConnectionClose_keeps
    | with_reducible apply freshId_keeps
    | refine Keeps.of_pair (by with_reducible assumption) (freshId_keeps ?_)
    | with_reducible apply checkPost_keeps
    | split
    | (with_reducible refine Keeps.mk' ?_ rfl rfl (fun x => x) (fun x => x)
       first
         | with_reducible assumption
         | with_reducible apply Keeps.ite
         | with_reducible apply doConnectionClose_keeps
         | with_reducible apply freshId_keeps
         | refine Keeps.of_pair (by with_reducible assumption) (freshId_keeps ?_)
         | with_reducible apply checkPost_keeps
         | split)

theorem loadLines_keeps {p : Parcel} {x0 : Nat} {x1 : Nat} {x2 : List Byte} {s : State} {s0 : State} (hk : Keeps s0 s) :
    Keeps s0 (loadLines p x0 x1 x2 s) := by
  induction x0 generalizing p x1 x2 s with
  | zero =>
    simp only [loadLines]
    try dsimp only
    repeat' first
      | (intro _ _ _; try dsimp only)
      | (intro _; try dsimp only)
      | with_reducible apply Keeps.ite
      | with_reducible assumption
      | with_reducible apply countOutside_keeps
      | with_reducible apply issueReq_keeps
      | with_reducible apply updParcel_keeps
      | split
      | (with_reducible refine Keeps.mk' ?_ rfl rfl (fun x => x) (fun x => x)
         first
           | with_reducible assumption
           | with_reducible apply Keeps.ite
           | with_reducible apply countOutside_keeps
           | with_reducible apply issueReq_keeps
           | with_reducible apply updParcel_keeps
           | split)
  | succ n ih =>
    simp only [loadLines]
    try dsimp only
    repeat' first
      | (intro _ _ _; try dsimp only)
      | (intro _; try dsimp only)
      | with_reducible apply Keeps.ite
      | with_reducible assumption
      | with_reducible apply ih
      | with_reducible apply countOutside_keeps
      | with_reducible apply issueReq_keeps
      | with_reducible apply updParcel_keeps
      | split
      | (with_reducible refine Keeps.mk' ?_ rfl rfl (fun x => x) (fun x => x)
         first
           | with_reducible assumption
           | with_reducible apply Keeps.ite
           | with_reducible apply ih
           | with_reducible apply countOutside_keeps
           | with_reducible apply issueReq_keeps
           | with_reducible apply updParcel_keeps
           | split)

theorem issueLoads_keeps {p : Parcel} {x0 : Nat} {x1 : Nat} {s : State} {s0 : State} (hk : Keeps s0 s) :
    Keeps s0 (issueLoads p x0 x1 s) := by
  induction x0 generalizing p x1 s with
  | zero =>
    simp only [issueLoads]
    try dsimp only
    repeat' first
      | (intro _; try dsimp only)
      | with_reducible assumption
      | with_reducible apply loadLines_keeps
  | succ n ih =>
    simp only [issueLoads]
    try dsimp only
    repeat' first
      | (intro _; try dsimp only)
      | with_reducible assumption
      | with_reducible apply ih
      | with_reducible apply loadLines_keeps

theorem awaitRelease_keeps {p : Parcel} {s : State} {s0 : State} (hk : Keeps s0 s) :
    Keeps s0 (awaitRelease p s) := by
  unfold awaitRelease
  try dsimp only
  repeat' first
    | (intro _ _ _; try dsimp only)
    | (intro _; try dsimp only)
    | with_reducible apply Keeps.ite
    | with_reducible assumption
    | with_reducible apply missParcel_keeps
    | with_reducible apply armNext_keeps
    | with_reducible apply updParcel_keeps
    | split
    | (with_reducible refine Keeps.mk' ?_ rfl rfl (fun x => x) (fun x => x)
       first
         | with_reducible assumption
         | with_reducible apply Keeps.ite
         | with_reducible apply missParcel_keeps
         | with_reducible apply armNext_keeps
         | with_reducible apply updParcel_keeps
         | split)

theorem releaseParcel_keeps {p : Parcel} {s : State} {s0 : State} (hk : Keeps s0 s) :
    Keeps s0 (releaseParcel p s) := by
  unfold releaseParcel
  try dsimp only
  repeat' first
    | (intro _ _ _; try dsimp only)
    | (intro _; try dsimp only)
    | with_reducible apply Keeps.ite
    | with_reducible assumption
    | with_reducible apply missParcel_keeps
    | with_reducible apply updParcel_keeps
    | with_reducible apply endParcel_keeps
    | with_reducible apply raiseFor_keeps
    | with_reducible apply awaitRelease_keeps
    | with_reducible apply issueLoads_keeps
    | split
    | (with_reducible refine Keeps.mk' ?_ rfl rfl (fun x => x) (fun x => x)
       first
         | with_reducible assumption
         | with_reducible apply Keeps.ite
         | with_reducible apply missParcel_keeps
         | with_reducible apply updParcel_keeps
         | with_reducible apply endParcel_keeps
         | with_reducible apply raiseFor_keeps
         | with_reducible apply awaitRelease_keeps
         | with_reducible apply issueLoads_keeps
         | split)

theorem fireRelease_keeps {tag : Nat} {s : State} {s0 : State} (hk : Keeps s0 s) :
    Keeps s0 (fireRelease tag s) := by
  unfold fireRelease
  try dsimp only
  repeat' first
    | (intro _ _ _; try dsimp only)
    | (intro _; try dsimp only)
    | with_reducible assumption
    | with_reducible apply releaseParcel_keeps
    | split
    | (with_reducible refine Keeps.mk' ?_ rfl rfl (fun x => x) (fun x => x)
       first
         | with_reducible assumption
         | with_reducible apply releaseParcel_keeps
         | split)

theorem placeClaim_keeps {p : Parcel} {s : State} {s0 : State} (hk : Keeps s0 s) :
    Keeps s0 (placeClaim p s) := by
  unfold placeClaim
  try dsimp only
  repeat' first
    | (intro _; try dsimp only)
    | with_reducible assumption
    | (with_reducible refine Keeps.mk' ?_ rfl rfl (fun x => x) (fun x => x)
       first
         | with_reducible assumption)

theorem placeOwned_keeps {owner : Nat} {s : State} {e : TaskEntry} {s0 : State} (hk : Keeps s0 s) :
    Keeps s0 (placeOwned owner s e) := by
  unfold placeOwned
  try dsimp only
  repeat' first
    | (intro _ _ _; try dsimp only)
    | (intro _; try dsimp only)
    | with_reducible apply Keeps.ite
    | with_reducible assumption
    | with_reducible apply setFull_keeps
    | with_reducible apply Keeps.foldl
    | with_reducible apply Keeps.foldl2
    | with_reducible apply Keeps.foldl22
    | split
    | (with_reducible refine Keeps.mk' ?_ rfl rfl (fun x => x) (fun x => x)
       first
         | with_reducible assumption
         | with_reducible apply Keeps.ite
         | with_reducible apply setFull_keeps
         | with_reducible apply Keeps.foldl
         | with_reducible apply Keeps.foldl2
         | with_reducible apply Keeps.foldl22
         | split)

theorem placeTask_keeps {p : Parcel} {s : State} {e : TaskEntry} {s0 : State} (hk : Keeps s0 s) :
    Keeps s0 (placeTask p s e) := by
  unfold placeTask
  try dsimp only
  repeat' first
    | (intro _ _ _; try dsimp only)
    | (intro _; try dsimp only)
    | with_reducible assumption
    | with_reducible apply updTask_keeps
    | with_reducible apply fillPipeline_keeps
    | with_reducible apply updParcel_keeps
    | split
    | (with_reducible refine Keeps.mk' ?_ rfl rfl (fun x => x) (fun x => x)
       first
         | with_reducible assumption
         | with_reducible apply updTask_keeps
         | with_reducible apply fillPipeline_keeps
         | with_reducible apply updParcel_keeps
         | split)

theorem placeMap_keeps {p : Parcel} {s : State} {s0 : State} (hk : Keeps s0 s) :
    Keeps s0 (placeMap p s) := by
  unfold placeMap
  try dsimp only
  repeat' first
    | (intro _ _ _; try dsimp only)
    | (intro _; try dsimp only)
    | with_reducible apply Keeps.ite
    | with_reducible assumption
    | with_reducible apply Keeps.foldl
    | with_reducible apply Keeps.foldl2
    | with_reducible apply Keeps.foldl22
    | split
    | (with_reducible refine Keeps.mk' ?_ rfl rfl (fun x => x) (fun x => x)
       first
         | with_reducible assumption
         | with_reducible apply Keeps.ite
         | with_reducible apply Keeps.foldl
         | with_reducible apply Keeps.foldl2
         | with_reducible apply Keeps.foldl22
         | split)

theorem placeBarriers_keeps {p : Parcel} {s : State} {s0 : State} (hk : Keeps s0 s) :
    Keeps s0 (placeBarriers p s) := by
  unfold placeBarriers
  try dsimp only
  repeat' first
    | (intro _ _ _; try dsimp only)
    | (intro _; try dsimp only)
    | with_reducible apply Keeps.ite
    | with_reducible assumption
    | with_reducible apply setBar_keeps
    | with_reducible apply updParcel_keeps
    | with_reducible apply settleBar_keeps
    | with_reducible apply Keeps.foldl
    | with_reducible apply Keeps.foldl2
    | with_reducible apply Keeps.foldl22
    | split
    | (with_reducible refine Keeps.mk' ?_ rfl rfl (fun x => x) (fun x => x)
       first
         | with_reducible assumption
         | with_reducible apply Keeps.ite
         | with_reducible apply setBar_keeps
         | with_reducible apply updParcel_keeps
         | with_reducible apply settleBar_keeps
         | with_reducible apply Keeps.foldl
         | with_reducible apply Keeps.foldl2
         | with_reducible apply Keeps.foldl22
         | split)

theorem putWatch_keeps {c : Nat} {w : Watch} {s : State} {s0 : State} (hk : Keeps s0 s) :
    Keeps s0 (putWatch c w s) := by
  unfold putWatch
  try dsimp only
  repeat' first
    | (intro _; try dsimp only)
    | with_reducible assumption
    | split
    | (with_reducible refine Keeps.mk' ?_ rfl rfl (fun x => x) (fun x => x)
       first
         | with_reducible assumption
         | split)

theorem placeWatches_keeps {p : Parcel} {s : State} {s0 : State} (hk : Keeps s0 s) :
    Keeps s0 (placeWatches p s) := by
  unfold placeWatches
  try dsimp only
  repeat' first
    | (intro _ _ _; try dsimp only)
    | (intro _; try dsimp only)
    | with_reducible assumption
    | with_reducible apply putWatch_keeps
    | with_reducible apply Keeps.foldl
    | with_reducible apply Keeps.foldl2
    | with_reducible apply Keeps.foldl22
    | (with_reducible refine Keeps.mk' ?_ rfl rfl (fun x => x) (fun x => x)
       first
         | with_reducible assumption
         | with_reducible apply putWatch_keeps
         | with_reducible apply Keeps.foldl
         | with_reducible apply Keeps.foldl2
         | with_reducible apply Keeps.foldl22)

theorem placeCombines_keeps {p : Parcel} {s : State} {s0 : State} (hk : Keeps s0 s) :
    Keeps s0 (placeCombines p s) := by
  unfold placeCombines
  try dsimp only
  repeat' first
    | (intro _ _ _; try dsimp only)
    | (intro _; try dsimp only)
    | with_reducible assumption
    | with_reducible apply putWatch_keeps
    | with_reducible apply Keeps.foldl
    | with_reducible apply Keeps.foldl2
    | with_reducible apply Keeps.foldl22
    | split
    | (with_reducible refine Keeps.mk' ?_ rfl rfl (fun x => x) (fun x => x)
       first
         | with_reducible assumption
         | with_reducible apply putWatch_keeps
         | with_reducible apply Keeps.foldl
         | with_reducible apply Keeps.foldl2
         | with_reducible apply Keeps.foldl22
         | split)

theorem placeRings_keeps {p : Parcel} {s : State} {s0 : State} (hk : Keeps s0 s) :
    Keeps s0 (placeRings p s) := by
  unfold placeRings
  try dsimp only
  repeat' first
    | (intro _ _ _; try dsimp only)
    | (intro _; try dsimp only)
    | with_reducible assumption
    | with_reducible apply landed_keeps
    | with_reducible apply Keeps.foldl
    | with_reducible apply Keeps.foldl2
    | with_reducible apply Keeps.foldl22
    | split
    | (with_reducible refine Keeps.mk' ?_ rfl rfl (fun x => x) (fun x => x)
       first
         | with_reducible assumption
         | with_reducible apply landed_keeps
         | with_reducible apply Keeps.foldl
         | with_reducible apply Keeps.foldl2
         | with_reducible apply Keeps.foldl22
         | split)

theorem placeSends_keeps {p : Parcel} {s : State} {s0 : State} (hk : Keeps s0 s) :
    Keeps s0 (placeSends p s) := by
  unfold placeSends
  try dsimp only
  repeat' first
    | (intro _ _ _; try dsimp only)
    | (intro _; try dsimp only)
    | with_reducible assumption
    | with_reducible apply Keeps.foldl
    | with_reducible apply Keeps.foldl2
    | with_reducible apply Keeps.foldl22
    | split
    | (with_reducible refine Keeps.mk' ?_ rfl rfl (fun x => x) (fun x => x)
       first
         | with_reducible assumption
         | with_reducible apply Keeps.foldl
         | with_reducible apply Keeps.foldl2
         | with_reducible apply Keeps.foldl22
         | split)

theorem checkPlaced_keeps {pid : Nat} {s : State} {s0 : State} (hk : Keeps s0 s) :
    Keeps s0 (checkPlaced pid s) := by
  unfold checkPlaced
  try dsimp only
  repeat' first
    | (intro _ _ _; try dsimp only)
    | (intro _; try dsimp only)
    | with_reducible assumption
    | with_reducible apply checkSend_keeps
    | with_reducible apply checkWatch_keeps
    | with_reducible apply Keeps.foldl
    | with_reducible apply Keeps.foldl2
    | with_reducible apply Keeps.foldl22

theorem placeKept_keeps {p : Parcel} {s : State} {s0 : State} (hk : Keeps s0 s) :
    Keeps s0 (placeKept p s) := by
  unfold placeKept
  try dsimp only
  repeat' first
    | (intro _ _ _; try dsimp only)
    | (intro _; try dsimp only)
    | with_reducible assumption
    | with_reducible apply updParcel_keeps
    | (with_reducible refine Keeps.mk' ?_ rfl rfl (fun x => x) (fun x => x)
       first
         | with_reducible assumption
         | with_reducible apply updParcel_keeps)

theorem doTaskPlacement_keeps {id : Nat} {s : State} {s0 : State} (hk : Keeps s0 s) :
    Keeps s0 (doTaskPlacement id s) := by
  unfold doTaskPlacement
  try dsimp only
  repeat' first
    | (intro _ _ _; try dsimp only)
    | (intro _; try dsimp only)
    | with_reducible apply Keeps.ite
    | with_reducible assumption
    | with_reducible apply awaitRelease_keeps
    | with_reducible apply placeKept_keeps
    | with_reducible apply placeClaim_keeps
    | with_reducible apply placeOwned_keeps
    | with_reducible apply placeTask_keeps
    | with_reducible apply placeBarriers_keeps
    | with_reducible apply placeMap_keeps
    | with_reducible apply placeSends_keeps
    | with_reducible apply placeRings_keeps
    | with_reducible apply placeCombines_keeps
    | with_reducible apply placeWatches_keeps
    | with_reducible apply armNext_keeps
    | with_reducible apply checkPlaced_keeps
    | with_reducible apply Keeps.foldl
    | with_reducible apply Keeps.foldl2
    | with_reducible apply Keeps.foldl22
    | split
    | (with_reducible refine Keeps.mk' ?_ rfl rfl (fun x => x) (fun x => x)
       first
         | with_reducible assumption
         | with_reducible apply Keeps.ite
         | with_reducible apply awaitRelease_keeps
         | with_reducible apply placeKept_keeps
         | with_reducible apply placeClaim_keeps
         | with_reducible apply placeOwned_keeps
         | with_reducible apply placeTask_keeps
         | with_reducible apply placeBarriers_keeps
         | with_reducible apply placeMap_keeps
         | with_reducible apply placeSends_keeps
         | with_reducible apply placeRings_keeps
         | with_reducible apply placeCombines_keeps
         | with_reducible apply placeWatches_keeps
         | with_reducible apply armNext_keeps
         | with_reducible apply checkPlaced_keeps
         | with_reducible apply Keeps.foldl
         | with_reducible apply Keeps.foldl2
         | with_reducible apply Keeps.foldl22
         | split)

theorem poisonConsumed_keeps {tile slot : Nat} {s : State} {s0 : State} (hk : Keeps s0 s) :
    Keeps s0 (poisonConsumed tile slot s) := by
  unfold poisonConsumed
  try dsimp only
  repeat' first
    | (intro _ _ _; try dsimp only)
    | (intro _; try dsimp only)
    | with_reducible assumption
    | with_reducible apply endTask_keeps
    | with_reducible apply raiseFor_keeps
    | with_reducible apply updTile_keeps
    | (with_reducible refine Keeps.mk' ?_ rfl rfl (fun x => x) (fun x => x)
       first
         | with_reducible assumption
         | with_reducible apply endTask_keeps
         | with_reducible apply raiseFor_keeps
         | with_reducible apply updTile_keeps)

theorem cmdInvalid_keeps {tile slot : Nat} {s : State} {s0 : State} (hk : Keeps s0 s) :
    Keeps s0 (cmdInvalid tile slot s) := by
  unfold cmdInvalid
  try dsimp only
  repeat' first
    | (intro _ _ _; try dsimp only)
    | (intro _; try dsimp only)
    | with_reducible assumption
    | with_reducible apply endTask_keeps
    | with_reducible apply raiseFor_keeps
    | with_reducible apply updTile_keeps
    | (with_reducible refine Keeps.mk' ?_ rfl rfl (fun x => x) (fun x => x)
       first
         | with_reducible assumption
         | with_reducible apply endTask_keeps
         | with_reducible apply raiseFor_keeps
         | with_reducible apply updTile_keeps)

theorem counterForeign_keeps {tile slot : Nat} {s : State} {s0 : State} (hk : Keeps s0 s) :
    Keeps s0 (counterForeign tile slot s) := by
  unfold counterForeign
  try dsimp only
  repeat' first
    | (intro _ _ _; try dsimp only)
    | (intro _; try dsimp only)
    | with_reducible assumption
    | with_reducible apply endTask_keeps
    | with_reducible apply raiseFor_keeps
    | with_reducible apply updCsu_keeps
    | (with_reducible refine Keeps.mk' ?_ rfl rfl (fun x => x) (fun x => x)
       first
         | with_reducible assumption
         | with_reducible apply endTask_keeps
         | with_reducible apply raiseFor_keeps
         | with_reducible apply updCsu_keeps)

theorem checkCommand_keeps {tile slot : Nat} {s : State} {s0 : State} (hk : Keeps s0 s) :
    Keeps s0 (checkCommand tile slot s) := by
  unfold checkCommand
  try dsimp only
  repeat' first
    | (intro _ _ _; try dsimp only)
    | (intro _; try dsimp only)
    | with_reducible apply Keeps.ite
    | with_reducible assumption
    | with_reducible apply poisonConsumed_keeps
    | with_reducible apply cmdInvalid_keeps
    | with_reducible apply counterForeign_keeps
    | with_reducible apply updTask_keeps
    | split
    | (with_reducible refine Keeps.mk' ?_ rfl rfl (fun x => x) (fun x => x)
       first
         | with_reducible assumption
         | with_reducible apply Keeps.ite
         | with_reducible apply poisonConsumed_keeps
         | with_reducible apply cmdInvalid_keeps
         | with_reducible apply counterForeign_keeps
         | with_reducible apply updTask_keeps
         | split)

theorem checkCommands_keeps {tile : Nat} {s : State} {slot : Nat} {s0 : State} (hk : Keeps s0 s) :
    Keeps s0 (checkCommands tile s slot) := by
  unfold checkCommands
  try dsimp only
  repeat' first
    | (intro _ _ _; try dsimp only)
    | (intro _; try dsimp only)
    | with_reducible assumption
    | with_reducible apply checkCommand_keeps
    | with_reducible apply Keeps.foldl
    | with_reducible apply Keeps.foldl2
    | with_reducible apply Keeps.foldl22

theorem meterCmd_keeps {k : Task} {tile slot : Nat} {s : State} {s0 : State} (hk : Keeps s0 s) :
    Keeps s0 (meterCmd k tile slot s) := by
  unfold meterCmd
  try dsimp only
  repeat' first
    | (intro _; try dsimp only)
    | with_reducible assumption
    | with_reducible apply issueReq_keeps
    | (with_reducible refine Keeps.mk' ?_ rfl rfl (fun x => x) (fun x => x)
       first
         | with_reducible assumption
         | with_reducible apply issueReq_keeps)

theorem readNext_keeps {op tile slot : Nat} {s : State} {s0 : State} (hk : Keeps s0 s) :
    Keeps s0 (readNext op tile slot s) := by
  unfold readNext
  try dsimp only
  repeat' first
    | (intro _ _ _; try dsimp only)
    | (intro _; try dsimp only)
    | with_reducible apply Keeps.ite
    | with_reducible assumption
    | with_reducible apply meterCmd_keeps
    | with_reducible apply updTask_keeps
    | split
    | (with_reducible refine Keeps.mk' ?_ rfl rfl (fun x => x) (fun x => x)
       first
         | with_reducible assumption
         | with_reducible apply Keeps.ite
         | with_reducible apply meterCmd_keeps
         | with_reducible apply updTask_keeps
         | split)

theorem takeRun_keeps {tile : Nat} {x0 : Nat} {x1 : Nat} {x2 : Nat} {s : State} {s0 : State} (hk : Keeps s0 s) :
    Keeps s0 (takeRun tile x0 x1 x2 s).2 := by
  induction x0 generalizing tile x1 x2 s with
  | zero =>
    simp only [takeRun]
    try dsimp only
    repeat' first
      | (intro _ _ _; try dsimp only)
      | (intro _; try dsimp only)
      | with_reducible apply Keeps.ite
      | with_reducible assumption
      | with_reducible apply emptyWord_keeps
      | split
  | succ n ih =>
    simp only [takeRun]
    try dsimp only
    repeat' first
      | (intro _ _ _; try dsimp only)
      | (intro _; try dsimp only)
      | with_reducible apply Keeps.ite
      | with_reducible assumption
      | with_reducible apply ih
      | with_reducible apply emptyWord_keeps
      | refine Keeps.of_pair (by with_reducible assumption) (ih ?_)
      | split

theorem readPart_keeps {tile a n : Nat} {got : List (Byte × Bool)} {s : State} {s0 : State} (hk : Keeps s0 s) :
    Keeps s0 (readPart tile a n got s).2 := by
  unfold readPart
  try dsimp only
  repeat' first
    | (intro _; try dsimp only)
    | with_reducible assumption
    | with_reducible apply takeRun_keeps
    | refine Keeps.of_pair (by with_reducible assumption) (takeRun_keeps ?_)

theorem takeSegs_keeps {tile : Nat} {x0 : List (Nat × Nat)} {s : State} {s0 : State} (hk : Keeps s0 s) :
    Keeps s0 (takeSegs tile x0 s).2 := by
  induction x0 generalizing tile s with
  | nil =>
    simp only [takeSegs]
    try dsimp only
    repeat' first
      | (intro _; try dsimp only)
      | with_reducible apply Keeps.ite
      | with_reducible assumption
      | with_reducible apply takeRun_keeps
      | refine Keeps.of_pair (by with_reducible assumption) (takeRun_keeps ?_)
      | split
  | cons b r ih =>
    simp only [takeSegs]
    try dsimp only
    repeat' first
      | (intro _; try dsimp only)
      | with_reducible apply Keeps.ite
      | with_reducible assumption
      | with_reducible apply ih
      | with_reducible apply takeRun_keeps
      | refine Keeps.of_pair (by with_reducible assumption) (takeRun_keeps ?_)
      | refine Keeps.of_pair (by with_reducible assumption) (ih ?_)
      | split

theorem countOverlong_keeps {cluster hub : Nat} {ws : List Nat} {bags : List IdxBag} {s : State} {s0 : State} (hk : Keeps s0 s) :
    Keeps s0 (countOverlong cluster hub ws bags s) := by
  unfold countOverlong
  try dsimp only
  repeat' first
    | (intro _ _ _; try dsimp only)
    | (intro _; try dsimp only)
    | with_reducible apply Keeps.ite
    | with_reducible assumption
    | with_reducible apply updCluster_keeps
    | split
    | (with_reducible refine Keeps.mk' ?_ rfl rfl (fun x => x) (fun x => x)
       first
         | with_reducible assumption
         | with_reducible apply Keeps.ite
         | with_reducible apply updCluster_keeps
         | split)

theorem putPends_keeps {tile : Nat} {ps : List Pend} {s : State} {s0 : State} (hk : Keeps s0 s) :
    Keeps s0 (putPends tile ps s) := by
  unfold putPends
  try dsimp only
  repeat' first
    | (intro _ _ _; try dsimp only)
    | (intro _; try dsimp only)
    | with_reducible assumption
    | with_reducible apply updTile_keeps
    | with_reducible apply Keeps.foldl
    | with_reducible apply Keeps.foldl2
    | with_reducible apply Keeps.foldl22
    | (with_reducible refine Keeps.mk' ?_ rfl rfl (fun x => x) (fun x => x)
       first
         | with_reducible assumption
         | with_reducible apply updTile_keeps
         | with_reducible apply Keeps.foldl
         | with_reducible apply Keeps.foldl2
         | with_reducible apply Keeps.foldl22)

theorem raiseRow_keeps {code : Nat} {q : RowReq} {s : State} {s0 : State} (hk : Keeps s0 s) :
    Keeps s0 (raiseRow code q s) := by
  unfold raiseRow
  try dsimp only
  repeat' first
    | (intro _ _ _; try dsimp only)
    | (intro _; try dsimp only)
    | with_reducible assumption
    | with_reducible apply raiseOnce_keeps
    | with_reducible apply Keeps.foldl
    | with_reducible apply Keeps.foldl2
    | with_reducible apply Keeps.foldl22

theorem raiseUnresolved_keeps {q : RowReq} {s : State} {s0 : State} (hk : Keeps s0 s) :
    Keeps s0 (raiseUnresolved q s) := by
  unfold raiseUnresolved
  try dsimp only
  repeat' first
    | (intro _; try dsimp only)
    | with_reducible assumption
    | with_reducible apply raiseRow_keeps
    | (with_reducible refine Keeps.mk' ?_ rfl rfl (fun x => x) (fun x => x)
       first
         | with_reducible assumption
         | with_reducible apply raiseRow_keeps)

theorem noteUnresolved_keeps {q : RowReq} {s : State} {s0 : State} (hk : Keeps s0 s) :
    Keeps s0 (noteUnresolved q s) := by
  unfold noteUnresolved
  try dsimp only
  repeat' first
    | (intro _; try dsimp only)
    | with_reducible assumption
    | with_reducible apply raiseUnresolved_keeps
    | (with_reducible refine Keeps.mk' ?_ rfl rfl (fun x => x) (fun x => x)
       first
         | with_reducible assumption
         | with_reducible apply raiseUnresolved_keeps)

theorem noteTorn_keeps {q : RowReq} {s : State} {s0 : State} (hk : Keeps s0 s) :
    Keeps s0 (noteTorn q s) := by
  unfold noteTorn
  try dsimp only
  repeat' first
    | (intro _; try dsimp only)
    | with_reducible assumption
    | with_reducible apply raiseRow_keeps
    | (with_reducible refine Keeps.mk' ?_ rfl rfl (fun x => x) (fun x => x)
       first
         | with_reducible assumption
         | with_reducible apply raiseRow_keeps)

theorem noteUnreachable_keeps {q : RowReq} {s : State} {s0 : State} (hk : Keeps s0 s) :
    Keeps s0 (noteUnreachable q s) := by
  unfold noteUnreachable
  try dsimp only
  repeat' first
    | (intro _; try dsimp only)
    | with_reducible assumption
    | with_reducible apply raiseRow_keeps
    | (with_reducible refine Keeps.mk' ?_ rfl rfl (fun x => x) (fun x => x)
       first
         | with_reducible assumption
         | with_reducible apply raiseRow_keeps)

theorem pushResp_keeps {r : RowResp} {s : State} {s0 : State} (hk : Keeps s0 s) :
    Keeps s0 (pushResp r s) := by
  unfold pushResp
  try dsimp only
  repeat' first
    | (intro _; try dsimp only)
    | with_reducible assumption
    | (with_reducible refine Keeps.mk' ?_ rfl rfl (fun x => x) (fun x => x)
       first
         | with_reducible assumption)

theorem issuePend_keeps {tile : Nat} {p : Pend} {s : State} {s0 : State} (hk : Keeps s0 s) :
    Keeps s0 (issuePend tile p s) := by
  unfold issuePend
  try dsimp only
  repeat' first
    | (intro _ _ _; try dsimp only)
    | (intro _; try dsimp only)
    | with_reducible apply Keeps.ite
    | with_reducible assumption
    | with_reducible apply enqueueReq_keeps
    | with_reducible apply issueReq_keeps
    | with_reducible apply Keeps.foldl
    | with_reducible apply Keeps.foldl2
    | with_reducible apply Keeps.foldl22
    | split
    | (with_reducible refine Keeps.mk' ?_ rfl rfl (fun x => x) (fun x => x)
       first
         | with_reducible assumption
         | with_reducible apply Keeps.ite
         | with_reducible apply enqueueReq_keeps
         | with_reducible apply issueReq_keeps
         | with_reducible apply Keeps.foldl
         | with_reducible apply Keeps.foldl2
         | with_reducible apply Keeps.foldl22
         | split)

theorem issueHead_keeps {tile : Nat} {s : State} {s0 : State} (hk : Keeps s0 s) :
    Keeps s0 (issueHead tile s) := by
  unfold issueHead
  try dsimp only
  repeat' first
    | (intro _ _ _; try dsimp only)
    | (intro _; try dsimp only)
    | with_reducible apply Keeps.ite
    | with_reducible assumption
    | with_reducible apply issuePend_keeps
    | with_reducible apply updTile_keeps
    | split
    | (with_reducible refine Keeps.mk' ?_ rfl rfl (fun x => x) (fun x => x)
       first
         | with_reducible assumption
         | with_reducible apply Keeps.ite
         | with_reducible apply issuePend_keeps
         | with_reducible apply updTile_keeps
         | split)

theorem issueMore_keeps {tile : Nat} {s : State} {s0 : State} (hk : Keeps s0 s) :
    Keeps s0 (issueMore tile s) := by
  unfold issueMore
  try dsimp only
  repeat' first
    | (intro _ _ _; try dsimp only)
    | (intro _; try dsimp only)
    | with_reducible assumption
    | with_reducible apply issueHead_keeps
    | with_reducible apply Keeps.foldl
    | with_reducible apply Keeps.foldl2
    | with_reducible apply Keeps.foldl22

theorem resolveBag_keeps {k : Task} {tile slot : Nat} {c : Cmd} {x0 : List (Nat × Int × Bool)} {s : State} {s0 : State} (hk : Keeps s0 s) :
    Keeps s0 (resolveBag k tile slot c x0 s).2.2 := by
  induction x0 generalizing k tile slot c s with
  | nil =>
    simp only [resolveBag]
    try dsimp only
    repeat' first
      | (intro _ _ _; try dsimp only)
      | (intro _; try dsimp only)
      | with_reducible apply Keeps.ite
      | with_reducible assumption
      | with_reducible apply noteUnresolved_keeps
      | split
      | (with_reducible refine Keeps.mk' ?_ rfl rfl (fun x => x) (fun x => x)
         first
           | with_reducible assumption
           | with_reducible apply Keeps.ite
           | with_reducible apply noteUnresolved_keeps
           | split)
  | cons b r ih =>
    simp only [resolveBag]
    try dsimp only
    repeat' first
      | (intro _ _ _; try dsimp only)
      | (intro _; try dsimp only)
      | with_reducible apply Keeps.ite
      | with_reducible assumption
      | with_reducible apply ih
      | with_reducible apply noteUnresolved_keeps
      | refine Keeps.of_pair2 (by with_reducible assumption) (ih ?_)
      | split
      | (with_reducible refine Keeps.mk' ?_ rfl rfl (fun x => x) (fun x => x)
         first
           | with_reducible assumption
           | with_reducible apply Keeps.ite
           | with_reducible apply ih
           | with_reducible apply noteUnresolved_keeps
           | refine Keeps.of_pair2 (by with_reducible assumption) (ih ?_)
           | split)

theorem resolveBags_keeps {k : Task} {tile slot : Nat} {c : Cmd} {x0 : List (List (Nat × Int × Bool) × Bool)} {s : State} {s0 : State} (hk : Keeps s0 s) :
    Keeps s0 (resolveBags k tile slot c x0 s).2.2 := by
  induction x0 generalizing k tile slot c s with
  | nil =>
    simp only [resolveBags]
    try dsimp only
    repeat' first
      | (intro _; try dsimp only)
      | with_reducible assumption
      | with_reducible apply resolveBag_keeps
      | refine Keeps.of_pair2 (by with_reducible assumption) (resolveBag_keeps ?_)
      | (with_reducible refine Keeps.mk' ?_ rfl rfl (fun x => x) (fun x => x)
         first
           | with_reducible assumption
           | with_reducible apply resolveBag_keeps
           | refine Keeps.of_pair2 (by with_reducible assumption) (resolveBag_keeps ?_))
  | cons b r ih =>
    simp only [resolveBags]
    try dsimp only
    repeat' first
      | (intro _; try dsimp only)
      | with_reducible assumption
      | with_reducible apply ih
      | with_reducible apply resolveBag_keeps
      | refine Keeps.of_pair2 (by with_reducible assumption) (resolveBag_keeps ?_)
      | refine Keeps.of_pair2 (by with_reducible assumption) (ih ?_)
      | (with_reducible refine Keeps.mk' ?_ rfl rfl (fun x => x) (fun x => x)
         first
           | with_reducible assumption
           | with_reducible apply ih
           | with_reducible apply resolveBag_keeps
           | refine Keeps.of_pair2 (by with_reducible assumption) (resolveBag_keeps ?_)
           | refine Keeps.of_pair2 (by with_reducible assumption) (ih ?_))

theorem placeRows_keeps {tile slot : Nat} {c : Cmd} {s : State} {s0 : State} (hk : Keeps s0 s) :
    Keeps s0 (placeRows tile slot c s) := by
  unfold placeRows
  try dsimp only
  repeat' first
    | (intro _ _ _; try dsimp only)
    | (intro _; try dsimp only)
    | with_reducible apply Keeps.ite
    | with_reducible assumption
    | with_reducible apply tagRange_keeps
    | with_reducible apply countOverlong_keeps
    | with_reducible apply resolveBags_keeps
    | refine Keeps.of_pair2 (by with_reducible assumption) (resolveBags_keeps ?_)
    | with_reducible apply putPends_keeps
    | with_reducible apply updTask_keeps
    | with_reducible apply updCmd_keeps
    | split
    | (with_reducible refine Keeps.mk' ?_ rfl rfl (fun x => x) (fun x => x)
       first
         | with_reducible assumption
         | with_reducible apply Keeps.ite
         | with_reducible apply tagRange_keeps
         | with_reducible apply countOverlong_keeps
         | with_reducible apply resolveBags_keeps
         | refine Keeps.of_pair2 (by with_reducible assumption) (resolveBags_keeps ?_)
         | with_reducible apply putPends_keeps
         | with_reducible apply updTask_keeps
         | with_reducible apply updCmd_keeps
         | split)

theorem beginStage_keeps {tile slot : Nat} {c : Cmd} {s : State} {s0 : State} (hk : Keeps s0 s) :
    Keeps s0 (beginStage tile slot c s) := by
  unfold beginStage
  try dsimp only
  repeat' first
    | (intro _; try dsimp only)
    | with_reducible apply Keeps.ite
    | with_reducible assumption
    | with_reducible apply putPends_keeps
    | split

theorem takeStage_keeps {tile slot : Nat} {c : Cmd} {s : State} {s0 : State} (hk : Keeps s0 s) :
    Keeps s0 (takeStage tile slot c s) := by
  unfold takeStage
  try dsimp only
  repeat' first
    | (intro _ _ _; try dsimp only)
    | (intro _; try dsimp only)
    | with_reducible apply Keeps.ite
    | with_reducible assumption
    | with_reducible apply takeSegs_keeps
    | refine Keeps.of_pair (by with_reducible assumption) (takeSegs_keeps ?_)
    | with_reducible apply updCmd_keeps
    | split
    | (with_reducible refine Keeps.mk' ?_ rfl rfl (fun x => x) (fun x => x)
       first
         | with_reducible assumption
         | with_reducible apply Keeps.ite
         | with_reducible apply takeSegs_keeps
         | refine Keeps.of_pair (by with_reducible assumption) (takeSegs_keeps ?_)
         | with_reducible apply updCmd_keeps
         | split)

theorem advanceStream_keeps {tile : Nat} {s : State} {slot : Nat} {s0 : State} (hk : Keeps s0 s) :
    Keeps s0 (advanceStream tile s slot) := by
  unfold advanceStream
  try dsimp only
  repeat' first
    | (intro _ _ _; try dsimp only)
    | (intro _; try dsimp only)
    | with_reducible apply Keeps.ite
    | with_reducible assumption
    | with_reducible apply placeRows_keeps
    | with_reducible apply takeStage_keeps
    | with_reducible apply beginStage_keeps
    | with_reducible apply updCmd_keeps
    | split
    | (with_reducible refine Keeps.mk' ?_ rfl rfl (fun x => x) (fun x => x)
       first
         | with_reducible assumption
         | with_reducible apply Keeps.ite
         | with_reducible apply placeRows_keeps
         | with_reducible apply takeStage_keeps
         | with_reducible apply beginStage_keeps
         | with_reducible apply updCmd_keeps
         | split)

theorem settleFetch_keeps {tile : Nat} {s : State} {s0 : State} (hk : Keeps s0 s) :
    Keeps s0 (settleFetch tile s) := by
  unfold settleFetch
  try dsimp only
  repeat' first
    | (intro _ _ _; try dsimp only)
    | (intro _; try dsimp only)
    | with_reducible assumption
    | with_reducible apply issueMore_keeps
    | with_reducible apply advanceStream_keeps
    | with_reducible apply Keeps.foldl
    | with_reducible apply Keeps.foldl2
    | with_reducible apply Keeps.foldl22

theorem startFetch_keeps {tile slot : Nat} {s : State} {s0 : State} (hk : Keeps s0 s) :
    Keeps s0 (startFetch tile slot s) := by
  unfold startFetch
  try dsimp only
  repeat' first
    | (intro _ _ _; try dsimp only)
    | (intro _; try dsimp only)
    | with_reducible apply Keeps.ite
    | with_reducible assumption
    | with_reducible apply updTask_keeps
    | with_reducible apply updCmd_keeps
    | with_reducible apply beginStage_keeps
    | split
    | (with_reducible refine Keeps.mk' ?_ rfl rfl (fun x => x) (fun x => x)
       first
         | with_reducible assumption
         | with_reducible apply Keeps.ite
         | with_reducible apply updTask_keeps
         | with_reducible apply updCmd_keeps
         | with_reducible apply beginStage_keeps
         | split)

theorem readRows_keeps {tile n : Nat} {stop : Bool} {x0 : List RowRef} {x1 : List (List (Byte × Bool))} {s : State} {s0 : State} (hk : Keeps s0 s) :
    Keeps s0 (readRows tile n stop x0 x1 s).2.2 := by
  induction x0 generalizing tile n stop x1 s with
  | nil =>
    simp only [readRows]
    try dsimp only
    repeat' first
      | (intro _; try dsimp only)
      | with_reducible apply Keeps.ite
      | with_reducible assumption
      | with_reducible apply readPart_keeps
      | refine Keeps.of_pair (by with_reducible assumption) (readPart_keeps ?_)
      | split
  | cons b r ih =>
    simp only [readRows]
    try dsimp only
    repeat' first
      | (intro _; try dsimp only)
      | with_reducible apply Keeps.ite
      | with_reducible assumption
      | with_reducible apply ih
      | with_reducible apply readPart_keeps
      | refine Keeps.of_pair (by with_reducible assumption) (readPart_keeps ?_)
      | refine Keeps.of_pair2 (by with_reducible assumption) (ih ?_)
      | split

theorem poolBag_keeps {ws : List Nat} {g : Gather} {s : State} {s0 : State} (hk : Keeps s0 s) :
    Keeps s0 (poolBag ws g s).2 := by
  unfold poolBag
  try dsimp only
  repeat' first
    | (intro _ _ _; try dsimp only)
    | (intro _; try dsimp only)
    | with_reducible apply Keeps.ite
    | with_reducible assumption
    | with_reducible apply draw_keeps
    | refine Keeps.of_pair (by with_reducible assumption) (draw_keeps ?_)
    | split
    | (with_reducible refine Keeps.mk' ?_ rfl rfl (fun x => x) (fun x => x)
       first
         | with_reducible assumption
         | with_reducible apply Keeps.ite
         | with_reducible apply draw_keeps
         | refine Keeps.of_pair (by with_reducible assumption) (draw_keeps ?_)
         | split)

theorem fillRow_keeps {tile : Nat} {poison : Bool} {x0 : Nat} {x1 : Nat} {x2 : List Byte} {s : State} {s0 : State} (hk : Keeps s0 s) :
    Keeps s0 (fillRow tile poison x0 x1 x2 s).2 := by
  induction x0 generalizing tile poison x1 x2 s with
  | zero =>
    simp only [fillRow]
    try dsimp only
    repeat' first
      | (intro _; try dsimp only)
      | with_reducible apply Keeps.ite
      | with_reducible assumption
      | with_reducible apply sramWrite_keeps
      | with_reducible apply tagLine_keeps
      | with_reducible apply setFull_keeps
      | split
  | succ n ih =>
    simp only [fillRow]
    try dsimp only
    repeat' first
      | (intro _; try dsimp only)
      | with_reducible apply Keeps.ite
      | with_reducible assumption
      | with_reducible apply ih
      | with_reducible apply sramWrite_keeps
      | with_reducible apply tagLine_keeps
      | with_reducible apply setFull_keeps
      | refine Keeps.of_pair (by with_reducible assumption) (ih ?_)
      | split

theorem fillRows_keeps {tile : Nat} {x0 : List (Nat × List Byte × Bool)} {s : State} {s0 : State} (hk : Keeps s0 s) :
    Keeps s0 (fillRows tile x0 s).2 := by
  induction x0 generalizing tile s with
  | nil =>
    simp only [fillRows]
    try dsimp only
    repeat' first
      | (intro _; try dsimp only)
      | with_reducible apply Keeps.ite
      | with_reducible assumption
      | with_reducible apply fillRow_keeps
      | refine Keeps.of_pair (by with_reducible assumption) (fillRow_keeps ?_)
      | split
  | cons b r ih =>
    simp only [fillRows]
    try dsimp only
    repeat' first
      | (intro _; try dsimp only)
      | with_reducible apply Keeps.ite
      | with_reducible assumption
      | with_reducible apply ih
      | with_reducible apply fillRow_keeps
      | refine Keeps.of_pair (by with_reducible assumption) (fillRow_keeps ?_)
      | refine Keeps.of_pair (by with_reducible assumption) (ih ?_)
      | split

theorem flushRest_keeps {tile slot i : Nat} {s : State} {s0 : State} (hk : Keeps s0 s) :
    Keeps s0 (flushRest tile slot i s) := by
  unfold flushRest
  try dsimp only
  repeat' first
    | (intro _ _ _; try dsimp only)
    | (intro _; try dsimp only)
    | with_reducible assumption
    | with_reducible apply fillRows_keeps
    | refine Keeps.of_pair (by with_reducible assumption) (fillRows_keeps ?_)
    | with_reducible apply updCmd_keeps
    | split
    | (with_reducible refine Keeps.mk' ?_ rfl rfl (fun x => x) (fun x => x)
       first
         | with_reducible assumption
         | with_reducible apply fillRows_keeps
         | refine Keeps.of_pair (by with_reducible assumption) (fillRows_keeps ?_)
         | with_reducible apply updCmd_keeps
         | split)

theorem issueStore_keeps {r : Req} {s : State} {s0 : State} (hk : Keeps s0 s) :
    Keeps s0 (issueStore r s) := by
  unfold issueStore
  try dsimp only
  repeat' first
    | (intro _ _ _; try dsimp only)
    | (intro _; try dsimp only)
    | with_reducible assumption
    | with_reducible apply issueReq_keeps
    | with_reducible apply updCmd_keeps
    | (with_reducible refine Keeps.mk' ?_ rfl rfl (fun x => x) (fun x => x)
       first
         | with_reducible assumption
         | with_reducible apply issueReq_keeps
         | with_reducible apply updCmd_keeps)

theorem storeLines_keeps {tile slot cmd : Nat} {poison : Bool} {x0 : Nat} {x1 : Nat} {x2 : List Byte} {s : State} {s0 : State} (hk : Keeps s0 s) :
    Keeps s0 (storeLines tile slot cmd poison x0 x1 x2 s) := by
  induction x0 generalizing tile slot cmd poison x1 x2 s with
  | zero =>
    simp only [storeLines]
    try dsimp only
    repeat' first
      | (intro _; try dsimp only)
      | with_reducible apply Keeps.ite
      | with_reducible assumption
      | with_reducible apply issueStore_keeps
      | split
  | succ n ih =>
    simp only [storeLines]
    try dsimp only
    repeat' first
      | (intro _; try dsimp only)
      | with_reducible apply Keeps.ite
      | with_reducible assumption
      | with_reducible apply ih
      | with_reducible apply issueStore_keeps
      | split

theorem addLines_keeps {tile slot cmd : Nat} {fp int32 poison : Bool} {x0 : Nat} {x1 : Nat} {x2 : List Nat} {s : State} {s0 : State} (hk : Keeps s0 s) :
    Keeps s0 (addLines tile slot cmd fp int32 poison x0 x1 x2 s) := by
  induction x0 generalizing tile slot cmd fp int32 poison x1 x2 s with
  | zero =>
    simp only [addLines]
    try dsimp only
    repeat' first
      | (intro _; try dsimp only)
      | with_reducible apply Keeps.ite
      | with_reducible assumption
      | with_reducible apply issueStore_keeps
      | split
  | succ n ih =>
    simp only [addLines]
    try dsimp only
    repeat' first
      | (intro _; try dsimp only)
      | with_reducible apply Keeps.ite
      | with_reducible assumption
      | with_reducible apply ih
      | with_reducible apply issueStore_keeps
      | split

theorem notePoisonOut_keeps {tile : Nat} {poison : Bool} {s : State} {s0 : State} (hk : Keeps s0 s) :
    Keeps s0 (notePoisonOut tile poison s) := by
  unfold notePoisonOut
  try dsimp only
  repeat' first
    | (intro _ _ _; try dsimp only)
    | (intro _; try dsimp only)
    | with_reducible apply Keeps.ite
    | with_reducible assumption
    | with_reducible apply updTile_keeps
    | split
    | (with_reducible refine Keeps.mk' ?_ rfl rfl (fun x => x) (fun x => x)
       first
         | with_reducible assumption
         | with_reducible apply Keeps.ite
         | with_reducible apply updTile_keeps
         | split)

theorem destIndex_keeps {tile : Nat} {k : Task} {ws : List Nat} {i : Nat} {s : State} {s0 : State} (hk : Keeps s0 s) :
    Keeps s0 (destIndex tile k ws i s).2 := by
  unfold destIndex
  try dsimp only
  repeat' first
    | (intro _ _ _; try dsimp only)
    | (intro _; try dsimp only)
    | with_reducible apply Keeps.ite
    | with_reducible assumption
    | with_reducible apply seeCtx_keeps
    | split

theorem storeRow_keeps {tile slot : Nat} {c : Cmd} {i : Nat} {es : List Nat} {poison : Bool} {s : State} {s0 : State} (hk : Keeps s0 s) :
    Keeps s0 (storeRow tile slot c i es poison s) := by
  unfold storeRow
  try dsimp only
  repeat' first
    | (intro _ _ _; try dsimp only)
    | (intro _; try dsimp only)
    | with_reducible apply Keeps.ite
    | with_reducible assumption
    | with_reducible apply notePoisonOut_keeps
    | with_reducible apply flushRest_keeps
    | with_reducible apply updCmd_keeps
    | with_reducible apply sramStore_keeps
    | with_reducible apply storeLines_keeps
    | with_reducible apply destIndex_keeps
    | refine Keeps.of_pair (by with_reducible assumption) (destIndex_keeps ?_)
    | with_reducible apply addLines_keeps
    | split
    | (with_reducible refine Keeps.mk' ?_ rfl rfl (fun x => x) (fun x => x)
       first
         | with_reducible assumption
         | with_reducible apply Keeps.ite
         | with_reducible apply notePoisonOut_keeps
         | with_reducible apply flushRest_keeps
         | with_reducible apply updCmd_keeps
         | with_reducible apply sramStore_keeps
         | with_reducible apply storeLines_keeps
         | with_reducible apply destIndex_keeps
         | refine Keeps.of_pair (by with_reducible assumption) (destIndex_keeps ?_)
         | with_reducible apply addLines_keeps
         | split)

theorem noteRing_keeps {tile pid : Nat} {c : Cmd} {s : State} {s0 : State} (hk : Keeps s0 s) :
    Keeps s0 (noteRing tile pid c s) := by
  unfold noteRing
  try dsimp only
  repeat' first
    | (intro _; try dsimp only)
    | with_reducible apply Keeps.ite
    | with_reducible assumption
    | split
    | (with_reducible refine Keeps.mk' ?_ rfl rfl (fun x => x) (fun x => x)
       first
         | with_reducible assumption
         | with_reducible apply Keeps.ite
         | split)

theorem lensRefused_keeps {tile slot : Nat} {s : State} {s0 : State} (hk : Keeps s0 s) :
    Keeps s0 (lensRefused tile slot s) := by
  unfold lensRefused
  try dsimp only
  repeat' first
    | (intro _; try dsimp only)
    | with_reducible assumption
    | with_reducible apply endTask_keeps
    | with_reducible apply raiseFor_keeps

theorem emitRow_keeps {tile slot : Nat} {c : Cmd} {i : Nat} {r : List Nat × Nat × Bool} {s : State} {s0 : State} (hk : Keeps s0 s) :
    Keeps s0 (emitRow tile slot c i r s) := by
  unfold emitRow
  try dsimp only
  repeat' first
    | (intro _; try dsimp only)
    | with_reducible assumption
    | with_reducible apply storeRow_keeps
    | with_reducible apply taskFlags_keeps

theorem vxeStore_keeps {tile slot : Nat} {c : Cmd} {w : Work} {got : List (Byte × Bool)} {s : State} {s0 : State} (hk : Keeps s0 s) :
    Keeps s0 (vxeStore tile slot c w got s).2 := by
  unfold vxeStore
  try dsimp only
  repeat' first
    | (intro _; try dsimp only)
    | with_reducible apply Keeps.ite
    | with_reducible assumption
    | with_reducible apply readPart_keeps
    | refine Keeps.of_pair (by with_reducible assumption) (readPart_keeps ?_)
    | with_reducible apply emitRow_keeps
    | split

theorem lensSend_keeps {tile slot : Nat} {c : Cmd} {peak : FVal} {levels : List Int} {flags : Nat} {poison : Bool} {s : State} {s0 : State} (hk : Keeps s0 s) :
    Keeps s0 (lensSend tile slot c peak levels flags poison s) := by
  unfold lensSend
  try dsimp only
  repeat' first
    | (intro _ _ _; try dsimp only)
    | (intro _; try dsimp only)
    | with_reducible assumption
    | with_reducible apply taskFlags_keeps
    | with_reducible apply updCmd_keeps
    | with_reducible apply updTile_keeps
    | (with_reducible refine Keeps.mk' ?_ rfl rfl (fun x => x) (fun x => x)
       first
         | with_reducible assumption
         | with_reducible apply taskFlags_keeps
         | with_reducible apply updCmd_keeps
         | with_reducible apply updTile_keeps)

theorem keepGot_keeps {tile slot i : Nat} {got : List (List (Byte × Bool))} {s : State} {s0 : State} (hk : Keeps s0 s) :
    Keeps s0 (keepGot tile slot i got s).2 := by
  unfold keepGot
  try dsimp only
  repeat' first
    | (intro _ _ _; try dsimp only)
    | (intro _; try dsimp only)
    | with_reducible assumption
    | with_reducible apply updCmd_keeps
    | (with_reducible refine Keeps.mk' ?_ rfl rfl (fun x => x) (fun x => x)
       first
         | with_reducible assumption
         | with_reducible apply updCmd_keeps)

theorem nextRow_keeps {tile slot i zeroed : Nat} {s : State} {s0 : State} (hk : Keeps s0 s) :
    Keeps s0 (nextRow tile slot i zeroed s).2 := by
  unfold nextRow
  try dsimp only
  repeat' first
    | (intro _ _ _; try dsimp only)
    | (intro _; try dsimp only)
    | with_reducible apply Keeps.ite
    | with_reducible assumption
    | with_reducible apply updTile_keeps
    | with_reducible apply updCmd_keeps
    | split
    | (with_reducible refine Keeps.mk' ?_ rfl rfl (fun x => x) (fun x => x)
       first
         | with_reducible assumption
         | with_reducible apply Keeps.ite
         | with_reducible apply updTile_keeps
         | with_reducible apply updCmd_keeps
         | split)

theorem finishHere_keeps {tile slot : Nat} {c : Cmd} {w : Work} {zeroed : Nat} {got : List (List (Byte × Bool))} {s : State} {s0 : State} (hk : Keeps s0 s) :
    Keeps s0 (finishHere tile slot c w zeroed got s).2 := by
  unfold finishHere
  try dsimp only
  repeat' first
    | (intro _; try dsimp only)
    | with_reducible assumption
    | with_reducible apply vxeStore_keeps
    | refine Keeps.of_pair (by with_reducible assumption) (vxeStore_keeps ?_)
    | with_reducible apply keepGot_keeps
    | refine Keeps.of_pair (by with_reducible assumption) (keepGot_keeps ?_)
    | with_reducible apply nextRow_keeps
    | refine Keeps.of_pair (by with_reducible assumption) (nextRow_keeps ?_)
    | split
    | (with_reducible refine Keeps.mk' ?_ rfl rfl (fun x => x) (fun x => x)
       first
         | with_reducible assumption
         | with_reducible apply vxeStore_keeps
         | refine Keeps.of_pair (by with_reducible assumption) (vxeStore_keeps ?_)
         | with_reducible apply keepGot_keeps
         | refine Keeps.of_pair (by with_reducible assumption) (keepGot_keeps ?_)
         | with_reducible apply nextRow_keeps
         | refine Keeps.of_pair (by with_reducible assumption) (nextRow_keeps ?_)
         | split)

theorem lensRow_keeps {tile slot : Nat} {c : Cmd} {p : Pooled} {g : Gather} {got : List (List (Byte × Bool))} {s : State} {s0 : State} (hk : Keeps s0 s) :
    Keeps s0 (lensRow tile slot c p g got s).2 := by
  unfold lensRow
  try dsimp only
  repeat' first
    | (intro _ _ _; try dsimp only)
    | (intro _; try dsimp only)
    | with_reducible apply Keeps.ite
    | with_reducible assumption
    | with_reducible apply keepGot_keeps
    | refine Keeps.of_pair (by with_reducible assumption) (keepGot_keeps ?_)
    | with_reducible apply finishHere_keeps
    | refine Keeps.of_pair (by with_reducible assumption) (finishHere_keeps ?_)
    | with_reducible apply nextRow_keeps
    | refine Keeps.of_pair (by with_reducible assumption) (nextRow_keeps ?_)
    | with_reducible apply lensSend_keeps
    | split
    | (with_reducible refine Keeps.mk' ?_ rfl rfl (fun x => x) (fun x => x)
       first
         | with_reducible assumption
         | with_reducible apply Keeps.ite
         | with_reducible apply keepGot_keeps
         | refine Keeps.of_pair (by with_reducible assumption) (keepGot_keeps ?_)
         | with_reducible apply finishHere_keeps
         | refine Keeps.of_pair (by with_reducible assumption) (finishHere_keeps ?_)
         | with_reducible apply nextRow_keeps
         | refine Keeps.of_pair (by with_reducible assumption) (nextRow_keeps ?_)
         | with_reducible apply lensSend_keeps
         | split)

theorem mxeStep_keeps {tile slot : Nat} {c : Cmd} {p : Pooled} {g : Gather} {got : List (List (Byte × Bool))} {s : State} {s0 : State} (hk : Keeps s0 s) :
    Keeps s0 (mxeStep tile slot c p g got s).2 := by
  unfold mxeStep
  try dsimp only
  repeat' first
    | (intro _; try dsimp only)
    | with_reducible apply Keeps.ite
    | with_reducible assumption
    | with_reducible apply readPart_keeps
    | refine Keeps.of_pair (by with_reducible assumption) (readPart_keeps ?_)
    | with_reducible apply keepGot_keeps
    | refine Keeps.of_pair (by with_reducible assumption) (keepGot_keeps ?_)
    | with_reducible apply finishHere_keeps
    | refine Keeps.of_pair (by with_reducible assumption) (finishHere_keeps ?_)
    | split
    | (with_reducible refine Keeps.mk' ?_ rfl rfl (fun x => x) (fun x => x)
       first
         | with_reducible assumption
         | with_reducible apply Keeps.ite
         | with_reducible apply readPart_keeps
         | refine Keeps.of_pair (by with_reducible assumption) (readPart_keeps ?_)
         | with_reducible apply keepGot_keeps
         | refine Keeps.of_pair (by with_reducible assumption) (keepGot_keeps ?_)
         | with_reducible apply finishHere_keeps
         | refine Keeps.of_pair (by with_reducible assumption) (finishHere_keeps ?_)
         | split)

theorem computeRow_keeps {tile slot : Nat} {c : Cmd} {s : State} {s0 : State} (hk : Keeps s0 s) :
    Keeps s0 (computeRow tile slot c s).2 := by
  unfold computeRow
  try dsimp only
  repeat' first
    | (intro _; try dsimp only)
    | with_reducible apply Keeps.ite
    | with_reducible assumption
    | with_reducible apply readRows_keeps
    | refine Keeps.of_pair2 (by with_reducible assumption) (readRows_keeps ?_)
    | with_reducible apply keepGot_keeps
    | refine Keeps.of_pair (by with_reducible assumption) (keepGot_keeps ?_)
    | with_reducible apply poisonConsumed_keeps
    | with_reducible apply poolBag_keeps
    | refine Keeps.of_pair (by with_reducible assumption) (poolBag_keeps ?_)
    | with_reducible apply finishHere_keeps
    | refine Keeps.of_pair (by with_reducible assumption) (finishHere_keeps ?_)
    | with_reducible apply lensRow_keeps
    | refine Keeps.of_pair (by with_reducible assumption) (lensRow_keeps ?_)
    | with_reducible apply mxeStep_keeps
    | refine Keeps.of_pair (by with_reducible assumption) (mxeStep_keeps ?_)
    | split
    | (with_reducible refine Keeps.mk' ?_ rfl rfl (fun x => x) (fun x => x)
       first
         | with_reducible assumption
         | with_reducible apply Keeps.ite
         | with_reducible apply readRows_keeps
         | refine Keeps.of_pair2 (by with_reducible assumption) (readRows_keeps ?_)
         | with_reducible apply keepGot_keeps
         | refine Keeps.of_pair (by with_reducible assumption) (keepGot_keeps ?_)
         | with_reducible apply poisonConsumed_keeps
         | with_reducible apply poolBag_keeps
         | refine Keeps.of_pair (by with_reducible assumption) (poolBag_keeps ?_)
         | with_reducible apply finishHere_keeps
         | refine Keeps.of_pair (by with_reducible assumption) (finishHere_keeps ?_)
         | with_reducible apply lensRow_keeps
         | refine Keeps.of_pair (by with_reducible assumption) (lensRow_keeps ?_)
         | with_reducible apply mxeStep_keeps
         | refine Keeps.of_pair (by with_reducible assumption) (mxeStep_keeps ?_)
         | split)

theorem landBack_keeps {tile slot : Nat} {c : Cmd} {b : LensBack} {s : State} {s0 : State} (hk : Keeps s0 s) :
    Keeps s0 (landBack tile slot c b s).2 := by
  unfold landBack
  try dsimp only
  repeat' first
    | (intro _ _ _; try dsimp only)
    | (intro _; try dsimp only)
    | with_reducible apply Keeps.ite
    | with_reducible assumption
    | with_reducible apply vxeStore_keeps
    | refine Keeps.of_pair (by with_reducible assumption) (vxeStore_keeps ?_)
    | with_reducible apply updCmd_keeps
    | split
    | (with_reducible refine Keeps.mk' ?_ rfl rfl (fun x => x) (fun x => x)
       first
         | with_reducible assumption
         | with_reducible apply Keeps.ite
         | with_reducible apply vxeStore_keeps
         | refine Keeps.of_pair (by with_reducible assumption) (vxeStore_keeps ?_)
         | with_reducible apply updCmd_keeps
         | split)

theorem poisonRows_keeps {tile slot : Nat} {c : Cmd} {x0 : Nat} {x1 : Nat} {s : State} {s0 : State} (hk : Keeps s0 s) :
    Keeps s0 (poisonRows tile slot c x0 x1 s) := by
  induction x0 generalizing tile slot c x1 s with
  | zero =>
    simp only [poisonRows]
    try dsimp only
    repeat' first
      | (intro _ _ _; try dsimp only)
      | (intro _; try dsimp only)
      | with_reducible assumption
      | with_reducible apply storeRow_keeps
  | succ n ih =>
    simp only [poisonRows]
    try dsimp only
    repeat' first
      | (intro _ _ _; try dsimp only)
      | (intro _; try dsimp only)
      | with_reducible assumption
      | with_reducible apply ih
      | with_reducible apply storeRow_keeps

theorem poisonRest_keeps {tile slot : Nat} {c : Cmd} {s : State} {s0 : State} (hk : Keeps s0 s) :
    Keeps s0 (poisonRest tile slot c s) := by
  unfold poisonRest
  try dsimp only
  repeat' first
    | (intro _ _ _; try dsimp only)
    | (intro _; try dsimp only)
    | with_reducible assumption
    | with_reducible apply noteRing_keeps
    | with_reducible apply poisonRows_keeps
    | with_reducible apply updCmd_keeps
    | (with_reducible refine Keeps.mk' ?_ rfl rfl (fun x => x) (fun x => x)
       first
         | with_reducible assumption
         | with_reducible apply noteRing_keeps
         | with_reducible apply poisonRows_keeps
         | with_reducible apply updCmd_keeps)

theorem abandon_keeps {tile slot : Nat} {c : Cmd} {s : State} {s0 : State} (hk : Keeps s0 s) :
    Keeps s0 (abandon tile slot c s) := by
  unfold abandon
  try dsimp only
  repeat' first
    | (intro _ _ _; try dsimp only)
    | (intro _; try dsimp only)
    | with_reducible apply Keeps.ite
    | with_reducible assumption
    | with_reducible apply updCmd_keeps
    | with_reducible apply poisonRest_keeps
    | split
    | (with_reducible refine Keeps.mk' ?_ rfl rfl (fun x => x) (fun x => x)
       first
         | with_reducible assumption
         | with_reducible apply Keeps.ite
         | with_reducible apply updCmd_keeps
         | with_reducible apply poisonRest_keeps
         | split)

theorem startCompute_keeps {tile slot : Nat} {c : Cmd} {s : State} {s0 : State} (hk : Keeps s0 s) :
    Keeps s0 (startCompute tile slot c s).2 := by
  unfold startCompute
  try dsimp only
  repeat' first
    | (intro _ _ _; try dsimp only)
    | (intro _; try dsimp only)
    | with_reducible apply Keeps.ite
    | with_reducible assumption
    | with_reducible apply lensRefused_keeps
    | with_reducible apply updCmd_keeps
    | split
    | (with_reducible refine Keeps.mk' ?_ rfl rfl (fun x => x) (fun x => x)
       first
         | with_reducible assumption
         | with_reducible apply Keeps.ite
         | with_reducible apply lensRefused_keeps
         | with_reducible apply updCmd_keeps
         | split)

theorem pumpStep_keeps {holds : Bool} {tile slot : Nat} {s : State} {s0 : State} (hk : Keeps s0 s) :
    Keeps s0 (pumpStep holds tile slot s).2 := by
  unfold pumpStep
  try dsimp only
  repeat' first
    | (intro _ _ _; try dsimp only)
    | (intro _; try dsimp only)
    | with_reducible apply Keeps.ite
    | with_reducible assumption
    | with_reducible apply startCompute_keeps
    | refine Keeps.of_pair (by with_reducible assumption) (startCompute_keeps ?_)
    | with_reducible apply landBack_keeps
    | refine Keeps.of_pair (by with_reducible assumption) (landBack_keeps ?_)
    | with_reducible apply refuse_keeps
    | with_reducible apply poisonRest_keeps
    | with_reducible apply computeRow_keeps
    | refine Keeps.of_pair (by with_reducible assumption) (computeRow_keeps ?_)
    | with_reducible apply noteRing_keeps
    | with_reducible apply updCmd_keeps
    | split
    | (with_reducible refine Keeps.mk' ?_ rfl rfl (fun x => x) (fun x => x)
       first
         | with_reducible assumption
         | with_reducible apply Keeps.ite
         | with_reducible apply startCompute_keeps
         | refine Keeps.of_pair (by with_reducible assumption) (startCompute_keeps ?_)
         | with_reducible apply landBack_keeps
         | refine Keeps.of_pair (by with_reducible assumption) (landBack_keeps ?_)
         | with_reducible apply refuse_keeps
         | with_reducible apply poisonRest_keeps
         | with_reducible apply computeRow_keeps
         | refine Keeps.of_pair (by with_reducible assumption) (computeRow_keeps ?_)
         | with_reducible apply noteRing_keeps
         | with_reducible apply updCmd_keeps
         | split)

theorem pumpTask_keeps {x0 : Nat} {x1 : Nat} {x2 : Nat} {s : State} {s0 : State} (hk : Keeps s0 s) :
    Keeps s0 (pumpTask x0 x1 x2 s) := by
  induction x0 generalizing x1 x2 s with
  | zero =>
    simp only [pumpTask]
    try dsimp only
    repeat' first
      | (intro _; try dsimp only)
      | with_reducible apply Keeps.ite
      | with_reducible assumption
      | with_reducible apply pumpStep_keeps
      | refine Keeps.of_pair (by with_reducible assumption) (pumpStep_keeps ?_)
      | split
  | succ n ih =>
    simp only [pumpTask]
    try dsimp only
    repeat' first
      | (intro _; try dsimp only)
      | with_reducible apply Keeps.ite
      | with_reducible assumption
      | with_reducible apply ih
      | with_reducible apply pumpStep_keeps
      | refine Keeps.of_pair (by with_reducible assumption) (pumpStep_keeps ?_)
      | split

theorem flushTask_keeps {tile : Nat} {s : State} {slot : Nat} {s0 : State} (hk : Keeps s0 s) :
    Keeps s0 (flushTask tile s slot) := by
  unfold flushTask
  try dsimp only
  repeat' first
    | (intro _ _ _; try dsimp only)
    | (intro _; try dsimp only)
    | with_reducible apply Keeps.ite
    | with_reducible assumption
    | with_reducible apply flushRest_keeps
    | with_reducible apply Keeps.foldl
    | with_reducible apply Keeps.foldl2
    | with_reducible apply Keeps.foldl22
    | split

theorem runTile_keeps {tile : Nat} {s : State} {s0 : State} (hk : Keeps s0 s) :
    Keeps s0 (runTile tile s) := by
  unfold runTile
  try dsimp only
  repeat' first
    | (intro _ _ _; try dsimp only)
    | (intro _; try dsimp only)
    | with_reducible assumption
    | with_reducible apply flushTask_keeps
    | with_reducible apply pumpTask_keeps
    | with_reducible apply Keeps.foldl
    | with_reducible apply Keeps.foldl2
    | with_reducible apply Keeps.foldl22

theorem switchTo_keeps {tile slot next : Nat} {st : TaskState} {s : State} {s0 : State} (hk : Keeps s0 s) :
    Keeps s0 (switchTo tile slot next st s) := by
  unfold switchTo
  try dsimp only
  repeat' first
    | (intro _ _ _; try dsimp only)
    | (intro _; try dsimp only)
    | with_reducible assumption
    | with_reducible apply updTask_keeps
    | with_reducible apply updTile_keeps
    | (with_reducible refine Keeps.mk' ?_ rfl rfl (fun x => x) (fun x => x)
       first
         | with_reducible assumption
         | with_reducible apply updTask_keeps
         | with_reducible apply updTile_keeps)

theorem takeOver_keeps {tile slot : Nat} {s : State} {s0 : State} (hk : Keeps s0 s) :
    Keeps s0 (takeOver tile slot s) := by
  unfold takeOver
  try dsimp only
  repeat' first
    | (intro _; try dsimp only)
    | with_reducible apply Keeps.ite
    | with_reducible assumption
    | with_reducible apply switchTo_keeps
    | split
    | (with_reducible refine Keeps.mk' ?_ rfl rfl (fun x => x) (fun x => x)
       first
         | with_reducible assumption
         | with_reducible apply Keeps.ite
         | with_reducible apply switchTo_keeps
         | split)

theorem wakeTile_keeps {tile : Nat} {s : State} {s0 : State} (hk : Keeps s0 s) :
    Keeps s0 (wakeTile tile s) := by
  unfold wakeTile
  try dsimp only
  repeat' first
    | (intro _ _ _; try dsimp only)
    | (intro _; try dsimp only)
    | with_reducible apply Keeps.ite
    | with_reducible assumption
    | with_reducible apply fillPipeline_keeps
    | with_reducible apply updTask_keeps
    | with_reducible apply Keeps.foldl
    | with_reducible apply Keeps.foldl2
    | with_reducible apply Keeps.foldl22
    | split
    | (with_reducible refine Keeps.mk' ?_ rfl rfl (fun x => x) (fun x => x)
       first
         | with_reducible assumption
         | with_reducible apply Keeps.ite
         | with_reducible apply fillPipeline_keeps
         | with_reducible apply updTask_keeps
         | with_reducible apply Keeps.foldl
         | with_reducible apply Keeps.foldl2
         | with_reducible apply Keeps.foldl22
         | split)

theorem yieldLate_keeps {tile : Nat} {s : State} {s0 : State} (hk : Keeps s0 s) :
    Keeps s0 (yieldLate tile s) := by
  unfold yieldLate
  try dsimp only
  repeat' first
    | (intro _ _ _; try dsimp only)
    | (intro _; try dsimp only)
    | with_reducible apply Keeps.ite
    | with_reducible assumption
    | with_reducible apply runTile_keeps
    | with_reducible apply switchTo_keeps
    | split
    | (with_reducible refine Keeps.mk' ?_ rfl rfl (fun x => x) (fun x => x)
       first
         | with_reducible assumption
         | with_reducible apply Keeps.ite
         | with_reducible apply runTile_keeps
         | with_reducible apply switchTo_keeps
         | split)

theorem noteMiss_keeps {tile slot : Nat} {c : Cmd} {s : State} {s0 : State} (hk : Keeps s0 s) :
    Keeps s0 (noteMiss tile slot c s) := by
  unfold noteMiss
  try dsimp only
  repeat' first
    | (intro _ _ _; try dsimp only)
    | (intro _; try dsimp only)
    | with_reducible assumption
    | with_reducible apply raiseFor_keeps
    | with_reducible apply updTile_keeps
    | with_reducible apply updCmd_keeps
    | (with_reducible refine Keeps.mk' ?_ rfl rfl (fun x => x) (fun x => x)
       first
         | with_reducible assumption
         | with_reducible apply raiseFor_keeps
         | with_reducible apply updTile_keeps
         | with_reducible apply updCmd_keeps)

theorem stampCmd_keeps {tile slot : Nat} {s : State} {c : Cmd} {s0 : State} (hk : Keeps s0 s) :
    Keeps s0 (stampCmd tile slot s c) := by
  unfold stampCmd
  try dsimp only
  repeat' first
    | (intro _ _ _; try dsimp only)
    | (intro _; try dsimp only)
    | with_reducible apply Keeps.ite
    | with_reducible assumption
    | with_reducible apply updCmd_keeps
    | with_reducible apply noteMiss_keeps
    | split
    | (with_reducible refine Keeps.mk' ?_ rfl rfl (fun x => x) (fun x => x)
       first
         | with_reducible assumption
         | with_reducible apply Keeps.ite
         | with_reducible apply updCmd_keeps
         | with_reducible apply noteMiss_keeps
         | split)

theorem stampTask_keeps {tile : Nat} {s : State} {slot : Nat} {s0 : State} (hk : Keeps s0 s) :
    Keeps s0 (stampTask tile s slot) := by
  unfold stampTask
  try dsimp only
  repeat' first
    | (intro _ _ _; try dsimp only)
    | (intro _; try dsimp only)
    | with_reducible apply Keeps.ite
    | with_reducible assumption
    | with_reducible apply stampCmd_keeps
    | with_reducible apply Keeps.foldl
    | with_reducible apply Keeps.foldl2
    | with_reducible apply Keeps.foldl22
    | split

theorem moveTile_keeps {tile : Nat} {s : State} {s0 : State} (hk : Keeps s0 s) :
    Keeps s0 (moveTile tile s) := by
  unfold moveTile
  try dsimp only
  repeat' first
    | (intro _ _ _; try dsimp only)
    | (intro _; try dsimp only)
    | with_reducible assumption
    | with_reducible apply settleFetch_keeps
    | with_reducible apply checkCommands_keeps
    | with_reducible apply yieldLate_keeps
    | with_reducible apply runTile_keeps
    | with_reducible apply wakeTile_keeps
    | with_reducible apply stampTask_keeps
    | with_reducible apply Keeps.foldl
    | with_reducible apply Keeps.foldl2
    | with_reducible apply Keeps.foldl22

theorem moveTiles_keeps {tiles : List Nat} {s : State} {s0 : State} (hk : Keeps s0 s) :
    Keeps s0 (moveTiles tiles s) := by
  unfold moveTiles
  try dsimp only
  repeat' first
    | (intro _ _ _; try dsimp only)
    | (intro _; try dsimp only)
    | with_reducible assumption
    | with_reducible apply reap_keeps
    | with_reducible apply moveTile_keeps
    | with_reducible apply Keeps.foldl
    | with_reducible apply Keeps.foldl2
    | with_reducible apply Keeps.foldl22

theorem pumpTiles_keeps {tiles : List Nat} {s : State} {s0 : State} (hk : Keeps s0 s) :
    Keeps s0 (pumpTiles tiles s) := by
  unfold pumpTiles
  try dsimp only
  repeat' first
    | (intro _; try dsimp only)
    | with_reducible apply Keeps.ite
    | with_reducible assumption
    | with_reducible apply moveTiles_keeps
    | split

theorem pumpTile_keeps {tile : Nat} {s : State} {s0 : State} (hk : Keeps s0 s) :
    Keeps s0 (pumpTile tile s) := by
  unfold pumpTile
  try dsimp only
  repeat' first
    | (intro _; try dsimp only)
    | with_reducible assumption
    | with_reducible apply pumpTiles_keeps

theorem settleTiles_keeps {s : State} {s0 : State} (hk : Keeps s0 s) :
    Keeps s0 (settleTiles s) := by
  unfold settleTiles
  try dsimp only
  repeat' first
    | (intro _; try dsimp only)
    | with_reducible assumption
    | with_reducible apply pumpTiles_keeps

theorem doFetchPhaseStart_keeps {tile slot : Nat} {s : State} {s0 : State} (hk : Keeps s0 s) :
    Keeps s0 (doFetchPhaseStart tile slot s) := by
  unfold doFetchPhaseStart
  try dsimp only
  repeat' first
    | (intro _; try dsimp only)
    | with_reducible assumption
    | with_reducible apply pumpTile_keeps
    | with_reducible apply startFetch_keeps

theorem doTaskSwitch_keeps {tile : Nat} {s : State} {s0 : State} (hk : Keeps s0 s) :
    Keeps s0 (doTaskSwitch tile s) := by
  unfold doTaskSwitch
  try dsimp only
  repeat' first
    | (intro _ _ _; try dsimp only)
    | (intro _; try dsimp only)
    | with_reducible apply Keeps.ite
    | with_reducible assumption
    | with_reducible apply pumpTile_keeps
    | with_reducible apply switchTo_keeps
    | split
    | (with_reducible refine Keeps.mk' ?_ rfl rfl (fun x => x) (fun x => x)
       first
         | with_reducible assumption
         | with_reducible apply Keeps.ite
         | with_reducible apply pumpTile_keeps
         | with_reducible apply switchTo_keeps
         | split)

theorem doBufferSwap_keeps {tile slot : Nat} {s : State} {s0 : State} (hk : Keeps s0 s) :
    Keeps s0 (doBufferSwap tile slot s) := by
  unfold doBufferSwap
  try dsimp only
  repeat' first
    | (intro _ _ _; try dsimp only)
    | (intro _; try dsimp only)
    | with_reducible apply Keeps.ite
    | with_reducible assumption
    | with_reducible apply pumpTile_keeps
    | with_reducible apply updTask_keeps
    | split
    | (with_reducible refine Keeps.mk' ?_ rfl rfl (fun x => x) (fun x => x)
       first
         | with_reducible assumption
         | with_reducible apply Keeps.ite
         | with_reducible apply pumpTile_keeps
         | with_reducible apply updTask_keeps
         | split)

theorem closeCmd_keeps {tile slot : Nat} {s : State} {c : Cmd} {s0 : State} (hk : Keeps s0 s) :
    Keeps s0 (closeCmd tile slot s c) := by
  unfold closeCmd
  try dsimp only
  repeat' first
    | (intro _; try dsimp only)
    | with_reducible apply Keeps.ite
    | with_reducible assumption
    | with_reducible apply noteMiss_keeps
    | with_reducible apply abandon_keeps
    | split
    | (with_reducible refine Keeps.mk' ?_ rfl rfl (fun x => x) (fun x => x)
       first
         | with_reducible assumption
         | with_reducible apply Keeps.ite
         | with_reducible apply noteMiss_keeps
         | with_reducible apply abandon_keeps
         | split)

theorem doDeadlineClose_keeps {tile slot : Nat} {s : State} {s0 : State} (hk : Keeps s0 s) :
    Keeps s0 (doDeadlineClose tile slot s) := by
  unfold doDeadlineClose
  try dsimp only
  repeat' first
    | (intro _ _ _; try dsimp only)
    | (intro _; try dsimp only)
    | with_reducible apply Keeps.ite
    | with_reducible assumption
    | with_reducible apply pumpTile_keeps
    | with_reducible apply closeCmd_keeps
    | with_reducible apply Keeps.foldl
    | with_reducible apply Keeps.foldl2
    | with_reducible apply Keeps.foldl22
    | split

theorem passEnd_keeps {tile slot : Nat} {s : State} {s0 : State} (hk : Keeps s0 s) :
    Keeps s0 (passEnd tile slot s) := by
  unfold passEnd
  try dsimp only
  repeat' first
    | (intro _ _ _; try dsimp only)
    | (intro _; try dsimp only)
    | with_reducible apply Keeps.ite
    | with_reducible assumption
    | with_reducible apply freeTask_keeps
    | with_reducible apply updParcel_keeps
    | with_reducible apply endParcel_keeps
    | split
    | (with_reducible refine Keeps.mk' ?_ rfl rfl (fun x => x) (fun x => x)
       first
         | with_reducible assumption
         | with_reducible apply Keeps.ite
         | with_reducible apply freeTask_keeps
         | with_reducible apply updParcel_keeps
         | with_reducible apply endParcel_keeps
         | split)

theorem completeCmd_keeps {tile slot : Nat} {c : Cmd} {s : State} {s0 : State} (hk : Keeps s0 s) :
    Keeps s0 (completeCmd tile slot c s) := by
  unfold completeCmd
  try dsimp only
  repeat' first
    | (intro _ _ _; try dsimp only)
    | (intro _; try dsimp only)
    | with_reducible apply Keeps.ite
    | with_reducible assumption
    | with_reducible apply updTask_keeps
    | with_reducible apply updTile_keeps
    | with_reducible apply addCounter_keeps
    | with_reducible apply passEnd_keeps
    | with_reducible apply takeOver_keeps
    | split
    | (with_reducible refine Keeps.mk' ?_ rfl rfl (fun x => x) (fun x => x)
       first
         | with_reducible assumption
         | with_reducible apply Keeps.ite
         | with_reducible apply updTask_keeps
         | with_reducible apply updTile_keeps
         | with_reducible apply addCounter_keeps
         | with_reducible apply passEnd_keeps
         | with_reducible apply takeOver_keeps
         | split)

theorem doCommandComplete_keeps {tile slot : Nat} {s : State} {s0 : State} (hk : Keeps s0 s) :
    Keeps s0 (doCommandComplete tile slot s) := by
  unfold doCommandComplete
  try dsimp only
  repeat' first
    | (intro _; try dsimp only)
    | with_reducible apply Keeps.ite
    | with_reducible assumption
    | with_reducible apply refuse_keeps
    | with_reducible apply pumpTile_keeps
    | with_reducible apply lensRefused_keeps
    | with_reducible apply completeCmd_keeps
    | split
    | (with_reducible refine Keeps.mk' ?_ rfl rfl (fun x => x) (fun x => x)
       first
         | with_reducible assumption
         | with_reducible apply Keeps.ite
         | with_reducible apply refuse_keeps
         | with_reducible apply pumpTile_keeps
         | with_reducible apply lensRefused_keeps
         | with_reducible apply completeCmd_keeps
         | split)

theorem doParcelLimit_keeps {id : Nat} {s : State} {s0 : State} (hk : Keeps s0 s) :
    Keeps s0 (doParcelLimit id s) := by
  unfold doParcelLimit
  try dsimp only
  repeat' first
    | (intro _ _ _; try dsimp only)
    | (intro _; try dsimp only)
    | with_reducible apply Keeps.ite
    | with_reducible assumption
    | with_reducible apply doCommandComplete_keeps
    | with_reducible apply endParcel_keeps
    | with_reducible apply raiseFor_keeps
    | with_reducible apply Keeps.foldl
    | with_reducible apply Keeps.foldl2
    | with_reducible apply Keeps.foldl22
    | split
    | (with_reducible refine Keeps.mk' ?_ rfl rfl (fun x => x) (fun x => x)
       first
         | with_reducible assumption
         | with_reducible apply Keeps.ite
         | with_reducible apply doCommandComplete_keeps
         | with_reducible apply endParcel_keeps
         | with_reducible apply raiseFor_keeps
         | with_reducible apply Keeps.foldl
         | with_reducible apply Keeps.foldl2
         | with_reducible apply Keeps.foldl22
         | split)

theorem markFirst_keeps {level cluster index gen : Nat} {s : State} {s0 : State} (hk : Keeps s0 s) :
    Keeps s0 (markFirst level cluster index gen s) := by
  unfold markFirst
  try dsimp only
  repeat' first
    | (intro _; try dsimp only)
    | with_reducible apply Keeps.ite
    | with_reducible assumption
    | with_reducible apply setBar_keeps
    | split
    | (with_reducible refine Keeps.mk' ?_ rfl rfl (fun x => x) (fun x => x)
       first
         | with_reducible assumption
         | with_reducible apply Keeps.ite
         | with_reducible apply setBar_keeps
         | split)

theorem joinBarrier_keeps {tile slot scope : Nat} {i : Nat} {s : State} {s0 : State} (hk : Keeps s0 s) :
    Keeps s0 (joinBarrier tile slot scope i s) := by
  unfold joinBarrier
  try dsimp only
  repeat' first
    | (intro _ _ _; try dsimp only)
    | (intro _; try dsimp only)
    | with_reducible apply Keeps.ite
    | with_reducible assumption
    | with_reducible apply updTask_keeps
    | with_reducible apply updCmd_keeps
    | with_reducible apply arriveAt_keeps
    | with_reducible apply markFirst_keeps
    | split
    | (with_reducible refine Keeps.mk' ?_ rfl rfl (fun x => x) (fun x => x)
       first
         | with_reducible assumption
         | with_reducible apply Keeps.ite
         | with_reducible apply updTask_keeps
         | with_reducible apply updCmd_keeps
         | with_reducible apply arriveAt_keeps
         | with_reducible apply markFirst_keeps
         | split)

theorem runDrain_keeps {tile slot : Nat} {s : State} {s0 : State} (hk : Keeps s0 s) :
    Keeps s0 (runDrain tile slot s) := by
  unfold runDrain
  try dsimp only
  repeat' first
    | (intro _ _ _; try dsimp only)
    | (intro _; try dsimp only)
    | with_reducible apply Keeps.ite
    | with_reducible assumption
    | with_reducible apply flushContext_keeps
    | refine Keeps.of_pair (by with_reducible assumption) (flushContext_keeps ?_)
    | with_reducible apply taskFlags_keeps
    | with_reducible apply updCmd_keeps
    | with_reducible apply joinBarrier_keeps
    | split
    | (with_reducible refine Keeps.mk' ?_ rfl rfl (fun x => x) (fun x => x)
       first
         | with_reducible assumption
         | with_reducible apply Keeps.ite
         | with_reducible apply flushContext_keeps
         | refine Keeps.of_pair (by with_reducible assumption) (flushContext_keeps ?_)
         | with_reducible apply taskFlags_keeps
         | with_reducible apply updCmd_keeps
         | with_reducible apply joinBarrier_keeps
         | split)

theorem doDrain_keeps {tile slot : Nat} {s : State} {s0 : State} (hk : Keeps s0 s) :
    Keeps s0 (doDrain tile slot s) := by
  unfold doDrain
  try dsimp only
  repeat' first
    | (intro _; try dsimp only)
    | with_reducible apply Keeps.ite
    | with_reducible assumption
    | with_reducible apply pumpTile_keeps
    | with_reducible apply runDrain_keeps
    | with_reducible apply readNext_keeps
    | split

theorem doNop_keeps {tile slot : Nat} {s : State} {s0 : State} (hk : Keeps s0 s) :
    Keeps s0 (doNop tile slot s) := by
  unfold doNop
  try dsimp only
  repeat' first
    | (intro _; try dsimp only)
    | with_reducible assumption
    | with_reducible apply pumpTile_keeps
    | with_reducible apply readNext_keeps

theorem doFused_keeps {tile slot : Nat} {s : State} {s0 : State} (hk : Keeps s0 s) :
    Keeps s0 (doFused tile slot s) := by
  unfold doFused
  try dsimp only
  repeat' first
    | (intro _; try dsimp only)
    | with_reducible assumption
    | with_reducible apply pumpTile_keeps
    | with_reducible apply readNext_keeps

theorem doEnd_keeps {tile slot : Nat} {s : State} {s0 : State} (hk : Keeps s0 s) :
    Keeps s0 (doEnd tile slot s) := by
  unfold doEnd
  try dsimp only
  repeat' first
    | (intro _; try dsimp only)
    | with_reducible apply Keeps.ite
    | with_reducible assumption
    | with_reducible apply pumpTile_keeps
    | with_reducible apply readNext_keeps
    | with_reducible apply doCommandComplete_keeps
    | split
    | (with_reducible refine Keeps.mk' ?_ rfl rfl (fun x => x) (fun x => x)
       first
         | with_reducible assumption
         | with_reducible apply Keeps.ite
         | with_reducible apply pumpTile_keeps
         | with_reducible apply readNext_keeps
         | with_reducible apply doCommandComplete_keeps
         | split)

theorem doSignal_keeps {m : SyncMsg} {s : State} {s0 : State} (hk : Keeps s0 s) :
    Keeps s0 (doSignal m s) := by
  unfold doSignal
  try dsimp only
  repeat' first
    | (intro _; try dsimp only)
    | with_reducible apply Keeps.ite
    | with_reducible assumption
    | with_reducible apply takeSignal_keeps
    | with_reducible apply landed_keeps
    | split

theorem doFill_keeps {m : SyncMsg} {s : State} {s0 : State} (hk : Keeps s0 s) :
    Keeps s0 (doFill m s) := by
  unfold doFill
  try dsimp only
  repeat' first
    | (intro _; try dsimp only)
    | with_reducible apply Keeps.ite
    | with_reducible assumption
    | with_reducible apply pumpTile_keeps
    | with_reducible apply takeFill_keeps
    | with_reducible apply landed_keeps
    | split

theorem releaseTasks_keeps {m : SyncMsg} {s : State} {s0 : State} (hk : Keeps s0 s) :
    Keeps s0 (releaseTasks m s) := by
  unfold releaseTasks
  try dsimp only
  repeat' first
    | (intro _ _ _; try dsimp only)
    | (intro _; try dsimp only)
    | with_reducible apply Keeps.ite
    | with_reducible assumption
    | with_reducible apply endTask_keeps
    | with_reducible apply updTask_keeps
    | with_reducible apply Keeps.foldl
    | with_reducible apply Keeps.foldl2
    | with_reducible apply Keeps.foldl22
    | split
    | (with_reducible refine Keeps.mk' ?_ rfl rfl (fun x => x) (fun x => x)
       first
         | with_reducible assumption
         | with_reducible apply Keeps.ite
         | with_reducible apply endTask_keeps
         | with_reducible apply updTask_keeps
         | with_reducible apply Keeps.foldl
         | with_reducible apply Keeps.foldl2
         | with_reducible apply Keeps.foldl22
         | split)

theorem doRelease_keeps {m : SyncMsg} {s : State} {s0 : State} (hk : Keeps s0 s) :
    Keeps s0 (doRelease m s) := by
  unfold doRelease
  try dsimp only
  repeat' first
    | (intro _; try dsimp only)
    | with_reducible apply Keeps.ite
    | with_reducible assumption
    | with_reducible apply landed_keeps
    | with_reducible apply staleDrop_keeps
    | with_reducible apply releaseTasks_keeps
    | with_reducible apply abortHome_keeps
    | with_reducible apply releaseBelow_keeps
    | split
    | (with_reducible refine Keeps.mk' ?_ rfl rfl (fun x => x) (fun x => x)
       first
         | with_reducible assumption
         | with_reducible apply Keeps.ite
         | with_reducible apply landed_keeps
         | with_reducible apply staleDrop_keeps
         | with_reducible apply releaseTasks_keeps
         | with_reducible apply abortHome_keeps
         | with_reducible apply releaseBelow_keeps
         | split)

theorem withTiles_keeps {f : State → State} {s s0 : State} (hk : Keeps s0 (f s)) : Keeps s0 (withTiles f s) :=
  settleTiles_keeps hk

theorem combineRows_keeps {cluster key : Nat} {e : Combine} {x0 : Nat} {x1 : Nat} {s : State} {s0 : State} (hk : Keeps s0 s) :
    Keeps s0 (combineRows cluster key e x0 x1 s).2 := by
  induction x0 generalizing cluster key e x1 s with
  | zero =>
    simp only [combineRows]
    try dsimp only
    repeat' first
      | (intro _ _ _; try dsimp only)
      | (intro _; try dsimp only)
      | with_reducible apply Keeps.ite
      | with_reducible assumption
      | with_reducible apply seeCtx_keeps
      | with_reducible apply updCluster_keeps
      | with_reducible apply poisonRows_keeps
      | with_reducible apply ctxWrite_keeps
      | with_reducible apply Keeps.foldl
      | with_reducible apply Keeps.foldl2
      | with_reducible apply Keeps.foldl22
      | split
      | (with_reducible refine Keeps.mk' ?_ rfl rfl (fun x => x) (fun x => x)
         first
           | with_reducible assumption
           | with_reducible apply Keeps.ite
           | with_reducible apply seeCtx_keeps
           | with_reducible apply updCluster_keeps
           | with_reducible apply poisonRows_keeps
           | with_reducible apply ctxWrite_keeps
           | with_reducible apply Keeps.foldl
           | with_reducible apply Keeps.foldl2
           | with_reducible apply Keeps.foldl22
           | split)
  | succ n ih =>
    simp only [combineRows]
    try dsimp only
    repeat' first
      | (intro _ _ _; try dsimp only)
      | (intro _; try dsimp only)
      | with_reducible apply Keeps.ite
      | with_reducible assumption
      | with_reducible apply ih
      | with_reducible apply seeCtx_keeps
      | with_reducible apply updCluster_keeps
      | with_reducible apply poisonRows_keeps
      | with_reducible apply ctxWrite_keeps
      | refine Keeps.of_pair (by with_reducible assumption) (ih ?_)
      | with_reducible apply Keeps.foldl
      | with_reducible apply Keeps.foldl2
      | with_reducible apply Keeps.foldl22
      | split
      | (with_reducible refine Keeps.mk' ?_ rfl rfl (fun x => x) (fun x => x)
         first
           | with_reducible assumption
           | with_reducible apply Keeps.ite
           | with_reducible apply ih
           | with_reducible apply seeCtx_keeps
           | with_reducible apply updCluster_keeps
           | with_reducible apply poisonRows_keeps
           | with_reducible apply ctxWrite_keeps
           | refine Keeps.of_pair (by with_reducible assumption) (ih ?_)
           | with_reducible apply Keeps.foldl
           | with_reducible apply Keeps.foldl2
           | with_reducible apply Keeps.foldl22
           | split)

theorem doMarverCombine_keeps {cluster : Nat} {s : State} {s0 : State} (hk : Keeps s0 s) :
    Keeps s0 (doMarverCombine cluster s) := by
  unfold doMarverCombine
  try dsimp only
  repeat' first
    | (intro _ _ _; try dsimp only)
    | (intro _; try dsimp only)
    | with_reducible apply Keeps.ite
    | with_reducible assumption
    | with_reducible apply combineRows_keeps
    | refine Keeps.of_pair (by with_reducible assumption) (combineRows_keeps ?_)
    | with_reducible apply reportFlags_keeps
    | split
    | (with_reducible refine Keeps.mk' ?_ rfl rfl (fun x => x) (fun x => x)
       first
         | with_reducible assumption
         | with_reducible apply Keeps.ite
         | with_reducible apply combineRows_keeps
         | refine Keeps.of_pair (by with_reducible assumption) (combineRows_keeps ?_)
         | with_reducible apply reportFlags_keeps
         | split)

theorem doDoneAction_keeps {cluster slot : Nat} {s : State} {s0 : State} (hk : Keeps s0 s) :
    Keeps s0 (doDoneAction cluster slot s) := by
  unfold doDoneAction
  try dsimp only
  repeat' first
    | (intro _ _ _; try dsimp only)
    | (intro _; try dsimp only)
    | with_reducible apply Keeps.ite
    | with_reducible assumption
    | with_reducible apply sendSync_keeps
    | with_reducible apply updCluster_keeps
    | split
    | (with_reducible refine Keeps.mk' ?_ rfl rfl (fun x => x) (fun x => x)
       first
         | with_reducible assumption
         | with_reducible apply Keeps.ite
         | with_reducible apply sendSync_keeps
         | with_reducible apply updCluster_keeps
         | split)

theorem landSlice_keeps {tile a : Nat} {x : List Byte × List Bool} {s : State} {s0 : State} (hk : Keeps s0 s) :
    Keeps s0 (landSlice tile a x s) := by
  unfold landSlice
  try dsimp only
  repeat' first
    | (intro _ _ _; try dsimp only)
    | (intro _; try dsimp only)
    | with_reducible assumption
    | with_reducible apply tagLine_keeps
    | with_reducible apply sramWrite_keeps
    | with_reducible apply Keeps.foldl
    | with_reducible apply Keeps.foldl2
    | with_reducible apply Keeps.foldl22

theorem doRotation_keeps {cluster slot : Nat} {s : State} {s0 : State} (hk : Keeps s0 s) :
    Keeps s0 (doRotation cluster slot s) := by
  unfold doRotation
  try dsimp only
  repeat' first
    | (intro _ _ _; try dsimp only)
    | (intro _; try dsimp only)
    | with_reducible apply Keeps.ite
    | with_reducible assumption
    | with_reducible apply landSlice_keeps
    | with_reducible apply landed_keeps
    | with_reducible apply updCluster_keeps
    | with_reducible apply pumpTiles_keeps
    | with_reducible apply Keeps.foldl
    | with_reducible apply Keeps.foldl2
    | with_reducible apply Keeps.foldl22
    | split
    | (with_reducible refine Keeps.mk' ?_ rfl rfl (fun x => x) (fun x => x)
       first
         | with_reducible assumption
         | with_reducible apply Keeps.ite
         | with_reducible apply landSlice_keeps
         | with_reducible apply landed_keeps
         | with_reducible apply updCluster_keeps
         | with_reducible apply pumpTiles_keeps
         | with_reducible apply Keeps.foldl
         | with_reducible apply Keeps.foldl2
         | with_reducible apply Keeps.foldl22
         | split)

theorem chanWriteSectors_keeps {c : Nat} {x0 : Nat} {x1 : Nat} {x2 : List (Byte × Bool)} {s : State} {s0 : State} (hk : Keeps s0 s) :
    Keeps s0 (chanWriteSectors c x0 x1 x2 s) := by
  induction x0 generalizing c x1 x2 s with
  | zero =>
    simp only [chanWriteSectors]
    try dsimp only
    repeat' first
      | (intro _; try dsimp only)
      | with_reducible apply Keeps.ite
      | with_reducible assumption
      | with_reducible apply noteWrite_keeps
      | with_reducible apply wcbWrite_keeps
      | split
  | succ n ih =>
    simp only [chanWriteSectors]
    try dsimp only
    repeat' first
      | (intro _; try dsimp only)
      | with_reducible apply Keeps.ite
      | with_reducible assumption
      | with_reducible apply ih
      | with_reducible apply noteWrite_keeps
      | with_reducible apply wcbWrite_keeps
      | split

theorem seeChan_keeps {c off n : Nat} {s : State} {s0 : State} (hk : Keeps s0 s) :
    Keeps s0 (seeChan c off n s) := by
  unfold seeChan
  try dsimp only
  repeat' first
    | (intro _ _ _; try dsimp only)
    | (intro _; try dsimp only)
    | with_reducible assumption
    | with_reducible apply pushReq_keeps
    | with_reducible apply Keeps.foldl
    | with_reducible apply Keeps.foldl2
    | with_reducible apply Keeps.foldl22

theorem writeSlot_keeps {n cell ver : Nat} {bs : List (Byte × Bool)} {s : State} {s0 : State} (hk : Keeps s0 s) :
    Keeps s0 (writeSlot n cell ver bs s) := by
  unfold writeSlot
  try dsimp only
  repeat' first
    | (intro _; try dsimp only)
    | with_reducible assumption
    | with_reducible apply chanWriteSectors_keeps

theorem returnRow_keeps {r : RowResp} {s : State} {s0 : State} (hk : Keeps s0 s) :
    Keeps s0 (returnRow r s) := by
  unfold returnRow
  try dsimp only
  repeat' first
    | (intro _; try dsimp only)
    | with_reducible assumption
    | with_reducible apply pushResp_keeps
    | with_reducible apply sendRow_keeps
    | split
    | (with_reducible refine Keeps.mk' ?_ rfl rfl (fun x => x) (fun x => x)
       first
         | with_reducible assumption
         | with_reducible apply pushResp_keeps
         | with_reducible apply sendRow_keeps
         | split)

theorem askSectors_keeps {c off n id queue : Nat} {s : State} {s0 : State} (hk : Keeps s0 s) :
    Keeps s0 (askSectors c off n id queue s) := by
  unfold askSectors
  try dsimp only
  repeat' first
    | (intro _ _ _; try dsimp only)
    | (intro _; try dsimp only)
    | with_reducible assumption
    | with_reducible apply enqueueReq_keeps
    | with_reducible apply Keeps.foldl
    | with_reducible apply Keeps.foldl2
    | with_reducible apply Keeps.foldl22
    | (with_reducible refine Keeps.mk' ?_ rfl rfl (fun x => x) (fun x => x)
       first
         | with_reducible assumption
         | with_reducible apply enqueueReq_keeps
         | with_reducible apply Keeps.foldl
         | with_reducible apply Keeps.foldl2
         | with_reducible apply Keeps.foldl22)

theorem deliverRow_keeps {n : Nat} {r : RowResp} {s : State} {s0 : State} (hk : Keeps s0 s) :
    Keeps s0 (deliverRow n r s) := by
  unfold deliverRow
  try dsimp only
  repeat' first
    | (intro _ _ _; try dsimp only)
    | (intro _; try dsimp only)
    | with_reducible apply Keeps.ite
    | with_reducible assumption
    | with_reducible apply pushResp_keeps
    | with_reducible apply updShard_keeps
    | split
    | (with_reducible refine Keeps.mk' ?_ rfl rfl (fun x => x) (fun x => x)
       first
         | with_reducible assumption
         | with_reducible apply Keeps.ite
         | with_reducible apply pushResp_keeps
         | with_reducible apply updShard_keeps
         | split)

theorem noteRereads_keeps {q : RowReq} {ats : List RowAttempt} {s : State} {s0 : State} (hk : Keeps s0 s) :
    Keeps s0 (noteRereads q ats s).2 := by
  unfold noteRereads
  try dsimp only
  repeat' first
    | (intro _; try dsimp only)
    | with_reducible apply Keeps.ite
    | with_reducible assumption
    | with_reducible apply noteTorn_keeps
    | split
    | (with_reducible refine Keeps.mk' ?_ rfl rfl (fun x => x) (fun x => x)
       first
         | with_reducible assumption
         | with_reducible apply Keeps.ite
         | with_reducible apply noteTorn_keeps
         | split)

theorem serveReplica_keeps {q : RowReq} {r : Replica} {ats : List RowAttempt} {s : State} {s0 : State} (hk : Keeps s0 s) :
    Keeps s0 (serveReplica q r ats s) := by
  unfold serveReplica
  try dsimp only
  repeat' first
    | (intro _ _ _; try dsimp only)
    | (intro _; try dsimp only)
    | with_reducible apply Keeps.ite
    | with_reducible assumption
    | with_reducible apply noteRereads_keeps
    | refine Keeps.of_pair (by with_reducible assumption) (noteRereads_keeps ?_)
    | with_reducible apply pushResp_keeps
    | split
    | (with_reducible refine Keeps.mk' ?_ rfl rfl (fun x => x) (fun x => x)
       first
         | with_reducible assumption
         | with_reducible apply Keeps.ite
         | with_reducible apply noteRereads_keeps
         | refine Keeps.of_pair (by with_reducible assumption) (noteRereads_keeps ?_)
         | with_reducible apply pushResp_keeps
         | split)

theorem serveRow_keeps {q : RowReq} {ats : List RowAttempt} {s : State} {s0 : State} (hk : Keeps s0 s) :
    Keeps s0 (serveRow q ats s) := by
  unfold serveRow
  try dsimp only
  repeat' first
    | (intro _; try dsimp only)
    | with_reducible apply Keeps.ite
    | with_reducible assumption
    | with_reducible apply pushResp_keeps
    | with_reducible apply noteUnresolved_keeps
    | with_reducible apply deliverRow_keeps
    | with_reducible apply noteRereads_keeps
    | refine Keeps.of_pair (by with_reducible assumption) (noteRereads_keeps ?_)
    | with_reducible apply nextRow_keeps
    | refine Keeps.of_pair (by with_reducible assumption) (nextRow_keeps ?_)
    | with_reducible apply askSectors_keeps
    | split
    | (with_reducible refine Keeps.mk' ?_ rfl rfl (fun x => x) (fun x => x)
       first
         | with_reducible assumption
         | with_reducible apply Keeps.ite
         | with_reducible apply pushResp_keeps
         | with_reducible apply noteUnresolved_keeps
         | with_reducible apply deliverRow_keeps
         | with_reducible apply noteRereads_keeps
         | refine Keeps.of_pair (by with_reducible assumption) (noteRereads_keeps ?_)
         | with_reducible apply nextRow_keeps
         | refine Keeps.of_pair (by with_reducible assumption) (nextRow_keeps ?_)
         | with_reducible apply askSectors_keeps
         | split)

theorem askHome_keeps {q : RowReq} {home : Nat} {s : State} {s0 : State} (hk : Keeps s0 s) :
    Keeps s0 (askHome q home s) := by
  unfold askHome
  try dsimp only
  repeat' first
    | (intro _; try dsimp only)
    | with_reducible assumption
    | with_reducible apply freshTag_keeps
    | refine Keeps.of_pair (by with_reducible assumption) (freshTag_keeps ?_)
    | with_reducible apply sendRow_keeps
    | (with_reducible refine Keeps.mk' ?_ rfl rfl (fun x => x) (fun x => x)
       first
         | with_reducible assumption
         | with_reducible apply freshTag_keeps
         | refine Keeps.of_pair (by with_reducible assumption) (freshTag_keeps ?_)
         | with_reducible apply sendRow_keeps)

theorem serveTile_keeps {q : RowReq} {ats : List RowAttempt} {s : State} {s0 : State} (hk : Keeps s0 s) :
    Keeps s0 (serveTile q ats s) := by
  unfold serveTile
  try dsimp only
  repeat' first
    | (intro _ _ _; try dsimp only)
    | (intro _; try dsimp only)
    | with_reducible apply Keeps.ite
    | with_reducible assumption
    | with_reducible apply serveReplica_keeps
    | with_reducible apply serveRow_keeps
    | with_reducible apply pushResp_keeps
    | with_reducible apply noteUnreachable_keeps
    | with_reducible apply askHome_keeps
    | split
    | (with_reducible refine Keeps.mk' ?_ rfl rfl (fun x => x) (fun x => x)
       first
         | with_reducible assumption
         | with_reducible apply Keeps.ite
         | with_reducible apply serveReplica_keeps
         | with_reducible apply serveRow_keeps
         | with_reducible apply pushResp_keeps
         | with_reducible apply noteUnreachable_keeps
         | with_reducible apply askHome_keeps
         | split)

theorem doRowRequest_keeps {i : Nat} {ats : List RowAttempt} {s : State} {s0 : State} (hk : Keeps s0 s) :
    Keeps s0 (doRowRequest i ats s) := by
  unfold doRowRequest
  try dsimp only
  repeat' first
    | (intro _; try dsimp only)
    | with_reducible apply Keeps.ite
    | with_reducible assumption
    | with_reducible apply serveRow_keeps
    | with_reducible apply serveTile_keeps
    | split
    | (with_reducible refine Keeps.mk' ?_ rfl rfl (fun x => x) (fun x => x)
       first
         | with_reducible assumption
         | with_reducible apply Keeps.ite
         | with_reducible apply serveRow_keeps
         | with_reducible apply serveTile_keeps
         | split)

theorem landRow_keeps {p : RowPlace} {bs : List (Byte × Bool)} {s : State} {s0 : State} (hk : Keeps s0 s) :
    Keeps s0 (landRow p bs s) := by
  unfold landRow
  try dsimp only
  repeat' first
    | (intro _ _ _; try dsimp only)
    | (intro _; try dsimp only)
    | with_reducible apply Keeps.ite
    | with_reducible assumption
    | with_reducible apply landBytes_keeps
    | with_reducible apply updTask_keeps
    | split
    | (with_reducible refine Keeps.mk' ?_ rfl rfl (fun x => x) (fun x => x)
       first
         | with_reducible assumption
         | with_reducible apply Keeps.ite
         | with_reducible apply landBytes_keeps
         | with_reducible apply updTask_keeps
         | split)

theorem landComposed_keeps {p : RowPlace} {a b : List (Byte × Bool)} {s : State} {s0 : State} (hk : Keeps s0 s) :
    Keeps s0 (landComposed p a b s) := by
  unfold landComposed
  try dsimp only
  repeat' first
    | (intro _ _ _; try dsimp only)
    | (intro _; try dsimp only)
    | with_reducible apply Keeps.ite
    | with_reducible assumption
    | with_reducible apply taskFlags_keeps
    | with_reducible apply updTask_keeps
    | with_reducible apply landBytes_keeps
    | split
    | (with_reducible refine Keeps.mk' ?_ rfl rfl (fun x => x) (fun x => x)
       first
         | with_reducible assumption
         | with_reducible apply Keeps.ite
         | with_reducible apply taskFlags_keeps
         | with_reducible apply updTask_keeps
         | with_reducible apply landBytes_keeps
         | split)

theorem landAt_keeps {r : RowResp} {s : State} {w : RowFor} {s0 : State} (hk : Keeps s0 s) :
    Keeps s0 (landAt r s w) := by
  unfold landAt
  try dsimp only
  repeat' first
    | (intro _ _ _; try dsimp only)
    | (intro _; try dsimp only)
    | with_reducible apply Keeps.ite
    | with_reducible assumption
    | with_reducible apply landRow_keeps
    | with_reducible apply landComposed_keeps
    | split
    | (with_reducible refine Keeps.mk' ?_ rfl rfl (fun x => x) (fun x => x)
       first
         | with_reducible assumption
         | with_reducible apply Keeps.ite
         | with_reducible apply landRow_keeps
         | with_reducible apply landComposed_keeps
         | split)

theorem doRowResponse_keeps {i : Nat} {s : State} {s0 : State} (hk : Keeps s0 s) :
    Keeps s0 (doRowResponse i s) := by
  unfold doRowResponse
  try dsimp only
  repeat' first
    | (intro _ _ _; try dsimp only)
    | (intro _; try dsimp only)
    | with_reducible apply Keeps.ite
    | with_reducible assumption
    | with_reducible apply returnRow_keeps
    | with_reducible apply settleTiles_keeps
    | with_reducible apply landAt_keeps
    | with_reducible apply Keeps.foldl
    | with_reducible apply Keeps.foldl2
    | with_reducible apply Keeps.foldl22
    | split
    | (with_reducible refine Keeps.mk' ?_ rfl rfl (fun x => x) (fun x => x)
       first
         | with_reducible assumption
         | with_reducible apply Keeps.ite
         | with_reducible apply returnRow_keeps
         | with_reducible apply settleTiles_keeps
         | with_reducible apply landAt_keeps
         | with_reducible apply Keeps.foldl
         | with_reducible apply Keeps.foldl2
         | with_reducible apply Keeps.foldl22
         | split)

theorem tellRow_keeps {sub table row dst vc : Nat} {s : State} {s0 : State} (hk : Keeps s0 s) :
    Keeps s0 (tellRow sub table row dst vc s) := by
  unfold tellRow
  try dsimp only
  repeat' first
    | (intro _; try dsimp only)
    | with_reducible assumption
    | with_reducible apply sendRow_keeps
    | (with_reducible refine Keeps.mk' ?_ rfl rfl (fun x => x) (fun x => x)
       first
         | with_reducible assumption
         | with_reducible apply sendRow_keeps)

theorem setHolders_keeps {h : Holders} {s : State} {s0 : State} (hk : Keeps s0 s) :
    Keeps s0 (setHolders h s) := by
  unfold setHolders
  try dsimp only
  repeat' first
    | (intro _ _ _; try dsimp only)
    | (intro _; try dsimp only)
    | with_reducible apply Keeps.ite
    | with_reducible assumption
    | split
    | (with_reducible refine Keeps.mk' ?_ rfl rfl (fun x => x) (fun x => x)
       first
         | with_reducible assumption
         | with_reducible apply Keeps.ite
         | split)

theorem noteReplicated_keeps {table row : Nat} {s : State} {s0 : State} (hk : Keeps s0 s) :
    Keeps s0 (noteReplicated table row s) := by
  unfold noteReplicated
  try dsimp only
  repeat' first
    | (intro _ _ _; try dsimp only)
    | (intro _; try dsimp only)
    | with_reducible apply Keeps.ite
    | with_reducible assumption
    | with_reducible apply setRowMap_keeps
    | split
    | (with_reducible refine Keeps.mk' ?_ rfl rfl (fun x => x) (fun x => x)
       first
         | with_reducible assumption
         | with_reducible apply Keeps.ite
         | with_reducible apply setRowMap_keeps
         | split)

theorem dropReplica_keeps {r : Replica} {s : State} {s0 : State} (hk : Keeps s0 s) :
    Keeps s0 (dropReplica r s) := by
  unfold dropReplica
  try dsimp only
  repeat' first
    | (intro _ _ _; try dsimp only)
    | (intro _; try dsimp only)
    | with_reducible assumption
    | (with_reducible refine Keeps.mk' ?_ rfl rfl (fun x => x) (fun x => x)
       first
         | with_reducible assumption)

theorem leaveReplica_keeps {r : Replica} {s : State} {s0 : State} (hk : Keeps s0 s) :
    Keeps s0 (leaveReplica r s) := by
  unfold leaveReplica
  try dsimp only
  repeat' first
    | (intro _ _ _; try dsimp only)
    | (intro _; try dsimp only)
    | with_reducible apply Keeps.ite
    | with_reducible assumption
    | with_reducible apply dropReplica_keeps
    | with_reducible apply noteReplicated_keeps
    | with_reducible apply tellRow_keeps
    | split

theorem dropRow_keeps {table row : Nat} {s : State} {s0 : State} (hk : Keeps s0 s) :
    Keeps s0 (dropRow table row s) := by
  unfold dropRow
  try dsimp only
  repeat' first
    | (intro _ _ _; try dsimp only)
    | (intro _; try dsimp only)
    | with_reducible apply Keeps.ite
    | with_reducible assumption
    | with_reducible apply dropReplica_keeps
    | with_reducible apply Keeps.foldl
    | with_reducible apply Keeps.foldl2
    | with_reducible apply Keeps.foldl22
    | split
    | (with_reducible refine Keeps.mk' ?_ rfl rfl (fun x => x) (fun x => x)
       first
         | with_reducible assumption
         | with_reducible apply Keeps.ite
         | with_reducible apply dropReplica_keeps
         | with_reducible apply Keeps.foldl
         | with_reducible apply Keeps.foldl2
         | with_reducible apply Keeps.foldl22
         | split)

theorem dropReplicasWhere_keeps {p : Nat → Bool} {s : State} {s0 : State} (hk : Keeps s0 s) :
    Keeps s0 (dropReplicasWhere p s) := by
  unfold dropReplicasWhere
  try dsimp only
  repeat' first
    | (intro _ _ _; try dsimp only)
    | (intro _; try dsimp only)
    | with_reducible assumption
    | with_reducible apply dropRow_keeps
    | with_reducible apply Keeps.foldl
    | with_reducible apply Keeps.foldl2
    | with_reducible apply Keeps.foldl22
    | split

theorem dropReplicasOf_keeps {d : Nat} {s : State} {s0 : State} (hk : Keeps s0 s) :
    Keeps s0 (dropReplicasOf d s) := by
  unfold dropReplicasOf
  try dsimp only
  repeat' first
    | (intro _ _ _; try dsimp only)
    | (intro _; try dsimp only)
    | with_reducible assumption
    | with_reducible apply dropReplicasWhere_keeps

theorem dropForeign_keeps {s : State} {s0 : State} (hk : Keeps s0 s) :
    Keeps s0 (dropForeign s) := by
  unfold dropForeign
  try dsimp only
  repeat' first
    | (intro _ _ _; try dsimp only)
    | (intro _; try dsimp only)
    | with_reducible assumption
    | with_reducible apply dropReplicasWhere_keeps

theorem dropStrangers_keeps {s : State} {s0 : State} (hk : Keeps s0 s) :
    Keeps s0 (dropStrangers s) := by
  unfold dropStrangers
  try dsimp only
  repeat' first
    | (intro _ _ _; try dsimp only)
    | (intro _; try dsimp only)
    | with_reducible assumption
    | with_reducible apply dropReplicasWhere_keeps

theorem doRowHomeUnreachable_keeps {tag : Nat} {s : State} {s0 : State} (hk : Keeps s0 s) :
    Keeps s0 (doRowHomeUnreachable tag s) := by
  unfold doRowHomeUnreachable
  try dsimp only
  repeat' first
    | (intro _ _ _; try dsimp only)
    | (intro _; try dsimp only)
    | with_reducible apply Keeps.ite
    | with_reducible assumption
    | with_reducible apply pushResp_keeps
    | with_reducible apply noteUnreachable_keeps
    | with_reducible apply dropReplicasOf_keeps
    | split
    | (with_reducible refine Keeps.mk' ?_ rfl rfl (fun x => x) (fun x => x)
       first
         | with_reducible assumption
         | with_reducible apply Keeps.ite
         | with_reducible apply pushResp_keeps
         | with_reducible apply noteUnreachable_keeps
         | with_reducible apply dropReplicasOf_keeps
         | split)

theorem denyReplica_keeps {table : Nat} {s : State} {s0 : State} (hk : Keeps s0 s) :
    Keeps s0 (denyReplica table s) := by
  unfold denyReplica
  try dsimp only
  repeat' first
    | (intro _; try dsimp only)
    | with_reducible apply Keeps.ite
    | with_reducible assumption
    | with_reducible apply raise_keeps
    | split
    | (with_reducible refine Keeps.mk' ?_ rfl rfl (fun x => x) (fun x => x)
       first
         | with_reducible assumption
         | with_reducible apply Keeps.ite
         | with_reducible apply raise_keeps
         | split)

theorem newReplica_keeps {table row : Nat} {cc : Bool} {bs : List (Byte × Bool)} {s : State} {s0 : State} (hk : Keeps s0 s) :
    Keeps s0 (newReplica table row cc bs s).2 := by
  unfold newReplica
  try dsimp only
  repeat' first
    | (intro _; try dsimp only)
    | with_reducible assumption
    | (with_reducible refine Keeps.mk' ?_ rfl rfl (fun x => x) (fun x => x)
       first
         | with_reducible assumption)

theorem addReplica_keeps {table row : Nat} {cc : Bool} {bs : List (Byte × Bool)} {s : State} {s0 : State} (hk : Keeps s0 s) :
    Keeps s0 (addReplica table row cc bs s) := by
  unfold addReplica
  try dsimp only
  repeat' first
    | (intro _; try dsimp only)
    | with_reducible assumption
    | with_reducible apply newReplica_keeps
    | refine Keeps.of_pair (by with_reducible assumption) (newReplica_keeps ?_)
    | (with_reducible refine Keeps.mk' ?_ rfl rfl (fun x => x) (fun x => x)
       first
         | with_reducible assumption
         | with_reducible apply newReplica_keeps
         | refine Keeps.of_pair (by with_reducible assumption) (newReplica_keeps ?_))

theorem displace_keeps {old : Replica} {table row : Nat} {bs : List (Byte × Bool)} {s : State} {s0 : State} (hk : Keeps s0 s) :
    Keeps s0 (displace old table row bs s) := by
  unfold displace
  try dsimp only
  repeat' first
    | (intro _ _ _; try dsimp only)
    | (intro _; try dsimp only)
    | with_reducible assumption
    | with_reducible apply newReplica_keeps
    | refine Keeps.of_pair (by with_reducible assumption) (newReplica_keeps ?_)
    | with_reducible apply leaveReplica_keeps
    | (with_reducible refine Keeps.mk' ?_ rfl rfl (fun x => x) (fun x => x)
       first
         | with_reducible assumption
         | with_reducible apply newReplica_keeps
         | refine Keeps.of_pair (by with_reducible assumption) (newReplica_keeps ?_)
         | with_reducible apply leaveReplica_keeps)

theorem placeReplica_keeps {table row est : Nat} {cc : Bool} {bs : List (Byte × Bool)} {s : State} {s0 : State} (hk : Keeps s0 s) :
    Keeps s0 (placeReplica table row est cc bs s).2 := by
  unfold placeReplica
  try dsimp only
  repeat' first
    | (intro _ _ _; try dsimp only)
    | (intro _; try dsimp only)
    | with_reducible apply Keeps.ite
    | with_reducible assumption
    | with_reducible apply addReplica_keeps
    | with_reducible apply displace_keeps
    | with_reducible apply denyReplica_keeps
    | split
    | (with_reducible refine Keeps.mk' ?_ rfl rfl (fun x => x) (fun x => x)
       first
         | with_reducible assumption
         | with_reducible apply Keeps.ite
         | with_reducible apply addReplica_keeps
         | with_reducible apply displace_keeps
         | with_reducible apply denyReplica_keeps
         | split)

theorem doReplicaCopy_keeps {m : ReplicaMsg} {s : State} {s0 : State} (hk : Keeps s0 s) :
    Keeps s0 (doReplicaCopy m s) := by
  unfold doReplicaCopy
  try dsimp only
  repeat' first
    | (intro _; try dsimp only)
    | with_reducible apply Keeps.ite
    | with_reducible assumption
    | with_reducible apply placeReplica_keeps
    | refine Keeps.of_pair (by with_reducible assumption) (placeReplica_keeps ?_)
    | with_reducible apply tellRow_keeps
    | split

theorem doReplicaInvalidate_keeps {m : ReplicaMsg} {s : State} {s0 : State} (hk : Keeps s0 s) :
    Keeps s0 (doReplicaInvalidate m s) := by
  unfold doReplicaInvalidate
  try dsimp only
  repeat' first
    | (intro _; try dsimp only)
    | with_reducible apply Keeps.ite
    | with_reducible assumption
    | with_reducible apply tellRow_keeps
    | with_reducible apply dropRow_keeps
    | split

theorem doReplicaDrop_keeps {m : ReplicaMsg} {s : State} {s0 : State} (hk : Keeps s0 s) :
    Keeps s0 (doReplicaDrop m s) := by
  unfold doReplicaDrop
  try dsimp only
  repeat' first
    | (intro _ _ _; try dsimp only)
    | (intro _; try dsimp only)
    | with_reducible apply Keeps.ite
    | with_reducible assumption
    | with_reducible apply noteReplicated_keeps
    | with_reducible apply setHolders_keeps
    | with_reducible apply leaveReplica_keeps
    | split
    | (with_reducible refine Keeps.mk' ?_ rfl rfl (fun x => x) (fun x => x)
       first
         | with_reducible assumption
         | with_reducible apply Keeps.ite
         | with_reducible apply noteReplicated_keeps
         | with_reducible apply setHolders_keeps
         | with_reducible apply leaveReplica_keeps
         | split)

theorem endEntry_keeps {e : Entry} {refused : Bool} {s : State} {s0 : State} (hk : Keeps s0 s) :
    Keeps s0 (endEntry e refused s) := by
  unfold endEntry
  try dsimp only
  repeat' first
    | (intro _ _ _; try dsimp only)
    | (intro _; try dsimp only)
    | with_reducible apply Keeps.ite
    | with_reducible assumption
    | with_reducible apply sendRow_keeps
    | with_reducible apply refuseEntry_keeps
    | split
    | (with_reducible refine Keeps.mk' ?_ rfl rfl (fun x => x) (fun x => x)
       first
         | with_reducible assumption
         | with_reducible apply Keeps.ite
         | with_reducible apply sendRow_keeps
         | with_reducible apply refuseEntry_keeps
         | split
         | dsimp only)
    | dsimp only

theorem stampWrite_keeps {n e : Nat} {s : State} {s0 : State} (hk : Keeps s0 s) :
    Keeps s0 (stampWrite n e s) := by
  unfold stampWrite
  try dsimp only
  repeat' first
    | (intro _; try dsimp only)
    | with_reducible assumption
    | (with_reducible refine Keeps.mk' ?_ rfl rfl (fun x => x) (fun x => x)
       first
         | with_reducible assumption)

theorem changeEntry_keeps {n e : Nat} {m : RowMap} {s : State} {s0 : State} (hk : Keeps s0 s) :
    Keeps s0 (changeEntry n e m s) := by
  unfold changeEntry
  try dsimp only
  repeat' first
    | (intro _; try dsimp only)
    | with_reducible assumption
    | with_reducible apply setRowMap_keeps
    | (with_reducible refine Keeps.mk' ?_ rfl rfl (fun x => x) (fun x => x)
       first
         | with_reducible assumption
         | with_reducible apply setRowMap_keeps)

theorem takeCell_keeps {n c : Nat} {s : State} {s0 : State} (hk : Keeps s0 s) :
    Keeps s0 (takeCell n c s) := by
  unfold takeCell
  try dsimp only
  repeat' first
    | (intro _ _ _; try dsimp only)
    | (intro _; try dsimp only)
    | with_reducible assumption
    | with_reducible apply updShard_keeps
    | (with_reducible refine Keeps.mk' ?_ rfl rfl (fun x => x) (fun x => x)
       first
         | with_reducible assumption
         | with_reducible apply updShard_keeps)

theorem settleCell_keeps {n c : Nat} {s : State} {s0 : State} (hk : Keeps s0 s) :
    Keeps s0 (settleCell n c s) := by
  unfold settleCell
  try dsimp only
  repeat' first
    | (intro _; try dsimp only)
    | with_reducible assumption
    | (with_reducible refine Keeps.mk' ?_ rfl rfl (fun x => x) (fun x => x)
       first
         | with_reducible assumption)

theorem commitEntry_keeps {e : Entry} {s : State} {s0 : State} (hk : Keeps s0 s) :
    Keeps s0 (commitEntry e s) := by
  unfold commitEntry
  try dsimp only
  repeat' first
    | (intro _; try dsimp only)
    | with_reducible apply Keeps.ite
    | with_reducible assumption
    | with_reducible apply stampWrite_keeps
    | with_reducible apply setHolders_keeps
    | with_reducible apply changeEntry_keeps
    | with_reducible apply endEntry_keeps
    | with_reducible apply settleCell_keeps
    | split
    | (with_reducible refine Keeps.mk' ?_ rfl rfl (fun x => x) (fun x => x)
       first
         | with_reducible assumption
         | with_reducible apply Keeps.ite
         | with_reducible apply stampWrite_keeps
         | with_reducible apply setHolders_keeps
         | with_reducible apply changeEntry_keeps
         | with_reducible apply endEntry_keeps
         | with_reducible apply settleCell_keeps
         | split)

theorem invalidateFor_keeps {e : Entry} {s : State} {s0 : State} (hk : Keeps s0 s) :
    Keeps s0 (invalidateFor e s) := by
  unfold invalidateFor
  try dsimp only
  repeat' first
    | (intro _ _ _; try dsimp only)
    | (intro _; try dsimp only)
    | with_reducible apply Keeps.ite
    | with_reducible assumption
    | with_reducible apply dropRow_keeps
    | with_reducible apply commitEntry_keeps
    | with_reducible apply setHolders_keeps
    | with_reducible apply tellRow_keeps
    | with_reducible apply Keeps.foldl
    | with_reducible apply Keeps.foldl2
    | with_reducible apply Keeps.foldl22
    | split
    | (with_reducible refine Keeps.mk' ?_ rfl rfl (fun x => x) (fun x => x)
       first
         | with_reducible assumption
         | with_reducible apply Keeps.ite
         | with_reducible apply dropRow_keeps
         | with_reducible apply commitEntry_keeps
         | with_reducible apply setHolders_keeps
         | with_reducible apply tellRow_keeps
         | with_reducible apply Keeps.foldl
         | with_reducible apply Keeps.foldl2
         | with_reducible apply Keeps.foldl22
         | split)

theorem holderGone_keeps {table row d : Nat} {s : State} {s0 : State} (hk : Keeps s0 s) :
    Keeps s0 (holderGone table row d s) := by
  unfold holderGone
  try dsimp only
  repeat' first
    | (intro _ _ _; try dsimp only)
    | (intro _; try dsimp only)
    | with_reducible apply Keeps.ite
    | with_reducible assumption
    | with_reducible apply setHolders_keeps
    | with_reducible apply commitEntry_keeps
    | split
    | (with_reducible refine Keeps.mk' ?_ rfl rfl (fun x => x) (fun x => x)
       first
         | with_reducible assumption
         | with_reducible apply Keeps.ite
         | with_reducible apply setHolders_keeps
         | with_reducible apply commitEntry_keeps
         | split)

theorem doInvalidateAcknowledgement_keeps {m : ReplicaMsg} {s : State} {s0 : State} (hk : Keeps s0 s) :
    Keeps s0 (doInvalidateAcknowledgement m s) := by
  unfold doInvalidateAcknowledgement
  try dsimp only
  repeat' first
    | (intro _; try dsimp only)
    | with_reducible apply Keeps.ite
    | with_reducible assumption
    | with_reducible apply holderGone_keeps
    | split

theorem doInvalidationTimeout_keeps {m : ReplicaMsg} {s : State} {s0 : State} (hk : Keeps s0 s) :
    Keeps s0 (doInvalidationTimeout m s) := by
  unfold doInvalidationTimeout
  try dsimp only
  repeat' first
    | (intro _; try dsimp only)
    | with_reducible apply Keeps.ite
    | with_reducible assumption
    | with_reducible apply holderGone_keeps
    | split

theorem holdRow_keeps {x : Entry} {n e : Nat} {s : State} {s0 : State} (hk : Keeps s0 s) :
    Keeps s0 (holdRow x n e s) := by
  unfold holdRow
  try dsimp only
  repeat' first
    | (intro _ _ _; try dsimp only)
    | (intro _; try dsimp only)
    | with_reducible apply Keeps.ite
    | with_reducible assumption
    | with_reducible apply setRowMap_keeps
    | split
    | (with_reducible refine Keeps.mk' ?_ rfl rfl (fun x => x) (fun x => x)
       first
         | with_reducible assumption
         | with_reducible apply Keeps.ite
         | with_reducible apply setRowMap_keeps
         | split)

theorem doLetterWrite_keeps {i : Nat} {s : State} {s0 : State} (hk : Keeps s0 s) :
    Keeps s0 (doLetterWrite i s) := by
  unfold doLetterWrite
  try dsimp only
  repeat' first
    | (intro _; try dsimp only)
    | with_reducible apply Keeps.ite
    | with_reducible assumption
    | with_reducible apply endEntry_keeps
    | with_reducible apply changeEntry_keeps
    | with_reducible apply writeSlot_keeps
    | with_reducible apply takeCell_keeps
    | with_reducible apply holdRow_keeps
    | with_reducible apply invalidateFor_keeps
    | with_reducible apply setRowMap_keeps
    | split
    | (with_reducible refine Keeps.mk' ?_ rfl rfl (fun x => x) (fun x => x)
       first
         | with_reducible assumption
         | with_reducible apply Keeps.ite
         | with_reducible apply endEntry_keeps
         | with_reducible apply changeEntry_keeps
         | with_reducible apply writeSlot_keeps
         | with_reducible apply takeCell_keeps
         | with_reducible apply holdRow_keeps
         | with_reducible apply invalidateFor_keeps
         | with_reducible apply setRowMap_keeps
         | split)

theorem doLetterUnload_keeps {i : Nat} {s : State} {s0 : State} (hk : Keeps s0 s) :
    Keeps s0 (doLetterUnload i s) := by
  unfold doLetterUnload
  try dsimp only
  repeat' first
    | (intro _; try dsimp only)
    | with_reducible apply Keeps.ite
    | with_reducible assumption
    | with_reducible apply endEntry_keeps
    | with_reducible apply holdRow_keeps
    | with_reducible apply invalidateFor_keeps
    | with_reducible apply setRowMap_keeps
    | split
    | (with_reducible refine Keeps.mk' ?_ rfl rfl (fun x => x) (fun x => x)
       first
         | with_reducible assumption
         | with_reducible apply Keeps.ite
         | with_reducible apply endEntry_keeps
         | with_reducible apply holdRow_keeps
         | with_reducible apply invalidateFor_keeps
         | with_reducible apply setRowMap_keeps
         | split)

theorem doSettleExpiry_keeps {i : Nat} {s : State} {s0 : State} (hk : Keeps s0 s) :
    Keeps s0 (doSettleExpiry i s) := by
  unfold doSettleExpiry
  try dsimp only
  repeat' first
    | (intro _ _ _; try dsimp only)
    | (intro _; try dsimp only)
    | with_reducible apply Keeps.ite
    | with_reducible assumption
    | with_reducible apply updShard_keeps
    | split
    | (with_reducible refine Keeps.mk' ?_ rfl rfl (fun x => x) (fun x => x)
       first
         | with_reducible assumption
         | with_reducible apply Keeps.ite
         | with_reducible apply updShard_keeps
         | split)

theorem latchCounts_keeps {s : State} {s0 : State} (hk : Keeps s0 s) :
    Keeps s0 (latchCounts s) := by
  unfold latchCounts
  try dsimp only
  repeat' first
    | (intro _ _ _; try dsimp only)
    | (intro _; try dsimp only)
    | with_reducible apply Keeps.ite
    | with_reducible assumption
    | with_reducible apply leaveReplica_keeps
    | with_reducible apply Keeps.foldl
    | with_reducible apply Keeps.foldl2
    | with_reducible apply Keeps.foldl22
    | split
    | (with_reducible refine Keeps.mk' ?_ rfl rfl (fun x => x) (fun x => x)
       first
         | with_reducible assumption
         | with_reducible apply Keeps.ite
         | with_reducible apply leaveReplica_keeps
         | with_reducible apply Keeps.foldl
         | with_reducible apply Keeps.foldl2
         | with_reducible apply Keeps.foldl22
         | split)

theorem latchShards_keeps {s : State} {s0 : State} (hk : Keeps s0 s) :
    Keeps s0 (latchShards s) := by
  unfold latchShards
  try dsimp only
  repeat' first
    | (intro _; try dsimp only)
    | with_reducible apply Keeps.ite
    | with_reducible assumption
    | with_reducible apply latchCounts_keeps
    | split

theorem countHot_keeps {t : FsTable} {s : State} {s0 : State} (hk : Keeps s0 s) :
    Keeps s0 (countHot t s) := by
  unfold countHot
  try dsimp only
  repeat' first
    | (intro _ _ _; try dsimp only)
    | (intro _; try dsimp only)
    | with_reducible apply Keeps.ite
    | with_reducible assumption
    | with_reducible apply updShard_keeps
    | with_reducible apply Keeps.foldl
    | with_reducible apply Keeps.foldl2
    | with_reducible apply Keeps.foldl22
    | split
    | (with_reducible refine Keeps.mk' ?_ rfl rfl (fun x => x) (fun x => x)
       first
         | with_reducible assumption
         | with_reducible apply Keeps.ite
         | with_reducible apply updShard_keeps
         | with_reducible apply Keeps.foldl
         | with_reducible apply Keeps.foldl2
         | with_reducible apply Keeps.foldl22
         | split)

theorem migrateRow_keeps {t : FsTable} {row dst cell : Nat} {s : State} {s0 : State} (hk : Keeps s0 s) :
    Keeps s0 (migrateRow t row dst cell s) := by
  unfold migrateRow
  try dsimp only
  repeat' first
    | (intro _; try dsimp only)
    | with_reducible assumption
    | with_reducible apply seeChan_keeps
    | with_reducible apply writeSlot_keeps
    | with_reducible apply takeCell_keeps
    | with_reducible apply changeEntry_keeps
    | with_reducible apply settleCell_keeps
    | (with_reducible refine Keeps.mk' ?_ rfl rfl (fun x => x) (fun x => x)
       first
         | with_reducible assumption
         | with_reducible apply seeChan_keeps
         | with_reducible apply writeSlot_keeps
         | with_reducible apply takeCell_keeps
         | with_reducible apply changeEntry_keeps
         | with_reducible apply settleCell_keeps)

theorem migratePair_keeps {t : FsTable} {hot cold : Nat} {x0 : List HotRow} {x1 : Nat} {x2 : Nat} {s : State} {s0 : State} (hk : Keeps s0 s) :
    Keeps s0 (migratePair t hot cold x0 x1 x2 s) := by
  induction x0 generalizing t hot cold x1 x2 s with
  | nil =>
    simp only [migratePair]
    try dsimp only
    repeat' first
      | (intro _; try dsimp only)
      | with_reducible apply Keeps.ite
      | with_reducible assumption
      | with_reducible apply migrateRow_keeps
      | split
      | (with_reducible refine Keeps.mk' ?_ rfl rfl (fun x => x) (fun x => x)
         first
           | with_reducible assumption
           | with_reducible apply Keeps.ite
           | with_reducible apply migrateRow_keeps
           | split)
  | cons b r ih =>
    simp only [migratePair]
    try dsimp only
    repeat' first
      | (intro _; try dsimp only)
      | with_reducible apply Keeps.ite
      | with_reducible assumption
      | with_reducible apply ih
      | with_reducible apply migrateRow_keeps
      | split
      | (with_reducible refine Keeps.mk' ?_ rfl rfl (fun x => x) (fun x => x)
         first
           | with_reducible assumption
           | with_reducible apply Keeps.ite
           | with_reducible apply ih
           | with_reducible apply migrateRow_keeps
           | split)

theorem reviewTable_keeps {t : FsTable} {s : State} {s0 : State} (hk : Keeps s0 s) :
    Keeps s0 (reviewTable t s) := by
  unfold reviewTable
  try dsimp only
  repeat' first
    | (intro _ _ _; try dsimp only)
    | (intro _; try dsimp only)
    | with_reducible apply Keeps.ite
    | with_reducible assumption
    | with_reducible apply countHot_keeps
    | with_reducible apply migratePair_keeps
    | with_reducible apply Keeps.foldl
    | with_reducible apply Keeps.foldl2
    | with_reducible apply Keeps.foldl22
    | split

theorem seeRow_keeps {s : State} {t : FsTable} {row : Nat} {s0 : State} (hk : Keeps s0 s) :
    Keeps s0 (State.seeRow s t row) := by
  unfold State.seeRow
  try dsimp only
  repeat' first
    | (intro _; try dsimp only)
    | with_reducible assumption
    | with_reducible apply seeChan_keeps

theorem copyRow_keeps {t : FsTable} {row : Nat} {bs : List (Byte × Bool)} {s : State} {p : Nat × Nat} {s0 : State} (hk : Keeps s0 s) :
    Keeps s0 (copyRow t row bs s p) := by
  unfold copyRow
  try dsimp only
  repeat' first
    | (intro _; try dsimp only)
    | with_reducible apply Keeps.ite
    | with_reducible assumption
    | with_reducible apply sendRow_keeps
    | with_reducible apply setHolders_keeps
    | split
    | (with_reducible refine Keeps.mk' ?_ rfl rfl (fun x => x) (fun x => x)
       first
         | with_reducible assumption
         | with_reducible apply Keeps.ite
         | with_reducible apply sendRow_keeps
         | with_reducible apply setHolders_keeps
         | split)

theorem replicateRow_keeps {t : FsTable} {s : State} {h : HotRow} {s0 : State} (hk : Keeps s0 s) :
    Keeps s0 (replicateRow t s h) := by
  unfold replicateRow
  try dsimp only
  repeat' first
    | (intro _ _ _; try dsimp only)
    | (intro _; try dsimp only)
    | with_reducible apply Keeps.ite
    | with_reducible assumption
    | with_reducible apply seeRow_keeps
    | with_reducible apply placeReplica_keeps
    | refine Keeps.of_pair (by with_reducible assumption) (placeReplica_keeps ?_)
    | with_reducible apply noteReplicated_keeps
    | with_reducible apply copyRow_keeps
    | with_reducible apply Keeps.foldl
    | with_reducible apply Keeps.foldl2
    | with_reducible apply Keeps.foldl22
    | split
    | (with_reducible refine Keeps.mk' ?_ rfl rfl (fun x => x) (fun x => x)
       first
         | with_reducible assumption
         | with_reducible apply Keeps.ite
         | with_reducible apply seeRow_keeps
         | with_reducible apply placeReplica_keeps
         | refine Keeps.of_pair (by with_reducible assumption) (placeReplica_keeps ?_)
         | with_reducible apply noteReplicated_keeps
         | with_reducible apply copyRow_keeps
         | with_reducible apply Keeps.foldl
         | with_reducible apply Keeps.foldl2
         | with_reducible apply Keeps.foldl22
         | split)

theorem replicateTable_keeps {t : FsTable} {s : State} {s0 : State} (hk : Keeps s0 s) :
    Keeps s0 (replicateTable t s) := by
  unfold replicateTable
  try dsimp only
  repeat' first
    | (intro _ _ _; try dsimp only)
    | (intro _; try dsimp only)
    | with_reducible assumption
    | with_reducible apply replicateRow_keeps
    | with_reducible apply Keeps.foldl
    | with_reducible apply Keeps.foldl2
    | with_reducible apply Keeps.foldl22

theorem doSupervisorReview_keeps {s : State} {s0 : State} (hk : Keeps s0 s) :
    Keeps s0 (doSupervisorReview s) := by
  unfold doSupervisorReview
  try dsimp only
  repeat' first
    | (intro _ _ _; try dsimp only)
    | (intro _; try dsimp only)
    | with_reducible apply Keeps.ite
    | with_reducible assumption
    | with_reducible apply reviewTable_keeps
    | with_reducible apply replicateTable_keeps
    | with_reducible apply placeReplica_keeps
    | refine Keeps.of_pair (by with_reducible assumption) (placeReplica_keeps ?_)
    | with_reducible apply raise0_keeps
    | with_reducible apply Keeps.foldl
    | with_reducible apply Keeps.foldl2
    | with_reducible apply Keeps.foldl22
    | split
    | (with_reducible refine Keeps.mk' ?_ rfl rfl (fun x => x) (fun x => x)
       first
         | with_reducible assumption
         | with_reducible apply Keeps.ite
         | with_reducible apply reviewTable_keeps
         | with_reducible apply replicateTable_keeps
         | with_reducible apply placeReplica_keeps
         | refine Keeps.of_pair (by with_reducible assumption) (placeReplica_keeps ?_)
         | with_reducible apply raise0_keeps
         | with_reducible apply Keeps.foldl
         | with_reducible apply Keeps.foldl2
         | with_reducible apply Keeps.foldl22
         | split)

theorem fsSample_keeps {i : Nat} {s : State} {s0 : State} (hk : Keeps s0 s) :
    Keeps s0 (fsSample i s) := by
  unfold fsSample
  try dsimp only
  repeat' first
    | (intro _ _ _; try dsimp only)
    | (intro _; try dsimp only)
    | with_reducible assumption
    | (with_reducible refine Keeps.mk' ?_ rfl rfl (fun x => x) (fun x => x)
       first
         | with_reducible assumption)

theorem sendJoin_keeps {r : JoinReq} {s : State} {s0 : State} (hk : Keeps s0 s) :
    Keeps s0 (sendJoin r s) := by
  unfold sendJoin
  try dsimp only
  repeat' first
    | (intro _; try dsimp only)
    | with_reducible assumption
    | with_reducible apply queueFlit_keeps
    | (with_reducible refine Keeps.mk' ?_ rfl rfl (fun x => x) (fun x => x)
       first
         | with_reducible assumption
         | with_reducible apply queueFlit_keeps)

theorem requestJoin_keeps {s : State} {s0 : State} (hk : Keeps s0 s) :
    Keeps s0 (requestJoin s) := by
  unfold requestJoin
  try dsimp only
  repeat' first
    | (intro _; try dsimp only)
    | with_reducible assumption
    | with_reducible apply sendJoin_keeps

theorem tellMember_keeps {device change serial : Nat} {s : State} {s0 : State} (hk : Keeps s0 s) :
    Keeps s0 (tellMember device change serial s) := by
  unfold tellMember
  try dsimp only
  repeat' first
    | (intro _; try dsimp only)
    | with_reducible assumption
    | with_reducible apply toChildren_keeps
    | (with_reducible refine Keeps.mk' ?_ rfl rfl (fun x => x) (fun x => x)
       first
         | with_reducible assumption
         | with_reducible apply toChildren_keeps)

theorem dropMember_keeps {d : Nat} {s : State} {s0 : State} (hk : Keeps s0 s) :
    Keeps s0 (dropMember d s) := by
  unfold dropMember
  try dsimp only
  repeat' first
    | (intro _; try dsimp only)
    | with_reducible assumption
    | with_reducible apply dropReplicasOf_keeps
    | (with_reducible refine Keeps.mk' ?_ rfl rfl (fun x => x) (fun x => x)
       first
         | with_reducible assumption
         | with_reducible apply dropReplicasOf_keeps)

theorem removeMember_keeps {d : Nat} {s : State} {s0 : State} (hk : Keeps s0 s) :
    Keeps s0 (removeMember d s) := by
  unfold removeMember
  try dsimp only
  repeat' first
    | (intro _ _ _; try dsimp only)
    | (intro _; try dsimp only)
    | with_reducible apply Keeps.ite
    | with_reducible assumption
    | with_reducible apply dropMember_keeps
    | with_reducible apply tellMember_keeps
    | split
    | (with_reducible refine Keeps.mk' ?_ rfl rfl (fun x => x) (fun x => x)
       first
         | with_reducible assumption
         | with_reducible apply Keeps.ite
         | with_reducible apply dropMember_keeps
         | with_reducible apply tellMember_keeps
         | split)

theorem loseChild_keeps {n : Nat} {s : State} {s0 : State} (hk : Keeps s0 s) :
    Keeps s0 (loseChild n s) := by
  unfold loseChild
  try dsimp only
  repeat' first
    | (intro _ _ _; try dsimp only)
    | (intro _; try dsimp only)
    | with_reducible apply Keeps.ite
    | with_reducible assumption
    | with_reducible apply removeMember_keeps
    | with_reducible apply sendSyncOn_keeps
    | with_reducible apply Keeps.foldl
    | with_reducible apply Keeps.foldl2
    | with_reducible apply Keeps.foldl22
    | split
    | (with_reducible refine Keeps.mk' ?_ rfl rfl (fun x => x) (fun x => x)
       first
         | with_reducible assumption
         | with_reducible apply Keeps.ite
         | with_reducible apply removeMember_keeps
         | with_reducible apply sendSyncOn_keeps
         | with_reducible apply Keeps.foldl
         | with_reducible apply Keeps.foldl2
         | with_reducible apply Keeps.foldl22
         | split)

theorem tryAlternate_keeps {s : State} {s0 : State} (hk : Keeps s0 s) :
    Keeps s0 (tryAlternate s).2 := by
  unfold tryAlternate
  try dsimp only
  repeat' first
    | (intro _ _ _; try dsimp only)
    | (intro _; try dsimp only)
    | with_reducible apply Keeps.ite
    | with_reducible assumption
    | with_reducible apply sendJoin_keeps
    | with_reducible apply requestJoin_keeps
    | with_reducible apply Keeps.foldl
    | with_reducible apply Keeps.foldl2
    | with_reducible apply Keeps.foldl22
    | split
    | (with_reducible refine Keeps.mk' ?_ rfl rfl (fun x => x) (fun x => x)
       first
         | with_reducible assumption
         | with_reducible apply Keeps.ite
         | with_reducible apply sendJoin_keeps
         | with_reducible apply requestJoin_keeps
         | with_reducible apply Keeps.foldl
         | with_reducible apply Keeps.foldl2
         | with_reducible apply Keeps.foldl22
         | split)

theorem failPort_keeps {n cause : Nat} {s : State} {s0 : State} (hk : Keeps s0 s) :
    Keeps s0 (failPort n cause s) := by
  unfold failPort
  try dsimp only
  repeat' first
    | (intro _ _ _; try dsimp only)
    | (intro _; try dsimp only)
    | with_reducible apply Keeps.ite
    | with_reducible assumption
    | with_reducible apply updPort_keeps
    | with_reducible apply raise_keeps
    | with_reducible apply tryAlternate_keeps
    | refine Keeps.of_pair (by with_reducible assumption) (tryAlternate_keeps ?_)
    | with_reducible apply loseChild_keeps
    | with_reducible apply reroute_keeps
    | split
    | (with_reducible refine Keeps.mk' ?_ rfl rfl (fun x => x) (fun x => x)
       first
         | with_reducible assumption
         | with_reducible apply Keeps.ite
         | with_reducible apply updPort_keeps
         | with_reducible apply raise_keeps
         | with_reducible apply tryAlternate_keeps
         | refine Keeps.of_pair (by with_reducible assumption) (tryAlternate_keeps ?_)
         | with_reducible apply loseChild_keeps
         | with_reducible apply reroute_keeps
         | split)

theorem retrainPort_keeps {n : Nat} {s : State} {s0 : State} (hk : Keeps s0 s) :
    Keeps s0 (retrainPort n s) := by
  unfold retrainPort
  try dsimp only
  repeat' first
    | (intro _ _ _; try dsimp only)
    | (intro _; try dsimp only)
    | with_reducible apply Keeps.ite
    | with_reducible assumption
    | with_reducible apply raise_keeps
    | with_reducible apply updPort_keeps
    | with_reducible apply failPort_keeps
    | split
    | (with_reducible refine Keeps.mk' ?_ rfl rfl (fun x => x) (fun x => x)
       first
         | with_reducible assumption
         | with_reducible apply Keeps.ite
         | with_reducible apply raise_keeps
         | with_reducible apply updPort_keeps
         | with_reducible apply failPort_keeps
         | split)

theorem replayPort_keeps {n : Nat} {s : State} {s0 : State} (hk : Keeps s0 s) :
    Keeps s0 (replayPort n s) := by
  unfold replayPort
  try dsimp only
  repeat' first
    | (intro _ _ _; try dsimp only)
    | (intro _; try dsimp only)
    | with_reducible apply Keeps.ite
    | with_reducible assumption
    | with_reducible apply updPort_keeps
    | split
    | (with_reducible refine Keeps.mk' ?_ rfl rfl (fun x => x) (fun x => x)
       first
         | with_reducible assumption
         | with_reducible apply Keeps.ite
         | with_reducible apply updPort_keeps
         | split)

theorem doLensRequest_keeps {i : Nat} {s : State} {s0 : State} (hk : Keeps s0 s) :
    Keeps s0 (doLensRequest i s) := by
  unfold doLensRequest
  try dsimp only
  repeat' first
    | (intro _ _ _; try dsimp only)
    | (intro _; try dsimp only)
    | with_reducible apply Keeps.ite
    | with_reducible assumption
    | with_reducible apply nextMatrix_keeps
    | with_reducible apply updEngine_keeps
    | split
    | (with_reducible refine Keeps.mk' ?_ rfl rfl (fun x => x) (fun x => x)
       first
         | with_reducible assumption
         | with_reducible apply Keeps.ite
         | with_reducible apply nextMatrix_keeps
         | with_reducible apply updEngine_keeps
         | split)

theorem doMatrixLoadDone_keeps {n : Nat} {s : State} {s0 : State} (hk : Keeps s0 s) :
    Keeps s0 (doMatrixLoadDone n s) := by
  unfold doMatrixLoadDone
  try dsimp only
  repeat' first
    | (intro _ _ _; try dsimp only)
    | (intro _; try dsimp only)
    | with_reducible apply Keeps.ite
    | with_reducible assumption
    | with_reducible apply updEngine_keeps
    | with_reducible apply nextMatrix_keeps
    | split
    | (with_reducible refine Keeps.mk' ?_ rfl rfl (fun x => x) (fun x => x)
       first
         | with_reducible assumption
         | with_reducible apply Keeps.ite
         | with_reducible apply updEngine_keeps
         | with_reducible apply nextMatrix_keeps
         | split)

theorem noteOvr_keeps {n : Nat} {s : State} {s0 : State} (hk : Keeps s0 s) :
    Keeps s0 (noteOvr n s) := by
  unfold noteOvr
  try dsimp only
  repeat' first
    | (intro _ _ _; try dsimp only)
    | (intro _; try dsimp only)
    | with_reducible apply Keeps.ite
    | with_reducible assumption
    | with_reducible apply raise_keeps
    | with_reducible apply updEngine_keeps
    | split
    | (with_reducible refine Keeps.mk' ?_ rfl rfl (fun x => x) (fun x => x)
       first
         | with_reducible assumption
         | with_reducible apply Keeps.ite
         | with_reducible apply raise_keeps
         | with_reducible apply updEngine_keeps
         | split)

theorem landCodes_keeps {e : Engine} {m : Matrix} {q : LensReq} {codes : List Int} {s : State} {s0 : State} (hk : Keeps s0 s) :
    Keeps s0 (landCodes e m q codes s) := by
  unfold landCodes
  try dsimp only
  repeat' first
    | (intro _ _ _; try dsimp only)
    | (intro _; try dsimp only)
    | with_reducible assumption
    | with_reducible apply updCmd_keeps
    | with_reducible apply pumpTile_keeps
    | with_reducible apply updTile_keeps
    | (with_reducible refine Keeps.mk' ?_ rfl rfl (fun x => x) (fun x => x)
       first
         | with_reducible assumption
         | with_reducible apply updCmd_keeps
         | with_reducible apply pumpTile_keeps
         | with_reducible apply updTile_keeps)

theorem serveWindow_keeps {n i : Nat} {q : LensReq} {m : Matrix} {s : State} {s0 : State} (hk : Keeps s0 s) :
    Keeps s0 (serveWindow n i q m s) := by
  unfold serveWindow
  try dsimp only
  repeat' first
    | (intro _ _ _; try dsimp only)
    | (intro _; try dsimp only)
    | with_reducible assumption
    | with_reducible apply noteOvr_keeps
    | with_reducible apply updEngine_keeps
    | with_reducible apply nextMatrix_keeps
    | with_reducible apply landCodes_keeps
    | (with_reducible refine Keeps.mk' ?_ rfl rfl (fun x => x) (fun x => x)
       first
         | with_reducible assumption
         | with_reducible apply noteOvr_keeps
         | with_reducible apply updEngine_keeps
         | with_reducible apply nextMatrix_keeps
         | with_reducible apply landCodes_keeps)

theorem doIntegrationWindow_keeps {n : Nat} {s : State} {s0 : State} (hk : Keeps s0 s) :
    Keeps s0 (doIntegrationWindow n s) := by
  unfold doIntegrationWindow
  try dsimp only
  repeat' first
    | (intro _; try dsimp only)
    | with_reducible apply Keeps.ite
    | with_reducible assumption
    | with_reducible apply serveWindow_keeps
    | with_reducible apply nextMatrix_keeps
    | with_reducible apply noteOvr_keeps
    | with_reducible apply updEngine_keeps
    | split
    | (with_reducible refine Keeps.mk' ?_ rfl rfl (fun x => x) (fun x => x)
       first
         | with_reducible assumption
         | with_reducible apply Keeps.ite
         | with_reducible apply serveWindow_keeps
         | with_reducible apply nextMatrix_keeps
         | with_reducible apply noteOvr_keeps
         | with_reducible apply updEngine_keeps
         | split)

theorem doActivityMicrosecond_keeps {n : Nat} {s : State} {s0 : State} (hk : Keeps s0 s) :
    Keeps s0 (doActivityMicrosecond n s) := by
  unfold doActivityMicrosecond
  try dsimp only
  repeat' first
    | (intro _ _ _; try dsimp only)
    | (intro _; try dsimp only)
    | with_reducible apply Keeps.ite
    | with_reducible assumption
    | with_reducible apply updEngine_keeps
    | split
    | (with_reducible refine Keeps.mk' ?_ rfl rfl (fun x => x) (fun x => x)
       first
         | with_reducible assumption
         | with_reducible apply Keeps.ite
         | with_reducible apply updEngine_keeps
         | split)

theorem loseEngine_keeps {tile slot sent : Nat} {c : Cmd} {s : State} {s0 : State} (hk : Keeps s0 s) :
    Keeps s0 (loseEngine tile slot sent c s) := by
  unfold loseEngine
  try dsimp only
  repeat' first
    | (intro _ _ _; try dsimp only)
    | (intro _; try dsimp only)
    | with_reducible apply Keeps.ite
    | with_reducible assumption
    | with_reducible apply updCmd_keeps
    | with_reducible apply refuse_keeps
    | split
    | (with_reducible refine Keeps.mk' ?_ rfl rfl (fun x => x) (fun x => x)
       first
         | with_reducible assumption
         | with_reducible apply Keeps.ite
         | with_reducible apply updCmd_keeps
         | with_reducible apply refuse_keeps
         | split)

theorem degradeEngine_keeps {n cause : Nat} {s : State} {s0 : State} (hk : Keeps s0 s) :
    Keeps s0 (degradeEngine n cause s) := by
  unfold degradeEngine
  try dsimp only
  repeat' first
    | (intro _ _ _; try dsimp only)
    | (intro _; try dsimp only)
    | with_reducible assumption
    | with_reducible apply updEngine_keeps
    | with_reducible apply updTile_keeps
    | with_reducible apply loseEngine_keeps
    | with_reducible apply pumpTiles_keeps
    | with_reducible apply Keeps.foldl
    | with_reducible apply Keeps.foldl2
    | with_reducible apply Keeps.foldl22
    | (with_reducible refine Keeps.mk' ?_ rfl rfl (fun x => x) (fun x => x)
       first
         | with_reducible assumption
         | with_reducible apply updEngine_keeps
         | with_reducible apply updTile_keeps
         | with_reducible apply loseEngine_keeps
         | with_reducible apply pumpTiles_keeps
         | with_reducible apply Keeps.foldl
         | with_reducible apply Keeps.foldl2
         | with_reducible apply Keeps.foldl22)

theorem fireCalibration_keeps {s : State} {s0 : State} (hk : Keeps s0 s) :
    Keeps s0 (fireCalibration s) := by
  unfold fireCalibration
  try dsimp only
  repeat' first
    | (intro _ _ _; try dsimp only)
    | (intro _; try dsimp only)
    | with_reducible apply Keeps.ite
    | with_reducible assumption
    | with_reducible apply updEngine_keeps
    | split
    | (with_reducible refine Keeps.mk' ?_ rfl rfl (fun x => x) (fun x => x)
       first
         | with_reducible assumption
         | with_reducible apply Keeps.ite
         | with_reducible apply updEngine_keeps
         | split)

theorem abortCal_keeps {n : Nat} {s : State} {s0 : State} (hk : Keeps s0 s) :
    Keeps s0 (abortCal n s) := by
  unfold abortCal
  try dsimp only
  repeat' first
    | (intro _ _ _; try dsimp only)
    | (intro _; try dsimp only)
    | with_reducible apply Keeps.ite
    | with_reducible assumption
    | with_reducible apply raise_keeps
    | with_reducible apply updEngine_keeps
    | with_reducible apply degradeEngine_keeps
    | split
    | (with_reducible refine Keeps.mk' ?_ rfl rfl (fun x => x) (fun x => x)
       first
         | with_reducible assumption
         | with_reducible apply Keeps.ite
         | with_reducible apply raise_keeps
         | with_reducible apply updEngine_keeps
         | with_reducible apply degradeEngine_keeps
         | split)

theorem passCal_keeps {n : Nat} {s : State} {s0 : State} (hk : Keeps s0 s) :
    Keeps s0 (passCal n s) := by
  unfold passCal
  try dsimp only
  repeat' first
    | (intro _ _ _; try dsimp only)
    | (intro _; try dsimp only)
    | with_reducible assumption
    | with_reducible apply updEngine_keeps
    | (with_reducible refine Keeps.mk' ?_ rfl rfl (fun x => x) (fun x => x)
       first
         | with_reducible assumption
         | with_reducible apply updEngine_keeps)

theorem calRun_keeps {n dark : Nat} {fitOk : Bool} {s : State} {s0 : State} (hk : Keeps s0 s) :
    Keeps s0 (calRun n dark fitOk s) := by
  unfold calRun
  try dsimp only
  repeat' first
    | (intro _ _ _; try dsimp only)
    | (intro _; try dsimp only)
    | with_reducible apply Keeps.ite
    | with_reducible assumption
    | with_reducible apply updEngine_keeps
    | with_reducible apply abortCal_keeps
    | with_reducible apply passCal_keeps
    | split
    | (with_reducible refine Keeps.mk' ?_ rfl rfl (fun x => x) (fun x => x)
       first
         | with_reducible assumption
         | with_reducible apply Keeps.ite
         | with_reducible apply updEngine_keeps
         | with_reducible apply abortCal_keeps
         | with_reducible apply passCal_keeps
         | split)

theorem doCalibrationDone_keeps {n dark : Nat} {fitOk : Bool} {s : State} {s0 : State} (hk : Keeps s0 s) :
    Keeps s0 (doCalibrationDone n dark fitOk s) := by
  unfold doCalibrationDone
  try dsimp only
  repeat' first
    | (intro _ _ _; try dsimp only)
    | (intro _; try dsimp only)
    | with_reducible apply Keeps.ite
    | with_reducible assumption
    | with_reducible apply calRun_keeps
    | with_reducible apply nextMatrix_keeps
    | with_reducible apply updEngine_keeps
    | split
    | (with_reducible refine Keeps.mk' ?_ rfl rfl (fun x => x) (fun x => x)
       first
         | with_reducible assumption
         | with_reducible apply Keeps.ite
         | with_reducible apply calRun_keeps
         | with_reducible apply nextMatrix_keeps
         | with_reducible apply updEngine_keeps
         | split)

theorem doPilotCorrection_keeps {n drift : Nat} {s : State} {s0 : State} (hk : Keeps s0 s) :
    Keeps s0 (doPilotCorrection n drift s) := by
  unfold doPilotCorrection
  try dsimp only
  repeat' first
    | (intro _ _ _; try dsimp only)
    | (intro _; try dsimp only)
    | with_reducible apply Keeps.ite
    | with_reducible assumption
    | with_reducible apply updEngine_keeps
    | split
    | (with_reducible refine Keeps.mk' ?_ rfl rfl (fun x => x) (fun x => x)
       first
         | with_reducible assumption
         | with_reducible apply Keeps.ite
         | with_reducible apply updEngine_keeps
         | split)

theorem loseSource_keeps {source : Nat} {s : State} {s0 : State} (hk : Keeps s0 s) :
    Keeps s0 (loseSource source s) := by
  unfold loseSource
  try dsimp only
  repeat' first
    | (intro _ _ _; try dsimp only)
    | (intro _; try dsimp only)
    | with_reducible apply Keeps.ite
    | with_reducible assumption
    | with_reducible apply degradeEngine_keeps
    | with_reducible apply raise_keeps
    | with_reducible apply failPort_keeps
    | with_reducible apply Keeps.foldl
    | with_reducible apply Keeps.foldl2
    | with_reducible apply Keeps.foldl22
    | split
    | (with_reducible refine Keeps.mk' ?_ rfl rfl (fun x => x) (fun x => x)
       first
         | with_reducible assumption
         | with_reducible apply Keeps.ite
         | with_reducible apply degradeEngine_keeps
         | with_reducible apply raise_keeps
         | with_reducible apply failPort_keeps
         | with_reducible apply Keeps.foldl
         | with_reducible apply Keeps.foldl2
         | with_reducible apply Keeps.foldl22
         | split)

theorem doLightSourceLost_keeps {source : Nat} {s : State} {s0 : State} (hk : Keeps s0 s) :
    Keeps s0 (doLightSourceLost source s) := by
  unfold doLightSourceLost
  try dsimp only
  repeat' first
    | (intro _; try dsimp only)
    | with_reducible apply Keeps.ite
    | with_reducible assumption
    | with_reducible apply loseSource_keeps
    | split

theorem startRuns_keeps {n : Nat} {runs : List CalRun} {s : State} {s0 : State} (hk : Keeps s0 s) :
    Keeps s0 (startRuns n runs s) := by
  unfold startRuns
  try dsimp only
  repeat' first
    | (intro _ _ _; try dsimp only)
    | (intro _; try dsimp only)
    | with_reducible apply Keeps.ite
    | with_reducible assumption
    | with_reducible apply calRun_keeps
    | with_reducible apply updEngine_keeps
    | with_reducible apply Keeps.foldl
    | with_reducible apply Keeps.foldl2
    | with_reducible apply Keeps.foldl22
    | split
    | (with_reducible refine Keeps.mk' ?_ rfl rfl (fun x => x) (fun x => x)
       first
         | with_reducible assumption
         | with_reducible apply Keeps.ite
         | with_reducible apply calRun_keeps
         | with_reducible apply updEngine_keeps
         | with_reducible apply Keeps.foldl
         | with_reducible apply Keeps.foldl2
         | with_reducible apply Keeps.foldl22
         | split)

theorem lightEngines_keeps {lost : List Nat} {runs : List CalRun} {s : State} {s0 : State} (hk : Keeps s0 s) :
    Keeps s0 (lightEngines lost runs s) := by
  unfold lightEngines
  try dsimp only
  repeat' first
    | (intro _ _ _; try dsimp only)
    | (intro _; try dsimp only)
    | with_reducible apply Keeps.ite
    | with_reducible assumption
    | with_reducible apply updEngine_keeps
    | with_reducible apply loseSource_keeps
    | with_reducible apply startRuns_keeps
    | with_reducible apply Keeps.foldl
    | with_reducible apply Keeps.foldl2
    | with_reducible apply Keeps.foldl22
    | split
    | (with_reducible refine Keeps.mk' ?_ rfl rfl (fun x => x) (fun x => x)
       first
         | with_reducible assumption
         | with_reducible apply Keeps.ite
         | with_reducible apply updEngine_keeps
         | with_reducible apply loseSource_keeps
         | with_reducible apply startRuns_keeps
         | with_reducible apply Keeps.foldl
         | with_reducible apply Keeps.foldl2
         | with_reducible apply Keeps.foldl22
         | split)

theorem darkenLens_keeps {s : State} {s0 : State} (hk : Keeps s0 s) :
    Keeps s0 (darkenLens s) := by
  unfold darkenLens
  try dsimp only
  repeat' first
    | (intro _ _ _; try dsimp only)
    | (intro _; try dsimp only)
    | with_reducible assumption
    | (with_reducible refine Keeps.mk' ?_ rfl rfl (fun x => x) (fun x => x)
       first
         | with_reducible assumption)

theorem lensSample_keeps {i : Nat} {s : State} {s0 : State} (hk : Keeps s0 s) :
    Keeps s0 (lensSample i s) := by
  unfold lensSample
  try dsimp only
  repeat' first
    | (intro _ _ _; try dsimp only)
    | (intro _; try dsimp only)
    | with_reducible assumption
    | with_reducible apply updEngine_keeps
    | with_reducible apply Keeps.foldl
    | with_reducible apply Keeps.foldl2
    | with_reducible apply Keeps.foldl22
    | split
    | (with_reducible refine Keeps.mk' ?_ rfl rfl (fun x => x) (fun x => x)
       first
         | with_reducible assumption
         | with_reducible apply updEngine_keeps
         | with_reducible apply Keeps.foldl
         | with_reducible apply Keeps.foldl2
         | with_reducible apply Keeps.foldl22
         | split)

theorem noteComb_keeps {p : List Int} {s : State} {s0 : State} (hk : Keeps s0 s) :
    Keeps s0 (noteComb p s) := by
  unfold noteComb
  try dsimp only
  repeat' first
    | (intro _ _ _; try dsimp only)
    | (intro _; try dsimp only)
    | with_reducible assumption
    | split
    | (with_reducible refine Keeps.mk' ?_ rfl rfl (fun x => x) (fun x => x)
       first
         | with_reducible assumption
         | split)

theorem receiveRequest_keeps {f : Flit} {hold : Option Nat} {s : State} {s0 : State} (hk : Keeps s0 s) :
    Keeps s0 (receiveRequest f hold s) := by
  unfold receiveRequest
  try dsimp only
  repeat' first
    | (intro _; try dsimp only)
    | with_reducible assumption
    | (with_reducible refine Keeps.mk' ?_ rfl rfl (fun x => x) (fun x => x)
       first
         | with_reducible assumption)

theorem useHold_keeps {f : Flit} {s : State} {s0 : State} (hk : Keeps s0 s) :
    Keeps s0 (useHold f s) := by
  unfold useHold
  try dsimp only
  repeat' first
    | (intro _ _ _; try dsimp only)
    | (intro _; try dsimp only)
    | with_reducible assumption
    | with_reducible apply updPort_keeps
    | split
    | (with_reducible refine Keeps.mk' ?_ rfl rfl (fun x => x) (fun x => x)
       first
         | with_reducible assumption
         | with_reducible apply updPort_keeps
         | split)

theorem sendNew_keeps {n q : Nat} {f : Flit} {s : State} {s0 : State} (hk : Keeps s0 s) :
    Keeps s0 (sendNew n q f s) := by
  unfold sendNew
  try dsimp only
  repeat' first
    | (intro _ _ _; try dsimp only)
    | (intro _; try dsimp only)
    | with_reducible apply Keeps.ite
    | with_reducible assumption
    | with_reducible apply leaveBuffer_keeps
    | with_reducible apply useHold_keeps
    | with_reducible apply updPort_keeps
    | split
    | (with_reducible refine Keeps.mk' ?_ rfl rfl (fun x => x) (fun x => x)
       first
         | with_reducible assumption
         | with_reducible apply Keeps.ite
         | with_reducible apply leaveBuffer_keeps
         | with_reducible apply useHold_keeps
         | with_reducible apply updPort_keeps
         | split)

theorem sendAgain_keeps {n j : Nat} {x : Sent} {s : State} {s0 : State} (hk : Keeps s0 s) :
    Keeps s0 (sendAgain n j x s) := by
  unfold sendAgain
  try dsimp only
  repeat' first
    | (intro _ _ _; try dsimp only)
    | (intro _; try dsimp only)
    | with_reducible apply Keeps.ite
    | with_reducible assumption
    | with_reducible apply updPort_keeps
    | with_reducible apply retrainPort_keeps
    | split
    | (with_reducible refine Keeps.mk' ?_ rfl rfl (fun x => x) (fun x => x)
       first
         | with_reducible assumption
         | with_reducible apply Keeps.ite
         | with_reducible apply updPort_keeps
         | with_reducible apply retrainPort_keeps
         | split)

theorem releaseWithheld_keeps {s : State} {i : Nat} {s0 : State} (hk : Keeps s0 s) :
    Keeps s0 (releaseWithheld s i) := by
  unfold releaseWithheld
  try dsimp only
  repeat' first
    | (intro _; try dsimp only)
    | with_reducible apply Keeps.ite
    | with_reducible assumption
    | with_reducible apply releaseBar_keeps
    | with_reducible apply setBar_keeps
    | with_reducible apply settleBar_keeps
    | split
    | (with_reducible refine Keeps.mk' ?_ rfl rfl (fun x => x) (fun x => x)
       first
         | with_reducible assumption
         | with_reducible apply Keeps.ite
         | with_reducible apply releaseBar_keeps
         | with_reducible apply setBar_keeps
         | with_reducible apply settleBar_keeps
         | split)

theorem endRetrain_keeps {n rx tx : Nat} {s : State} {s0 : State} (hk : Keeps s0 s) :
    Keeps s0 (endRetrain n rx tx s) := by
  unfold endRetrain
  try dsimp only
  repeat' first
    | (intro _ _ _; try dsimp only)
    | (intro _; try dsimp only)
    | with_reducible apply Keeps.ite
    | with_reducible assumption
    | with_reducible apply updPort_keeps
    | with_reducible apply failPort_keeps
    | with_reducible apply replayPort_keeps
    | with_reducible apply noteNarrow_keeps
    | with_reducible apply setPort_keeps
    | split
    | (with_reducible refine Keeps.mk' ?_ rfl rfl (fun x => x) (fun x => x)
       first
         | with_reducible assumption
         | with_reducible apply Keeps.ite
         | with_reducible apply updPort_keeps
         | with_reducible apply failPort_keeps
         | with_reducible apply replayPort_keeps
         | with_reducible apply noteNarrow_keeps
         | with_reducible apply setPort_keeps
         | split)

theorem refuseSend_keeps {d : SendData} {s : State} {s0 : State} (hk : Keeps s0 s) :
    Keeps s0 (refuseSend d s) := by
  unfold refuseSend
  try dsimp only
  repeat' first
    | (intro _; try dsimp only)
    | with_reducible assumption
    | with_reducible apply discardSend_keeps

theorem leaveLanding_keeps {n : Nat} {s : State} {s0 : State} (hk : Keeps s0 s) :
    Keeps s0 (leaveLanding n s) := by
  unfold leaveLanding
  try dsimp only
  repeat' first
    | (intro _ _ _; try dsimp only)
    | (intro _; try dsimp only)
    | with_reducible apply Keeps.ite
    | with_reducible assumption
    | with_reducible apply oweCredits_keeps
    | with_reducible apply updPort_keeps
    | split
    | (with_reducible refine Keeps.mk' ?_ rfl rfl (fun x => x) (fun x => x)
       first
         | with_reducible assumption
         | with_reducible apply Keeps.ite
         | with_reducible apply oweCredits_keeps
         | with_reducible apply updPort_keeps
         | split)

theorem dropQueues_keeps {s : State} {s0 : State} (hk : Keeps s0 s) :
    Keeps s0 (dropQueues s) := by
  unfold dropQueues
  try dsimp only
  repeat' first
    | (intro _ _ _; try dsimp only)
    | (intro _; try dsimp only)
    | with_reducible assumption
    | with_reducible apply leaveBuffer_keeps
    | with_reducible apply Keeps.foldl
    | with_reducible apply Keeps.foldl2
    | with_reducible apply Keeps.foldl22
    | (with_reducible refine Keeps.mk' ?_ rfl rfl (fun x => x) (fun x => x)
       first
         | with_reducible assumption
         | with_reducible apply leaveBuffer_keeps
         | with_reducible apply Keeps.foldl
         | with_reducible apply Keeps.foldl2
         | with_reducible apply Keeps.foldl22)

theorem planZero_keeps {s : State} {s0 : State} (hk : Keeps s0 s) :
    Keeps s0 (planZero s) := by
  unfold planZero
  try dsimp only
  repeat' first
    | (intro _ _ _; try dsimp only)
    | (intro _; try dsimp only)
    | with_reducible apply Keeps.ite
    | with_reducible assumption
    | with_reducible apply setPort_keeps
    | with_reducible apply Keeps.foldl
    | with_reducible apply Keeps.foldl2
    | with_reducible apply Keeps.foldl22
    | split
    | (with_reducible refine Keeps.mk' ?_ rfl rfl (fun x => x) (fun x => x)
       first
         | with_reducible assumption
         | with_reducible apply Keeps.ite
         | with_reducible apply setPort_keeps
         | with_reducible apply Keeps.foldl
         | with_reducible apply Keeps.foldl2
         | with_reducible apply Keeps.foldl22
         | split)

end Sys2Proof.Machine
end

