-- ==== Sys2Proof/Laws/Holds.lean ====
section
/-! SUPPORT. What every operation keeps, the ones of the start and the Round among them: the queue, the constants of the part,
the canonical form of the byte stores; and no fuse setting moves back. -/

set_option linter.unusedTactic false
set_option linter.unreachableTactic false

namespace Sys2Proof.Machine

theorem RecKept.trans {x y z : FuseRec} (h : RecKept x y) (k : RecKept y z) : RecKept x z := by
  rcases h with rfl | rfl <;> rcases k with rfl | rfl <;> simp [RecKept]

theorem fusesGrow_refl (a : Fuses) : FusesGrow a a :=
  ⟨Nat.le_refl _, Nat.le_refl _, fun _ x h => ⟨x, h, .inl rfl⟩, fun _ => ⟨fun h => ⟨h, rfl⟩, id⟩⟩

theorem fusesGrow_trans {a b c : Fuses} (h : FusesGrow a b) (k : FusesGrow b c) : FusesGrow a c := by
  obtain ⟨h1, h2, h3, h4⟩ := h
  obtain ⟨k1, k2, k3, k4⟩ := k
  refine ⟨Nat.le_trans h1 k1, Nat.le_trans h2 k2, fun i x e => ?_, fun n => ⟨fun p => ?_, fun p => (k4 n).2 ((h4 n).2 p)⟩⟩
  · obtain ⟨y, hy, r⟩ := h3 i x e
    obtain ⟨z, hz, r'⟩ := k3 i y hy
    exact ⟨z, hz, RecKept.trans r r'⟩
  · obtain ⟨p1, d1⟩ := (h4 n).1 p
    obtain ⟨p2, d2⟩ := (k4 n).1 p1
    exact ⟨p2, d2.trans d1⟩

/-- What every operation keeps. -/
structure Holds (s u : State) : Prop where
  pending : u.pending = s.pending
  fuses : FusesGrow s.nv.fuses u.nv.fuses
  variantC : u.nv.variantC = s.nv.variantC
  serial : u.nv.serial = s.nv.serial
  supvRelease : u.nv.supvRelease = s.nv.supvRelease
  devKey : u.nv.devKey = s.nv.devKey
  logRoom : u.nv.logRoom = s.nv.logRoom
  cells : cellsWf 0 s.mem.cells = true → cellsWf 0 u.mem.cells = true
  sram : cellsWf 0 s.tiles.sram = true → cellsWf 0 u.tiles.sram = true
  flash : cellsWf 0xFF s.nv.flash = true → cellsWf 0xFF u.nv.flash = true

theorem Holds.refl (s : State) : Holds s s :=
  ⟨rfl, fusesGrow_refl _, rfl, rfl, rfl, rfl, rfl, id, id, id⟩

theorem Holds.trans {a b c : State} (h : Holds a b) (k : Holds b c) : Holds a c :=
  ⟨k.pending.trans h.pending, fusesGrow_trans h.fuses k.fuses, k.variantC.trans h.variantC, k.serial.trans h.serial,
    k.supvRelease.trans h.supvRelease, k.devKey.trans h.devKey, k.logRoom.trans h.logRoom, fun x => k.cells (h.cells x),
    fun x => k.sram (h.sram x), fun x => k.flash (h.flash x)⟩

theorem Keeps.holds {s u : State} (h : Keeps s u) : Holds s u := by
  have := h.nv
  exact ⟨h.pending, this ▸ fusesGrow_refl _, by rw [this], by rw [this], by rw [this], by rw [this], by rw [this], h.cells,
    h.sram, fun x => this ▸ x⟩

theorem Holds.of_keeps {s0 s u : State} (h : Holds s0 s) (k : Keeps s u) : Holds s0 u := h.trans k.holds

theorem Holds.mk' {s0 s : State} {now free : Nat} {answer : List Nat} {pins : Pins} {nv : NonVol} {img : Option Image}
    {start : StartSt} {round : RoundSt} {lehr : LehrSt} {tiles : TilesSt} {sync : SyncSt} {mem : MemSt}
    {fs : FsSt} {lens : LensSt} {fab : FabSt} {part : PartSt} {flt : FltSt} {acc : Tab Acc} {jtag : Jtag} {cycle : CycleStart} (h : Holds s0 s)
    (h0 : nv.fuses = s.nv.fuses) (h1 : nv.variantC = s.nv.variantC) (h2 : nv.serial = s.nv.serial)
    (h3 : nv.supvRelease = s.nv.supvRelease) (h4 : nv.devKey = s.nv.devKey) (h5 : nv.logRoom = s.nv.logRoom)
    (hc : cellsWf 0 s.mem.cells = true → cellsWf 0 mem.cells = true)
    (hs : cellsWf 0 s.tiles.sram = true → cellsWf 0 tiles.sram = true)
    (hf : cellsWf 0xFF s.nv.flash = true → cellsWf 0xFF nv.flash = true) :
    Holds s0 ⟨s.pending, now, free, answer, pins, nv, img, start, round, lehr, tiles, sync, mem, fs, lens, fab, part,
      flt, acc, jtag, cycle⟩ :=
  h.trans ⟨rfl, h0 ▸ fusesGrow_refl _, h1, h2, h3, h4, h5, hc, hs, hf⟩

theorem Holds.ite {s0 a b : State} {c : Prop} [Decidable c] (ha : c → Holds s0 a) (hb : ¬c → Holds s0 b) :
    Holds s0 (if c then a else b) := by
  split
  · exact ha ‹_›
  · exact hb ‹_›

theorem Holds.foldl {α : Type} {s0 s : State} {f : State → α → State} {l : List α}
    (hf : ∀ s x, Holds s0 s → Holds s0 (f s x)) (h : Holds s0 s) : Holds s0 (l.foldl f s) := by
  induction l generalizing s with
  | nil => exact h
  | cons a r ih => exact ih (hf s a h)

theorem Holds.foldl2 {α β : Type} {s0 : State} {x : β × State} {f : β × State → α → β × State} {l : List α}
    (hf : ∀ x a, Holds s0 x.2 → Holds s0 (f x a).2) (h : Holds s0 x.2) : Holds s0 (l.foldl f x).2 := by
  induction l generalizing x with
  | nil => exact h
  | cons a r ih => exact ih (hf x a h)

theorem Holds.foldl22 {α β γ : Type} {s0 : State} {x : β × γ × State} {f : β × γ × State → α → β × γ × State} {l : List α}
    (hf : ∀ x a, Holds s0 x.2.2 → Holds s0 (f x a).2.2) (h : Holds s0 x.2.2) : Holds s0 (l.foldl f x).2.2 := by
  induction l generalizing x with
  | nil => exact h
  | cons a r ih => exact ih (hf x a h)

theorem Holds.of_pair {β : Type} {s0 u : State} {x : β × State} {b : β} (e : x = (b, u)) (h : Holds s0 x.2) : Holds s0 u := by
  subst e; exact h

theorem Holds.of_pair2 {β γ : Type} {s0 u : State} {x : β × γ × State} {b : β} {c : γ} (e : x = (b, c, u)) (h : Holds s0 x.2.2) :
    Holds s0 u := by
  subst e; exact h

/-- What an operation that may not be possible keeps. -/
structure OptHS (s0 : State) (o : Option State) : Prop where
  keep : ∀ x, o = some x → Holds s0 x

theorem OptHS.none {s0 : State} : OptHS s0 none := by
  constructor
  intro x e; cases e

theorem OptHS.some {s0 : State} {x : State} (h : Holds s0 x) : OptHS s0 (some x) := by
  constructor
  intro y e; cases e; exact h

theorem OptHS.map {α : Type} {s0 : State} {o : Option α} {g : α → State} (h : ∀ x, o = Option.some x → Holds s0 (g x)) :
    OptHS s0 (o.map g) := by
  constructor
  intro y e
  cases o with
  | none => cases e
  | some x => cases e; exact h x rfl

theorem OptHS.getD {s0 d : State} {o : Option State} (h : OptHS s0 o) (hd : Holds s0 d) : Holds s0 (o.getD d) := by
  cases o with
  | none => exact hd
  | some x => exact h.keep x rfl

theorem OptHS.ite {s0 : State} {a b : Option State} {c : Prop} [Decidable c] (ha : c → OptHS s0 a)
    (hb : ¬c → OptHS s0 b) : OptHS s0 (if c then a else b) := by
  split
  · exact ha ‹_›
  · exact hb ‹_›


theorem draw_holds {s : State} {s0 : State} (h : Holds s0 s) :
    Holds s0 (State.draw s).2 :=
  h.of_keeps (draw_keeps (Keeps.refl _))

theorem raiseFull_holds {code unit : Nat} {ctx : Option Nat} {detail : Nat} {s : State} {s0 : State} (h : Holds s0 s) :
    Holds s0 (raiseFull code unit ctx detail s) :=
  h.of_keeps (raiseFull_keeps (Keeps.refl _))

theorem raise_holds {code unit : Nat} {s : State} {s0 : State} (h : Holds s0 s) :
    Holds s0 (raise code unit s) :=
  h.of_keeps (raise_keeps (Keeps.refl _))

theorem raise0_holds {code : Nat} {s : State} {s0 : State} (h : Holds s0 s) :
    Holds s0 (raise0 code s) :=
  h.of_keeps (raise0_keeps (Keeps.refl _))

theorem logFuse_holds {index : Nat} {s : State} {s0 : State} (h : Holds s0 s) :
    Holds s0 (logFuse index s) :=
  h.of_keeps (logFuse_keeps (Keeps.refl _))

theorem setAcc_holds {s : State} {r : Nat} {a : Acc} {s0 : State} (hk : Holds s0 s) :
    Holds s0 (State.setAcc s r a) := by
  unfold State.setAcc
  try dsimp only
  repeat' first
    | (intro _; try dsimp only)
    | with_reducible assumption
    | (with_reducible refine Holds.mk' ?_ rfl rfl rfl rfl rfl rfl (fun x => x) (fun x => x) (fun x => x)
       first
         | with_reducible assumption)

theorem markDiscarded_holds {r : Nat} {s : State} {s0 : State} (hk : Holds s0 s) :
    Holds s0 (markDiscarded r s) := by
  unfold markDiscarded
  try dsimp only
  repeat' first
    | (intro _; try dsimp only)
    | with_reducible assumption
    | with_reducible apply setAcc_holds
    | (with_reducible refine Holds.mk' ?_ rfl rfl rfl rfl rfl rfl (fun x => x) (fun x => x) (fun x => x)
       first
         | with_reducible assumption
         | with_reducible apply setAcc_holds)

theorem markBadSize_holds {r : Nat} {s : State} {s0 : State} (hk : Holds s0 s) :
    Holds s0 (markBadSize r s) := by
  unfold markBadSize
  try dsimp only
  repeat' first
    | (intro _; try dsimp only)
    | with_reducible assumption
    | with_reducible apply setAcc_holds
    | (with_reducible refine Holds.mk' ?_ rfl rfl rfl rfl rfl rfl (fun x => x) (fun x => x) (fun x => x)
       first
         | with_reducible assumption
         | with_reducible apply setAcc_holds)

theorem advance_holds {t : Nat} {s : State} {s0 : State} (hk : Holds s0 s) :
    Holds s0 (State.advance t s) := by
  unfold State.advance
  try dsimp only
  repeat' first
    | (intro _ _ _; try dsimp only)
    | (intro _; try dsimp only)
    | with_reducible apply Holds.ite
    | with_reducible assumption
    | split
    | (with_reducible refine Holds.mk' ?_ rfl rfl rfl rfl rfl rfl (fun x => x) (fun x => x) (fun x => x)
       first
         | with_reducible assumption
         | with_reducible apply Holds.ite
         | split)

theorem sysclkEdge_holds {s : State} {s0 : State} (hk : Holds s0 s) :
    Holds s0 (State.sysclkEdge s) := by
  unfold State.sysclkEdge
  try dsimp only
  repeat' first
    | (intro _; try dsimp only)
    | with_reducible apply Holds.ite
    | with_reducible assumption
    | with_reducible apply advance_holds
    | split

theorem flashWrite_holds {a : Nat} {bs : List Byte} {s s0 : State} (h : Holds s0 s) : Holds s0 (State.flashWrite a bs s) :=
  Holds.mk' h rfl rfl rfl rfl rfl rfl (fun x => x) (fun x => x) (cellsWf_writeBytes _ _)

theorem raiseLogFull_holds {s : State} {s0 : State} (hk : Holds s0 s) :
    Holds s0 (raiseLogFull s) := by
  unfold raiseLogFull
  try dsimp only
  repeat' first
    | (intro _; try dsimp only)
    | with_reducible apply Holds.ite
    | with_reducible assumption
    | with_reducible apply raise0_holds
    | split
    | (with_reducible refine Holds.mk' ?_ rfl rfl rfl rfl rfl rfl (fun x => x) (fun x => x) (fun x => x)
       first
         | with_reducible assumption
         | with_reducible apply Holds.ite
         | with_reducible apply raise0_holds
         | split)

theorem appendLog_holds {kind : Nat} {payload : List Byte} {s s0 : State} (h : Holds s0 s) :
    Holds s0 (appendLog kind payload s).2 := by
  unfold appendLog
  split
  · simp only
    exact raiseLogFull_holds h
  · simp only
    exact flashWrite_holds h

theorem updTile_holds {t : Nat} {f : Tile → Tile} {s : State} {s0 : State} (h : Holds s0 s) :
    Holds s0 (State.updTile t f s) :=
  h.of_keeps (updTile_keeps (Keeps.refl _))

theorem updCluster_holds {c : Nat} {f : Cluster → Cluster} {s : State} {s0 : State} (h : Holds s0 s) :
    Holds s0 (State.updCluster c f s) :=
  h.of_keeps (updCluster_keeps (Keeps.refl _))

theorem updChan_holds {c : Nat} {f : Chan → Chan} {s : State} {s0 : State} (h : Holds s0 s) :
    Holds s0 (State.updChan c f s) :=
  h.of_keeps (updChan_keeps (Keeps.refl _))

theorem logRetirement_holds {c spare cause page : Nat} {s s0 : State} (h : Holds s0 s) :
    Holds s0 (logRetirement c spare cause page s) := by
  unfold logRetirement
  simp only
  have k := fun body => appendLog_holds (kind := 1) (payload := body) h
  have k2 : ∀ body, Holds s0 { (appendLog 1 body s).2 with mem := { (appendLog 1 body s).2.mem with stUnlogged := true } } :=
    fun body => Holds.mk' (k body) rfl rfl rfl rfl rfl rfl (fun x => x) (fun x => x) (fun x => x)
  split
  · exact k _
  · refine Holds.ite (fun _ => k2 _) fun _ => raise_holds ?_
    exact Holds.mk' (k _) rfl rfl rfl rfl rfl rfl (fun x => x) (fun x => x) (fun x => x)

theorem copyPage_holds {c page spare : Nat} {s : State} {s0 : State} (h : Holds s0 s) :
    Holds s0 (copyPage c page spare s) :=
  h.of_keeps (copyPage_keeps (Keeps.refl _))

theorem copyFinding_holds {c spare page : Nat} {e : EccAt} {s : State} {s0 : State} (h : Holds s0 s) :
    Holds s0 (copyFinding c spare page e s) :=
  h.of_keeps (copyFinding_keeps (Keeps.refl _))

theorem resumeHeld_holds {c : Nat} {s : State} {s0 : State} (h : Holds s0 s) :
    Holds s0 (resumeHeld c s) :=
  h.of_keeps (resumeHeld_keeps (Keeps.refl _))

theorem evictPage_holds {c code : Nat} {s : State} {s0 : State} (h : Holds s0 s) :
    Holds s0 (evictPage c code s) :=
  h.of_keeps (evictPage_keeps (Keeps.refl _))

theorem doRetirementCopyDone_holds {c : Nat} {ecc : List EccAt} {s : State} {s0 : State} (hk : Holds s0 s) :
    Holds s0 (doRetirementCopyDone c ecc s) := by
  unfold doRetirementCopyDone
  try dsimp only
  repeat' first
    | (intro _ _ _; try dsimp only)
    | (intro _; try dsimp only)
    | with_reducible apply Holds.ite
    | with_reducible assumption
    | with_reducible apply copyPage_holds
    | with_reducible apply copyFinding_holds
    | with_reducible apply updChan_holds
    | with_reducible apply evictPage_holds
    | with_reducible apply resumeHeld_holds
    | with_reducible apply logRetirement_holds
    | with_reducible apply raiseFull_holds
    | with_reducible apply Holds.foldl
    | with_reducible apply Holds.foldl2
    | with_reducible apply Holds.foldl22
    | split
    | (with_reducible refine Holds.mk' ?_ rfl rfl rfl rfl rfl rfl (fun x => x) (fun x => x) (fun x => x)
       first
         | with_reducible assumption
         | with_reducible apply Holds.ite
         | with_reducible apply copyPage_holds
         | with_reducible apply copyFinding_holds
         | with_reducible apply updChan_holds
         | with_reducible apply evictPage_holds
         | with_reducible apply resumeHeld_holds
         | with_reducible apply logRetirement_holds
         | with_reducible apply raiseFull_holds
         | with_reducible apply Holds.foldl
         | with_reducible apply Holds.foldl2
         | with_reducible apply Holds.foldl22
         | split)

theorem tgControl_holds {c w : Nat} {s : State} {s0 : State} (h : Holds s0 s) :
    Holds s0 (tgControl c w s) :=
  h.of_keeps (tgControl_keeps (Keeps.refl _))

theorem doTgStart_holds {r c : Nat} {w : BitVec 32} {s : State} {s0 : State} (hk : Holds s0 s) :
    Holds s0 (doTgStart r c w s) := by
  unfold doTgStart
  try dsimp only
  repeat' first
    | (intro _; try dsimp only)
    | with_reducible apply Holds.ite
    | with_reducible assumption
    | with_reducible apply tgControl_holds
    | with_reducible apply markDiscarded_holds
    | split

theorem doTgStop_holds {r c : Nat} {w : BitVec 32} {s : State} {s0 : State} (hk : Holds s0 s) :
    Holds s0 (doTgStop r c w s) := by
  unfold doTgStop
  try dsimp only
  repeat' first
    | (intro _; try dsimp only)
    | with_reducible apply Holds.ite
    | with_reducible assumption
    | with_reducible apply tgControl_holds
    | with_reducible apply markDiscarded_holds
    | split

theorem updPort_holds {n : Nat} {f : Port → Port} {s : State} {s0 : State} (h : Holds s0 s) :
    Holds s0 (State.updPort n f s) :=
  h.of_keeps (updPort_keeps (Keeps.refl _))

theorem oweCredits_holds {port vc k : Nat} {s : State} {s0 : State} (h : Holds s0 s) :
    Holds s0 (oweCredits port vc k s) :=
  h.of_keeps (oweCredits_keeps (Keeps.refl _))

theorem queueFlit_holds {port : Nat} {f : Flit} {s : State} {s0 : State} (h : Holds s0 s) :
    Holds s0 (queueFlit port f s) :=
  h.of_keeps (queueFlit_keeps (Keeps.refl _))

theorem sendSyncOn_holds {port count : Nat} {payload : List Byte} {s : State} {s0 : State} (h : Holds s0 s) :
    Holds s0 (sendSyncOn port count payload s) :=
  h.of_keeps (sendSyncOn_keeps (Keeps.refl _))

theorem toChildren_holds {count : Nat} {payload : List Byte} {s : State} {s0 : State} (h : Holds s0 s) :
    Holds s0 (toChildren count payload s) :=
  h.of_keeps (toChildren_keeps (Keeps.refl _))

theorem setSlot_holds {n : Nat} {e : EvSlot} {s : State} {s0 : State} (h : Holds s0 s) :
    Holds s0 (State.setSlot n e s) :=
  h.of_keeps (setSlot_keeps (Keeps.refl _))

theorem takeRequest_holds {q : ArmReq} {s : State} {s0 : State} (h : Holds s0 s) :
    Holds s0 (takeRequest q s).2 :=
  h.of_keeps (takeRequest_keeps (Keeps.refl _))

theorem requestSlot_holds {q : ArmReq} {s : State} {s0 : State} (h : Holds s0 s) :
    Holds s0 (requestSlot q s).2 :=
  h.of_keeps (requestSlot_keeps (Keeps.refl _))

theorem releaseSlot_holds {n : Nat} {s : State} {s0 : State} (h : Holds s0 s) :
    Holds s0 (releaseSlot n s) :=
  h.of_keeps (releaseSlot_keeps (Keeps.refl _))

theorem moveDeferred_holds {angle : Nat} {s : State} {s0 : State} (h : Holds s0 s) :
    Holds s0 (moveDeferred angle s) :=
  h.of_keeps (moveDeferred_keeps (Keeps.refl _))

theorem armReconf_holds {plan angle rev : Nat} {s : State} {s0 : State} (h : Holds s0 s) :
    Holds s0 (armReconf plan angle rev s).2 :=
  h.of_keeps (armReconf_keeps (Keeps.refl _))

theorem noteNarrow_holds {n : Nat} {s : State} {s0 : State} (h : Holds s0 s) :
    Holds s0 (noteNarrow n s) :=
  h.of_keeps (noteNarrow_keeps (Keeps.refl _))

theorem setPort_holds {plan : Nat} {s : State} {n : Nat} {s0 : State} (h : Holds s0 s) :
    Holds s0 (setPort plan s n) :=
  h.of_keeps (setPort_keeps (Keeps.refl _))

theorem dueSwitch_holds {s : State} {s0 : State} (h : Holds s0 s) :
    Holds s0 (dueSwitch s) :=
  h.of_keeps (dueSwitch_keeps (Keeps.refl _))

theorem beginSwitch_holds {plan : Nat} {s : State} {s0 : State} (h : Holds s0 s) :
    Holds s0 (beginSwitch plan s) :=
  h.of_keeps (beginSwitch_keeps (Keeps.refl _))

theorem updCsu_holds {c : Nat} {f : Csu → Csu} {s : State} {s0 : State} (h : Holds s0 s) :
    Holds s0 (State.updCsu c f s) :=
  h.of_keeps (updCsu_keeps (Keeps.refl _))

theorem staleDrop_holds {cluster : Nat} {s : State} {s0 : State} (h : Holds s0 s) :
    Holds s0 (staleDrop cluster s) :=
  h.of_keeps (staleDrop_keeps (Keeps.refl _))

theorem landReserved_holds {tile : Nat} {x0 : Nat} {x1 : List (List Byte × Bool)} {s : State} {s0 : State} (h : Holds s0 s) :
    Holds s0 (landReserved tile x0 x1 s) :=
  h.of_keeps (landReserved_keeps (Keeps.refl _))

theorem landMemory_holds {cluster ctx : Nat} {x0 : Nat} {x1 : List (List Byte × Bool)} {s : State} {s0 : State} (h : Holds s0 s) :
    Holds s0 (landMemory cluster ctx x0 x1 s) :=
  h.of_keeps (landMemory_keeps (Keeps.refl _))

theorem syncSample_holds {i : Nat} {s : State} {s0 : State} (h : Holds s0 s) :
    Holds s0 (syncSample i s) :=
  h.of_keeps (syncSample_keeps (Keeps.refl _))

theorem updEngine_holds {e : Nat} {f : Engine → Engine} {s : State} {s0 : State} (h : Holds s0 s) :
    Holds s0 (State.updEngine e f s) :=
  h.of_keeps (updEngine_keeps (Keeps.refl _))

theorem endCore_holds {id outcome fault reason : Nat} {s : State} {s0 : State} (h : Holds s0 s) :
    Holds s0 (endCore id outcome fault reason s) :=
  h.of_keeps (endCore_keeps (Keeps.refl _))

theorem armAll_holds {s : State} {s0 : State} (h : Holds s0 s) :
    Holds s0 (armAll s) :=
  h.of_keeps (armAll_keeps (Keeps.refl _))

theorem missParcel_holds {id : Nat} {s : State} {s0 : State} (h : Holds s0 s) :
    Holds s0 (missParcel id s) :=
  h.of_keeps (missParcel_keeps (Keeps.refl _))

theorem refuseAll_holds {reason : Nat} {s : State} {s0 : State} (h : Holds s0 s) :
    Holds s0 (refuseAll reason s) :=
  h.of_keeps (refuseAll_keeps (Keeps.refl _))

theorem takeDescriptor_holds {f : Nat} {ws : List Nat} {s : State} {s0 : State} (h : Holds s0 s) :
    Holds s0 (takeDescriptor f ws s) :=
  h.of_keeps (takeDescriptor_keeps (Keeps.refl _))

theorem doPartDoorWrite_holds {f : Nat} {w : BitVec 32} {s : State} {s0 : State} (hk : Holds s0 s) :
    Holds s0 (doPartDoorWrite f w s) := by
  unfold doPartDoorWrite
  try dsimp only
  repeat' first
    | (intro _; try dsimp only)
    | with_reducible apply Holds.ite
    | with_reducible assumption
    | with_reducible apply markDiscarded_holds
    | with_reducible apply takeDescriptor_holds
    | split
    | (with_reducible refine Holds.mk' ?_ rfl rfl rfl rfl rfl rfl (fun x => x) (fun x => x) (fun x => x)
       first
         | with_reducible assumption
         | with_reducible apply Holds.ite
         | with_reducible apply markDiscarded_holds
         | with_reducible apply takeDescriptor_holds
         | split)

theorem doFunctionLevelReset_holds {f : Nat} {s : State} {s0 : State} (hk : Holds s0 s) :
    Holds s0 (doFunctionLevelReset f s) := by
  unfold doFunctionLevelReset
  try dsimp only
  repeat' first
    | (intro _; try dsimp only)
    | with_reducible apply Holds.ite
    | with_reducible assumption
    | split
    | (with_reducible refine Holds.mk' ?_ rfl rfl rfl rfl rfl rfl (fun x => x) (fun x => x) (fun x => x)
       first
         | with_reducible assumption
         | with_reducible apply Holds.ite
         | split)

theorem fireRelease_holds {tag : Nat} {s : State} {s0 : State} (h : Holds s0 s) :
    Holds s0 (fireRelease tag s) :=
  h.of_keeps (fireRelease_keeps (Keeps.refl _))

theorem raiseUnresolved_holds {q : RowReq} {s : State} {s0 : State} (h : Holds s0 s) :
    Holds s0 (raiseUnresolved q s) :=
  h.of_keeps (raiseUnresolved_keeps (Keeps.refl _))

theorem noteTorn_holds {q : RowReq} {s : State} {s0 : State} (h : Holds s0 s) :
    Holds s0 (noteTorn q s) :=
  h.of_keeps (noteTorn_keeps (Keeps.refl _))

theorem pushResp_holds {r : RowResp} {s : State} {s0 : State} (h : Holds s0 s) :
    Holds s0 (pushResp r s) :=
  h.of_keeps (pushResp_keeps (Keeps.refl _))

theorem dropForeign_holds {s : State} {s0 : State} (h : Holds s0 s) :
    Holds s0 (dropForeign s) :=
  h.of_keeps (dropForeign_keeps (Keeps.refl _))

theorem dropStrangers_holds {s : State} {s0 : State} (h : Holds s0 s) :
    Holds s0 (dropStrangers s) :=
  h.of_keeps (dropStrangers_keeps (Keeps.refl _))

theorem endEntry_holds {e : Entry} {refused : Bool} {s : State} {s0 : State} (h : Holds s0 s) :
    Holds s0 (endEntry e refused s) :=
  h.of_keeps (endEntry_keeps (Keeps.refl _))

theorem latchShards_holds {s : State} {s0 : State} (h : Holds s0 s) :
    Holds s0 (latchShards s) :=
  h.of_keeps (latchShards_keeps (Keeps.refl _))

theorem fsSample_holds {i : Nat} {s : State} {s0 : State} (h : Holds s0 s) :
    Holds s0 (fsSample i s) :=
  h.of_keeps (fsSample_keeps (Keeps.refl _))

theorem sendJoin_holds {r : JoinReq} {s : State} {s0 : State} (h : Holds s0 s) :
    Holds s0 (sendJoin r s) :=
  h.of_keeps (sendJoin_keeps (Keeps.refl _))

theorem requestJoin_holds {s : State} {s0 : State} (h : Holds s0 s) :
    Holds s0 (requestJoin s) :=
  h.of_keeps (requestJoin_keeps (Keeps.refl _))

theorem tellMember_holds {device change serial : Nat} {s : State} {s0 : State} (h : Holds s0 s) :
    Holds s0 (tellMember device change serial s) :=
  h.of_keeps (tellMember_keeps (Keeps.refl _))

theorem dropMember_holds {d : Nat} {s : State} {s0 : State} (h : Holds s0 s) :
    Holds s0 (dropMember d s) :=
  h.of_keeps (dropMember_keeps (Keeps.refl _))

theorem removeMember_holds {d : Nat} {s : State} {s0 : State} (h : Holds s0 s) :
    Holds s0 (removeMember d s) :=
  h.of_keeps (removeMember_keeps (Keeps.refl _))

theorem tryAlternate_holds {s : State} {s0 : State} (h : Holds s0 s) :
    Holds s0 (tryAlternate s).2 :=
  h.of_keeps (tryAlternate_keeps (Keeps.refl _))

theorem failPort_holds {n cause : Nat} {s : State} {s0 : State} (h : Holds s0 s) :
    Holds s0 (failPort n cause s) :=
  h.of_keeps (failPort_keeps (Keeps.refl _))

theorem retrainPort_holds {n : Nat} {s : State} {s0 : State} (h : Holds s0 s) :
    Holds s0 (retrainPort n s) :=
  h.of_keeps (retrainPort_keeps (Keeps.refl _))

theorem replayPort_holds {n : Nat} {s : State} {s0 : State} (h : Holds s0 s) :
    Holds s0 (replayPort n s) :=
  h.of_keeps (replayPort_keeps (Keeps.refl _))

theorem fireCalibration_holds {s : State} {s0 : State} (h : Holds s0 s) :
    Holds s0 (fireCalibration s) :=
  h.of_keeps (fireCalibration_keeps (Keeps.refl _))

theorem lightEngines_holds {lost : List Nat} {runs : List CalRun} {s : State} {s0 : State} (h : Holds s0 s) :
    Holds s0 (lightEngines lost runs s) :=
  h.of_keeps (lightEngines_keeps (Keeps.refl _))

theorem darkenLens_holds {s : State} {s0 : State} (h : Holds s0 s) :
    Holds s0 (darkenLens s) :=
  h.of_keeps (darkenLens_keeps (Keeps.refl _))

theorem lensSample_holds {i : Nat} {s : State} {s0 : State} (h : Holds s0 s) :
    Holds s0 (lensSample i s) :=
  h.of_keeps (lensSample_keeps (Keeps.refl _))

theorem setEntry_holds {e : ReadyWork} {s : State} {s0 : State} (hk : Holds s0 s) :
    Holds s0 (State.setEntry e s) := by
  unfold State.setEntry
  try dsimp only
  repeat' first
    | (intro _; try dsimp only)
    | with_reducible assumption
    | (with_reducible refine Holds.mk' ?_ rfl rfl rfl rfl rfl rfl (fun x => x) (fun x => x) (fun x => x)
       first
         | with_reducible assumption)

/-- A key slot rewritten so that it stays programmed with its digest, and revoked, moves no key slot back. -/
theorem keys_grow (f : Fuses) (n : Nat) (x : KeySlot)
    (hp : (f.keys.getD n {}).programmed = true → x.programmed = true ∧ x.digest = (f.keys.getD n {}).digest)
    (hr : (f.keys.getD n {}).revoked = true → x.revoked = true) (k : Nat) :
    ((f.keys.getD k {}).programmed = true → ((listSet f.keys n x).getD k {}).programmed = true ∧
        ((listSet f.keys n x).getD k {}).digest = (f.keys.getD k {}).digest) ∧
      ((f.keys.getD k {}).revoked = true → ((listSet f.keys n x).getD k {}).revoked = true) := by
  by_cases hk : n = k
  · subst hk
    by_cases hl : n < f.keys.length
    · simp [listSet, List.getD_eq_getElem?_getD, hl] at hp hr ⊢
      exact ⟨hp, hr⟩
    · simp [listSet, List.getD_eq_getElem?_getD, hl]
  · simp [listSet, List.getD_eq_getElem?_getD, hk]

/-- A change moves no setting back (R359). -/
theorem change_grows (f : Fuses) (r : FuseReq) : FusesGrow f (f.change r) := by
  have base : ∀ k, ((f.keys.getD k {}).programmed = true →
      (f.keys.getD k {}).programmed = true ∧ (f.keys.getD k {}).digest = (f.keys.getD k {}).digest) ∧
      ((f.keys.getD k {}).revoked = true → (f.keys.getD k {}).revoked = true) := fun _ => ⟨fun h => ⟨h, rfl⟩, id⟩
  have log : ∀ (i : Nat) (x : FuseRec), f.log[i]? = some x → ∃ y, f.log[i]? = some y ∧ RecKept x y :=
    fun _ x h => ⟨x, h, .inl rfl⟩
  unfold Fuses.change
  split
  · exact ⟨Nat.le_max_left _ _, Nat.le_refl _, log, base⟩
  · unfold Fuses.apply
    dsimp only
    split
    · exact ⟨Nat.le_refl _, Nat.le_max_left _ _, log, base⟩
    · refine ⟨Nat.le_refl _, Nat.le_refl _, log, keys_grow f r.slot _ ?_ ?_⟩
      · intro h
        rw [if_pos h]
        exact ⟨h, rfl⟩
      · intro h
        split <;> exact h
    · exact ⟨Nat.le_refl _, Nat.le_refl _, log, keys_grow f r.slot _ (fun h => ⟨h, rfl⟩) fun _ => rfl⟩
    · exact ⟨Nat.le_refl _, Nat.le_refl _, log, base⟩

/-- A completion mark changes no record but the last, and of that only the mark. -/
theorem marked_log (f : Fuses) (i : Nat) (x : FuseRec) (h : f.log[i]? = some x) :
    ∃ y, f.marked.log[i]? = some y ∧ RecKept x y := by
  unfold Fuses.marked
  dsimp only
  rcases List.eq_nil_or_concat f.log with e | ⟨l, z, e⟩
  · rw [e] at h; cases h
  · rw [e] at h ⊢
    simp only [List.concat_eq_append, List.dropLast_concat, List.getLast?_append, List.getLast?_singleton, Option.some_or,
      Option.toList_some, List.map_cons, List.map_nil] at h ⊢
    rcases Nat.lt_trichotomy i l.length with hl | hl | hl
    · rw [List.getElem?_append_left hl] at h ⊢
      exact ⟨x, h, .inl rfl⟩
    · subst hl
      simp only [List.getElem?_append_right (Nat.le_refl _), Nat.sub_self, List.getElem?_cons_zero, Option.some.injEq] at h ⊢
      exact ⟨_, rfl, .inr (h ▸ rfl)⟩
    · rw [List.getElem?_eq_none (by simp; omega)] at h
      cases h

theorem fuses_holds {s s0 : State} {f : Fuses} (hf : FusesGrow s.nv.fuses f) (h : Holds s0 s) :
    Holds s0 { s with nv := { s.nv with fuses := f } } :=
  h.trans ⟨rfl, hf, rfl, rfl, rfl, rfl, rfl, id, id, id⟩

theorem beginChange_holds {r : FuseReq} {s s0 : State} (h : Holds s0 s) : Holds s0 (beginChange r s) := by
  unfold beginChange
  refine fuses_holds ⟨Nat.le_refl _, Nat.le_refl _, fun i x e => ⟨x, ?_, .inl rfl⟩, fun _ => ⟨fun p => ⟨p, rfl⟩, id⟩⟩ h
  rw [List.getElem?_append_left (List.getElem?_eq_some_iff.1 e).1]
  exact e

theorem setFuse_holds {r : FuseReq} {s s0 : State} (h : Holds s0 s) : Holds s0 (setFuse r s) :=
  fuses_holds (change_grows _ r) h

theorem endChange_holds {r : FuseReq} {s s0 : State} (h : Holds s0 s) : Holds s0 (endChange r s) := by
  unfold endChange
  dsimp only
  refine appendLog_holds (logFuse_holds (fuses_holds ?_ h))
  exact ⟨Nat.le_refl _, Nat.le_refl _, fun i x e => marked_log _ i x e, fun _ => ⟨fun p => ⟨p, rfl⟩, id⟩⟩

theorem stopEntry_holds {s : State} {s0 : State} (hk : Holds s0 s) :
    Holds s0 (stopEntry s) := by
  unfold stopEntry
  try dsimp only
  repeat' first
    | (intro _; try dsimp only)
    | with_reducible assumption
    | with_reducible apply endChange_holds
    | with_reducible apply setFuse_holds
    | with_reducible apply setEntry_holds
    | split
    | (with_reducible refine Holds.mk' ?_ rfl rfl rfl rfl rfl rfl (fun x => x) (fun x => x) (fun x => x)
       first
         | with_reducible assumption
         | with_reducible apply endChange_holds
         | with_reducible apply setFuse_holds
         | with_reducible apply setEntry_holds
         | split)

theorem setLehr_holds {l : LehrSt} {s : State} {s0 : State} (hk : Holds s0 s) :
    Holds s0 (State.setLehr l s) := by
  unfold State.setLehr
  try dsimp only
  repeat' first
    | (intro _; try dsimp only)
    | with_reducible assumption
    | (with_reducible refine Holds.mk' ?_ rfl rfl rfl rfl rfl rfl (fun x => x) (fun x => x) (fun x => x)
       first
         | with_reducible assumption)

theorem armLehr_holds {s : State} {s0 : State} (hk : Holds s0 s) :
    Holds s0 (armLehr s) := by
  unfold armLehr
  try dsimp only
  repeat' first
    | (intro _; try dsimp only)
    | with_reducible apply Holds.ite
    | with_reducible assumption
    | with_reducible apply requestSlot_holds
    | refine Holds.of_pair (by with_reducible assumption) (requestSlot_holds ?_)
    | split
    | (with_reducible refine Holds.mk' ?_ rfl rfl rfl rfl rfl rfl (fun x => x) (fun x => x) (fun x => x)
       first
         | with_reducible assumption
         | with_reducible apply Holds.ite
         | with_reducible apply requestSlot_holds
         | refine Holds.of_pair (by with_reducible assumption) (requestSlot_holds ?_)
         | split)

theorem roundLost_holds {s : State} {s0 : State} (hk : Holds s0 s) :
    Holds s0 (roundLost s) := by
  unfold roundLost
  try dsimp only
  repeat' first
    | (intro _; try dsimp only)
    | with_reducible assumption
    | with_reducible apply setLehr_holds
    | (with_reducible refine Holds.mk' ?_ rfl rfl rfl rfl rfl rfl (fun x => x) (fun x => x) (fun x => x)
       first
         | with_reducible assumption
         | with_reducible apply setLehr_holds)

theorem masterLost_holds {s : State} {s0 : State} (hk : Holds s0 s) :
    Holds s0 (masterLost s) := by
  unfold masterLost
  try dsimp only
  repeat' first
    | (intro _; try dsimp only)
    | with_reducible assumption
    | with_reducible apply setLehr_holds
    | (with_reducible refine Holds.mk' ?_ rfl rfl rfl rfl rfl rfl (fun x => x) (fun x => x) (fun x => x)
       first
         | with_reducible assumption
         | with_reducible apply setLehr_holds)

theorem lossEnded_holds {s : State} {s0 : State} (hk : Holds s0 s) :
    Holds s0 (lossEnded s) := by
  unfold lossEnded
  try dsimp only
  repeat' first
    | (intro _; try dsimp only)
    | with_reducible apply Holds.ite
    | with_reducible assumption
    | with_reducible apply armLehr_holds
    | with_reducible apply setLehr_holds
    | split
    | (with_reducible refine Holds.mk' ?_ rfl rfl rfl rfl rfl rfl (fun x => x) (fun x => x) (fun x => x)
       first
         | with_reducible assumption
         | with_reducible apply Holds.ite
         | with_reducible apply armLehr_holds
         | with_reducible apply setLehr_holds
         | split)

theorem roundBack_holds {s : State} {s0 : State} (hk : Holds s0 s) :
    Holds s0 (roundBack s) := by
  unfold roundBack
  try dsimp only
  repeat' first
    | (intro _; try dsimp only)
    | with_reducible apply Holds.ite
    | with_reducible assumption
    | with_reducible apply armLehr_holds
    | with_reducible apply lossEnded_holds
    | with_reducible apply setLehr_holds
    | split
    | (with_reducible refine Holds.mk' ?_ rfl rfl rfl rfl rfl rfl (fun x => x) (fun x => x) (fun x => x)
       first
         | with_reducible assumption
         | with_reducible apply Holds.ite
         | with_reducible apply armLehr_holds
         | with_reducible apply lossEnded_holds
         | with_reducible apply setLehr_holds
         | split)

theorem masterBack_holds {s : State} {s0 : State} (hk : Holds s0 s) :
    Holds s0 (masterBack s) := by
  unfold masterBack
  try dsimp only
  repeat' first
    | (intro _; try dsimp only)
    | with_reducible apply Holds.ite
    | with_reducible assumption
    | with_reducible apply lossEnded_holds
    | with_reducible apply setLehr_holds
    | split
    | (with_reducible refine Holds.mk' ?_ rfl rfl rfl rfl rfl rfl (fun x => x) (fun x => x) (fun x => x)
       first
         | with_reducible assumption
         | with_reducible apply Holds.ite
         | with_reducible apply lossEnded_holds
         | with_reducible apply setLehr_holds
         | split)

theorem doPowerHoldExpired_holds {s : State} {s0 : State} (hk : Holds s0 s) :
    Holds s0 (doPowerHoldExpired s) := by
  unfold doPowerHoldExpired
  try dsimp only
  repeat' first
    | (intro _; try dsimp only)
    | with_reducible apply Holds.ite
    | with_reducible assumption
    | with_reducible apply raise0_holds
    | with_reducible apply setLehr_holds
    | split
    | (with_reducible refine Holds.mk' ?_ rfl rfl rfl rfl rfl rfl (fun x => x) (fun x => x) (fun x => x)
       first
         | with_reducible assumption
         | with_reducible apply Holds.ite
         | with_reducible apply raise0_holds
         | with_reducible apply setLehr_holds
         | split)

theorem derate_holds {dmax : Nat} {s : State} {s0 : State} (hk : Holds s0 s) :
    Holds s0 (derate dmax s) := by
  unfold derate
  try dsimp only
  repeat' first
    | (intro _; try dsimp only)
    | with_reducible apply Holds.ite
    | with_reducible assumption
    | with_reducible apply setLehr_holds
    | with_reducible apply raise_holds
    | split
    | (with_reducible refine Holds.mk' ?_ rfl rfl rfl rfl rfl rfl (fun x => x) (fun x => x) (fun x => x)
       first
         | with_reducible assumption
         | with_reducible apply Holds.ite
         | with_reducible apply setLehr_holds
         | with_reducible apply raise_holds
         | split)

theorem lehrStep_holds {s : State} {s0 : State} (hk : Holds s0 s) :
    Holds s0 (lehrStep s) := by
  unfold lehrStep
  try dsimp only
  repeat' first
    | (intro _; try dsimp only)
    | with_reducible assumption
    | with_reducible apply derate_holds
    | with_reducible apply setLehr_holds
    | (with_reducible refine Holds.mk' ?_ rfl rfl rfl rfl rfl rfl (fun x => x) (fun x => x) (fun x => x)
       first
         | with_reducible assumption
         | with_reducible apply derate_holds
         | with_reducible apply setLehr_holds)

theorem fireLehr_holds {s : State} {s0 : State} (hk : Holds s0 s) :
    Holds s0 (fireLehr s) := by
  unfold fireLehr
  try dsimp only
  repeat' first
    | (intro _; try dsimp only)
    | with_reducible apply Holds.ite
    | with_reducible assumption
    | with_reducible apply armLehr_holds
    | with_reducible apply setLehr_holds
    | with_reducible apply lehrStep_holds
    | split
    | (with_reducible refine Holds.mk' ?_ rfl rfl rfl rfl rfl rfl (fun x => x) (fun x => x) (fun x => x)
       first
         | with_reducible assumption
         | with_reducible apply Holds.ite
         | with_reducible apply armLehr_holds
         | with_reducible apply setLehr_holds
         | with_reducible apply lehrStep_holds
         | split)

theorem doSegmentEnd_holds {s : State} {s0 : State} (hk : Holds s0 s) :
    Holds s0 (doSegmentEnd s) := by
  unfold doSegmentEnd
  try dsimp only
  repeat' first
    | (intro _; try dsimp only)
    | with_reducible apply Holds.ite
    | with_reducible assumption
    | with_reducible apply setLehr_holds
    | split
    | (with_reducible refine Holds.mk' ?_ rfl rfl rfl rfl rfl rfl (fun x => x) (fun x => x) (fun x => x)
       first
         | with_reducible assumption
         | with_reducible apply Holds.ite
         | with_reducible apply setLehr_holds
         | split)

theorem setThrottle_holds {n : Nat} {s : State} {s0 : State} (hk : Holds s0 s) :
    Holds s0 (State.setThrottle n s) := by
  unfold State.setThrottle
  try dsimp only
  repeat' first
    | (intro _; try dsimp only)
    | with_reducible assumption
    | with_reducible apply setLehr_holds
    | (with_reducible refine Holds.mk' ?_ rfl rfl rfl rfl rfl rfl (fun x => x) (fun x => x) (fun x => x)
       first
         | with_reducible assumption
         | with_reducible apply setLehr_holds)

theorem controlLaw_holds {measured : Nat} {s : State} {s0 : State} (hk : Holds s0 s) :
    Holds s0 (controlLaw measured s) := by
  unfold controlLaw
  try dsimp only
  repeat' first
    | (intro _; try dsimp only)
    | with_reducible apply Holds.ite
    | with_reducible assumption
    | with_reducible apply setLehr_holds
    | with_reducible apply setThrottle_holds
    | split
    | (with_reducible refine Holds.mk' ?_ rfl rfl rfl rfl rfl rfl (fun x => x) (fun x => x) (fun x => x)
       first
         | with_reducible assumption
         | with_reducible apply Holds.ite
         | with_reducible apply setLehr_holds
         | with_reducible apply setThrottle_holds
         | split)

theorem noteShortfall_holds {applied measured : Nat} {s : State} {s0 : State} (hk : Holds s0 s) :
    Holds s0 (noteShortfall applied measured s) := by
  unfold noteShortfall
  try dsimp only
  repeat' first
    | (intro _; try dsimp only)
    | with_reducible apply Holds.ite
    | with_reducible assumption
    | with_reducible apply setLehr_holds
    | with_reducible apply raise0_holds
    | split
    | (with_reducible refine Holds.mk' ?_ rfl rfl rfl rfl rfl rfl (fun x => x) (fun x => x) (fun x => x)
       first
         | with_reducible assumption
         | with_reducible apply Holds.ite
         | with_reducible apply setLehr_holds
         | with_reducible apply raise0_holds
         | split)

theorem noteWindow_holds {measured : Nat} {clamp : Bool} {s : State} {s0 : State} (hk : Holds s0 s) :
    Holds s0 (noteWindow measured clamp s) := by
  unfold noteWindow
  try dsimp only
  repeat' first
    | (intro _; try dsimp only)
    | with_reducible apply Holds.ite
    | with_reducible assumption
    | with_reducible apply setLehr_holds
    | with_reducible apply raise0_holds
    | split
    | (with_reducible refine Holds.mk' ?_ rfl rfl rfl rfl rfl rfl (fun x => x) (fun x => x) (fun x => x)
       first
         | with_reducible assumption
         | with_reducible apply Holds.ite
         | with_reducible apply setLehr_holds
         | with_reducible apply raise0_holds
         | split)

theorem noteComb_holds {p : List Int} {s : State} {s0 : State} (h : Holds s0 s) :
    Holds s0 (noteComb p s) :=
  h.of_keeps (noteComb_keeps (Keeps.refl _))

theorem doControlTick_holds {r : PowerReading} {s : State} {s0 : State} (hk : Holds s0 s) :
    Holds s0 (doControlTick r s) := by
  unfold doControlTick
  try dsimp only
  repeat' first
    | (intro _; try dsimp only)
    | with_reducible apply Holds.ite
    | with_reducible assumption
    | with_reducible apply noteComb_holds
    | with_reducible apply setLehr_holds
    | with_reducible apply noteWindow_holds
    | with_reducible apply noteShortfall_holds
    | with_reducible apply controlLaw_holds
    | split
    | (with_reducible refine Holds.mk' ?_ rfl rfl rfl rfl rfl rfl (fun x => x) (fun x => x) (fun x => x)
       first
         | with_reducible assumption
         | with_reducible apply Holds.ite
         | with_reducible apply noteComb_holds
         | with_reducible apply setLehr_holds
         | with_reducible apply noteWindow_holds
         | with_reducible apply noteShortfall_holds
         | with_reducible apply controlLaw_holds
         | split)

theorem countIdle_holds {s : State} {s0 : State} (hk : Holds s0 s) :
    Holds s0 (countIdle s) := by
  unfold countIdle
  try dsimp only
  repeat' first
    | (intro _ _ _; try dsimp only)
    | (intro _; try dsimp only)
    | with_reducible apply Holds.ite
    | with_reducible assumption
    | with_reducible apply setLehr_holds
    | with_reducible apply Holds.foldl
    | with_reducible apply Holds.foldl2
    | with_reducible apply Holds.foldl22
    | split
    | (with_reducible refine Holds.mk' ?_ rfl rfl rfl rfl rfl rfl (fun x => x) (fun x => x) (fun x => x)
       first
         | with_reducible assumption
         | with_reducible apply Holds.ite
         | with_reducible apply setLehr_holds
         | with_reducible apply Holds.foldl
         | with_reducible apply Holds.foldl2
         | with_reducible apply Holds.foldl22
         | split)

theorem doClaimIdleRelease_holds {p : Nat} {s : State} {s0 : State} (hk : Holds s0 s) :
    Holds s0 (doClaimIdleRelease p s) := by
  unfold doClaimIdleRelease
  try dsimp only
  repeat' first
    | (intro _; try dsimp only)
    | with_reducible apply Holds.ite
    | with_reducible assumption
    | with_reducible apply setLehr_holds
    | split
    | (with_reducible refine Holds.mk' ?_ rfl rfl rfl rfl rfl rfl (fun x => x) (fun x => x) (fun x => x)
       first
         | with_reducible assumption
         | with_reducible apply Holds.ite
         | with_reducible apply setLehr_holds
         | split)

theorem doPwrAlertNAssert_holds {s : State} {s0 : State} (hk : Holds s0 s) :
    Holds s0 (doPwrAlertNAssert s) := by
  unfold doPwrAlertNAssert
  try dsimp only
  repeat' first
    | (intro _; try dsimp only)
    | with_reducible apply Holds.ite
    | with_reducible assumption
    | with_reducible apply raise0_holds
    | with_reducible apply setLehr_holds
    | split
    | (with_reducible refine Holds.mk' ?_ rfl rfl rfl rfl rfl rfl (fun x => x) (fun x => x) (fun x => x)
       first
         | with_reducible assumption
         | with_reducible apply Holds.ite
         | with_reducible apply raise0_holds
         | with_reducible apply setLehr_holds
         | split)

theorem doPwrAlertNRelease_holds {s : State} {s0 : State} (hk : Holds s0 s) :
    Holds s0 (doPwrAlertNRelease s) := by
  unfold doPwrAlertNRelease
  try dsimp only
  repeat' first
    | (intro _; try dsimp only)
    | with_reducible apply Holds.ite
    | with_reducible assumption
    | with_reducible apply setLehr_holds
    | with_reducible apply armLehr_holds
    | split
    | (with_reducible refine Holds.mk' ?_ rfl rfl rfl rfl rfl rfl (fun x => x) (fun x => x) (fun x => x)
       first
         | with_reducible assumption
         | with_reducible apply Holds.ite
         | with_reducible apply setLehr_holds
         | with_reducible apply armLehr_holds
         | split)

theorem darkenPorts_holds {s : State} {s0 : State} (hk : Holds s0 s) :
    Holds s0 (darkenPorts s) := by
  unfold darkenPorts
  try dsimp only
  repeat' first
    | (intro _ _ _; try dsimp only)
    | (intro _; try dsimp only)
    | with_reducible apply Holds.ite
    | with_reducible assumption
    | split
    | (with_reducible refine Holds.mk' ?_ rfl rfl rfl rfl rfl rfl (fun x => x) (fun x => x) (fun x => x)
       first
         | with_reducible assumption
         | with_reducible apply Holds.ite
         | split)

theorem stopLight_holds {s : State} {s0 : State} (hk : Holds s0 s) :
    Holds s0 (stopLight s) := by
  unfold stopLight
  try dsimp only
  repeat' first
    | (intro _; try dsimp only)
    | with_reducible assumption
    | with_reducible apply darkenPorts_holds
    | (with_reducible refine Holds.mk' ?_ rfl rfl rfl rfl rfl rfl (fun x => x) (fun x => x) (fun x => x)
       first
         | with_reducible assumption
         | with_reducible apply darkenPorts_holds)

theorem doThermalTrip_holds {die : Nat} {s : State} {s0 : State} (hk : Holds s0 s) :
    Holds s0 (doThermalTrip die s) := by
  unfold doThermalTrip
  try dsimp only
  repeat' first
    | (intro _ _ _; try dsimp only)
    | (intro _; try dsimp only)
    | with_reducible apply Holds.ite
    | with_reducible assumption
    | with_reducible apply stopEntry_holds
    | with_reducible apply raise_holds
    | with_reducible apply setLehr_holds
    | with_reducible apply stopLight_holds
    | with_reducible apply endCore_holds
    | with_reducible apply refuseAll_holds
    | with_reducible apply Holds.foldl
    | with_reducible apply Holds.foldl2
    | with_reducible apply Holds.foldl22
    | split
    | (with_reducible refine Holds.mk' ?_ rfl rfl rfl rfl rfl rfl (fun x => x) (fun x => x) (fun x => x)
       first
         | with_reducible assumption
         | with_reducible apply Holds.ite
         | with_reducible apply stopEntry_holds
         | with_reducible apply raise_holds
         | with_reducible apply setLehr_holds
         | with_reducible apply stopLight_holds
         | with_reducible apply endCore_holds
         | with_reducible apply refuseAll_holds
         | with_reducible apply Holds.foldl
         | with_reducible apply Holds.foldl2
         | with_reducible apply Holds.foldl22
         | split)

theorem powerImage_holds {s : State} {s0 : State} (hk : Holds s0 s) :
    Holds s0 (powerImage s) := by
  unfold powerImage
  try dsimp only
  repeat' first
    | (intro _; try dsimp only)
    | with_reducible assumption
    | with_reducible apply setLehr_holds
    | (with_reducible refine Holds.mk' ?_ rfl rfl rfl rfl rfl rfl (fun x => x) (fun x => x) (fun x => x)
       first
         | with_reducible assumption
         | with_reducible apply setLehr_holds)

theorem doPlateauReached_holds {s : State} {s0 : State} (hk : Holds s0 s) :
    Holds s0 (doPlateauReached s) := by
  unfold doPlateauReached
  try dsimp only
  repeat' first
    | (intro _; try dsimp only)
    | with_reducible apply Holds.ite
    | with_reducible assumption
    | with_reducible apply setLehr_holds
    | split
    | (with_reducible refine Holds.mk' ?_ rfl rfl rfl rfl rfl rfl (fun x => x) (fun x => x) (fun x => x)
       first
         | with_reducible assumption
         | with_reducible apply Holds.ite
         | with_reducible apply setLehr_holds
         | split)

theorem beginRamp_holds {s : State} {s0 : State} (hk : Holds s0 s) :
    Holds s0 (beginRamp s) := by
  unfold beginRamp
  try dsimp only
  repeat' first
    | (intro _; try dsimp only)
    | with_reducible apply Holds.ite
    | with_reducible assumption
    | with_reducible apply armLehr_holds
    | with_reducible apply setLehr_holds
    | split
    | (with_reducible refine Holds.mk' ?_ rfl rfl rfl rfl rfl rfl (fun x => x) (fun x => x) (fun x => x)
       first
         | with_reducible assumption
         | with_reducible apply Holds.ite
         | with_reducible apply armLehr_holds
         | with_reducible apply setLehr_holds
         | split)

theorem quarantineLehr_holds {s : State} {s0 : State} (hk : Holds s0 s) :
    Holds s0 (quarantineLehr s) := by
  unfold quarantineLehr
  try dsimp only
  repeat' first
    | (intro _; try dsimp only)
    | with_reducible apply Holds.ite
    | with_reducible assumption
    | with_reducible apply setLehr_holds
    | split
    | (with_reducible refine Holds.mk' ?_ rfl rfl rfl rfl rfl rfl (fun x => x) (fun x => x) (fun x => x)
       first
         | with_reducible assumption
         | with_reducible apply Holds.ite
         | with_reducible apply setLehr_holds
         | split)

theorem powerSample_holds {i mask : Nat} {s : State} {s0 : State} (hk : Holds s0 s) :
    Holds s0 (powerSample i mask s) := by
  unfold powerSample
  try dsimp only
  repeat' first
    | (intro _ _ _; try dsimp only)
    | (intro _; try dsimp only)
    | with_reducible apply Holds.ite
    | with_reducible assumption
    | with_reducible apply setLehr_holds
    | split
    | (with_reducible refine Holds.mk' ?_ rfl rfl rfl rfl rfl rfl (fun x => x) (fun x => x) (fun x => x)
       first
         | with_reducible assumption
         | with_reducible apply Holds.ite
         | with_reducible apply setLehr_holds
         | split)

theorem takeAck_holds {n ack : Nat} {s : State} {s0 : State} (hk : Holds s0 s) :
    Holds s0 (takeAck n ack s) := by
  unfold takeAck
  try dsimp only
  repeat' first
    | (intro _ _ _; try dsimp only)
    | (intro _; try dsimp only)
    | with_reducible apply Holds.ite
    | with_reducible assumption
    | with_reducible apply updPort_holds
    | split
    | (with_reducible refine Holds.mk' ?_ rfl rfl rfl rfl rfl rfl (fun x => x) (fun x => x) (fun x => x)
       first
         | with_reducible assumption
         | with_reducible apply Holds.ite
         | with_reducible apply updPort_holds
         | split)

theorem takeCredits_holds {n vc k : Nat} {s : State} {s0 : State} (hk : Holds s0 s) :
    Holds s0 (takeCredits n vc k s) := by
  unfold takeCredits
  try dsimp only
  repeat' first
    | (intro _ _ _; try dsimp only)
    | (intro _; try dsimp only)
    | with_reducible assumption
    | with_reducible apply updPort_holds
    | (with_reducible refine Holds.mk' ?_ rfl rfl rfl rfl rfl rfl (fun x => x) (fun x => x) (fun x => x)
       first
         | with_reducible assumption
         | with_reducible apply updPort_holds)

theorem rejectFlit_holds {n : Nat} {s : State} {s0 : State} (hk : Holds s0 s) :
    Holds s0 (rejectFlit n s) := by
  unfold rejectFlit
  try dsimp only
  repeat' first
    | (intro _ _ _; try dsimp only)
    | (intro _; try dsimp only)
    | with_reducible assumption
    | with_reducible apply updPort_holds
    | (with_reducible refine Holds.mk' ?_ rfl rfl rfl rfl rfl rfl (fun x => x) (fun x => x) (fun x => x)
       first
         | with_reducible assumption
         | with_reducible apply updPort_holds)

theorem acceptFlit_holds {n : Nat} {h : Header} {s : State} {s0 : State} (hk : Holds s0 s) :
    Holds s0 (acceptFlit n h s) := by
  unfold acceptFlit
  try dsimp only
  repeat' first
    | (intro _ _ _; try dsimp only)
    | (intro _; try dsimp only)
    | with_reducible assumption
    | with_reducible apply updPort_holds
    | (with_reducible refine Holds.mk' ?_ rfl rfl rfl rfl rfl rfl (fun x => x) (fun x => x) (fun x => x)
       first
         | with_reducible assumption
         | with_reducible apply updPort_holds)

theorem forwardFlit_holds {n : Nat} {f : Flit} {s : State} {s0 : State} (hk : Holds s0 s) :
    Holds s0 (forwardFlit n f s) := by
  unfold forwardFlit
  try dsimp only
  repeat' first
    | (intro _; try dsimp only)
    | with_reducible apply Holds.ite
    | with_reducible assumption
    | with_reducible apply oweCredits_holds
    | with_reducible apply queueFlit_holds
    | split
    | (with_reducible refine Holds.mk' ?_ rfl rfl rfl rfl rfl rfl (fun x => x) (fun x => x) (fun x => x)
       first
         | with_reducible assumption
         | with_reducible apply Holds.ite
         | with_reducible apply oweCredits_holds
         | with_reducible apply queueFlit_holds
         | split)

theorem landSync_holds {m : SyncMsg} {s : State} {s0 : State} (hk : Holds s0 s) :
    Holds s0 (landSync m s) := by
  unfold landSync
  try dsimp only
  repeat' first
    | (intro _; try dsimp only)
    | with_reducible apply Holds.ite
    | with_reducible assumption
    | with_reducible apply staleDrop_holds
    | split
    | (with_reducible refine Holds.mk' ?_ rfl rfl rfl rfl rfl rfl (fun x => x) (fun x => x) (fun x => x)
       first
         | with_reducible assumption
         | with_reducible apply Holds.ite
         | with_reducible apply staleDrop_holds
         | split)

theorem receiveSync_holds {n : Nat} {f : Flit} {s : State} {s0 : State} (hk : Holds s0 s) :
    Holds s0 (receiveSync n f s) := by
  unfold receiveSync
  try dsimp only
  repeat' first
    | (intro _ _ _; try dsimp only)
    | (intro _; try dsimp only)
    | with_reducible apply Holds.ite
    | with_reducible assumption
    | with_reducible apply forwardFlit_holds
    | with_reducible apply landSync_holds
    | with_reducible apply oweCredits_holds
    | with_reducible apply Holds.foldl
    | with_reducible apply Holds.foldl2
    | with_reducible apply Holds.foldl22
    | split

theorem gatherPart_holds {src tag kind : Nat} {bs : List (Byte × Bool)} {s : State} {s0 : State} (hk : Holds s0 s) :
    Holds s0 (gatherPart src tag kind bs s).2 := by
  unfold gatherPart
  try dsimp only
  repeat' first
    | (intro _ _ _; try dsimp only)
    | (intro _; try dsimp only)
    | with_reducible assumption
    | split
    | (with_reducible refine Holds.mk' ?_ rfl rfl rfl rfl rfl rfl (fun x => x) (fun x => x) (fun x => x)
       first
         | with_reducible assumption
         | split)

theorem dropPart_holds {x : Partial} {s : State} {s0 : State} (hk : Holds s0 s) :
    Holds s0 (dropPart x s) := by
  unfold dropPart
  try dsimp only
  repeat' first
    | (intro _; try dsimp only)
    | with_reducible assumption
    | (with_reducible refine Holds.mk' ?_ rfl rfl rfl rfl rfl rfl (fun x => x) (fun x => x) (fun x => x)
       first
         | with_reducible assumption)

theorem receiveRow_holds {f : Flit} {s : State} {s0 : State} (hk : Holds s0 s) :
    Holds s0 (receiveRow f s) := by
  unfold receiveRow
  try dsimp only
  repeat' first
    | (intro _ _ _; try dsimp only)
    | (intro _; try dsimp only)
    | with_reducible apply Holds.ite
    | with_reducible assumption
    | with_reducible apply gatherPart_holds
    | refine Holds.of_pair (by with_reducible assumption) (gatherPart_holds ?_)
    | with_reducible apply dropPart_holds
    | with_reducible apply raiseUnresolved_holds
    | with_reducible apply noteTorn_holds
    | with_reducible apply pushResp_holds
    | split
    | (with_reducible refine Holds.mk' ?_ rfl rfl rfl rfl rfl rfl (fun x => x) (fun x => x) (fun x => x)
       first
         | with_reducible assumption
         | with_reducible apply Holds.ite
         | with_reducible apply gatherPart_holds
         | refine Holds.of_pair (by with_reducible assumption) (gatherPart_holds ?_)
         | with_reducible apply dropPart_holds
         | with_reducible apply raiseUnresolved_holds
         | with_reducible apply noteTorn_holds
         | with_reducible apply pushResp_holds
         | split)

theorem receiveEntry_holds {f : Flit} {hold : Option Nat} {s : State} {s0 : State} (hk : Holds s0 s) :
    Holds s0 (receiveEntry f hold s) := by
  unfold receiveEntry
  try dsimp only
  repeat' first
    | (intro _; try dsimp only)
    | with_reducible apply Holds.ite
    | with_reducible assumption
    | with_reducible apply gatherPart_holds
    | refine Holds.of_pair (by with_reducible assumption) (gatherPart_holds ?_)
    | with_reducible apply dropPart_holds
    | split
    | (with_reducible refine Holds.mk' ?_ rfl rfl rfl rfl rfl rfl (fun x => x) (fun x => x) (fun x => x)
       first
         | with_reducible assumption
         | with_reducible apply Holds.ite
         | with_reducible apply gatherPart_holds
         | refine Holds.of_pair (by with_reducible assumption) (gatherPart_holds ?_)
         | with_reducible apply dropPart_holds
         | split)

theorem receiveDone_holds {tag : Nat} {refused : Bool} {s : State} {s0 : State} (hk : Holds s0 s) :
    Holds s0 (receiveDone tag refused s) := by
  unfold receiveDone
  try dsimp only
  repeat' first
    | (intro _ _ _; try dsimp only)
    | (intro _; try dsimp only)
    | with_reducible assumption
    | with_reducible apply endEntry_holds
    | split
    | (with_reducible refine Holds.mk' ?_ rfl rfl rfl rfl rfl rfl (fun x => x) (fun x => x) (fun x => x)
       first
         | with_reducible assumption
         | with_reducible apply endEntry_holds
         | split)

theorem receiveRequest_holds {f : Flit} {hold : Option Nat} {s : State} {s0 : State} (h : Holds s0 s) :
    Holds s0 (receiveRequest f hold s) :=
  h.of_keeps (receiveRequest_keeps (Keeps.refl _))

theorem takeHeld_holds {n : Nat} {x0 : Nat} {s : State} {s0 : State} (hk : Holds s0 s) :
    Holds s0 (takeHeld n x0 s) := by
  induction x0 generalizing n s with
  | zero =>
    simp only [takeHeld]
    try dsimp only
    repeat' first
      | (intro _ _ _; try dsimp only)
      | (intro _; try dsimp only)
      | with_reducible apply Holds.ite
      | with_reducible assumption
      | with_reducible apply oweCredits_holds
      | with_reducible apply updPort_holds
      | with_reducible apply receiveRequest_holds
      | with_reducible apply receiveEntry_holds
      | split
      | (with_reducible refine Holds.mk' ?_ rfl rfl rfl rfl rfl rfl (fun x => x) (fun x => x) (fun x => x)
         first
           | with_reducible assumption
           | with_reducible apply Holds.ite
           | with_reducible apply oweCredits_holds
           | with_reducible apply updPort_holds
           | with_reducible apply receiveRequest_holds
           | with_reducible apply receiveEntry_holds
           | split)
  | succ n ih =>
    simp only [takeHeld]
    try dsimp only
    repeat' first
      | (intro _ _ _; try dsimp only)
      | (intro _; try dsimp only)
      | with_reducible apply Holds.ite
      | with_reducible assumption
      | with_reducible apply ih
      | with_reducible apply oweCredits_holds
      | with_reducible apply updPort_holds
      | with_reducible apply receiveRequest_holds
      | with_reducible apply receiveEntry_holds
      | split
      | (with_reducible refine Holds.mk' ?_ rfl rfl rfl rfl rfl rfl (fun x => x) (fun x => x) (fun x => x)
         first
           | with_reducible assumption
           | with_reducible apply Holds.ite
           | with_reducible apply ih
           | with_reducible apply oweCredits_holds
           | with_reducible apply updPort_holds
           | with_reducible apply receiveRequest_holds
           | with_reducible apply receiveEntry_holds
           | split)

theorem takeAllHeld_holds {s : State} {s0 : State} (hk : Holds s0 s) :
    Holds s0 (takeAllHeld s) := by
  unfold takeAllHeld
  try dsimp only
  repeat' first
    | (intro _ _ _; try dsimp only)
    | (intro _; try dsimp only)
    | with_reducible assumption
    | with_reducible apply takeHeld_holds
    | with_reducible apply Holds.foldl
    | with_reducible apply Holds.foldl2
    | with_reducible apply Holds.foldl22

theorem receiveData_holds {n : Nat} {f : Flit} {s : State} {s0 : State} (hk : Holds s0 s) :
    Holds s0 (receiveData n f s) := by
  unfold receiveData
  try dsimp only
  repeat' first
    | (intro _ _ _; try dsimp only)
    | (intro _; try dsimp only)
    | with_reducible apply Holds.ite
    | with_reducible assumption
    | with_reducible apply updPort_holds
    | with_reducible apply takeHeld_holds
    | with_reducible apply oweCredits_holds
    | with_reducible apply receiveRow_holds
    | with_reducible apply receiveDone_holds
    | split
    | (with_reducible refine Holds.mk' ?_ rfl rfl rfl rfl rfl rfl (fun x => x) (fun x => x) (fun x => x)
       first
         | with_reducible assumption
         | with_reducible apply Holds.ite
         | with_reducible apply updPort_holds
         | with_reducible apply takeHeld_holds
         | with_reducible apply oweCredits_holds
         | with_reducible apply receiveRow_holds
         | with_reducible apply receiveDone_holds
         | split)

theorem deliverFlit_holds {n : Nat} {f : Flit} {s : State} {s0 : State} (hk : Holds s0 s) :
    Holds s0 (deliverFlit n f s) := by
  unfold deliverFlit
  try dsimp only
  repeat' first
    | (intro _ _ _; try dsimp only)
    | (intro _; try dsimp only)
    | with_reducible apply Holds.ite
    | with_reducible assumption
    | with_reducible apply oweCredits_holds
    | with_reducible apply updPort_holds
    | with_reducible apply receiveSync_holds
    | with_reducible apply receiveData_holds
    | with_reducible apply forwardFlit_holds
    | split
    | (with_reducible refine Holds.mk' ?_ rfl rfl rfl rfl rfl rfl (fun x => x) (fun x => x) (fun x => x)
       first
         | with_reducible assumption
         | with_reducible apply Holds.ite
         | with_reducible apply oweCredits_holds
         | with_reducible apply updPort_holds
         | with_reducible apply receiveSync_holds
         | with_reducible apply receiveData_holds
         | with_reducible apply forwardFlit_holds
         | split)

theorem receiveFlit_holds {n : Nat} {bs : List Byte} {s : State} {s0 : State} (hk : Holds s0 s) :
    Holds s0 (receiveFlit n bs s) := by
  unfold receiveFlit
  try dsimp only
  repeat' first
    | (intro _ _ _; try dsimp only)
    | (intro _; try dsimp only)
    | with_reducible apply Holds.ite
    | with_reducible assumption
    | with_reducible apply updPort_holds
    | with_reducible apply takeAllHeld_holds
    | with_reducible apply takeCredits_holds
    | with_reducible apply takeAck_holds
    | with_reducible apply replayPort_holds
    | with_reducible apply rejectFlit_holds
    | with_reducible apply deliverFlit_holds
    | with_reducible apply acceptFlit_holds
    | split
    | (with_reducible refine Holds.mk' ?_ rfl rfl rfl rfl rfl rfl (fun x => x) (fun x => x) (fun x => x)
       first
         | with_reducible assumption
         | with_reducible apply Holds.ite
         | with_reducible apply updPort_holds
         | with_reducible apply takeAllHeld_holds
         | with_reducible apply takeCredits_holds
         | with_reducible apply takeAck_holds
         | with_reducible apply replayPort_holds
         | with_reducible apply rejectFlit_holds
         | with_reducible apply deliverFlit_holds
         | with_reducible apply acceptFlit_holds
         | split)

theorem sendNew_holds {n q : Nat} {f : Flit} {s : State} {s0 : State} (h : Holds s0 s) :
    Holds s0 (sendNew n q f s) :=
  h.of_keeps (sendNew_keeps (Keeps.refl _))

theorem sendAgain_holds {n j : Nat} {x : Sent} {s : State} {s0 : State} (h : Holds s0 s) :
    Holds s0 (sendAgain n j x s) :=
  h.of_keeps (sendAgain_keeps (Keeps.refl _))

theorem doFlitSend_holds {n vc : Nat} {s : State} {s0 : State} (hk : Holds s0 s) :
    Holds s0 (doFlitSend n vc s) := by
  unfold doFlitSend
  try dsimp only
  repeat' first
    | (intro _ _ _; try dsimp only)
    | (intro _; try dsimp only)
    | with_reducible apply Holds.ite
    | with_reducible assumption
    | with_reducible apply updPort_holds
    | with_reducible apply sendAgain_holds
    | with_reducible apply sendNew_holds
    | split
    | (with_reducible refine Holds.mk' ?_ rfl rfl rfl rfl rfl rfl (fun x => x) (fun x => x) (fun x => x)
       first
         | with_reducible assumption
         | with_reducible apply Holds.ite
         | with_reducible apply updPort_holds
         | with_reducible apply sendAgain_holds
         | with_reducible apply sendNew_holds
         | split)

theorem doReplayTimeout_holds {n : Nat} {s : State} {s0 : State} (hk : Holds s0 s) :
    Holds s0 (doReplayTimeout n s) := by
  unfold doReplayTimeout
  try dsimp only
  repeat' first
    | (intro _; try dsimp only)
    | with_reducible apply Holds.ite
    | with_reducible assumption
    | with_reducible apply replayPort_holds
    | split

theorem doAckTimeout_holds {n : Nat} {s : State} {s0 : State} (hk : Holds s0 s) :
    Holds s0 (doAckTimeout n s) := by
  unfold doAckTimeout
  try dsimp only
  repeat' first
    | (intro _; try dsimp only)
    | with_reducible apply Holds.ite
    | with_reducible assumption
    | with_reducible apply retrainPort_holds
    | split

theorem releaseWithheld_holds {s : State} {i : Nat} {s0 : State} (h : Holds s0 s) :
    Holds s0 (releaseWithheld s i) :=
  h.of_keeps (releaseWithheld_keeps (Keeps.refl _))

theorem finishReconf_holds {s : State} {s0 : State} (hk : Holds s0 s) :
    Holds s0 (finishReconf s) := by
  unfold finishReconf
  try dsimp only
  repeat' first
    | (intro _ _ _; try dsimp only)
    | (intro _; try dsimp only)
    | with_reducible apply Holds.ite
    | with_reducible assumption
    | with_reducible apply releaseWithheld_holds
    | with_reducible apply Holds.foldl
    | with_reducible apply Holds.foldl2
    | with_reducible apply Holds.foldl22
    | split
    | (with_reducible refine Holds.mk' ?_ rfl rfl rfl rfl rfl rfl (fun x => x) (fun x => x) (fun x => x)
       first
         | with_reducible assumption
         | with_reducible apply Holds.ite
         | with_reducible apply releaseWithheld_holds
         | with_reducible apply Holds.foldl
         | with_reducible apply Holds.foldl2
         | with_reducible apply Holds.foldl22
         | split)

theorem settleSwitch_holds {s : State} {s0 : State} (hk : Holds s0 s) :
    Holds s0 (settleSwitch s) := by
  unfold settleSwitch
  try dsimp only
  repeat' first
    | (intro _; try dsimp only)
    | with_reducible assumption
    | with_reducible apply finishReconf_holds
    | with_reducible apply dueSwitch_holds

theorem fireReconf_holds {plan : Nat} {s : State} {s0 : State} (hk : Holds s0 s) :
    Holds s0 (fireReconf plan s) := by
  unfold fireReconf
  try dsimp only
  repeat' first
    | (intro _; try dsimp only)
    | with_reducible apply Holds.ite
    | with_reducible assumption
    | with_reducible apply finishReconf_holds
    | with_reducible apply beginSwitch_holds
    | split

theorem doFlitReceive_holds {n : Nat} {bs : List Byte} {s : State} {s0 : State} (hk : Holds s0 s) :
    Holds s0 (doFlitReceive n bs s) := by
  unfold doFlitReceive
  try dsimp only
  repeat' first
    | (intro _; try dsimp only)
    | with_reducible assumption
    | with_reducible apply settleSwitch_holds
    | with_reducible apply receiveFlit_holds

theorem doReconf_holds {n : Nat} {m : ReconfMsg} {s : State} {s0 : State} (hk : Holds s0 s) :
    Holds s0 (doReconf n m s) := by
  unfold doReconf
  try dsimp only
  repeat' first
    | (intro _; try dsimp only)
    | with_reducible apply Holds.ite
    | with_reducible assumption
    | with_reducible apply armReconf_holds
    | refine Holds.of_pair (by with_reducible assumption) (armReconf_holds ?_)
    | with_reducible apply toChildren_holds
    | with_reducible apply beginSwitch_holds
    | split
    | (with_reducible refine Holds.mk' ?_ rfl rfl rfl rfl rfl rfl (fun x => x) (fun x => x) (fun x => x)
       first
         | with_reducible assumption
         | with_reducible apply Holds.ite
         | with_reducible apply armReconf_holds
         | refine Holds.of_pair (by with_reducible assumption) (armReconf_holds ?_)
         | with_reducible apply toChildren_holds
         | with_reducible apply beginSwitch_holds
         | split)

theorem circuitUp_holds {n : Nat} {s : State} {s0 : State} (hk : Holds s0 s) :
    Holds s0 (circuitUp n s) := by
  unfold circuitUp
  try dsimp only
  repeat' first
    | (intro _ _ _; try dsimp only)
    | (intro _; try dsimp only)
    | with_reducible apply Holds.ite
    | with_reducible assumption
    | with_reducible apply finishReconf_holds
    | with_reducible apply updPort_holds
    | split
    | (with_reducible refine Holds.mk' ?_ rfl rfl rfl rfl rfl rfl (fun x => x) (fun x => x) (fun x => x)
       first
         | with_reducible assumption
         | with_reducible apply Holds.ite
         | with_reducible apply finishReconf_holds
         | with_reducible apply updPort_holds
         | split)

theorem doProbeTimeout_holds {n : Nat} {s : State} {s0 : State} (hk : Holds s0 s) :
    Holds s0 (doProbeTimeout n s) := by
  unfold doProbeTimeout
  try dsimp only
  repeat' first
    | (intro _ _ _; try dsimp only)
    | (intro _; try dsimp only)
    | with_reducible apply Holds.ite
    | with_reducible assumption
    | with_reducible apply updPort_holds
    | with_reducible apply finishReconf_holds
    | with_reducible apply raise_holds
    | split
    | (with_reducible refine Holds.mk' ?_ rfl rfl rfl rfl rfl rfl (fun x => x) (fun x => x) (fun x => x)
       first
         | with_reducible assumption
         | with_reducible apply Holds.ite
         | with_reducible apply updPort_holds
         | with_reducible apply finishReconf_holds
         | with_reducible apply raise_holds
         | split)

theorem doProbeRepeat_holds {n : Nat} {s : State} {s0 : State} (hk : Holds s0 s) :
    Holds s0 (doProbeRepeat n s) := by
  unfold doProbeRepeat
  try dsimp only
  repeat' first
    | (intro _; try dsimp only)
    | with_reducible apply Holds.ite
    | with_reducible assumption
    | with_reducible apply queueFlit_holds
    | split

theorem foreignPort_holds {n : Nat} {s : State} {s0 : State} (hk : Holds s0 s) :
    Holds s0 (foreignPort n s) := by
  unfold foreignPort
  try dsimp only
  repeat' first
    | (intro _ _ _; try dsimp only)
    | (intro _; try dsimp only)
    | with_reducible apply Holds.ite
    | with_reducible assumption
    | with_reducible apply raise_holds
    | with_reducible apply updPort_holds
    | split
    | (with_reducible refine Holds.mk' ?_ rfl rfl rfl rfl rfl rfl (fun x => x) (fun x => x) (fun x => x)
       first
         | with_reducible assumption
         | with_reducible apply Holds.ite
         | with_reducible apply raise_holds
         | with_reducible apply updPort_holds
         | split)

theorem trainPort_holds {x : PortTrain} {s : State} {s0 : State} (hk : Holds s0 s) :
    Holds s0 (trainPort x s) := by
  unfold trainPort
  try dsimp only
  repeat' first
    | (intro _ _ _; try dsimp only)
    | (intro _; try dsimp only)
    | with_reducible apply Holds.ite
    | with_reducible assumption
    | with_reducible apply updPort_holds
    | with_reducible apply failPort_holds
    | with_reducible apply noteNarrow_holds
    | with_reducible apply foreignPort_holds
    | split
    | (with_reducible refine Holds.mk' ?_ rfl rfl rfl rfl rfl rfl (fun x => x) (fun x => x) (fun x => x)
       first
         | with_reducible assumption
         | with_reducible apply Holds.ite
         | with_reducible apply updPort_holds
         | with_reducible apply failPort_holds
         | with_reducible apply noteNarrow_holds
         | with_reducible apply foreignPort_holds
         | split)

theorem trainFabric_holds {found : List PortTrain} {s : State} {s0 : State} (hk : Holds s0 s) :
    Holds s0 (trainFabric found s) := by
  unfold trainFabric
  try dsimp only
  repeat' first
    | (intro _ _ _; try dsimp only)
    | (intro _; try dsimp only)
    | with_reducible apply Holds.ite
    | with_reducible assumption
    | with_reducible apply updPort_holds
    | with_reducible apply trainPort_holds
    | with_reducible apply failPort_holds
    | with_reducible apply setPort_holds
    | with_reducible apply Holds.foldl
    | with_reducible apply Holds.foldl2
    | with_reducible apply Holds.foldl22
    | split
    | (with_reducible refine Holds.mk' ?_ rfl rfl rfl rfl rfl rfl (fun x => x) (fun x => x) (fun x => x)
       first
         | with_reducible assumption
         | with_reducible apply Holds.ite
         | with_reducible apply updPort_holds
         | with_reducible apply trainPort_holds
         | with_reducible apply failPort_holds
         | with_reducible apply setPort_holds
         | with_reducible apply Holds.foldl
         | with_reducible apply Holds.foldl2
         | with_reducible apply Holds.foldl22
         | split)

theorem relockPort_holds {n rx tx : Nat} {s : State} {s0 : State} (hk : Holds s0 s) :
    Holds s0 (relockPort n rx tx s) := by
  unfold relockPort
  try dsimp only
  repeat' first
    | (intro _; try dsimp only)
    | with_reducible apply Holds.ite
    | with_reducible assumption
    | with_reducible apply updPort_holds
    | with_reducible apply finishReconf_holds
    | with_reducible apply failPort_holds
    | with_reducible apply noteNarrow_holds
    | split

theorem endRetrain_holds {n rx tx : Nat} {s : State} {s0 : State} (h : Holds s0 s) :
    Holds s0 (endRetrain n rx tx s) :=
  h.of_keeps (endRetrain_keeps (Keeps.refl _))

theorem doPortRetrainDone_holds {n rx tx : Nat} {s : State} {s0 : State} (hk : Holds s0 s) :
    Holds s0 (doPortRetrainDone n rx tx s) := by
  unfold doPortRetrainDone
  try dsimp only
  repeat' first
    | (intro _; try dsimp only)
    | with_reducible apply Holds.ite
    | with_reducible assumption
    | with_reducible apply endRetrain_holds
    | with_reducible apply relockPort_holds
    | split

theorem doControlFlit_holds {n : Nat} {m : CtlMsg} {s : State} {s0 : State} (hk : Holds s0 s) :
    Holds s0 (doControlFlit n m s) := by
  unfold doControlFlit
  try dsimp only
  repeat' first
    | (intro _ _ _; try dsimp only)
    | (intro _; try dsimp only)
    | with_reducible apply Holds.ite
    | with_reducible assumption
    | with_reducible apply updPort_holds
    | with_reducible apply foreignPort_holds
    | with_reducible apply queueFlit_holds
    | with_reducible apply circuitUp_holds
    | split
    | (with_reducible refine Holds.mk' ?_ rfl rfl rfl rfl rfl rfl (fun x => x) (fun x => x) (fun x => x)
       first
         | with_reducible assumption
         | with_reducible apply Holds.ite
         | with_reducible apply updPort_holds
         | with_reducible apply foreignPort_holds
         | with_reducible apply queueFlit_holds
         | with_reducible apply circuitUp_holds
         | split)

theorem refuseSend_holds {d : SendData} {s : State} {s0 : State} (h : Holds s0 s) :
    Holds s0 (refuseSend d s) :=
  h.of_keeps (refuseSend_keeps (Keeps.refl _))

theorem leaveLanding_holds {n : Nat} {s : State} {s0 : State} (h : Holds s0 s) :
    Holds s0 (leaveLanding n s) :=
  h.of_keeps (leaveLanding_keeps (Keeps.refl _))

theorem doSendData_holds {d : SendData} {s : State} {s0 : State} (hk : Holds s0 s) :
    Holds s0 (doSendData d s) := by
  unfold doSendData
  try dsimp only
  repeat' first
    | (intro _; try dsimp only)
    | with_reducible apply Holds.ite
    | with_reducible assumption
    | with_reducible apply leaveLanding_holds
    | with_reducible apply refuseSend_holds
    | with_reducible apply landReserved_holds
    | with_reducible apply landMemory_holds
    | split
    | (with_reducible refine Holds.mk' ?_ rfl rfl rfl rfl rfl rfl (fun x => x) (fun x => x) (fun x => x)
       first
         | with_reducible assumption
         | with_reducible apply Holds.ite
         | with_reducible apply leaveLanding_holds
         | with_reducible apply refuseSend_holds
         | with_reducible apply landReserved_holds
         | with_reducible apply landMemory_holds
         | split)

theorem fabricSample_holds {s : State} {s0 : State} (hk : Holds s0 s) :
    Holds s0 (fabricSample s) := by
  unfold fabricSample
  try dsimp only
  repeat' first
    | (intro _ _ _; try dsimp only)
    | (intro _; try dsimp only)
    | with_reducible assumption
    | with_reducible apply updPort_holds
    | with_reducible apply Holds.foldl
    | with_reducible apply Holds.foldl2
    | with_reducible apply Holds.foldl22
    | (with_reducible refine Holds.mk' ?_ rfl rfl rfl rfl rfl rfl (fun x => x) (fun x => x) (fun x => x)
       first
         | with_reducible assumption
         | with_reducible apply updPort_holds
         | with_reducible apply Holds.foldl
         | with_reducible apply Holds.foldl2
         | with_reducible apply Holds.foldl22)

theorem fabricTime_holds {s : State} {t : Nat} {s0 : State} (hk : Holds s0 s) :
    Holds s0 (State.fabricTime s t) := by
  unfold State.fabricTime
  try dsimp only
  repeat' first
    | (intro _; try dsimp only)
    | with_reducible assumption
    | with_reducible apply settleSwitch_holds
    | with_reducible apply advance_holds

theorem setStage_holds {n : Nat} {s : State} {s0 : State} (hk : Holds s0 s) :
    Holds s0 (setStage n s) := by
  unfold setStage
  try dsimp only
  repeat' first
    | (intro _; try dsimp only)
    | with_reducible assumption
    | (with_reducible refine Holds.mk' ?_ rfl rfl rfl rfl rfl rfl (fun x => x) (fun x => x) (fun x => x)
       first
         | with_reducible assumption)

theorem dropQueues_holds {s : State} {s0 : State} (h : Holds s0 s) :
    Holds s0 (dropQueues s) :=
  h.of_keeps (dropQueues_keeps (Keeps.refl _))

theorem planZero_holds {s : State} {s0 : State} (h : Holds s0 s) :
    Holds s0 (planZero s) :=
  h.of_keeps (planZero_keeps (Keeps.refl _))

theorem quarantine_holds {cause code : Nat} {s : State} {s0 : State} (hk : Holds s0 s) :
    Holds s0 (quarantine cause code s) := by
  unfold quarantine
  try dsimp only
  repeat' first
    | (intro _; try dsimp only)
    | with_reducible assumption
    | with_reducible apply raise0_holds
    | with_reducible apply planZero_holds
    | with_reducible apply dropQueues_holds
    | with_reducible apply darkenLens_holds
    | with_reducible apply quarantineLehr_holds
    | with_reducible apply setStage_holds
    | (with_reducible refine Holds.mk' ?_ rfl rfl rfl rfl rfl rfl (fun x => x) (fun x => x) (fun x => x)
       first
         | with_reducible assumption
         | with_reducible apply raise0_holds
         | with_reducible apply planZero_holds
         | with_reducible apply dropQueues_holds
         | with_reducible apply darkenLens_holds
         | with_reducible apply quarantineLehr_holds
         | with_reducible apply setStage_holds)

theorem doJoinRequestTimer_holds {s : State} {s0 : State} (hk : Holds s0 s) :
    Holds s0 (doJoinRequestTimer s) := by
  unfold doJoinRequestTimer
  try dsimp only
  repeat' first
    | (intro _; try dsimp only)
    | with_reducible apply Holds.ite
    | with_reducible assumption
    | with_reducible apply requestJoin_holds
    | split

theorem sendAnswer_holds {device tag code : Nat} {s : State} {s0 : State} (hk : Holds s0 s) :
    Holds s0 (sendAnswer device tag code s) := by
  unfold sendAnswer
  try dsimp only
  repeat' first
    | (intro _ _ _; try dsimp only)
    | (intro _; try dsimp only)
    | with_reducible assumption
    | with_reducible apply queueFlit_holds
    | split
    | (with_reducible refine Holds.mk' ?_ rfl rfl rfl rfl rfl rfl (fun x => x) (fun x => x) (fun x => x)
       first
         | with_reducible assumption
         | with_reducible apply queueFlit_holds
         | split)

theorem admitMember_holds {m : JoinReq} {s : State} {s0 : State} (hk : Holds s0 s) :
    Holds s0 (admitMember m s) := by
  unfold admitMember
  try dsimp only
  repeat' first
    | (intro _ _ _; try dsimp only)
    | (intro _; try dsimp only)
    | with_reducible assumption
    | with_reducible apply tellMember_holds
    | split
    | (with_reducible refine Holds.mk' ?_ rfl rfl rfl rfl rfl rfl (fun x => x) (fun x => x) (fun x => x)
       first
         | with_reducible assumption
         | with_reducible apply tellMember_holds
         | split)

theorem noteRequest_holds {n : Nat} {m : JoinReq} {s : State} {s0 : State} (hk : Holds s0 s) :
    Holds s0 (noteRequest n m s) := by
  unfold noteRequest
  try dsimp only
  repeat' first
    | (intro _ _ _; try dsimp only)
    | (intro _; try dsimp only)
    | with_reducible assumption
    | with_reducible apply updPort_holds
    | split
    | (with_reducible refine Holds.mk' ?_ rfl rfl rfl rfl rfl rfl (fun x => x) (fun x => x) (fun x => x)
       first
         | with_reducible assumption
         | with_reducible apply updPort_holds
         | split)

theorem doJoinRequest_holds {n : Nat} {m : JoinReq} {s : State} {s0 : State} (hk : Holds s0 s) :
    Holds s0 (doJoinRequest n m s) := by
  unfold doJoinRequest
  try dsimp only
  repeat' first
    | (intro _; try dsimp only)
    | with_reducible apply Holds.ite
    | with_reducible assumption
    | with_reducible apply noteRequest_holds
    | with_reducible apply sendAnswer_holds
    | with_reducible apply admitMember_holds
    | with_reducible apply sendJoin_holds
    | split
    | (with_reducible refine Holds.mk' ?_ rfl rfl rfl rfl rfl rfl (fun x => x) (fun x => x) (fun x => x)
       first
         | with_reducible assumption
         | with_reducible apply Holds.ite
         | with_reducible apply noteRequest_holds
         | with_reducible apply sendAnswer_holds
         | with_reducible apply admitMember_holds
         | with_reducible apply sendJoin_holds
         | split)

theorem doJoinAnswer_holds {m : JoinAns} {s : State} {s0 : State} (hk : Holds s0 s) :
    Holds s0 (doJoinAnswer m s) := by
  unfold doJoinAnswer
  try dsimp only
  repeat' first
    | (intro _; try dsimp only)
    | with_reducible apply Holds.ite
    | with_reducible assumption
    | with_reducible apply dropStrangers_holds
    | with_reducible apply quarantine_holds
    | split
    | (with_reducible refine Holds.mk' ?_ rfl rfl rfl rfl rfl rfl (fun x => x) (fun x => x) (fun x => x)
       first
         | with_reducible assumption
         | with_reducible apply Holds.ite
         | with_reducible apply dropStrangers_holds
         | with_reducible apply quarantine_holds
         | split)

theorem endLoss_holds {s : State} {s0 : State} (hk : Holds s0 s) :
    Holds s0 (endLoss s) := by
  unfold endLoss
  try dsimp only
  repeat' first
    | (intro _; try dsimp only)
    | with_reducible assumption
    | with_reducible apply armAll_holds
    | with_reducible apply masterBack_holds
    | (with_reducible refine Holds.mk' ?_ rfl rfl rfl rfl rfl rfl (fun x => x) (fun x => x) (fun x => x)
       first
         | with_reducible assumption
         | with_reducible apply armAll_holds
         | with_reducible apply masterBack_holds)

theorem joinAdopted_holds {s : State} {s0 : State} (hk : Holds s0 s) :
    Holds s0 (joinAdopted s) := by
  unfold joinAdopted
  try dsimp only
  repeat' first
    | (intro _; try dsimp only)
    | with_reducible apply Holds.ite
    | with_reducible assumption
    | with_reducible apply endLoss_holds
    | split
    | (with_reducible refine Holds.mk' ?_ rfl rfl rfl rfl rfl rfl (fun x => x) (fun x => x) (fun x => x)
       first
         | with_reducible assumption
         | with_reducible apply Holds.ite
         | with_reducible apply endLoss_holds
         | split)

theorem doBeaconTimer_holds {s : State} {s0 : State} (hk : Holds s0 s) :
    Holds s0 (doBeaconTimer s) := by
  unfold doBeaconTimer
  try dsimp only
  repeat' first
    | (intro _ _ _; try dsimp only)
    | (intro _; try dsimp only)
    | with_reducible apply Holds.ite
    | with_reducible assumption
    | with_reducible apply sendSyncOn_holds
    | with_reducible apply Holds.foldl
    | with_reducible apply Holds.foldl2
    | with_reducible apply Holds.foldl22
    | split
    | (with_reducible refine Holds.mk' ?_ rfl rfl rfl rfl rfl rfl (fun x => x) (fun x => x) (fun x => x)
       first
         | with_reducible assumption
         | with_reducible apply Holds.ite
         | with_reducible apply sendSyncOn_holds
         | with_reducible apply Holds.foldl
         | with_reducible apply Holds.foldl2
         | with_reducible apply Holds.foldl22
         | split)

theorem changeEpoch_holds {s : State} {s0 : State} (hk : Holds s0 s) :
    Holds s0 (changeEpoch s) := by
  unfold changeEpoch
  try dsimp only
  repeat' first
    | (intro _ _ _; try dsimp only)
    | (intro _; try dsimp only)
    | with_reducible assumption
    | with_reducible apply raise0_holds
    | with_reducible apply endCore_holds
    | with_reducible apply refuseAll_holds
    | with_reducible apply requestJoin_holds
    | with_reducible apply dropForeign_holds
    | with_reducible apply Holds.foldl
    | with_reducible apply Holds.foldl2
    | with_reducible apply Holds.foldl22
    | (with_reducible refine Holds.mk' ?_ rfl rfl rfl rfl rfl rfl (fun x => x) (fun x => x) (fun x => x)
       first
         | with_reducible assumption
         | with_reducible apply raise0_holds
         | with_reducible apply endCore_holds
         | with_reducible apply refuseAll_holds
         | with_reducible apply requestJoin_holds
         | with_reducible apply dropForeign_holds
         | with_reducible apply Holds.foldl
         | with_reducible apply Holds.foldl2
         | with_reducible apply Holds.foldl22)

theorem noteGen_holds {gen : Nat} {s : State} {s0 : State} (hk : Holds s0 s) :
    Holds s0 (noteGen gen s) := by
  unfold noteGen
  try dsimp only
  repeat' first
    | (intro _; try dsimp only)
    | with_reducible apply Holds.ite
    | with_reducible assumption
    | with_reducible apply requestJoin_holds
    | split
    | (with_reducible refine Holds.mk' ?_ rfl rfl rfl rfl rfl rfl (fun x => x) (fun x => x) (fun x => x)
       first
         | with_reducible assumption
         | with_reducible apply Holds.ite
         | with_reducible apply requestJoin_holds
         | split)

theorem takeBeacon_holds {m : BeaconMsg} {s : State} {s0 : State} (hk : Holds s0 s) :
    Holds s0 (takeBeacon m s) := by
  unfold takeBeacon
  try dsimp only
  repeat' first
    | (intro _; try dsimp only)
    | with_reducible apply Holds.ite
    | with_reducible assumption
    | with_reducible apply changeEpoch_holds
    | with_reducible apply endLoss_holds
    | with_reducible apply noteGen_holds
    | split
    | (with_reducible refine Holds.mk' ?_ rfl rfl rfl rfl rfl rfl (fun x => x) (fun x => x) (fun x => x)
       first
         | with_reducible assumption
         | with_reducible apply Holds.ite
         | with_reducible apply changeEpoch_holds
         | with_reducible apply endLoss_holds
         | with_reducible apply noteGen_holds
         | split)

theorem doBeacon_holds {n : Nat} {m : BeaconMsg} {s : State} {s0 : State} (hk : Holds s0 s) :
    Holds s0 (doBeacon n m s) := by
  unfold doBeacon
  try dsimp only
  repeat' first
    | (intro _; try dsimp only)
    | with_reducible apply Holds.ite
    | with_reducible assumption
    | with_reducible apply quarantine_holds
    | with_reducible apply takeBeacon_holds
    | with_reducible apply toChildren_holds
    | split

theorem doMember_holds {n : Nat} {m : MemberMsg} {s : State} {s0 : State} (hk : Holds s0 s) :
    Holds s0 (doMember n m s) := by
  unfold doMember
  try dsimp only
  repeat' first
    | (intro _; try dsimp only)
    | with_reducible apply Holds.ite
    | with_reducible assumption
    | with_reducible apply removeMember_holds
    | with_reducible apply sendSyncOn_holds
    | with_reducible apply toChildren_holds
    | with_reducible apply dropMember_holds
    | split
    | (with_reducible refine Holds.mk' ?_ rfl rfl rfl rfl rfl rfl (fun x => x) (fun x => x) (fun x => x)
       first
         | with_reducible assumption
         | with_reducible apply Holds.ite
         | with_reducible apply removeMember_holds
         | with_reducible apply sendSyncOn_holds
         | with_reducible apply toChildren_holds
         | with_reducible apply dropMember_holds
         | split)

theorem loseMaster_holds {s : State} {s0 : State} (hk : Holds s0 s) :
    Holds s0 (loseMaster s) := by
  unfold loseMaster
  try dsimp only
  repeat' first
    | (intro _; try dsimp only)
    | with_reducible assumption
    | with_reducible apply raise0_holds
    | with_reducible apply masterLost_holds
    | with_reducible apply dropForeign_holds
    | (with_reducible refine Holds.mk' ?_ rfl rfl rfl rfl rfl rfl (fun x => x) (fun x => x) (fun x => x)
       first
         | with_reducible assumption
         | with_reducible apply raise0_holds
         | with_reducible apply masterLost_holds
         | with_reducible apply dropForeign_holds)

theorem doMasterTimeout_holds {s : State} {s0 : State} (hk : Holds s0 s) :
    Holds s0 (doMasterTimeout s) := by
  unfold doMasterTimeout
  try dsimp only
  repeat' first
    | (intro _; try dsimp only)
    | with_reducible apply Holds.ite
    | with_reducible assumption
    | with_reducible apply tryAlternate_holds
    | refine Holds.of_pair (by with_reducible assumption) (tryAlternate_holds ?_)
    | with_reducible apply loseMaster_holds
    | split
    | (with_reducible refine Holds.mk' ?_ rfl rfl rfl rfl rfl rfl (fun x => x) (fun x => x) (fun x => x)
       first
         | with_reducible assumption
         | with_reducible apply Holds.ite
         | with_reducible apply tryAlternate_holds
         | refine Holds.of_pair (by with_reducible assumption) (tryAlternate_holds ?_)
         | with_reducible apply loseMaster_holds
         | split)

theorem setRound_holds {r : RoundSt} {s : State} {s0 : State} (hk : Holds s0 s) :
    Holds s0 (State.setRound r s) := by
  unfold State.setRound
  try dsimp only
  repeat' first
    | (intro _; try dsimp only)
    | with_reducible assumption
    | (with_reducible refine Holds.mk' ?_ rfl rfl rfl rfl rfl rfl (fun x => x) (fun x => x) (fun x => x)
       first
         | with_reducible assumption)

theorem memSample_holds {s : State} {s0 : State} (hk : Holds s0 s) :
    Holds s0 (memSample s) := by
  unfold memSample
  try dsimp only
  repeat' first
    | (intro _ _ _; try dsimp only)
    | (intro _; try dsimp only)
    | with_reducible assumption
    | with_reducible apply updChan_holds
    | with_reducible apply Holds.foldl
    | with_reducible apply Holds.foldl2
    | with_reducible apply Holds.foldl22
    | (with_reducible refine Holds.mk' ?_ rfl rfl rfl rfl rfl rfl (fun x => x) (fun x => x) (fun x => x)
       first
         | with_reducible assumption
         | with_reducible apply updChan_holds
         | with_reducible apply Holds.foldl
         | with_reducible apply Holds.foldl2
         | with_reducible apply Holds.foldl22)

theorem regSample_holds {s : State} {s0 : State} (hk : Holds s0 s) :
    Holds s0 (regSample s) := by
  unfold regSample
  try dsimp only
  repeat' first
    | (intro _ _ _; try dsimp only)
    | (intro _; try dsimp only)
    | with_reducible assumption
    | with_reducible apply Holds.foldl
    | with_reducible apply Holds.foldl2
    | with_reducible apply Holds.foldl22
    | (with_reducible refine Holds.mk' ?_ rfl rfl rfl rfl rfl rfl (fun x => x) (fun x => x) (fun x => x)
       first
         | with_reducible assumption
         | with_reducible apply Holds.foldl
         | with_reducible apply Holds.foldl2
         | with_reducible apply Holds.foldl22)

theorem captureSample_holds {i mask : Nat} {s : State} {s0 : State} (hk : Holds s0 s) :
    Holds s0 (captureSample i mask s) := by
  unfold captureSample
  try dsimp only
  repeat' first
    | (intro _; try dsimp only)
    | with_reducible apply Holds.ite
    | with_reducible assumption
    | with_reducible apply powerSample_holds
    | with_reducible apply fsSample_holds
    | with_reducible apply memSample_holds
    | with_reducible apply regSample_holds
    | with_reducible apply lensSample_holds
    | with_reducible apply fabricSample_holds
    | with_reducible apply syncSample_holds
    | with_reducible apply setRound_holds
    | split
    | (with_reducible refine Holds.mk' ?_ rfl rfl rfl rfl rfl rfl (fun x => x) (fun x => x) (fun x => x)
       first
         | with_reducible assumption
         | with_reducible apply Holds.ite
         | with_reducible apply powerSample_holds
         | with_reducible apply fsSample_holds
         | with_reducible apply memSample_holds
         | with_reducible apply regSample_holds
         | with_reducible apply lensSample_holds
         | with_reducible apply fabricSample_holds
         | with_reducible apply syncSample_holds
         | with_reducible apply setRound_holds
         | split)

theorem skipSample_holds {i mask : Nat} {s : State} {s0 : State} (hk : Holds s0 s) :
    Holds s0 (skipSample i mask s) := by
  unfold skipSample
  try dsimp only
  repeat' first
    | (intro _ _ _; try dsimp only)
    | (intro _; try dsimp only)
    | with_reducible apply Holds.ite
    | with_reducible assumption
    | with_reducible apply setLehr_holds
    | with_reducible apply updEngine_holds
    | with_reducible apply Holds.foldl
    | with_reducible apply Holds.foldl2
    | with_reducible apply Holds.foldl22
    | split
    | (with_reducible refine Holds.mk' ?_ rfl rfl rfl rfl rfl rfl (fun x => x) (fun x => x) (fun x => x)
       first
         | with_reducible assumption
         | with_reducible apply Holds.ite
         | with_reducible apply setLehr_holds
         | with_reducible apply updEngine_holds
         | with_reducible apply Holds.foldl
         | with_reducible apply Holds.foldl2
         | with_reducible apply Holds.foldl22
         | split
         | dsimp only)
    | dsimp only

theorem atSamples_holds {f : Nat → Nat → State → State} {a : Nat} {s s0 : State}
    (hf : ∀ i m x, Holds s0 x → Holds s0 (f i m x)) (h : Holds s0 s) : Holds s0 (atSamples f a s) := by
  unfold atSamples
  refine Holds.foldl (fun x i k => ?_) h
  dsimp only
  split
  · exact hf _ _ _ k
  · exact k

theorem endRevolution_holds {s : State} {s0 : State} (hk : Holds s0 s) :
    Holds s0 (endRevolution s) := by
  unfold endRevolution
  try dsimp only
  repeat' first
    | (intro _ _ _; try dsimp only)
    | (intro _; try dsimp only)
    | with_reducible apply Holds.ite
    | with_reducible assumption
    | with_reducible apply countIdle_holds
    | with_reducible apply latchShards_holds
    | split
    | (with_reducible refine Holds.mk' ?_ rfl rfl rfl rfl rfl rfl (fun x => x) (fun x => x) (fun x => x)
       first
         | with_reducible assumption
         | with_reducible apply Holds.ite
         | with_reducible apply countIdle_holds
         | with_reducible apply latchShards_holds
         | split)

theorem armCalibration_holds {s : State} {s0 : State} (hk : Holds s0 s) :
    Holds s0 (armCalibration s) := by
  unfold armCalibration
  try dsimp only
  repeat' first
    | (intro _; try dsimp only)
    | with_reducible apply Holds.ite
    | with_reducible assumption
    | with_reducible apply requestSlot_holds
    | refine Holds.of_pair (by with_reducible assumption) (requestSlot_holds ?_)
    | split
    | (with_reducible refine Holds.mk' ?_ rfl rfl rfl rfl rfl rfl (fun x => x) (fun x => x) (fun x => x)
       first
         | with_reducible assumption
         | with_reducible apply Holds.ite
         | with_reducible apply requestSlot_holds
         | refine Holds.of_pair (by with_reducible assumption) (requestSlot_holds ?_)
         | split)

theorem ownerActs_holds {e : EvSlot} {s : State} {s0 : State} (hk : Holds s0 s) :
    Holds s0 (ownerActs e s) := by
  unfold ownerActs
  try dsimp only
  repeat' first
    | (intro _; try dsimp only)
    | with_reducible apply Holds.ite
    | with_reducible assumption
    | with_reducible apply fireLehr_holds
    | with_reducible apply fireRelease_holds
    | with_reducible apply fireReconf_holds
    | with_reducible apply fireCalibration_holds
    | split

theorem fireSlot_holds {n : Nat} {s : State} {s0 : State} (hk : Holds s0 s) :
    Holds s0 (fireSlot n s) := by
  unfold fireSlot
  try dsimp only
  repeat' first
    | (intro _; try dsimp only)
    | with_reducible assumption
    | with_reducible apply ownerActs_holds
    | with_reducible apply releaseSlot_holds
    | with_reducible apply setRound_holds
    | (with_reducible refine Holds.mk' ?_ rfl rfl rfl rfl rfl rfl (fun x => x) (fun x => x) (fun x => x)
       first
         | with_reducible assumption
         | with_reducible apply ownerActs_holds
         | with_reducible apply releaseSlot_holds
         | with_reducible apply setRound_holds)

theorem reachSlot_holds {s : State} {n : Nat} {s0 : State} (hk : Holds s0 s) :
    Holds s0 (reachSlot s n) := by
  unfold reachSlot
  try dsimp only
  repeat' first
    | (intro _; try dsimp only)
    | with_reducible apply Holds.ite
    | with_reducible assumption
    | with_reducible apply setSlot_holds
    | with_reducible apply fireSlot_holds
    | split
    | (with_reducible refine Holds.mk' ?_ rfl rfl rfl rfl rfl rfl (fun x => x) (fun x => x) (fun x => x)
       first
         | with_reducible assumption
         | with_reducible apply Holds.ite
         | with_reducible apply setSlot_holds
         | with_reducible apply fireSlot_holds
         | split)

theorem doEventSlotFire_holds {n : Nat} {s : State} {s0 : State} (hk : Holds s0 s) :
    Holds s0 (doEventSlotFire n s) := by
  unfold doEventSlotFire
  try dsimp only
  repeat' first
    | (intro _ _ _; try dsimp only)
    | (intro _; try dsimp only)
    | with_reducible apply Holds.ite
    | with_reducible assumption
    | with_reducible apply fireSlot_holds
    | with_reducible apply Holds.foldl
    | with_reducible apply Holds.foldl2
    | with_reducible apply Holds.foldl22
    | split

theorem driveOut_holds {level : Bool} {s : State} {s0 : State} (hk : Holds s0 s) :
    Holds s0 (driveOut level s) := by
  unfold driveOut
  try dsimp only
  repeat' first
    | (intro _; try dsimp only)
    | with_reducible apply Holds.ite
    | with_reducible assumption
    | split
    | (with_reducible refine Holds.mk' ?_ rfl rfl rfl rfl rfl rfl (fun x => x) (fun x => x) (fun x => x)
       first
         | with_reducible assumption
         | with_reducible apply Holds.ite
         | split)

theorem takeAngle_holds {a : Nat} {s : State} {s0 : State} (hk : Holds s0 s) :
    Holds s0 (takeAngle a s) := by
  unfold takeAngle
  try dsimp only
  repeat' first
    | (intro _ _ _; try dsimp only)
    | (intro _; try dsimp only)
    | with_reducible apply Holds.ite
    | with_reducible assumption
    | with_reducible apply setRound_holds
    | with_reducible apply driveOut_holds
    | with_reducible apply atSamples_holds
    | with_reducible apply captureSample_holds
    | with_reducible apply endRevolution_holds
    | with_reducible apply moveDeferred_holds
    | with_reducible apply reachSlot_holds
    | with_reducible apply Holds.foldl
    | with_reducible apply Holds.foldl2
    | with_reducible apply Holds.foldl22
    | split
    | (with_reducible refine Holds.mk' ?_ rfl rfl rfl rfl rfl rfl (fun x => x) (fun x => x) (fun x => x)
       first
         | with_reducible assumption
         | with_reducible apply Holds.ite
         | with_reducible apply setRound_holds
         | with_reducible apply driveOut_holds
         | with_reducible apply atSamples_holds
         | with_reducible apply captureSample_holds
         | with_reducible apply endRevolution_holds
         | with_reducible apply moveDeferred_holds
         | with_reducible apply reachSlot_holds
         | with_reducible apply Holds.foldl
         | with_reducible apply Holds.foldl2
         | with_reducible apply Holds.foldl22
         | split)

theorem runTicks_holds {x0 : Nat} {x1 : Nat} {s : State} {s0 : State} (hk : Holds s0 s) :
    Holds s0 (runTicks x0 x1 s) := by
  induction x0 generalizing x1 s with
  | zero =>
    simp only [runTicks]
    try dsimp only
    repeat' first
      | (intro _; try dsimp only)
      | with_reducible apply Holds.ite
      | with_reducible assumption
      | with_reducible apply takeAngle_holds
      | split
  | succ n ih =>
    simp only [runTicks]
    try dsimp only
    repeat' first
      | (intro _; try dsimp only)
      | with_reducible apply Holds.ite
      | with_reducible assumption
      | with_reducible apply ih
      | with_reducible apply takeAngle_holds
      | split

theorem runToHalt_holds {x0 : Nat} {s : State} {s0 : State} (hk : Holds s0 s) :
    Holds s0 (runToHalt x0 s) := by
  induction x0 generalizing s with
  | zero =>
    simp only [runToHalt]
    try dsimp only
    repeat' first
      | (intro _; try dsimp only)
      | with_reducible apply Holds.ite
      | with_reducible assumption
      | with_reducible apply takeAngle_holds
      | split
  | succ n ih =>
    simp only [runToHalt]
    try dsimp only
    repeat' first
      | (intro _; try dsimp only)
      | with_reducible apply Holds.ite
      | with_reducible assumption
      | with_reducible apply ih
      | with_reducible apply takeAngle_holds
      | split

theorem doMicroTick_holds {s : State} {s0 : State} (hk : Holds s0 s) :
    Holds s0 (doMicroTick s) := by
  unfold doMicroTick
  try dsimp only
  repeat' first
    | (intro _; try dsimp only)
    | with_reducible apply Holds.ite
    | with_reducible assumption
    | with_reducible apply takeAngle_holds
    | split

theorem countHalt_holds {stamp : Int} {s : State} {s0 : State} (hk : Holds s0 s) :
    Holds s0 (countHalt stamp s) := by
  unfold countHalt
  try dsimp only
  repeat' first
    | (intro _; try dsimp only)
    | with_reducible apply Holds.ite
    | with_reducible assumption
    | with_reducible apply setRound_holds
    | split
    | (with_reducible refine Holds.mk' ?_ rfl rfl rfl rfl rfl rfl (fun x => x) (fun x => x) (fun x => x)
       first
         | with_reducible assumption
         | with_reducible apply Holds.ite
         | with_reducible apply setRound_holds
         | split)

theorem devTick_holds {s : State} {s0 : State} (hk : Holds s0 s) :
    Holds s0 (devTick s) := by
  unfold devTick
  try dsimp only
  repeat' first
    | (intro _; try dsimp only)
    | with_reducible apply Holds.ite
    | with_reducible assumption
    | with_reducible apply setRound_holds
    | with_reducible apply atSamples_holds
    | with_reducible apply skipSample_holds
    | with_reducible apply endRevolution_holds
    | split
    | (with_reducible refine Holds.mk' ?_ rfl rfl rfl rfl rfl rfl (fun x => x) (fun x => x) (fun x => x)
       first
         | with_reducible assumption
         | with_reducible apply Holds.ite
         | with_reducible apply setRound_holds
         | with_reducible apply atSamples_holds
         | with_reducible apply skipSample_holds
         | with_reducible apply endRevolution_holds
         | split)

theorem runDevTicks_holds {x0 : Nat} {s : State} {s0 : State} (hk : Holds s0 s) :
    Holds s0 (runDevTicks x0 s) := by
  induction x0 generalizing s with
  | zero =>
    simp only [runDevTicks]
    try dsimp only
    repeat' first
      | (intro _; try dsimp only)
      | with_reducible apply Holds.ite
      | with_reducible assumption
      | with_reducible apply devTick_holds
      | split
  | succ n ih =>
    simp only [runDevTicks]
    try dsimp only
    repeat' first
      | (intro _; try dsimp only)
      | with_reducible apply Holds.ite
      | with_reducible assumption
      | with_reducible apply ih
      | with_reducible apply devTick_holds
      | split

theorem doDeviceTimeAngleTick_holds {s : State} {s0 : State} (hk : Holds s0 s) :
    Holds s0 (doDeviceTimeAngleTick s) := by
  unfold doDeviceTimeAngleTick
  try dsimp only
  repeat' first
    | (intro _; try dsimp only)
    | with_reducible apply Holds.ite
    | with_reducible assumption
    | with_reducible apply devTick_holds
    | split

theorem setReference_holds {ref : Option Nat} {s : State} {s0 : State} (hk : Holds s0 s) :
    Holds s0 (setReference ref s) := by
  unfold setReference
  try dsimp only
  repeat' first
    | (intro _; try dsimp only)
    | with_reducible apply Holds.ite
    | with_reducible assumption
    | with_reducible apply runDevTicks_holds
    | with_reducible apply setRound_holds
    | split
    | (with_reducible refine Holds.mk' ?_ rfl rfl rfl rfl rfl rfl (fun x => x) (fun x => x) (fun x => x)
       first
         | with_reducible assumption
         | with_reducible apply Holds.ite
         | with_reducible apply runDevTicks_holds
         | with_reducible apply setRound_holds
         | split)

theorem noteMismatch_holds {s : State} {s0 : State} (hk : Holds s0 s) :
    Holds s0 (noteMismatch s) := by
  unfold noteMismatch
  try dsimp only
  repeat' first
    | (intro _; try dsimp only)
    | with_reducible apply Holds.ite
    | with_reducible assumption
    | with_reducible apply setRound_holds
    | with_reducible apply raise0_holds
    | split
    | (with_reducible refine Holds.mk' ?_ rfl rfl rfl rfl rfl rfl (fun x => x) (fun x => x) (fun x => x)
       first
         | with_reducible assumption
         | with_reducible apply Holds.ite
         | with_reducible apply setRound_holds
         | with_reducible apply raise0_holds
         | split)

theorem seekCollect_holds {iv : Nat} {s : State} {s0 : State} (hk : Holds s0 s) :
    Holds s0 (seekCollect iv s) := by
  unfold seekCollect
  try dsimp only
  repeat' first
    | (intro _ _ _; try dsimp only)
    | (intro _; try dsimp only)
    | with_reducible apply Holds.ite
    | with_reducible assumption
    | with_reducible apply setRound_holds
    | with_reducible apply noteMismatch_holds
    | with_reducible apply setReference_holds
    | with_reducible apply Holds.foldl
    | with_reducible apply Holds.foldl2
    | with_reducible apply Holds.foldl22
    | split
    | (with_reducible refine Holds.mk' ?_ rfl rfl rfl rfl rfl rfl (fun x => x) (fun x => x) (fun x => x)
       first
         | with_reducible assumption
         | with_reducible apply Holds.ite
         | with_reducible apply setRound_holds
         | with_reducible apply noteMismatch_holds
         | with_reducible apply setReference_holds
         | with_reducible apply Holds.foldl
         | with_reducible apply Holds.foldl2
         | with_reducible apply Holds.foldl22
         | split)

theorem learn_holds {stamp : Int} {gap : Nat} {s : State} {s0 : State} (hk : Holds s0 s) :
    Holds s0 (learn stamp gap s) := by
  unfold learn
  try dsimp only
  repeat' first
    | (intro _ _ _; try dsimp only)
    | (intro _; try dsimp only)
    | with_reducible apply Holds.ite
    | with_reducible assumption
    | with_reducible apply setRound_holds
    | with_reducible apply noteMismatch_holds
    | split
    | (with_reducible refine Holds.mk' ?_ rfl rfl rfl rfl rfl rfl (fun x => x) (fun x => x) (fun x => x)
       first
         | with_reducible assumption
         | with_reducible apply Holds.ite
         | with_reducible apply setRound_holds
         | with_reducible apply noteMismatch_holds
         | split)

theorem emitMarkers_holds {s : State} {s0 : State} (hk : Holds s0 s) :
    Holds s0 (emitMarkers s) := by
  unfold emitMarkers
  try dsimp only
  repeat' first
    | (intro _ _ _; try dsimp only)
    | (intro _; try dsimp only)
    | with_reducible apply Holds.ite
    | with_reducible assumption
    | with_reducible apply sendSyncOn_holds
    | with_reducible apply Holds.foldl
    | with_reducible apply Holds.foldl2
    | with_reducible apply Holds.foldl22
    | split
    | (with_reducible refine Holds.mk' ?_ rfl rfl rfl rfl rfl rfl (fun x => x) (fun x => x) (fun x => x)
       first
         | with_reducible assumption
         | with_reducible apply Holds.ite
         | with_reducible apply sendSyncOn_holds
         | with_reducible apply Holds.foldl
         | with_reducible apply Holds.foldl2
         | with_reducible apply Holds.foldl22
         | split)

theorem adopt_holds {stamp : Int} {s : State} {s0 : State} (hk : Holds s0 s) :
    Holds s0 (adopt stamp s) := by
  unfold adopt
  try dsimp only
  repeat' first
    | (intro _ _ _; try dsimp only)
    | (intro _; try dsimp only)
    | with_reducible apply Holds.ite
    | with_reducible assumption
    | with_reducible apply setRound_holds
    | with_reducible apply joinAdopted_holds
    | split
    | (with_reducible refine Holds.mk' ?_ rfl rfl rfl rfl rfl rfl (fun x => x) (fun x => x) (fun x => x)
       first
         | with_reducible assumption
         | with_reducible apply Holds.ite
         | with_reducible apply setRound_holds
         | with_reducible apply joinAdopted_holds
         | split)

theorem requestRefused_holds {q : ArmReq} {s : State} {s0 : State} (hk : Holds s0 s) :
    Holds s0 (requestRefused q s) := by
  unfold requestRefused
  try dsimp only
  repeat' first
    | (intro _ _ _; try dsimp only)
    | (intro _; try dsimp only)
    | with_reducible apply Holds.ite
    | with_reducible assumption
    | with_reducible apply missParcel_holds
    | with_reducible apply fireReconf_holds
    | split
    | (with_reducible refine Holds.mk' ?_ rfl rfl rfl rfl rfl rfl (fun x => x) (fun x => x) (fun x => x)
       first
         | with_reducible assumption
         | with_reducible apply Holds.ite
         | with_reducible apply missParcel_holds
         | with_reducible apply fireReconf_holds
         | split)

theorem takeWaiting_holds {s : State} {s0 : State} (hk : Holds s0 s) :
    Holds s0 (takeWaiting s) := by
  unfold takeWaiting
  try dsimp only
  repeat' first
    | (intro _ _ _; try dsimp only)
    | (intro _; try dsimp only)
    | with_reducible assumption
    | with_reducible apply takeRequest_holds
    | refine Holds.of_pair (by with_reducible assumption) (takeRequest_holds ?_)
    | with_reducible apply requestRefused_holds
    | with_reducible apply setRound_holds
    | with_reducible apply Holds.foldl
    | with_reducible apply Holds.foldl2
    | with_reducible apply Holds.foldl22
    | split
    | (with_reducible refine Holds.mk' ?_ rfl rfl rfl rfl rfl rfl (fun x => x) (fun x => x) (fun x => x)
       first
         | with_reducible assumption
         | with_reducible apply takeRequest_holds
         | refine Holds.of_pair (by with_reducible assumption) (takeRequest_holds ?_)
         | with_reducible apply requestRefused_holds
         | with_reducible apply setRound_holds
         | with_reducible apply Holds.foldl
         | with_reducible apply Holds.foldl2
         | with_reducible apply Holds.foldl22
         | split)

theorem newTooth_holds {stamp : Int} {s : State} {s0 : State} (hk : Holds s0 s) :
    Holds s0 (newTooth stamp s) := by
  unfold newTooth
  try dsimp only
  repeat' first
    | (intro _; try dsimp only)
    | with_reducible apply Holds.ite
    | with_reducible assumption
    | with_reducible apply adopt_holds
    | with_reducible apply emitMarkers_holds
    | with_reducible apply takeAngle_holds
    | with_reducible apply driveOut_holds
    | with_reducible apply runTicks_holds
    | split

theorem markEdge_holds {stamp : Int} {iv : Nat} {s : State} {s0 : State} (hk : Holds s0 s) :
    Holds s0 (markEdge stamp iv s) := by
  unfold markEdge
  try dsimp only
  repeat' first
    | (intro _; try dsimp only)
    | with_reducible assumption
    | with_reducible apply setRound_holds
    | (with_reducible refine Holds.mk' ?_ rfl rfl rfl rfl rfl rfl (fun x => x) (fun x => x) (fun x => x)
       first
         | with_reducible assumption
         | with_reducible apply setRound_holds)

theorem closeMove_holds {s : State} {s0 : State} (hk : Holds s0 s) :
    Holds s0 (closeMove s) := by
  unfold closeMove
  try dsimp only
  repeat' first
    | (intro _; try dsimp only)
    | with_reducible apply Holds.ite
    | with_reducible assumption
    | with_reducible apply takeWaiting_holds
    | with_reducible apply armCalibration_holds
    | split

theorem enterSync_holds {stamp : Int} {s : State} {s0 : State} (hk : Holds s0 s) :
    Holds s0 (enterSync stamp s) := by
  unfold enterSync
  try dsimp only
  repeat' first
    | (intro _ _ _; try dsimp only)
    | (intro _; try dsimp only)
    | with_reducible apply Holds.ite
    | with_reducible assumption
    | with_reducible apply setRound_holds
    | with_reducible apply armAll_holds
    | with_reducible apply roundBack_holds
    | with_reducible apply closeMove_holds
    | with_reducible apply newTooth_holds
    | split
    | (with_reducible refine Holds.mk' ?_ rfl rfl rfl rfl rfl rfl (fun x => x) (fun x => x) (fun x => x)
       first
         | with_reducible assumption
         | with_reducible apply Holds.ite
         | with_reducible apply setRound_holds
         | with_reducible apply armAll_holds
         | with_reducible apply roundBack_holds
         | with_reducible apply closeMove_holds
         | with_reducible apply newTooth_holds
         | split)

theorem syncEdge_holds {stamp : Int} {iv : Nat} {gap : Bool} {s : State} {s0 : State} (hk : Holds s0 s) :
    Holds s0 (syncEdge stamp iv gap s) := by
  unfold syncEdge
  try dsimp only
  repeat' first
    | (intro _; try dsimp only)
    | with_reducible apply Holds.ite
    | with_reducible assumption
    | with_reducible apply runTicks_holds
    | with_reducible apply setRound_holds
    | with_reducible apply countHalt_holds
    | with_reducible apply runToHalt_holds
    | with_reducible apply learn_holds
    | with_reducible apply closeMove_holds
    | with_reducible apply newTooth_holds
    | with_reducible apply markEdge_holds
    | split
    | (with_reducible refine Holds.mk' ?_ rfl rfl rfl rfl rfl rfl (fun x => x) (fun x => x) (fun x => x)
       first
         | with_reducible assumption
         | with_reducible apply Holds.ite
         | with_reducible apply runTicks_holds
         | with_reducible apply setRound_holds
         | with_reducible apply countHalt_holds
         | with_reducible apply runToHalt_holds
         | with_reducible apply learn_holds
         | with_reducible apply closeMove_holds
         | with_reducible apply newTooth_holds
         | with_reducible apply markEdge_holds
         | split)

theorem cancelSlot_holds {s : State} {n : Nat} {s0 : State} (hk : Holds s0 s) :
    Holds s0 (cancelSlot s n) := by
  unfold cancelSlot
  try dsimp only
  repeat' first
    | (intro _; try dsimp only)
    | with_reducible assumption
    | with_reducible apply raise_holds
    | with_reducible apply setSlot_holds
    | with_reducible apply setRound_holds
    | (with_reducible refine Holds.mk' ?_ rfl rfl rfl rfl rfl rfl (fun x => x) (fun x => x) (fun x => x)
       first
         | with_reducible assumption
         | with_reducible apply raise_holds
         | with_reducible apply setSlot_holds
         | with_reducible apply setRound_holds)

theorem leaveSync_holds {to' : RndState} {s : State} {s0 : State} (hk : Holds s0 s) :
    Holds s0 (leaveSync to' s) := by
  unfold leaveSync
  try dsimp only
  repeat' first
    | (intro _ _ _; try dsimp only)
    | (intro _; try dsimp only)
    | with_reducible apply Holds.ite
    | with_reducible assumption
    | with_reducible apply driveOut_holds
    | with_reducible apply cancelSlot_holds
    | with_reducible apply setRound_holds
    | with_reducible apply roundLost_holds
    | with_reducible apply runDevTicks_holds
    | with_reducible apply Holds.foldl
    | with_reducible apply Holds.foldl2
    | with_reducible apply Holds.foldl22
    | split
    | (with_reducible refine Holds.mk' ?_ rfl rfl rfl rfl rfl rfl (fun x => x) (fun x => x) (fun x => x)
       first
         | with_reducible assumption
         | with_reducible apply Holds.ite
         | with_reducible apply driveOut_holds
         | with_reducible apply cancelSlot_holds
         | with_reducible apply setRound_holds
         | with_reducible apply roundLost_holds
         | with_reducible apply runDevTicks_holds
         | with_reducible apply Holds.foldl
         | with_reducible apply Holds.foldl2
         | with_reducible apply Holds.foldl22
         | split)

theorem noteLoss_holds {s : State} {s0 : State} (hk : Holds s0 s) :
    Holds s0 (noteLoss s) := by
  unfold noteLoss
  try dsimp only
  repeat' first
    | (intro _; try dsimp only)
    | with_reducible assumption
    | with_reducible apply setRound_holds
    | (with_reducible refine Holds.mk' ?_ rfl rfl rfl rfl rfl rfl (fun x => x) (fun x => x) (fun x => x)
       first
         | with_reducible assumption
         | with_reducible apply setRound_holds)

theorem noteStall_holds {s : State} {s0 : State} (hk : Holds s0 s) :
    Holds s0 (noteStall s) := by
  unfold noteStall
  try dsimp only
  repeat' first
    | (intro _; try dsimp only)
    | with_reducible assumption
    | with_reducible apply setRound_holds
    | (with_reducible refine Holds.mk' ?_ rfl rfl rfl rfl rfl rfl (fun x => x) (fun x => x) (fun x => x)
       first
         | with_reducible assumption
         | with_reducible apply setRound_holds)

theorem ringWrite_holds {interval tooth cls : Nat} {s : State} {s0 : State} (hk : Holds s0 s) :
    Holds s0 (ringWrite interval tooth cls s) := by
  unfold ringWrite
  try dsimp only
  repeat' first
    | (intro _; try dsimp only)
    | with_reducible assumption
    | with_reducible apply setRound_holds
    | (with_reducible refine Holds.mk' ?_ rfl rfl rfl rfl rfl rfl (fun x => x) (fun x => x) (fun x => x)
       first
         | with_reducible assumption
         | with_reducible apply setRound_holds)

theorem enterSeek_holds {s : State} {s0 : State} (hk : Holds s0 s) :
    Holds s0 (enterSeek s) := by
  unfold enterSeek
  try dsimp only
  repeat' first
    | (intro _; try dsimp only)
    | with_reducible assumption
    | with_reducible apply setRound_holds
    | (with_reducible refine Holds.mk' ?_ rfl rfl rfl rfl rfl rfl (fun x => x) (fun x => x) (fun x => x)
       first
         | with_reducible assumption
         | with_reducible apply setRound_holds)

theorem enterConfirm_holds {s : State} {s0 : State} (hk : Holds s0 s) :
    Holds s0 (enterConfirm s) := by
  unfold enterConfirm
  try dsimp only
  repeat' first
    | (intro _; try dsimp only)
    | with_reducible assumption
    | with_reducible apply setRound_holds
    | (with_reducible refine Holds.mk' ?_ rfl rfl rfl rfl rfl rfl (fun x => x) (fun x => x) (fun x => x)
       first
         | with_reducible assumption
         | with_reducible apply setRound_holds)

theorem learnEdge_holds {stamp : Int} {iv cls : Nat} {s : State} {s0 : State} (hk : Holds s0 s) :
    Holds s0 (learnEdge stamp iv cls s).2 := by
  unfold learnEdge
  try dsimp only
  repeat' first
    | (intro _; try dsimp only)
    | with_reducible apply Holds.ite
    | with_reducible assumption
    | with_reducible apply seekCollect_holds
    | with_reducible apply setRound_holds
    | with_reducible apply enterConfirm_holds
    | with_reducible apply setReference_holds
    | with_reducible apply enterSync_holds
    | with_reducible apply enterSeek_holds
    | split
    | (with_reducible refine Holds.mk' ?_ rfl rfl rfl rfl rfl rfl (fun x => x) (fun x => x) (fun x => x)
       first
         | with_reducible assumption
         | with_reducible apply Holds.ite
         | with_reducible apply seekCollect_holds
         | with_reducible apply setRound_holds
         | with_reducible apply enterConfirm_holds
         | with_reducible apply setReference_holds
         | with_reducible apply enterSync_holds
         | with_reducible apply enterSeek_holds
         | split)

theorem loseSync_holds {stamp : Int} {iv cls : Nat} {s : State} {s0 : State} (hk : Holds s0 s) :
    Holds s0 (loseSync stamp iv cls s) := by
  unfold loseSync
  try dsimp only
  repeat' first
    | (intro _; try dsimp only)
    | with_reducible apply Holds.ite
    | with_reducible assumption
    | with_reducible apply countHalt_holds
    | with_reducible apply runTicks_holds
    | with_reducible apply leaveSync_holds
    | with_reducible apply noteLoss_holds
    | with_reducible apply raise0_holds
    | with_reducible apply markEdge_holds
    | split

theorem doStallTimeout_holds {s : State} {s0 : State} (hk : Holds s0 s) :
    Holds s0 (doStallTimeout s) := by
  unfold doStallTimeout
  try dsimp only
  repeat' first
    | (intro _; try dsimp only)
    | with_reducible apply Holds.ite
    | with_reducible assumption
    | with_reducible apply countHalt_holds
    | with_reducible apply runTicks_holds
    | with_reducible apply noteStall_holds
    | with_reducible apply raise0_holds
    | with_reducible apply ringWrite_holds
    | with_reducible apply leaveSync_holds
    | with_reducible apply setRound_holds
    | with_reducible apply setReference_holds
    | split
    | (with_reducible refine Holds.mk' ?_ rfl rfl rfl rfl rfl rfl (fun x => x) (fun x => x) (fun x => x)
       first
         | with_reducible assumption
         | with_reducible apply Holds.ite
         | with_reducible apply countHalt_holds
         | with_reducible apply runTicks_holds
         | with_reducible apply noteStall_holds
         | with_reducible apply raise0_holds
         | with_reducible apply ringWrite_holds
         | with_reducible apply leaveSync_holds
         | with_reducible apply setRound_holds
         | with_reducible apply setReference_holds
         | split)

theorem validEdge_holds {stamp : Int} {iv : Nat} {s : State} {s0 : State} (hk : Holds s0 s) :
    Holds s0 (validEdge stamp iv s) := by
  unfold validEdge
  try dsimp only
  repeat' first
    | (intro _; try dsimp only)
    | with_reducible apply Holds.ite
    | with_reducible assumption
    | with_reducible apply syncEdge_holds
    | with_reducible apply ringWrite_holds
    | with_reducible apply loseSync_holds
    | with_reducible apply learnEdge_holds
    | refine Holds.of_pair (by with_reducible assumption) (learnEdge_holds ?_)
    | with_reducible apply markEdge_holds
    | split

theorem doEdge_holds {stamp : Int} {s : State} {s0 : State} (hk : Holds s0 s) :
    Holds s0 (doEdge stamp s) := by
  unfold doEdge
  try dsimp only
  repeat' first
    | (intro _; try dsimp only)
    | with_reducible apply Holds.ite
    | with_reducible assumption
    | with_reducible apply doStallTimeout_holds
    | with_reducible apply enterSeek_holds
    | with_reducible apply ringWrite_holds
    | with_reducible apply setRound_holds
    | with_reducible apply validEdge_holds
    | split
    | (with_reducible refine Holds.mk' ?_ rfl rfl rfl rfl rfl rfl (fun x => x) (fun x => x) (fun x => x)
       first
         | with_reducible assumption
         | with_reducible apply Holds.ite
         | with_reducible apply doStallTimeout_holds
         | with_reducible apply enterSeek_holds
         | with_reducible apply ringWrite_holds
         | with_reducible apply setRound_holds
         | with_reducible apply validEdge_holds
         | split)

theorem doRoundEdge_holds {s : State} {s0 : State} (hk : Holds s0 s) :
    Holds s0 (doRoundEdge s) := by
  unfold doRoundEdge
  try dsimp only
  repeat' first
    | (intro _; try dsimp only)
    | with_reducible apply Holds.ite
    | with_reducible assumption
    | with_reducible apply doEdge_holds
    | split
    | (with_reducible refine Holds.mk' ?_ rfl rfl rfl rfl rfl rfl (fun x => x) (fun x => x) (fun x => x)
       first
         | with_reducible assumption
         | with_reducible apply Holds.ite
         | with_reducible apply doEdge_holds
         | split)

theorem doRoundInFallingEdge_holds {s : State} {s0 : State} (hk : Holds s0 s) :
    Holds s0 (doRoundInFallingEdge s) := by
  unfold doRoundInFallingEdge
  try dsimp only
  repeat' first
    | (intro _; try dsimp only)
    | with_reducible apply Holds.ite
    | with_reducible assumption
    | split
    | (with_reducible refine Holds.mk' ?_ rfl rfl rfl rfl rfl rfl (fun x => x) (fun x => x) (fun x => x)
       first
         | with_reducible assumption
         | with_reducible apply Holds.ite
         | split)

theorem doGeneratedTooth_holds {s : State} {s0 : State} (hk : Holds s0 s) :
    Holds s0 (doGeneratedTooth s) := by
  unfold doGeneratedTooth
  try dsimp only
  repeat' first
    | (intro _; try dsimp only)
    | with_reducible apply Holds.ite
    | with_reducible assumption
    | with_reducible apply doEdge_holds
    | split

theorem forwardMarker_holds {m : MarkMsg} {delay : Nat} {s : State} {s0 : State} (hk : Holds s0 s) :
    Holds s0 (forwardMarker m delay s) := by
  unfold forwardMarker
  try dsimp only
  repeat' first
    | (intro _; try dsimp only)
    | with_reducible apply Holds.ite
    | with_reducible assumption
    | with_reducible apply draw_holds
    | refine Holds.of_pair (by with_reducible assumption) (draw_holds ?_)
    | with_reducible apply toChildren_holds
    | split
    | (with_reducible refine Holds.mk' ?_ rfl rfl rfl rfl rfl rfl (fun x => x) (fun x => x) (fun x => x)
       first
         | with_reducible assumption
         | with_reducible apply Holds.ite
         | with_reducible apply draw_holds
         | refine Holds.of_pair (by with_reducible assumption) (draw_holds ?_)
         | with_reducible apply toChildren_holds
         | split)

theorem doRoundMark_holds {n : Nat} {m : MarkMsg} {s : State} {s0 : State} (hk : Holds s0 s) :
    Holds s0 (doRoundMark n m s) := by
  unfold doRoundMark
  try dsimp only
  repeat' first
    | (intro _; try dsimp only)
    | with_reducible apply Holds.ite
    | with_reducible assumption
    | with_reducible apply quarantine_holds
    | with_reducible apply forwardMarker_holds
    | with_reducible apply setRound_holds
    | with_reducible apply doEdge_holds
    | split
    | (with_reducible refine Holds.mk' ?_ rfl rfl rfl rfl rfl rfl (fun x => x) (fun x => x) (fun x => x)
       first
         | with_reducible assumption
         | with_reducible apply Holds.ite
         | with_reducible apply quarantine_holds
         | with_reducible apply forwardMarker_holds
         | with_reducible apply setRound_holds
         | with_reducible apply doEdge_holds
         | split)

theorem startRound_holds {s : State} {s0 : State} (hk : Holds s0 s) :
    Holds s0 (startRound s) := by
  unfold startRound
  try dsimp only
  repeat' first
    | (intro _; try dsimp only)
    | with_reducible apply Holds.ite
    | with_reducible assumption
    | with_reducible apply enterSync_holds
    | with_reducible apply setRound_holds
    | with_reducible apply enterSeek_holds
    | split
    | (with_reducible refine Holds.mk' ?_ rfl rfl rfl rfl rfl rfl (fun x => x) (fun x => x) (fun x => x)
       first
         | with_reducible assumption
         | with_reducible apply Holds.ite
         | with_reducible apply enterSync_holds
         | with_reducible apply setRound_holds
         | with_reducible apply enterSeek_holds
         | split)

theorem doArmRequest_holds {q : ArmReq} {s : State} {s0 : State} (hk : Holds s0 s) :
    Holds s0 (doArmRequest q s) := by
  unfold doArmRequest
  try dsimp only
  repeat' first
    | (intro _; try dsimp only)
    | with_reducible apply Holds.ite
    | with_reducible assumption
    | with_reducible apply requestSlot_holds
    | refine Holds.of_pair (by with_reducible assumption) (requestSlot_holds ?_)
    | split
    | (with_reducible refine Holds.mk' ?_ rfl rfl rfl rfl rfl rfl (fun x => x) (fun x => x) (fun x => x)
       first
         | with_reducible assumption
         | with_reducible apply Holds.ite
         | with_reducible apply requestSlot_holds
         | refine Holds.of_pair (by with_reducible assumption) (requestSlot_holds ?_)
         | split)

theorem setStart_holds {x : StartSt} {s : State} {s0 : State} (hk : Holds s0 s) :
    Holds s0 (State.setStart x s) := by
  unfold State.setStart
  try dsimp only
  repeat' first
    | (intro _; try dsimp only)
    | with_reducible assumption
    | (with_reducible refine Holds.mk' ?_ rfl rfl rfl rfl rfl rfl (fun x => x) (fun x => x) (fun x => x)
       first
         | with_reducible assumption)

theorem cutProgramming_holds {s : State} {s0 : State} (hk : Holds s0 s) :
    Holds s0 (cutProgramming s) := by
  unfold cutProgramming
  try dsimp only
  repeat' first
    | (intro _ _ _; try dsimp only)
    | (intro _; try dsimp only)
    | with_reducible apply Holds.ite
    | with_reducible assumption
    | with_reducible apply draw_holds
    | refine Holds.of_pair (by with_reducible assumption) (draw_holds ?_)
    | with_reducible apply flashWrite_holds
    | split

theorem clearState_holds {pins : Pins} {s s0 : State} (h : Holds s0 s) : Holds s0 (clearState pins s) :=
  Holds.mk' h rfl rfl rfl rfl rfl rfl (fun _ => rfl) (fun _ => rfl) (fun x => x)

theorem doResetAssert_holds {s : State} {s0 : State} (hk : Holds s0 s) :
    Holds s0 (doResetAssert s) := by
  unfold doResetAssert
  try dsimp only
  repeat' first
    | (intro _; try dsimp only)
    | with_reducible assumption
    | with_reducible apply clearState_holds
    | with_reducible apply cutProgramming_holds
    | (with_reducible refine Holds.mk' ?_ rfl rfl rfl rfl rfl rfl (fun x => x) (fun x => x) (fun x => x)
       first
         | with_reducible assumption
         | with_reducible apply clearState_holds
         | with_reducible apply cutProgramming_holds)

theorem fallBack_holds {s : State} {s0 : State} (hk : Holds s0 s) :
    Holds s0 (fallBack s) := by
  unfold fallBack
  try dsimp only
  repeat' first
    | (intro _; try dsimp only)
    | with_reducible apply Holds.ite
    | with_reducible assumption
    | with_reducible apply clearState_holds
    | with_reducible apply cutProgramming_holds
    | split
    | (with_reducible refine Holds.mk' ?_ rfl rfl rfl rfl rfl rfl (fun x => x) (fun x => x) (fun x => x)
       first
         | with_reducible assumption
         | with_reducible apply Holds.ite
         | with_reducible apply clearState_holds
         | with_reducible apply cutProgramming_holds
         | split)

theorem doPgoodFall_holds {s : State} {s0 : State} (hk : Holds s0 s) :
    Holds s0 (doPgoodFall s) := by
  unfold doPgoodFall
  try dsimp only
  repeat' first
    | (intro _; try dsimp only)
    | with_reducible assumption
    | with_reducible apply fallBack_holds
    | (with_reducible refine Holds.mk' ?_ rfl rfl rfl rfl rfl rfl (fun x => x) (fun x => x) (fun x => x)
       first
         | with_reducible assumption
         | with_reducible apply fallBack_holds)

theorem doSysclkLoss_holds {s : State} {s0 : State} (hk : Holds s0 s) :
    Holds s0 (doSysclkLoss s) := by
  unfold doSysclkLoss
  try dsimp only
  repeat' first
    | (intro _; try dsimp only)
    | with_reducible assumption
    | with_reducible apply fallBack_holds
    | (with_reducible refine Holds.mk' ?_ rfl rfl rfl rfl rfl rfl (fun x => x) (fun x => x) (fun x => x)
       first
         | with_reducible assumption
         | with_reducible apply fallBack_holds)

theorem doRefclkStop_holds {s : State} {s0 : State} (hk : Holds s0 s) :
    Holds s0 (doRefclkStop s) := by
  unfold doRefclkStop
  try dsimp only
  repeat' first
    | (intro _; try dsimp only)
    | with_reducible assumption
    | (with_reducible refine Holds.mk' ?_ rfl rfl rfl rfl rfl rfl (fun x => x) (fun x => x) (fun x => x)
       first
         | with_reducible assumption)

theorem doPcieLinkUp_holds {s : State} {s0 : State} (hk : Holds s0 s) :
    Holds s0 (doPcieLinkUp s) := by
  unfold doPcieLinkUp
  try dsimp only
  repeat' first
    | (intro _; try dsimp only)
    | with_reducible apply Holds.ite
    | with_reducible assumption
    | split
    | (with_reducible refine Holds.mk' ?_ rfl rfl rfl rfl rfl rfl (fun x => x) (fun x => x) (fun x => x)
       first
         | with_reducible assumption
         | with_reducible apply Holds.ite
         | split)

theorem trainD2d_holds {acc : List Nat × State} {x : D2dFail} {s0 : State} (h : Holds s0 acc.2) :
    Holds s0 (trainD2d acc x).2 := by
  unfold trainD2d
  dsimp only
  split
  · exact h
  · split
    · exact h
    · exact setStart_holds (Holds.foldl (fun s y k => raise_holds (setStart_holds k)) h)

theorem doResetRelease_holds {frcLow testEn : Bool} {smbAddr : Nat} {d2d : List D2dFail} {s : State} {s0 : State} (hk : Holds s0 s) :
    Holds s0 (doResetRelease frcLow testEn smbAddr d2d s) := by
  unfold doResetRelease
  try dsimp only
  repeat' first
    | (intro _ _ _; try dsimp only)
    | (intro _; try dsimp only)
    | with_reducible apply Holds.ite
    | with_reducible assumption
    | with_reducible apply clearState_holds
    | with_reducible apply setStage_holds
    | with_reducible apply setStart_holds
    | with_reducible apply setLehr_holds
    | with_reducible apply raise_holds
    | with_reducible apply trainD2d_holds
    | with_reducible apply Holds.foldl
    | with_reducible apply Holds.foldl2
    | with_reducible apply Holds.foldl22
    | split
    | (with_reducible refine Holds.mk' ?_ rfl rfl rfl rfl rfl rfl (fun x => x) (fun x => x) (fun x => x)
       first
         | with_reducible assumption
         | with_reducible apply Holds.ite
         | with_reducible apply clearState_holds
         | with_reducible apply setStage_holds
         | with_reducible apply setStart_holds
         | with_reducible apply setLehr_holds
         | with_reducible apply raise_holds
         | with_reducible apply Holds.foldl
         | with_reducible apply Holds.foldl2
         | with_reducible apply Holds.foldl22
         | split)

theorem setResult_holds {slot code : Nat} {s : State} {s0 : State} (hk : Holds s0 s) :
    Holds s0 (setResult slot code s) := by
  unfold setResult
  try dsimp only
  repeat' first
    | (intro _; try dsimp only)
    | with_reducible apply Holds.ite
    | with_reducible assumption
    | with_reducible apply setStart_holds
    | split
    | (with_reducible refine Holds.mk' ?_ rfl rfl rfl rfl rfl rfl (fun x => x) (fun x => x) (fun x => x)
       first
         | with_reducible assumption
         | with_reducible apply Holds.ite
         | with_reducible apply setStart_holds
         | split)

theorem checkSlot_holds {slot err : Nat} {s : State} {s0 : State} (hk : Holds s0 s) :
    Holds s0 (checkSlot slot err s).2 := by
  unfold checkSlot
  try dsimp only
  repeat' first
    | (intro _; try dsimp only)
    | with_reducible assumption
    | with_reducible apply setResult_holds
    | with_reducible apply raise_holds
    | split
    | (with_reducible refine Holds.mk' ?_ rfl rfl rfl rfl rfl rfl (fun x => x) (fun x => x) (fun x => x)
       first
         | with_reducible assumption
         | with_reducible apply setResult_holds
         | with_reducible apply raise_holds
         | split)

theorem pickSlot_holds {err : Nat → Nat} {l : List Nat} {held : Option (Nat × Image)} {s s0 : State} (h : Holds s0 s) :
    Holds s0 (pickSlot err l held s).2 := by
  induction l generalizing held s with
  | nil => exact h
  | cons k r ih =>
    unfold pickSlot
    dsimp only
    split
    · exact ih (checkSlot_holds h)
    · split
      · exact checkSlot_holds h
      · exact ih (setResult_holds (checkSlot_holds h))

theorem enterRecovery_holds {cause : Nat} {err : Nat → Nat} {s : State} {s0 : State} (hk : Holds s0 s) :
    Holds s0 (enterRecovery cause err s) := by
  unfold enterRecovery
  try dsimp only
  repeat' first
    | (intro _ _ _; try dsimp only)
    | (intro _; try dsimp only)
    | with_reducible apply Holds.ite
    | with_reducible assumption
    | with_reducible apply setStage_holds
    | with_reducible apply raise0_holds
    | with_reducible apply setStart_holds
    | with_reducible apply checkSlot_holds
    | refine Holds.of_pair (by with_reducible assumption) (checkSlot_holds ?_)
    | with_reducible apply Holds.foldl
    | with_reducible apply Holds.foldl2
    | with_reducible apply Holds.foldl22
    | split
    | (with_reducible refine Holds.mk' ?_ rfl rfl rfl rfl rfl rfl (fun x => x) (fun x => x) (fun x => x)
       first
         | with_reducible assumption
         | with_reducible apply Holds.ite
         | with_reducible apply setStage_holds
         | with_reducible apply raise0_holds
         | with_reducible apply setStart_holds
         | with_reducible apply checkSlot_holds
         | refine Holds.of_pair (by with_reducible assumption) (checkSlot_holds ?_)
         | with_reducible apply Holds.foldl
         | with_reducible apply Holds.foldl2
         | with_reducible apply Holds.foldl22
         | split)

theorem verifyDelivered_holds {s : State} {s0 : State} (hk : Holds s0 s) :
    Holds s0 (verifyDelivered s) := by
  unfold verifyDelivered
  try dsimp only
  repeat' first
    | (intro _; try dsimp only)
    | with_reducible apply Holds.ite
    | with_reducible assumption
    | with_reducible apply setStart_holds
    | with_reducible apply flashWrite_holds
    | split
    | (with_reducible refine Holds.mk' ?_ rfl rfl rfl rfl rfl rfl (fun x => x) (fun x => x) (fun x => x)
       first
         | with_reducible assumption
         | with_reducible apply Holds.ite
         | with_reducible apply setStart_holds
         | with_reducible apply flashWrite_holds
         | split)

theorem doRecoveryDoor_holds {requester : Nat} {w : BitVec 32} {s : State} {s0 : State} (hk : Holds s0 s) :
    Holds s0 (doRecoveryDoor requester w s) := by
  unfold doRecoveryDoor
  try dsimp only
  repeat' first
    | (intro _; try dsimp only)
    | with_reducible apply Holds.ite
    | with_reducible assumption
    | with_reducible apply markDiscarded_holds
    | with_reducible apply setStart_holds
    | with_reducible apply verifyDelivered_holds
    | split
    | (with_reducible refine Holds.mk' ?_ rfl rfl rfl rfl rfl rfl (fun x => x) (fun x => x) (fun x => x)
       first
         | with_reducible assumption
         | with_reducible apply Holds.ite
         | with_reducible apply markDiscarded_holds
         | with_reducible apply setStart_holds
         | with_reducible apply verifyDelivered_holds
         | split)

theorem doProgrammingDone_holds {ok : Bool} {left : List Byte} {s : State} {s0 : State} (hk : Holds s0 s) :
    Holds s0 (doProgrammingDone ok left s) := by
  unfold doProgrammingDone
  try dsimp only
  repeat' first
    | (intro _; try dsimp only)
    | with_reducible apply Holds.ite
    | with_reducible assumption
    | with_reducible apply setStart_holds
    | with_reducible apply flashWrite_holds
    | split
    | (with_reducible refine Holds.mk' ?_ rfl rfl rfl rfl rfl rfl (fun x => x) (fun x => x) (fun x => x)
       first
         | with_reducible assumption
         | with_reducible apply Holds.ite
         | with_reducible apply setStart_holds
         | with_reducible apply flashWrite_holds
         | split)

theorem doRecoveryTimeout_holds {s : State} {s0 : State} (hk : Holds s0 s) :
    Holds s0 (doRecoveryTimeout s) := by
  unfold doRecoveryTimeout
  try dsimp only
  repeat' first
    | (intro _; try dsimp only)
    | with_reducible apply Holds.ite
    | with_reducible assumption
    | with_reducible apply setStart_holds
    | split
    | (with_reducible refine Holds.mk' ?_ rfl rfl rfl rfl rfl rfl (fun x => x) (fun x => x) (fun x => x)
       first
         | with_reducible assumption
         | with_reducible apply Holds.ite
         | with_reducible apply setStart_holds
         | split)

theorem doRecoveryPinFall_holds {s : State} {s0 : State} (hk : Holds s0 s) :
    Holds s0 (doRecoveryPinFall s) := by
  unfold doRecoveryPinFall
  try dsimp only
  repeat' first
    | (intro _; try dsimp only)
    | with_reducible apply Holds.ite
    | with_reducible assumption
    | split
    | (with_reducible refine Holds.mk' ?_ rfl rfl rfl rfl rfl rfl (fun x => x) (fun x => x) (fun x => x)
       first
         | with_reducible assumption
         | with_reducible apply Holds.ite
         | split)

theorem doRecoveryPinRise_holds {s : State} {s0 : State} (hk : Holds s0 s) :
    Holds s0 (doRecoveryPinRise s) := by
  unfold doRecoveryPinRise
  try dsimp only
  repeat' first
    | (intro _; try dsimp only)
    | with_reducible assumption
    | (with_reducible refine Holds.mk' ?_ rfl rfl rfl rfl rfl rfl (fun x => x) (fun x => x) (fun x => x)
       first
         | with_reducible assumption)

theorem doRecoveryPinHeld_holds {s : State} {s0 : State} (hk : Holds s0 s) :
    Holds s0 (doRecoveryPinHeld s) := by
  unfold doRecoveryPinHeld
  try dsimp only
  repeat' first
    | (intro _; try dsimp only)
    | with_reducible apply Holds.ite
    | with_reducible assumption
    | with_reducible apply raise0_holds
    | with_reducible apply setStart_holds
    | split
    | (with_reducible refine Holds.mk' ?_ rfl rfl rfl rfl rfl rfl (fun x => x) (fun x => x) (fun x => x)
       first
         | with_reducible assumption
         | with_reducible apply Holds.ite
         | with_reducible apply raise0_holds
         | with_reducible apply setStart_holds
         | split)

theorem takeImage_holds {slot : Nat} {i : Image} {s : State} {s0 : State} (hk : Holds s0 s) :
    Holds s0 (takeImage slot i s) := by
  unfold takeImage
  try dsimp only
  repeat' first
    | (intro _; try dsimp only)
    | with_reducible apply Holds.ite
    | with_reducible assumption
    | with_reducible apply powerImage_holds
    | with_reducible apply setStart_holds
    | split
    | (with_reducible refine Holds.mk' ?_ rfl rfl rfl rfl rfl rfl (fun x => x) (fun x => x) (fun x => x)
       first
         | with_reducible assumption
         | with_reducible apply Holds.ite
         | with_reducible apply powerImage_holds
         | with_reducible apply setStart_holds
         | split)

theorem startOn_holds {slot : Nat} {i : Image} {first : Nat} {s : State} {s0 : State} (hk : Holds s0 s) :
    Holds s0 (startOn slot i first s) := by
  unfold startOn
  try dsimp only
  repeat' first
    | (intro _; try dsimp only)
    | with_reducible apply Holds.ite
    | with_reducible assumption
    | with_reducible apply setResult_holds
    | with_reducible apply raise_holds
    | with_reducible apply setStart_holds
    | with_reducible apply appendLog_holds
    | refine Holds.of_pair (by with_reducible assumption) (appendLog_holds ?_)
    | with_reducible apply takeImage_holds
    | split
    | (with_reducible refine Holds.mk' ?_ rfl rfl rfl rfl rfl rfl (fun x => x) (fun x => x) (fun x => x)
       first
         | with_reducible assumption
         | with_reducible apply Holds.ite
         | with_reducible apply setResult_holds
         | with_reducible apply raise_holds
         | with_reducible apply setStart_holds
         | with_reducible apply appendLog_holds
         | refine Holds.of_pair (by with_reducible assumption) (appendLog_holds ?_)
         | with_reducible apply takeImage_holds
         | split)

theorem scanLog_holds {unreadable : List Nat} {s : State} {s0 : State} (hk : Holds s0 s) :
    Holds s0 (scanLog unreadable s) := by
  unfold scanLog
  try dsimp only
  repeat' first
    | (intro _; try dsimp only)
    | with_reducible apply Holds.ite
    | with_reducible assumption
    | with_reducible apply setStart_holds
    | with_reducible apply raiseLogFull_holds
    | split
    | (with_reducible refine Holds.mk' ?_ rfl rfl rfl rfl rfl rfl (fun x => x) (fun x => x) (fun x => x)
       first
         | with_reducible assumption
         | with_reducible apply Holds.ite
         | with_reducible apply setStart_holds
         | with_reducible apply raiseLogFull_holds
         | split)

theorem doImageStage_holds {errA errB : Nat} {unreadable : List Nat} {s : State} {s0 : State} (hk : Holds s0 s) :
    Holds s0 (doImageStage errA errB unreadable s) := by
  unfold doImageStage
  try dsimp only
  repeat' first
    | (intro _ _ _; try dsimp only)
    | (intro _; try dsimp only)
    | with_reducible apply Holds.ite
    | with_reducible assumption
    | with_reducible apply enterRecovery_holds
    | with_reducible apply scanLog_holds
    | with_reducible apply setStage_holds
    | with_reducible apply setResult_holds
    | with_reducible apply pickSlot_holds
    | refine Holds.of_pair (by with_reducible assumption) (pickSlot_holds ?_)
    | with_reducible apply startOn_holds
    | with_reducible apply Holds.foldl
    | with_reducible apply Holds.foldl2
    | with_reducible apply Holds.foldl22
    | split
    | (with_reducible refine Holds.mk' ?_ rfl rfl rfl rfl rfl rfl (fun x => x) (fun x => x) (fun x => x)
       first
         | with_reducible assumption
         | with_reducible apply Holds.ite
         | with_reducible apply enterRecovery_holds
         | with_reducible apply scanLog_holds
         | with_reducible apply setStage_holds
         | with_reducible apply setResult_holds
         | with_reducible apply pickSlot_holds
         | refine Holds.of_pair (by with_reducible assumption) (pickSlot_holds ?_)
         | with_reducible apply startOn_holds
         | with_reducible apply Holds.foldl
         | with_reducible apply Holds.foldl2
         | with_reducible apply Holds.foldl22
         | split)

theorem spareByte_holds {c b : Nat} {lanes : List Nat} {dmi : Bool} {s : State} {s0 : State} (hk : Holds s0 s) :
    Holds s0 (spareByte c b lanes dmi s) := by
  unfold spareByte
  try dsimp only
  repeat' first
    | (intro _ _ _; try dsimp only)
    | (intro _; try dsimp only)
    | with_reducible apply Holds.ite
    | with_reducible assumption
    | with_reducible apply raise_holds
    | with_reducible apply updChan_holds
    | split
    | (with_reducible refine Holds.mk' ?_ rfl rfl rfl rfl rfl rfl (fun x => x) (fun x => x) (fun x => x)
       first
         | with_reducible assumption
         | with_reducible apply Holds.ite
         | with_reducible apply raise_holds
         | with_reducible apply updChan_holds
         | split)

theorem trainChannel_holds {found : List ChanTrain} {s : State} {c : Nat} {s0 : State} (hk : Holds s0 s) :
    Holds s0 (trainChannel found s c) := by
  unfold trainChannel
  try dsimp only
  repeat' first
    | (intro _ _ _; try dsimp only)
    | (intro _; try dsimp only)
    | with_reducible apply Holds.ite
    | with_reducible assumption
    | with_reducible apply updChan_holds
    | with_reducible apply spareByte_holds
    | with_reducible apply raise_holds
    | with_reducible apply setStart_holds
    | split
    | (with_reducible refine Holds.mk' ?_ rfl rfl rfl rfl rfl rfl (fun x => x) (fun x => x) (fun x => x)
       first
         | with_reducible assumption
         | with_reducible apply Holds.ite
         | with_reducible apply updChan_holds
         | with_reducible apply spareByte_holds
         | with_reducible apply raise_holds
         | with_reducible apply setStart_holds
         | split)

theorem replayEntry_holds {s : State} {e : List Byte} {s0 : State} (hk : Holds s0 s) :
    Holds s0 (replayEntry s e) := by
  unfold replayEntry
  try dsimp only
  repeat' first
    | (intro _ _ _; try dsimp only)
    | (intro _; try dsimp only)
    | with_reducible apply Holds.ite
    | with_reducible assumption
    | with_reducible apply updChan_holds
    | split
    | (with_reducible refine Holds.mk' ?_ rfl rfl rfl rfl rfl rfl (fun x => x) (fun x => x) (fun x => x)
       first
         | with_reducible assumption
         | with_reducible apply Holds.ite
         | with_reducible apply updChan_holds
         | split)

theorem clearMemory_holds {s s0 : State} (h : Holds s0 s) : Holds s0 { s with mem := {}, tiles := {}, fs := {} } :=
  h.trans ⟨rfl, fusesGrow_refl _, rfl, rfl, rfl, rfl, rfl, fun _ => rfl, fun _ => rfl, id⟩

theorem trainChannels_holds {found : List ChanTrain} {l : List Nat} {s s0 : State} (h : Holds s0 s) :
    Holds s0 (l.foldl (trainChannel found) s) := Holds.foldl (fun x c k => trainChannel_holds k) h

theorem replayEntries_holds {l : List (List Byte)} {s s0 : State} (h : Holds s0 s) :
    Holds s0 (l.foldl replayEntry s) := Holds.foldl (fun x c k => replayEntry_holds k) h

theorem memoryCounts_holds {y s0 : State} {g n : Nat} {tr : Bool} {regs : Tab Reg} {ta sa : Nat} (h : Holds s0 y) : Holds s0 { y with
      mem := { y.mem with generalMib := g, inService := n, trained := tr, regs := regs }
      fs := { y.fs with tablesActive := ta, shardsActive := sa } } :=
    Holds.mk' h rfl rfl rfl rfl rfl rfl (fun x => x) (fun x => x) (fun x => x)

theorem doMemoryStage_holds {found : List ChanTrain} {s s0 : State} (h : Holds s0 s) : Holds s0 (doMemoryStage found s) := by
  unfold doMemoryStage
  refine Holds.ite (fun _ => h) fun _ => ?_
  extract_lets s1 s2 s3 down m4 f4 s4
  have h1 : Holds s0 s1 := by with_reducible exact setStage_holds (clearMemory_holds h)
  clear_value s1
  have h2 : Holds s0 s2 := by with_reducible exact trainChannels_holds h1
  clear_value s2
  have h3 : Holds s0 s3 := by with_reducible exact replayEntries_holds h2
  clear_value s3
  have h4 : Holds s0 s4 := by with_reducible exact memoryCounts_holds h3
  clear_value s4
  exact Holds.ite (fun _ => setStage_holds (raise0_holds h4)) fun _ => h4

theorem doLightStage_holds {lost : List Nat} {runs : List CalRun} {s : State} {s0 : State} (hk : Holds s0 s) :
    Holds s0 (doLightStage lost runs s) := by
  unfold doLightStage
  try dsimp only
  repeat' first
    | (intro _ _ _; try dsimp only)
    | (intro _; try dsimp only)
    | with_reducible apply Holds.ite
    | with_reducible assumption
    | with_reducible apply lightEngines_holds
    | with_reducible apply setStage_holds
    | split
    | (with_reducible refine Holds.mk' ?_ rfl rfl rfl rfl rfl rfl (fun x => x) (fun x => x) (fun x => x)
       first
         | with_reducible assumption
         | with_reducible apply Holds.ite
         | with_reducible apply lightEngines_holds
         | with_reducible apply setStage_holds
         | split)

theorem doFabricStage_holds {found : List PortTrain} {s : State} {s0 : State} (hk : Holds s0 s) :
    Holds s0 (doFabricStage found s) := by
  unfold doFabricStage
  try dsimp only
  repeat' first
    | (intro _; try dsimp only)
    | with_reducible apply Holds.ite
    | with_reducible assumption
    | with_reducible apply trainFabric_holds
    | with_reducible apply setStage_holds
    | split

theorem doRoundStage_holds {s : State} {s0 : State} (hk : Holds s0 s) :
    Holds s0 (doRoundStage s) := by
  unfold doRoundStage
  try dsimp only
  repeat' first
    | (intro _; try dsimp only)
    | with_reducible apply Holds.ite
    | with_reducible assumption
    | with_reducible apply startRound_holds
    | with_reducible apply setStage_holds
    | split
    | (with_reducible refine Holds.mk' ?_ rfl rfl rfl rfl rfl rfl (fun x => x) (fun x => x) (fun x => x)
       first
         | with_reducible assumption
         | with_reducible apply Holds.ite
         | with_reducible apply startRound_holds
         | with_reducible apply setStage_holds
         | split)

theorem doJoinStage_holds {s : State} {s0 : State} (hk : Holds s0 s) :
    Holds s0 (doJoinStage s) := by
  unfold doJoinStage
  try dsimp only
  repeat' first
    | (intro _; try dsimp only)
    | with_reducible apply Holds.ite
    | with_reducible assumption
    | with_reducible apply setStage_holds
    | with_reducible apply requestJoin_holds
    | split
    | (with_reducible refine Holds.mk' ?_ rfl rfl rfl rfl rfl rfl (fun x => x) (fun x => x) (fun x => x)
       first
         | with_reducible assumption
         | with_reducible apply Holds.ite
         | with_reducible apply setStage_holds
         | with_reducible apply requestJoin_holds
         | split)

theorem doRampStage_holds {s : State} {s0 : State} (hk : Holds s0 s) :
    Holds s0 (doRampStage s) := by
  unfold doRampStage
  try dsimp only
  repeat' first
    | (intro _; try dsimp only)
    | with_reducible apply Holds.ite
    | with_reducible assumption
    | with_reducible apply beginRamp_holds
    | with_reducible apply setStage_holds
    | split

theorem doStageTimeout_holds {s : State} {s0 : State} (hk : Holds s0 s) :
    Holds s0 (doStageTimeout s) := by
  unfold doStageTimeout
  try dsimp only
  repeat' first
    | (intro _ _ _; try dsimp only)
    | (intro _; try dsimp only)
    | with_reducible apply Holds.ite
    | with_reducible assumption
    | with_reducible apply raise_holds
    | with_reducible apply setStart_holds
    | split
    | (with_reducible refine Holds.mk' ?_ rfl rfl rfl rfl rfl rfl (fun x => x) (fun x => x) (fun x => x)
       first
         | with_reducible assumption
         | with_reducible apply Holds.ite
         | with_reducible apply raise_holds
         | with_reducible apply setStart_holds
         | split)

theorem markAttempt_holds {s : State} {s0 : State} (hk : Holds s0 s) :
    Holds s0 (markAttempt s) := by
  unfold markAttempt
  try dsimp only
  repeat' first
    | (intro _; try dsimp only)
    | with_reducible assumption
    | with_reducible apply flashWrite_holds
    | split
    | (with_reducible refine Holds.mk' ?_ rfl rfl rfl rfl rfl rfl (fun x => x) (fun x => x) (fun x => x)
       first
         | with_reducible assumption
         | with_reducible apply flashWrite_holds
         | split)

theorem readyStep_holds {s : State} {s0 : State} (hk : Holds s0 s) :
    Holds s0 (readyStep s) := by
  unfold readyStep
  try dsimp only
  repeat' first
    | (intro _; try dsimp only)
    | with_reducible apply Holds.ite
    | with_reducible assumption
    | with_reducible apply markAttempt_holds
    | with_reducible apply setEntry_holds
    | with_reducible apply setFuse_holds
    | with_reducible apply endChange_holds
    | with_reducible apply beginChange_holds
    | split
    | (with_reducible refine Holds.mk' ?_ rfl rfl rfl rfl rfl rfl (fun x => x) (fun x => x) (fun x => x)
       first
         | with_reducible assumption
         | with_reducible apply Holds.ite
         | with_reducible apply markAttempt_holds
         | with_reducible apply setEntry_holds
         | with_reducible apply setFuse_holds
         | with_reducible apply endChange_holds
         | with_reducible apply beginChange_holds
         | split)

theorem readySteps_holds {x0 : Nat} {s : State} {s0 : State} (hk : Holds s0 s) :
    Holds s0 (readySteps x0 s) := by
  induction x0 generalizing s with
  | zero =>
    simp only [readySteps]
    try dsimp only
    repeat' first
      | (intro _; try dsimp only)
      | with_reducible assumption
      | with_reducible apply readyStep_holds
  | succ n ih =>
    simp only [readySteps]
    try dsimp only
    repeat' first
      | (intro _; try dsimp only)
      | with_reducible assumption
      | with_reducible apply ih
      | with_reducible apply readyStep_holds

theorem doReady_holds {steps : Option Nat} {s : State} {s0 : State} (hk : Holds s0 s) :
    Holds s0 (doReady steps s) := by
  unfold doReady
  try dsimp only
  repeat' first
    | (intro _; try dsimp only)
    | with_reducible apply Holds.ite
    | with_reducible assumption
    | with_reducible apply readySteps_holds
    | with_reducible apply setStage_holds
    | split
    | (with_reducible refine Holds.mk' ?_ rfl rfl rfl rfl rfl rfl (fun x => x) (fun x => x) (fun x => x)
       first
         | with_reducible assumption
         | with_reducible apply Holds.ite
         | with_reducible apply readySteps_holds
         | with_reducible apply setStage_holds
         | split)

theorem readWord_holds {r a : Nat} {s : State} {s0 : State} (hk : Holds s0 s) :
    Holds s0 (readWord r a s).2 := by
  unfold readWord
  try dsimp only
  repeat' first
    | (intro _; try dsimp only)
    | with_reducible apply Holds.ite
    | with_reducible assumption
    | with_reducible apply setAcc_holds
    | split
    | (with_reducible refine Holds.mk' ?_ rfl rfl rfl rfl rfl rfl (fun x => x) (fun x => x) (fun x => x)
       first
         | with_reducible assumption
         | with_reducible apply Holds.ite
         | with_reducible apply setAcc_holds
         | split)

theorem readWords_holds {r n a : Nat} {s s0 : State} (h : Holds s0 s) : Holds s0 (readWords r n a s).2 := by
  induction n generalizing a s with
  | zero => exact h
  | succ n ih => exact ih (readWord_holds h)

theorem readSpace_holds {f : Nat} {bar2 : Bool} {a size : Nat} {s : State} {s0 : State} (hk : Holds s0 s) :
    Holds s0 (readSpace f bar2 a size s) := by
  unfold readSpace
  try dsimp only
  repeat' first
    | (intro _; try dsimp only)
    | with_reducible apply Holds.ite
    | with_reducible assumption
    | with_reducible apply markBadSize_holds
    | with_reducible apply readWord_holds
    | refine Holds.of_pair (by with_reducible assumption) (readWord_holds ?_)
    | split
    | (with_reducible refine Holds.mk' ?_ rfl rfl rfl rfl rfl rfl (fun x => x) (fun x => x) (fun x => x)
       first
         | with_reducible assumption
         | with_reducible apply Holds.ite
         | with_reducible apply markBadSize_holds
         | with_reducible apply readWord_holds
         | refine Holds.of_pair (by with_reducible assumption) (readWord_holds ?_)
         | split)

theorem clearAcc_holds {r w : Nat} {s : State} {s0 : State} (hk : Holds s0 s) :
    Holds s0 (clearAcc r w s) := by
  unfold clearAcc
  try dsimp only
  repeat' first
    | (intro _; try dsimp only)
    | with_reducible assumption
    | with_reducible apply setAcc_holds
    | (with_reducible refine Holds.mk' ?_ rfl rfl rfl rfl rfl rfl (fun x => x) (fun x => x) (fun x => x)
       first
         | with_reducible assumption
         | with_reducible apply setAcc_holds)

theorem clearOwn_holds {r w : Nat} {s : State} {s0 : State} (hk : Holds s0 s) :
    Holds s0 (clearOwn r w s) := by
  unfold clearOwn
  try dsimp only
  repeat' first
    | (intro _; try dsimp only)
    | with_reducible assumption
    | with_reducible apply clearAcc_holds

theorem clearCluster_hopt {c x w : Nat} {s : State} {s0 : State} (hk : Holds s0 s) :
    OptHS s0 (clearCluster c x w s) := by
  unfold clearCluster
  try dsimp only
  repeat' first
    | (with_reducible first
        | exact OptHS.none
        | apply OptHS.some
        | apply OptHS.map
        | apply OptHS.ite)
    | (intro _ _ _; try dsimp only)
    | (intro _; try dsimp only)
    | with_reducible apply Holds.ite
    | with_reducible assumption
    | with_reducible apply updTile_holds
    | with_reducible apply updCsu_holds
    | with_reducible apply updCluster_holds
    | split
    | (with_reducible refine Holds.mk' ?_ rfl rfl rfl rfl rfl rfl (fun x => x) (fun x => x) (fun x => x)
       first
         | with_reducible assumption
         | with_reducible apply Holds.ite
         | with_reducible apply updTile_holds
         | with_reducible apply updCsu_holds
         | with_reducible apply updCluster_holds
         | split)

theorem clearCluster_holds {c x w : Nat} {s : State} {s0 vv : State} (e : (clearCluster c x w s) = some vv) (hk : Holds s0 s) :
    Holds s0 vv := (clearCluster_hopt hk).keep vv e

theorem clearEngine_hopt {n x w : Nat} {s : State} {s0 : State} (hk : Holds s0 s) :
    OptHS s0 (clearEngine n x w s) := by
  unfold clearEngine
  try dsimp only
  repeat' first
    | (with_reducible first
        | exact OptHS.none
        | apply OptHS.some
        | apply OptHS.map
        | apply OptHS.ite)
    | (intro _ _ _; try dsimp only)
    | (intro _; try dsimp only)
    | with_reducible apply Holds.ite
    | with_reducible assumption
    | with_reducible apply updEngine_holds
    | split
    | (with_reducible refine Holds.mk' ?_ rfl rfl rfl rfl rfl rfl (fun x => x) (fun x => x) (fun x => x)
       first
         | with_reducible assumption
         | with_reducible apply Holds.ite
         | with_reducible apply updEngine_holds
         | split)

theorem clearEngine_holds {n x w : Nat} {s : State} {s0 vv : State} (e : (clearEngine n x w s) = some vv) (hk : Holds s0 s) :
    Holds s0 vv := (clearEngine_hopt hk).keep vv e

theorem clearWord_hopt {r a w : Nat} {s : State} {s0 : State} (hk : Holds s0 s) :
    OptHS s0 (clearWord r a w s) := by
  unfold clearWord
  try dsimp only
  repeat' first
    | (with_reducible first
        | exact OptHS.none
        | apply OptHS.some
        | apply OptHS.map
        | apply OptHS.ite)
    | (intro _ _ _; try dsimp only)
    | (intro _; try dsimp only)
    | with_reducible apply Holds.ite
    | with_reducible assumption
    | with_reducible apply updChan_holds
    | with_reducible apply clearEngine_hopt
    | refine clearEngine_holds (by with_reducible assumption) ?_
    | with_reducible apply OptHS.getD
    | with_reducible apply clearAcc_holds
    | with_reducible apply clearCluster_hopt
    | refine clearCluster_holds (by with_reducible assumption) ?_
    | with_reducible apply OptHS.getD
    | split
    | (with_reducible refine Holds.mk' ?_ rfl rfl rfl rfl rfl rfl (fun x => x) (fun x => x) (fun x => x)
       first
         | with_reducible assumption
         | with_reducible apply Holds.ite
         | with_reducible apply updChan_holds
         | with_reducible apply clearEngine_hopt
         | refine clearEngine_holds (by with_reducible assumption) ?_
         | with_reducible apply OptHS.getD
         | with_reducible apply clearAcc_holds
         | with_reducible apply clearCluster_hopt
         | refine clearCluster_holds (by with_reducible assumption) ?_
         | with_reducible apply OptHS.getD
         | split)

theorem clearWord_holds {r a w : Nat} {s : State} {s0 vv : State} (e : (clearWord r a w s) = some vv) (hk : Holds s0 s) :
    Holds s0 vv := (clearWord_hopt hk).keep vv e

theorem controlWord_hopt {c x w : Nat} {s : State} {s0 : State} (hk : Holds s0 s) :
    OptHS s0 (controlWord c x w s) := by
  unfold controlWord
  try dsimp only
  repeat' first
    | (with_reducible first
        | exact OptHS.none
        | apply OptHS.some
        | apply OptHS.map
        | apply OptHS.ite)
    | (intro _ _ _; try dsimp only)
    | (intro _; try dsimp only)
    | with_reducible apply Holds.ite
    | with_reducible assumption
    | with_reducible apply updChan_holds
    | split
    | (with_reducible refine Holds.mk' ?_ rfl rfl rfl rfl rfl rfl (fun x => x) (fun x => x) (fun x => x)
       first
         | with_reducible assumption
         | with_reducible apply Holds.ite
         | with_reducible apply updChan_holds
         | split)

theorem controlWord_holds {c x w : Nat} {s : State} {s0 vv : State} (e : (controlWord c x w s) = some vv) (hk : Holds s0 s) :
    Holds s0 vv := (controlWord_hopt hk).keep vv e

theorem writeWord_holds {r a : Nat} {w : BitVec 32} {s : State} {s0 : State} (hk : Holds s0 s) :
    Holds s0 (writeWord r a w s) := by
  unfold writeWord
  try dsimp only
  repeat' first
    | (intro _; try dsimp only)
    | with_reducible apply Holds.ite
    | with_reducible assumption
    | with_reducible apply clearWord_hopt
    | refine clearWord_holds (by with_reducible assumption) ?_
    | with_reducible apply OptHS.getD
    | with_reducible apply doRecoveryDoor_holds
    | with_reducible apply tgControl_holds
    | with_reducible apply controlWord_hopt
    | refine controlWord_holds (by with_reducible assumption) ?_
    | with_reducible apply OptHS.getD
    | with_reducible apply markDiscarded_holds
    | split
    | (with_reducible refine Holds.mk' ?_ rfl rfl rfl rfl rfl rfl (fun x => x) (fun x => x) (fun x => x)
       first
         | with_reducible assumption
         | with_reducible apply Holds.ite
         | with_reducible apply clearWord_hopt
         | refine clearWord_holds (by with_reducible assumption) ?_
         | with_reducible apply OptHS.getD
         | with_reducible apply doRecoveryDoor_holds
         | with_reducible apply tgControl_holds
         | with_reducible apply controlWord_hopt
         | refine controlWord_holds (by with_reducible assumption) ?_
         | with_reducible apply OptHS.getD
         | with_reducible apply markDiscarded_holds
         | split)

theorem writeSpace_holds {f : Nat} {bar2 : Bool} {a size : Nat} {w : BitVec 32} {s : State} {s0 : State} (hk : Holds s0 s) :
    Holds s0 (writeSpace f bar2 a size w s) := by
  unfold writeSpace
  try dsimp only
  repeat' first
    | (intro _; try dsimp only)
    | with_reducible apply Holds.ite
    | with_reducible assumption
    | with_reducible apply markBadSize_holds
    | with_reducible apply doPartDoorWrite_holds
    | with_reducible apply clearOwn_holds
    | with_reducible apply markDiscarded_holds
    | with_reducible apply writeWord_holds
    | split

theorem doSmbusStatusRead_holds {addr : Nat} {pec : Bool} {offset count : Nat} {s : State} {s0 : State} (hk : Holds s0 s) :
    Holds s0 (doSmbusStatusRead addr pec offset count s) := by
  unfold doSmbusStatusRead
  try dsimp only
  repeat' first
    | (intro _; try dsimp only)
    | with_reducible apply Holds.ite
    | with_reducible assumption
    | with_reducible apply readWords_holds
    | refine Holds.of_pair (by with_reducible assumption) (readWords_holds ?_)
    | split
    | (with_reducible refine Holds.mk' ?_ rfl rfl rfl rfl rfl rfl (fun x => x) (fun x => x) (fun x => x)
       first
         | with_reducible assumption
         | with_reducible apply Holds.ite
         | with_reducible apply readWords_holds
         | refine Holds.of_pair (by with_reducible assumption) (readWords_holds ?_)
         | split)

theorem doSmbusAccessStatus_holds {addr : Nat} {pec : Bool} {s : State} {s0 : State} (hk : Holds s0 s) :
    Holds s0 (doSmbusAccessStatus addr pec s) := by
  unfold doSmbusAccessStatus
  try dsimp only
  repeat' first
    | (intro _; try dsimp only)
    | with_reducible apply Holds.ite
    | with_reducible assumption
    | split
    | (with_reducible refine Holds.mk' ?_ rfl rfl rfl rfl rfl rfl (fun x => x) (fun x => x) (fun x => x)
       first
         | with_reducible assumption
         | with_reducible apply Holds.ite
         | split)

theorem doSmbusAccessClear_holds {addr : Nat} {pecOk : Bool} {s : State} {s0 : State} (hk : Holds s0 s) :
    Holds s0 (doSmbusAccessClear addr pecOk s) := by
  unfold doSmbusAccessClear
  try dsimp only
  repeat' first
    | (intro _; try dsimp only)
    | with_reducible apply Holds.ite
    | with_reducible assumption
    | with_reducible apply clearOwn_holds
    | split

theorem doSmbusPowerSample_holds {addr : Nat} {pec : Bool} {i : Nat} {s : State} {s0 : State} (hk : Holds s0 s) :
    Holds s0 (doSmbusPowerSample addr pec i s) := by
  unfold doSmbusPowerSample
  try dsimp only
  repeat' first
    | (intro _; try dsimp only)
    | with_reducible apply Holds.ite
    | with_reducible assumption
    | with_reducible apply readWords_holds
    | refine Holds.of_pair (by with_reducible assumption) (readWords_holds ?_)
    | split
    | (with_reducible refine Holds.mk' ?_ rfl rfl rfl rfl rfl rfl (fun x => x) (fun x => x) (fun x => x)
       first
         | with_reducible assumption
         | with_reducible apply Holds.ite
         | with_reducible apply readWords_holds
         | refine Holds.of_pair (by with_reducible assumption) (readWords_holds ?_)
         | split)

theorem doSmbusSummary_holds {addr : Nat} {pec : Bool} {s : State} {s0 : State} (hk : Holds s0 s) :
    Holds s0 (doSmbusSummary addr pec s) := by
  unfold doSmbusSummary
  try dsimp only
  repeat' first
    | (intro _; try dsimp only)
    | with_reducible apply Holds.ite
    | with_reducible assumption
    | split
    | (with_reducible refine Holds.mk' ?_ rfl rfl rfl rfl rfl rfl (fun x => x) (fun x => x) (fun x => x)
       first
         | with_reducible assumption
         | with_reducible apply Holds.ite
         | split)

theorem setIr_holds {code : Nat} {s : State} {s0 : State} (hk : Holds s0 s) :
    Holds s0 (setIr code s) := by
  unfold setIr
  try dsimp only
  repeat' first
    | (intro _; try dsimp only)
    | with_reducible assumption
    | (with_reducible refine Holds.mk' ?_ rfl rfl rfl rfl rfl rfl (fun x => x) (fun x => x) (fun x => x)
       first
         | with_reducible assumption)

theorem scanCapture_holds {s : State} {s0 : State} (hk : Holds s0 s) :
    Holds s0 (scanCapture s) := by
  unfold scanCapture
  try dsimp only
  repeat' first
    | (intro _; try dsimp only)
    | with_reducible assumption
    | with_reducible apply draw_holds
    | refine Holds.of_pair (by with_reducible assumption) (draw_holds ?_)
    | (with_reducible refine Holds.mk' ?_ rfl rfl rfl rfl rfl rfl (fun x => x) (fun x => x) (fun x => x)
       first
         | with_reducible assumption
         | with_reducible apply draw_holds
         | refine Holds.of_pair (by with_reducible assumption) (draw_holds ?_))

theorem doExtest_holds {s : State} {s0 : State} (hk : Holds s0 s) :
    Holds s0 (doExtest s) := by
  unfold doExtest
  try dsimp only
  repeat' first
    | (intro _; try dsimp only)
    | with_reducible apply Holds.ite
    | with_reducible assumption
    | with_reducible apply setIr_holds
    | with_reducible apply scanCapture_holds
    | split

theorem doSamplePreload_holds {cells : Nat} {s : State} {s0 : State} (hk : Holds s0 s) :
    Holds s0 (doSamplePreload cells s) := by
  unfold doSamplePreload
  try dsimp only
  repeat' first
    | (intro _; try dsimp only)
    | with_reducible assumption
    | with_reducible apply scanCapture_holds
    | with_reducible apply setIr_holds
    | (with_reducible refine Holds.mk' ?_ rfl rfl rfl rfl rfl rfl (fun x => x) (fun x => x) (fun x => x)
       first
         | with_reducible assumption
         | with_reducible apply scanCapture_holds
         | with_reducible apply setIr_holds)

theorem doIdcode_holds {s : State} {s0 : State} (hk : Holds s0 s) :
    Holds s0 (doIdcode s) := by
  unfold doIdcode
  try dsimp only
  repeat' first
    | (intro _; try dsimp only)
    | with_reducible assumption
    | with_reducible apply setIr_holds
    | (with_reducible refine Holds.mk' ?_ rfl rfl rfl rfl rfl rfl (fun x => x) (fun x => x) (fun x => x)
       first
         | with_reducible assumption
         | with_reducible apply setIr_holds)

theorem doStatusRead_holds {offset : Nat} {s : State} {s0 : State} (hk : Holds s0 s) :
    Holds s0 (doStatusRead offset s) := by
  unfold doStatusRead
  try dsimp only
  repeat' first
    | (intro _; try dsimp only)
    | with_reducible apply Holds.ite
    | with_reducible assumption
    | with_reducible apply setIr_holds
    | with_reducible apply readWord_holds
    | refine Holds.of_pair (by with_reducible assumption) (readWord_holds ?_)
    | with_reducible apply draw_holds
    | refine Holds.of_pair (by with_reducible assumption) (draw_holds ?_)
    | split
    | (with_reducible refine Holds.mk' ?_ rfl rfl rfl rfl rfl rfl (fun x => x) (fun x => x) (fun x => x)
       first
         | with_reducible assumption
         | with_reducible apply Holds.ite
         | with_reducible apply setIr_holds
         | with_reducible apply readWord_holds
         | refine Holds.of_pair (by with_reducible assumption) (readWord_holds ?_)
         | with_reducible apply draw_holds
         | refine Holds.of_pair (by with_reducible assumption) (draw_holds ?_)
         | split)

theorem doAccClear_holds {s : State} {s0 : State} (hk : Holds s0 s) :
    Holds s0 (doAccClear s) := by
  unfold doAccClear
  try dsimp only
  repeat' first
    | (intro _; try dsimp only)
    | with_reducible assumption
    | with_reducible apply clearOwn_holds
    | with_reducible apply setIr_holds

theorem doBypass_holds {code : Nat} {s : State} {s0 : State} (hk : Holds s0 s) :
    Holds s0 (doBypass code s) := by
  unfold doBypass
  try dsimp only
  repeat' first
    | (intro _; try dsimp only)
    | with_reducible apply Holds.ite
    | with_reducible assumption
    | with_reducible apply setIr_holds
    | split

end Sys2Proof.Machine
end

