-- ==== Sys2Proof/Tests/Slice0.lean ====
section
/-! SUPPORT. Tests of the model: ill-formed commands, single steps with results worked out from the manual, and for every
statement with hypotheses a concrete state and operands that meet them. -/

namespace Sys2Proof.Tests

open Sys2Proof Sys2Proof.Machine

/-! ### States the tests start from -/

/-- The state after a command. -/
def after (c : Instr) (s : State) : State :=
  match exec c s with
  | .next u => u
  | .fault _ => s
  | .refused _ => s

/-- A part out of reset, in stage `n`, with image `i`. -/
def inStage (n : Nat) (i : Image) : State :=
  { pins := { resetN := true }, img := some i, start := { stage := n, pcieUp := true }, lehr := { state := .govern } }

/-- A READY part alone in its domain that generates the Round and is at angle `a` in SYNC, tooth 0 at time 0. -/
def readyAt (a now : Nat) : State :=
  { inStage 9 {} with
    now := now
    round := { state := .sync, angle := a, position := a / 256, lastEdge := some 0, synced := true, refCommitted := true
               refPeriod := 256000000 }
    part := { doorsOpen := true }, fab := { masterPresent := true } }

/-- The same at time 0 and angle 0.0. -/
def ready0 : State := readyAt 0 0

/-! ### Ill-formed commands -/

theorem test_wf_release : (Instr.resetNRelease 0 false false 4 []).wf = false := by decide
theorem test_wf_release_link : (Instr.resetNRelease 0 false false 0 [⟨5, 0, 1, 0⟩]).wf = false := by decide
theorem test_wf_image : (Instr.imageStage 0 32 0 []).wf = false := by decide
theorem test_wf_memory : (Instr.memoryStage 0 [⟨64, 8, true, [], false, [], false⟩]).wf = false := by decide
theorem test_wf_light : (Instr.lightStage 0 [6] []).wf = false := by decide
theorem test_wf_light_run : (Instr.lightStage 0 [] [⟨32, 0, true⟩]).wf = false := by decide
theorem test_wf_fabric : (Instr.fabricStage 0 [⟨16, 0, 0, 0, 0, 0, false, 0⟩]).wf = false := by decide
theorem test_wf_recovery_door : (Instr.imgRecoveryDoorWrite 0 128 0).wf = false := by decide
theorem test_wf_recovery_done : (Instr.recoveryProgrammingDone 0 true [0, 1]).wf = true := by decide
theorem test_wf_mark : (Instr.roundMark 0 0 ⟨0, 254, 0, 0, 0, 0⟩).wf = false := by decide
theorem test_wf_arm : (Instr.armRequest 0 ⟨5, 0, 0, 0, true, 0⟩).wf = false := by decide
theorem test_wf_slot : (Instr.eventSlotFire 0 64).wf = false := by decide
theorem test_wf_control : (Instr.controlTick 0 ⟨0, [0], [], []⟩).wf = false := by decide
theorem test_wf_claim : (Instr.claimIdleRelease 0 32).wf = false := by decide
theorem test_wf_trip : (Instr.thermalTrip 0 6).wf = false := by decide
theorem test_wf_tile : (Instr.nop 0 4096 0).wf = false ∧ (Instr.fused 0 0 4).wf = false := by decide
theorem test_wf_switch : (Instr.taskSwitch 0 4096).wf = false := by decide
theorem test_wf_signal : (Instr.signal 0 ⟨0, 0, 0, 0, 0, 0, 0, 0, false, 1⟩).wf = false := by decide
theorem test_wf_barrier : (Instr.barrierSlow 0 0 0 16).wf = false ∧ (Instr.barrierSlow 0 3 0 0).wf = false := by decide
theorem test_wf_combine : (Instr.marverCombine 0 64).wf = false ∧ (Instr.rotation 0 0 8).wf = false := by decide
theorem test_wf_replica : (Instr.replicaCopy 0 ⟨64, 0, 0, [], 0⟩).wf = false := by decide
theorem test_wf_channel : (Instr.scrubRead 0 64 .clean).wf = false ∧ (Instr.refresh 0 0 32).wf = false := by decide
theorem test_wf_copy : (Instr.retirementCopyDone 0 0 [⟨2048, .clean⟩]).wf = false := by decide
theorem test_wf_tg : (Instr.tgStart 0 0 64 0).wf = false ∧ (Instr.tgRunEnd 0 0 ⟨0, 0, 0, 65536⟩).wf = false := by decide
theorem test_wf_engine : (Instr.integrationWindow 0 32).wf = false ∧ (Instr.calibrationDone 0 0 65536 true).wf = false := by
  decide
theorem test_wf_source : (Instr.lightSourceLost 0 6).wf = false := by decide
theorem test_wf_flit : (Instr.flitReceive 0 0 []).wf = false ∧ (Instr.flitSend 0 0 5).wf = false := by decide
theorem test_wf_retrain : (Instr.portRetrainDone 0 0 65536 0).wf = false := by decide
theorem test_wf_control_flit : (Instr.controlFlit 0 0 (.identity 0 2048 0 false)).wf = false := by decide
theorem test_wf_reconf : (Instr.reconf 0 0 ⟨0, 16, 0, 0⟩).wf = false := by decide
theorem test_wf_join : (Instr.joinRequest 0 0 ⟨2048, 0, 0, 0, 0, 0, 0⟩).wf = false ∧ (Instr.joinAnswer 0 ⟨0, 4, 0, 0, 0⟩).wf = false := by
  decide
theorem test_wf_beacon : (Instr.beacon 0 0 ⟨0, 0, 65536, 0⟩).wf = false ∧ (Instr.member 0 0 ⟨0, 0, 0, 0, 0⟩).wf = false := by
  decide
theorem test_wf_send : (Instr.sendData 0 ⟨0, 0, true, 0, 0, 0, 0, [([], false)], false, 0⟩).wf = false := by decide
theorem test_wf_function : (Instr.partDoorWrite 0 128 0).wf = false := by decide
theorem test_wf_net : (Instr.tlsHandshake 0 2 0 0).wf = false ∧ (Instr.networkFrame 0 0 0 [] []).wf = false ∧
    (Instr.connectionClose 0 2 0).wf = false := by decide
theorem test_wf_read : (Instr.statusReadLowHalf 0 0 false 2 4).wf = false ∧ (Instr.statusReadHighHalf 0 1 false 4).wf = false := by
  decide
theorem test_wf_bad_size : (Instr.badSizeRead 0 0 0 4).wf = false ∧ (Instr.w1cWrite 0 0 false 2 0).wf = false ∧
    (Instr.registerWrite 0 0 true 4096 4 0).wf = false := by decide
theorem test_wf_smbus : (Instr.smbusStatusRead ⟨0, 0x58, false⟩ 0 64).wf = false ∧ (Instr.smbusPowerSample ⟨0, 0x58, false⟩ 16).wf = false := by decide
theorem test_wf_jtag : (Instr.statusRead 0 2).wf = false ∧ (Instr.bypass 0 0x02).wf = false := by decide

/-! ### The block -/

/-- No row of the table of operations and events gives bits. -/
theorem test_decode_none : decodeTableWord 8 0 = none := by decide

/-- R32: the count advances by 20. -/
theorem test_idle_edge : (match step (readyAt 0 25) with | .next u => u.now | _ => 0) = 40 := by decide

/-- The first command of the queue runs, and the second waits. -/
theorem test_queue_order :
    (match step { ready0 with pending := [.idcode 5, .microTick 9] } with | .next u => (u.pending, u.answer) | _ => ([], [])) =
      ([.microTick 9], [0x14096A8B]) := by decide

/-! ### Number formats: the manual's example of conversions at the edges of range -/

/-- Convert an FP32 value read from storage; code, flags. -/
def conv (code n : Nat) : Nat × Nat := encodeElem code (decodeElem 0 n)

theorem test_e4m3_300 : conv 3 0x43960000 = (0x79, 0) := by decide
theorem test_e4m3_500 : conv 3 0x43FA0000 = (0x7E, nfSaturated) := by decide
theorem test_e5m2_500 : conv 4 0x43FA0000 = (0x60, 0) := by decide
theorem test_fp16_70000 : conv 1 0x4788B800 = (0x7C00, nfOverflow) := by decide
theorem test_bf16_tie : conv 2 0x3F808000 = (0x3F80, 0) := by decide
theorem test_fp16_subnormal : conv 1 0x35800000 = (0x0010, 0) := by decide
theorem test_fp16_underflow : conv 1 0x32800000 = (0, nfUnderflow) := by decide
theorem test_int8_minus_3_5 : conv 5 0xC0600000 = (0xFC, 0) := by decide
theorem test_int8_2_5 : conv 5 0x40200000 = (2, 0) := by decide
theorem test_int8_200_7 : conv 5 0x4348B333 = (127, nfSaturated) := by decide
theorem test_int32_nan : (conv 6 0x7FC00000).1 = 0 := by decide

/-- R202, R203: m = 3.5 and 1.2 give level 44, -3.5 gives -127 and 0.01 gives 0. -/
theorem test_lens_levels :
    (match lensDrive ([0x40600000, 0x3F99999A, 0xC0600000, 0x3C23D70A].map fp32.decode) with
      | .levels _ ds _ => ds.take 4 | _ => []) = [127, 44, -127, 0] := by decide

/-- R203: code 300 with t = 3.5 × 2^-10 gives 1.025390625. -/
theorem test_lens_scale :
    (lensScale (fp32.decode 0x40600000) (fp32.decode 0x3A800000) [300]).1.map fp32.encode = [0x3F834000] := by decide

/-! ### Layouts: the manual's examples -/

/-- Chapter 6: the first message of the example. -/
theorem test_sync_word :
    numAt (syncBytes { kind := 1, device := 5, cluster := 15, tile := 40, index := 7, level := 0, context := 9, gen := 0
                       abort := false, payload := 1 }) 0 8 = 0x000004803D078051 := by decide

/-- Chapter 5: word 0 of the example command. -/
theorem test_command_word :
    let w := [0x0000001700C01631]
    opOf w = 1 ∧ gatherOf w = true ∧ xformOf w = 1 ∧ storeOf w = 2 ∧ swapAfter w = true ∧ poolOf w = 2 ∧ poisonMode w = 0 ∧
      missAbandon w = false ∧ deadlineTicks w = 192 ∧ cmdTag w = 0x17 := by decide

/-- Chapter 5: words 7 and 8 of the example command. -/
theorem test_command_buffers :
    let w := [0, 0, 0, 0, 0, 0, 0, 0x0000000400000000, 0x0000000810220000]
    bufAddrOf w = 0 ∧ halfBytesOf w = 65536 ∧ weightAddr w = 0x20000 ∧ xfK16 w = 8 ∧ xfN16 w = 4 ∧ weightFmt w = 2 := by decide

/-- Chapter 9: index 1,000,003 has its home on device 4, shard 579, entry 488. -/
theorem test_row_home :
    ({ shards := 1024, devFirst := 4, devCount := 2, rows := 1300000000 } : FsTable).home 1000003 = (4, 579, 488) := by decide

/-- Chapter 10: device address, channel, offset and page of the example. -/
theorem test_address :
    let d := 0x40000000 + 0x01334567
    devChan d = 27 ∧ devOff d = 17091943 ∧ devOff d / 65536 = 260 := by decide

/-- Chapter 10: the region's byte. -/
theorem test_region :
    { ready0 with img := some { regions := [{ context := 9, size64k := 16384, ctxBase := 0x010000000000, devBase := 0x40000000 }] } }.devOf
      9 0x010001334567 = some 0x41334567 := by decide

/-! ### Reset and start -/

theorem test_release_rom : (after (.resetNRelease 0 false false 2 []) State.reset).start.stage = 1 := by decide
theorem test_release_test : (after (.resetNRelease 0 false true 0 []) State.reset).start.stage = 11 := by decide
theorem test_assert_clears : (after (.resetNAssert 0) ready0).round.state = .reset := by decide
theorem test_refclk : (after (.refclkStop 0) ready0).start.pcieUp = false := by decide
theorem test_link_up : (after (.pcieLinkUp 0) (after (.refclkStop 0) ready0)).start.pcieUp = true := by decide
theorem test_image_blank :
    let s := after (.imageStage 0 1 1 []) { inStage 1 {} with img := none, nv := { logRoom := 2 } }
    s.start.stage = 10 ∧ s.start.recoveryCause = 2 := by decide
theorem test_image_pin :
    let s := after (.imageStage 0 1 1 [])
      { inStage 1 {} with img := none, nv := { logRoom := 2 }, start := { stage := 1, frcSampled := true } }
    s.start.stage = 10 ∧ s.start.recoveryCause = 1 := by decide
theorem test_recovery_word :
    (after (.imgRecoveryDoorWrite 0 0 0x49344B59)
      { inStage 10 {} with img := none, start := { stage := 10, pcieUp := true, recResult := 1 } }).start.recBuf =
      [0x59, 0x4B, 0x34, 0x49] := by decide

/-- Chapter 14: the ceiling raise of the example: record 1, the setting, and the mirror entry's bytes 8 to 15. -/
theorem test_ceiling_raise :
    let s := after (.ready ⟨0, none⟩)
      { inStage 8 { start := { sequence := 43, rollbackStep := 6 }
                    fuseReqs := [{ kind := 1, serial := 0xA41F37, value := 600 }] } with
        nv := { serial := 0xA41F37, logRoom := 2, fuses := { rollback := 6, log := [{ kind := 2, complete := true, factory := true }] } }
        start := { stage := 8, bootSeq := 318 } }
    s.nv.fuses.ceilingW = 600 ∧ s.nv.fuses.rollback = 6 ∧ s.start.stage = 9 ∧
      s.nv.fuses.log.drop 1 =
        [{ kind := 1, slot := 0, complete := true, imgSeq := 43, old := 450, new := 600, bootSeq := 318 }] ∧
      s.nv.flashRead (logBase + 8) 20 = [1, 1, 0, 0, 0x58, 2, 0, 0, 0, 0, 0, 0, 0x2B, 0, 0, 0, 0x3E, 1, 0, 0] := by decide

/-! ### The Round: the manual's examples -/

/-- A late tooth: with tooth 37 at 0 and the counter at 37.255, tooth 38 after 1,180 us gives 38.0 and one halt. -/
theorem test_late_tooth :
    let s := after (.roundEdge 1180000)
      { readyAt (37 * 256 + 255) 1000000 with img := some { round := { source := 1, samples := [] } } }
    s.round.angle = 38 * 256 ∧ s.round.halts = 1 ∧ (tget s.round.ring 0 {}) = { interval := 1180000, tooth := 38, cls := 0 } := by
  decide

/-- An early tooth: tooth 101 after 850 us jumps over the slots at 100.220, 100.240 and 101.0. -/
theorem test_early_tooth :
    let s := after (.roundEdge 850000)
      { readyAt (100 * 256 + 217) 848000 with
        img := some { round := { source := 1, samples := [] } }
        round := { (readyAt (100 * 256 + 217) 848000).round with
          slots := [(17, { angle := 101 * 256, owner := 4, state := .armed }), (20, { angle := 100 * 256 + 240, owner := 4, state := .armed }),
            (24, { angle := 100 * 256 + 220, offset := 300, owner := 4, state := .armed })] } }
    s.round.jumps = 1 ∧ s.round.fired = 2 ∧ (s.evSlot 24).state = .timing ∧ (s.evSlot 24).fireAt = 850000 ∧
      (after (.eventSlotFire 1150000 24) s).round.fired = 3 ∧ (after (.eventSlotFire 1149000 24) s).round.fired = 2 := by decide

/-- A late reference edge: 3,150 us after tooth 253 the revolution rises and the angle is 0.0. -/
theorem test_late_reference :
    let s := after (.roundEdge 3150000)
      { readyAt 65535 3100000 with
        img := some { round := { source := 1, samples := [] } }
        round := { (readyAt 65535 3100000).round with position := 253, rev := 7, tooth0 := some (-253000000) } }
    s.round.angle = 0 ∧ s.round.rev = 8 ∧ s.round.refPeriod = 256000000 ∧ s.round.learnRefused = 1 := by decide

theorem test_falling_edge : (after (.roundInFallingEdge 5) ready0).round = ready0.round := by decide
theorem test_arm_reached : (after (.armRequest 0 ⟨4, 5, 0, 0, false, 1⟩) (readyAt 9 40000)).answer = [2] := by decide
theorem test_arm_pool : (after (.armRequest 0 ⟨4, 5, 0, 0, true, 1⟩) (readyAt 9 40000)).answer = [0, 16] := by decide

/-! ### Lehr: the manual's examples -/

/-- One part steps up: 2 W/ms, 16 teeth of 1 ms, 300 W, target 420 W: the segment ends at 332 W after 16 ms. -/
theorem test_step_up :
    let i : Image := { pwr := { floorW := 150, ceilingW := 450, slew := 20, stepTeeth := 16, baseW := 420 }, round := { samples := [] } }
    let s0 : State := { readyAt 4 16000 with
      img := some i
      lehr := { state := .govern, setpoint := 300 * 256000000000, floorW := 150, ceilingW := 450, slew := 20, stepTeeth := 16
                ceilEff := 450 * 256000000000 }
      round := { (readyAt 4 16000).round with slots := [(0, { angle := 5, state := .armed })] } }
    let s := after (.microTick 20000) s0
    s.lehr.motion = .segment (332 * 256000000000) ∧
      (after (.segmentEnd 16020000) s).lehr.setpoint = 332 * 256000000000 ∧
      (after (.segmentEnd 16020000) s).lehr.motion = .still := by decide

theorem test_alert_lower :
    (after (.pwrAlertNAssert 0) { ready0 with lehr := { state := .govern, setpoint := 400 * 256000000000, floorW := 150 } }).lehr.setpoint =
      150 * 256000000000 := by decide
theorem test_alert_low_setpoint :
    (after (.pwrAlertNAssert 0) { ready0 with lehr := { state := .govern, setpoint := 100 * 256000000000, floorW := 150 } }).lehr.setpoint =
      100 * 256000000000 := by decide
theorem test_clamp : (after (.controlTick 0 ⟨1200000, [0, 0, 0, 0, 0, 0], [], []⟩) { ready0 with img := none }).lehr.stAdcClamp = true := by decide
theorem test_trip_state : (after (.thermalTrip 0 3) ready0).lehr.state = .tripped := by decide

/-! ### What meets the hypotheses of the statements -/

/-- A READY part at its 10 ms of device time. -/
def late (s : State) : State := { s with now := 10000000 }

theorem witness_StepRunsFront :
    { ready0 with pending := [.idcode 0] }.pending = .idcode 0 :: [] ∧ ready0.pending = [] := by decide

theorem witness_ResetClears : ready0.running = true ∧ ready0.start.recResult ≠ 3 ∧ 0 < slotBase 0 + roundUp 0 65536 + 1 := by decide

theorem witness_ReleaseStartsRom :
    State.reset.pins.resetN = false ∧ (∃ x ∈ [D2dFail.mk 4 1 5 0], x.link < 5 ∧ 4 < x.data + x.spare) ∧
      ∀ x ∈ [D2dFail.mk 4 1 4 0], x.link < 5 → x.data + x.spare ≤ 4 := by decide

theorem witness_PcieLink :
    ready0.running = true ∧ ready0.pins.testEn = false ∧ { ready0 with pins := { testEn := true } }.pins.testEn = true := by decide

/-- FORCE_RECOVERY_N low since the release, one hour ago. -/
def pinHeld : State := { ready0 with now := 3600000000000, pins := { resetN := true, frcLow := true } }

theorem witness_RecoveryPin :
    ready0.pins.frcLow = false ∧ pinHeld.running = true ∧ pinHeld.pins.frcLow = true ∧
      pinHeld.pins.frcSince + (pinHeld.pins.frcHours + 1) * 3600000000000 ≤ (pinHeld.advance 3600000000000).now := by decide

/-- A part in its ROM stage; nothing in its slots. -/
def romDone : State := { inStage 1 {} with img := none }

theorem witness_ImageStageSelects :
    romDone.clocked = true ∧ romDone.start.stage = 1 ∧ romDone.img = none ∧ romDone.start.frcSampled = false ∧
      { romDone.start with frcSampled := true }.frcSampled = true ∧ romDone.nv.slotOrder (fun _ => 1) = [] := by decide

/-- A slot passes the checks in the order of selection: the first half of what the last clause asks for; that a signed image
passes check 9 takes a whole image. -/
theorem witness_ImageStageSelects_order :
    (({ flash := [(0, 0x59), (1, 0x4B), (2, 0x34), (3, 0x49), (4, 1), (5, 0)] } : NonVol).slotOrder fun k => k) = [0] := by decide

theorem witness_MemoryStageClears :
    (inStage 2 {}).clocked = true ∧ (inStage 2 {}).start.stage = 2 ∧ (inStage 2 {}).img.isSome = true ∧ (31 : Nat) < 32 := by decide

theorem witness_LightStageBegins :
    let s := inStage 3 { lens := { engineMask := 0x7FFFFFFF } }
    s.clocked = true ∧ s.start.stage = 3 ∧ s.tiles.tiles = [] ∧ s.lens.flight = [] ∧ s.fab.ports = [] ∧
      bit s.im.lens.engineMask 31 = false := by decide

/-- Stage 4 with no engine masked in, all of them DEGRADED. -/
def lightOver : State :=
  { inStage 4 {} with lens := { lit := true, engines := (List.range 32).map fun n => (n, { state := .degraded }) } }

theorem witness_FabricAndRoundStages :
    lightOver.clocked = true ∧ lightOver.start.stage = 4 ∧ lightOver.lightDone = true ∧ lightOver.im.fab.present = false ∧
      { lightOver with lens := { engines := [(0, { state := .startCal })] } }.lightDone = false ∧
      (inStage 5 { round := { source := 1 } }).start.stage = 5 ∧ (inStage 5 { round := { source := 1 } }).im.round.source ≠ 0 := by
  decide

/-- What training finds on port 15: the far end is device 5 of the domain, over its port 3. -/
def train15 (rx far : Nat) : PortTrain :=
  { port := 15, rxMask := rx, txMask := 0xFFFF, farDomain := far, farDevice := 5, farPort := 3, parentClaim := false, delayNs := 70000 }

theorem witness_FabricAndRoundStages_trained :
    let s := { lightOver with img := some { fab := { present := true, parentPort := 15 } } }
    let g := inStage 5 { round := { source := 0, periodUs := 1311 } }
    s.clocked = true ∧ s.lightDone = true ∧ s.im.fab.present = true ∧ s.litPort 15 = true ∧ (s.port 15).stuck = false ∧
      ([] : List PortTrain).find? (fun x => x.port = 15) = none ∧
      [train15 0x1FFF 0].find? (fun x => x.port = 15) = some (train15 0x1FFF 0) ∧ s.tooNarrow 0x1FFF 0xFFFF = true ∧
      s.tooNarrow 0x3FFF 0xFFFF = false ∧ (1 : Nat) ≠ s.im.fab.domainId ∧ 0 = s.im.fab.domainId ∧ g.clocked = true ∧
      g.start.stage = 5 ∧ g.im.round.source = 0 ∧ g.isMaster = true ∧ 1310720 ≤ g.nominal := by decide

/-- A part of a domain of eight under master `m`, device 3, in stage `n`. -/
def member (n m : Nat) : State :=
  { inStage n { fab := { present := true, deviceId := 3, masterId := m, domainSize := 8, parentPort := 0 } } with
    round := { state := .sync, synced := true }
    fab := { role := 2, masterPresent := true, joined := true, parentActive := 0
             ports := [(0, { state := .up, widthTx := 16, widthRx := 16 }), (1, { state := .up, widthTx := 16, widthRx := 16 })] } }

theorem witness_JoinAndRampStages :
    let s := { inStage 6 {} with round := { synced := true } }
    let r := { inStage 7 {} with round := { synced := true } }
    s.clocked = true ∧ s.start.stage = 6 ∧ s.round.synced = true ∧ s.alone = true ∧ (member 6 3).alone = false ∧
      (member 6 3).isMaster = true ∧ (member 6 3).round.synced = true ∧ (member 6 0).isMaster = false ∧ (member 6 0).alone = false ∧ (inStage 6 {}).round.synced = false ∧ r.start.stage = 7 ∧
      r.joinDone = true ∧ { r.pins with alertLow := true }.alertLow = true ∧ r.pins.alertLow = false ∧
      (r.advance 0).lehr.lossNow = false ∧ { r.lehr with roundLoss := some 0 }.lossNow = true := by decide

theorem witness_StageTimeouts :
    let s := { inStage 6 { round := { source := 1 } } with now := 60000000000 }
    let j := { member 7 0 with now := 120000000000, fab := { (member 7 0).fab with joined := false, joining := true } }
    s.clocked = true ∧ s.start.stage = 6 ∧ s.round.synced = false ∧ s.start.timeoutRound = false ∧
      tget s.start.stageTime 6 0 + s.im.start.syncTimeoutS * 1000000000 ≤ (s.advance 60000000000).now ∧ j.start.stage = 7 ∧
      j.joinDone = false ∧ j.start.timeoutJoin = false ∧
      tget j.start.stageTime 7 0 + j.im.start.joinTimeoutS * 1000000000 ≤ (j.advance 0).now ∧
      { s.start with timeoutRound := true }.timeoutRound = true ∧ { j.start with timeoutJoin := true }.timeoutJoin = true ∧
      (inStage 5 {}).start.stage ≠ 6 ∧ (inStage 8 {}).start.stage ≠ 7 := by decide

theorem witness_ReadyOpensDoors :
    let s := { inStage 8 { start := { rollbackAdvance := true, rollbackStep := 64 } } with nv := { fuses := { rollback := 63 } } }
    Memory.wf s = true ∧ s.start.entry.begun = false ∧ (∀ r ∈ s.im.fuseReqs, r.kind ≠ 5) ∧
      { s.start with bootEntry := some 0 }.bootEntry = some 0 ∧ s.clocked = true ∧ s.start.stage = 8 ∧ (s.advance 0).lehr.state = .govern ∧ s.im.start.rollbackAdvance = true ∧
      s.nv.fuses.rollback < s.im.start.rollbackStep ∧ ({ s with lehr := {} }.advance 0).lehr.state ≠ .govern := by decide

/-- Recovery, a slot being received with 8 bytes so far at time 0. -/
def receiving : State :=
  { inStage 10 {} with img := none, start := { stage := 10, pcieUp := true, recResult := 1, recBuf := List.replicate 8 0 } }

theorem witness_RecoveryDoor :
    ready0.start.pcieUp = true ∧ ready0.start.stage ≠ 10 ∧ receiving.start.pcieUp = true ∧ receiving.start.stage = 10 ∧
      receiving.start.recResult = 1 ∧ receiving.start.recTotal = 0 ∧ receiving.start.recBuf.length < 12 ∧
      receiving.start.recAt + 10000000000 ≤ (receiving.advance 10000000000).now ∧
      { receiving.start with recResult := 3 }.recResult = 3 ∧ Memory.wf receiving = true := by decide

theorem witness_StagesInOrder : ∃ u, exec (.roundStage 0) ready0 = .next u := ⟨_, rfl⟩

/-- A part with a line Round of 1 ms teeth. -/
def lined (r : RoundSt) : State := { inStage 9 { round := { source := 1, samples := [] } } with round := r }

theorem witness_FirstEdgeAndGlitch :
    let s := lined { state := .seek }
    let k := lined { state := .stall }
    let g := lined { state := .lost, lastEdge := some 0 }
    s.running = true ∧ s.im.round.source = 1 ∧ s.im.round.outMode ≠ 2 ∧ s.round.lastEdge = none ∧ s.round.state = .seek ∧
      ((s.advance 500).now - s.round.lastArrival) * 256 < s.im.round.stallTeeth * s.refPeriod ∧ k.round.state = .stall ∧
      g.round.lastEdge = some 0 ∧ g.round.state ≠ .reset ∧ g.round.state ≠ .stall ∧
      ((g.advance 499999).now - g.round.lastArrival) * 256 < g.im.round.stallTeeth * g.refPeriod ∧
      2 * ((((g.advance 499999).now : Int) - g.im.round.lineDelay - 0).toNat * 256) < g.refPeriod := by decide

theorem witness_SeekCollects :
    let s := lined { state := .seek, lastEdge := some 0, seek := List.replicate 14 1000000 }
    s.running = true ∧ s.im.round.source = 1 ∧ s.im.round.outMode ≠ 2 ∧ s.round.lastEdge = some 0 ∧ s.round.state = .seek ∧
      s.round.refCommitted = false ∧ s.round.seek.length < 15 ∧
      ((s.advance 1000000).now - s.round.lastArrival) * 256 < s.im.round.stallTeeth * s.refPeriod ∧
      s.classOf (((s.advance 1000000).now : Int) - s.im.round.lineDelay - 0).toNat = 0 := by decide

theorem witness_StallTimeout :
    let s := lined { state := .lost }
    s.running = true ∧ s.im.round.source ≠ 0 ∧ s.round.state = .lost ∧
      s.im.round.stallTeeth * s.refPeriod ≤ ((s.advance 8000000).now - s.round.lastArrival) * 256 := by decide

/-- READY with no sample angle, at angle `a` and time `now`. -/
def bare (a now : Nat) : State := { readyAt a now with img := some { round := { samples := [] } } }

theorem witness_MicroTick :
    let s := bare 254 900000
    s.running = true ∧ s.round.state = .sync ∧ s.round.angle < s.round.haltAngle ∧
      (s.round.angle + 1 - s.round.position * 256) * s.refPeriod ≤
        (((s.advance 996094).now : Int) - s.round.lastEdge.getD ((s.advance 996094).now : Int)).toNat * 65536 ∧
      (∀ x ∈ s.im.round.samples, x.1 ≠ s.round.angle + 1) ∧ { s.im.round with outMode := 0 }.outMode ≠ 1 ∧
      s.round.deferred = [] ∧ ∀ p ∈ s.round.slots, p.2.state = .armed → p.2.angle ≠ s.round.angle + 1 := by decide

theorem witness_DeviceTimeAngle :
    let s := lined { state := .seek, devAngle := 65535 }
    s.running = true ∧ s.round.state ≠ .reset ∧ s.round.state ≠ .sync ∧
      s.round.devBase + s.refPeriod ≤ (s.advance 3907).now * 65536 := by decide

theorem witness_GeneratedTooth :
    let s := { bare (252 * 256 + 255) 999999 with
      img := some { round := { samples := [(0, 0xFF)], outMode := 0 } }
      round := { (bare (252 * 256 + 255) 999999).round with lastEdge := some ((0 : Nat) : Int) } }
    s.running = true ∧ s.round.state = .sync ∧ s.im.round.source = 0 ∧ s.inDomain 6 = false ∧ s.round.refCommitted = true ∧
      s.round.refPeriod = s.nominal ∧ 256 ∣ s.nominal ∧ 0 < s.nominal ∧ s.round.position < 253 ∧
      s.round.position * 256 ≤ s.round.angle ∧ s.round.angle ≤ s.round.haltAngle ∧ (1000000 : Nat) = 0 + s.nominal / 256 ∧
      s.now ≤ 1000000 ∧ s.round.slots = [] ∧ s.round.deferred = [] ∧ s.round.waiting = [] ∧ s.im.round.outMode ≠ 1 ∧
      ∀ x ∈ s.im.round.samples, x.1 = 0 := by decide

theorem witness_RoundMark :
    let s := member 6 0
    s.inDomain 6 = true ∧ s.isMaster = false ∧ (s.port 0).carries = true ∧ 0 = s.fab.parentActive ∧ s.im.round.source ≠ 2 ∧
      (s.port 1).carries = true ∧ 1 ≠ s.fab.parentActive := by decide

/-- Every slot of the pool is armed. -/
def poolFull : State :=
  { ready0 with round := { ready0.round with slots := (List.range 64).map fun n => (n, { angle := 9, state := .armed }) } }

theorem witness_ArmRequest :
    let q : ArmReq := ⟨4, 5, 0, 0, false, 1⟩
    ready0.ownerAsks q = true ∧ ready0.ownerAsks ⟨0, 5, 1, 0, true, 1⟩ = false ∧
      ready0.running = true ∧ ready0.round.jumping = false ∧ q.wf = true ∧ (lined { state := .lost }).angleValid = false ∧
      ready0.angleValid = true ∧ (readyAt 5 0).reached q.rev q.angle = true ∧ (readyAt 4 0).reached q.rev q.angle = false ∧
      (readyAt 4 0).freeSlot q.owner = some 16 ∧ poolFull.freeSlot 4 = none ∧ poolFull.freeSlot 2 = none ∧
      poolFull.reached q.rev q.angle = false := by decide

theorem witness_EventSlotFire :
    let s := { bare 4 16000 with round := { (bare 4 16000).round with slots := [(63, { angle := 5, offset := 1, owner := 4, state := .armed })] } }
    let e := { ready0 with round := { ready0.round with slots := [(15, { owner := 4, offset := 2, state := .timing, fireAt := 5 })] } }
    s.running = true ∧ s.round.state = .sync ∧ s.round.angle < s.round.haltAngle ∧
      (s.round.angle + 1 - s.round.position * 256) * s.refPeriod ≤
        (((s.advance 19532).now : Int) - s.round.lastEdge.getD ((s.advance 19532).now : Int)).toNat * 65536 ∧
      s.slotsAt (s.round.angle + 1) = [63] ∧ 0 < (s.evSlot 63).offset ∧ (e.evSlot 15).state = .timing ∧ e.slotsWith 15 = [15] ∧
      { e with round := { e.round with slots := [(14, { owner := 4, offset := 2, state := .timing, fireAt := 5 }),
        (15, { owner := 4, offset := 2, state := .timing, fireAt := 5 })] } }.slotsWith 15 = [14, 15] ∧ e.round.deferred = [] ∧
      (e.evSlot 15).fireAt + (e.evSlot 15).offset * 1000 ≤ (e.advance 2005).now ∧ (e.evSlot 15).owner = 4 ∧
      (e.advance 2004).now < (e.evSlot 15).fireAt + (e.evSlot 15).offset * 1000 ∧ (e.evSlot 14).state ≠ .timing := by decide

theorem witness_SetpointRests :
    let s := { ready0 with lehr := { state := .govern, motion := .segment 7, setpoint := 7 } }
    let h := { ready0 with lehr := { state := .govern, motion := .segment 7, setpoint := 7, holdPending := true } }
    let p := { ready0 with lehr := { state := .start, motion := .plateau, setpoint := 120 * 256000000000 } }
    (s.advance 0).lehr.motion = .segment 7 ∧ (s.advance 0).lehr.setpoint = 7 ∧ s.lehr.holdPending = false ∧
      (h.advance 0).lehr.motion = .segment 7 ∧ (h.advance 0).lehr.setpoint = 7 ∧ h.lehr.holdPending = true ∧ h.lehr.holdExpired = false ∧
      (p.advance 0).lehr.motion = .plateau ∧ (p.advance 0).lehr.setpoint = 120 * 256000000000 := by decide

theorem witness_ControlTick :
    let g := { ready0 with lehr := { ready0.lehr with setpoint := 100 * 256000000000 } }
    ready0.running = true ∧ (1100001 : Nat) > 1100000 ∧ (ready0.advance 0).governs = true ∧
      uToMw (g.advance 0).lehr.setpoint * 101 < min 101001 1100000 * 100 ∧
      min 98999 1100000 * 100 < uToMw (g.advance 0).lehr.setpoint * 99 ∧ { ready0 with img := none }.img = none := by decide

theorem witness_ClaimsAndHolds :
    let s := { ready0 with lehr := { state := .hold, idleRevs := [(31, 16)], roundLoss := some 0, holdNs := 60000000000 } }
    s.partitionBusy 31 = false ∧ s.im.pwr.idleRev ≤ tget s.lehr.idleRevs 31 0 ∧ tget s.lehr.idleRevs 30 0 < s.im.pwr.idleRev ∧ s.lehr.state = .hold ∧
      s.lehr.lossNow = true ∧ s.lehr.holdExpired = false ∧ s.im.pwr.holdS * 1000000000 ≤ (s.advance 0).lehr.holdNs := by decide

theorem witness_Alert :
    let l := { ready0 with lehr := { state := .alert, roundLoss := some 0 } }
    let a := { ready0 with lehr := { state := .alert } }
    ready0.running = true ∧ ready0.pins.alertLow = false ∧ (ready0.advance 0).lehr.state = .govern ∧ l.lehr.state = .alert ∧
      l.lehr.lossNow = true ∧ l.lehr.holdExpired = false ∧ a.lehr.lossNow = false := by decide

theorem witness_ThermalTrip :
    ready0.running = true ∧ ready0.lehr.state ≠ .tripped ∧ ready0.start.stage ≠ 8 ∧ (inStage 8 {}).start.stage = 8 ∧
      (inStage 8 {}).lehr.state ≠ .tripped ∧ (inStage 8 {}).start.entry.cur = none := by decide

/-! Tiles and stream commands. -/

/-- The bytes of a command of operation `op` (not 0) that names no counter and no transform. -/
def cmdCells (op : Nat) : List Host.Cell :=
  [(0, BitVec.ofNat 8 op), (8, 0xFF), (9, 0x0F), (10, 1), (36, 1), (42, 1), (59, 1), (66, 4), (67, 4)]

/-- The same as its words. -/
def cmdOf (op : Nat) : List Nat := [op, 0x10FFF, 0, 0, 0x100000000, 0x10000, 0, 0x1000000, 0x4040000, 0, 0, 0, 0, 0, 0, 0]

/-- A READY part with task `k` in slot 0 of tile 0 for parcel 7, and `m` in channel 0. -/
def withTask (k : Task) (m : List Host.Cell) : State :=
  { bare 0 0 with
    tiles := { tiles := [(0, { tasks := [(0, k)] })] }
    mem := { trained := true, cells := m, chans := [(0, { state := 1 })] } }

def k0 : Task := { state := .running, parcel := 7 }

theorem witness_CommandsRead :
    let f := withTask k0 (cmdCells 1)
    let e := withTask k0 (cmdCells 3)
    let n := withTask k0 ((cmdCells 3).drop 1)
    (f.task 0 0).state.live = true ∧ f.lehr.gateIssue = false ∧ f.clocked = true ∧ (f.task 0 0).cmds.length < 32 ∧
      f.cmdWords k0 0 = (cmdOf 1, false) ∧ opOf (cmdOf 1) = 1 ∧ e.cmdWords k0 0 = (cmdOf 3, false) ∧ opOf (cmdOf 3) = 3 ∧
      n.cmdWords k0 0 = (cmdOf 0, false) ∧ opOf (cmdOf 0) = 0 ∧ 3 < opOf [4] ∧ (∀ c ∈ k0.cmds, opOf c.words ≠ 3) ∧
      k0.partition < 32 ∧ (f.partEntry 0).rate = 0 ∧
      ({ f with img := some { round := { samples := [] }, partPlan := [{ rate := 1 }] } }.partEntry 0).rate ≠ 0 := by
  decide

/-- Parcel 7 of context 0. -/
def parcel7 : Parcel :=
  { id := 7, via := .pcie 0, context := 0, report := 0, tag := 0, serial := 1, epoch := 0, claimW := 0, exact := false, relAngle := 0
    relRev := 0, limitRev := 0, base := 0, len := 224, sections := [], state := .running, tasks := [(0, 0)] }

/-- A READY part whose task has read the words of its first command. -/
def wordsHere (ws : List Nat) (bad : Bool) : State :=
  { withTask { k0 with cmds := [{ words := ws, badWords := bad, phase := .read }] } [] with part := { parcels := [parcel7] } }

theorem witness_CommandsRefused :
    let w := (1 : Nat) :: 0x10FC0 :: (cmdOf 1).drop 2
    let k := fun (s : State) => s.task 0 0
    let s := wordsHere (cmdOf 1) false
    (k s).state.live = true ∧ (k s).cmds.find? Cmd.unread = some { words := cmdOf 1, phase := .read } ∧
      ((k (wordsHere (cmdOf 1) true)).cmds.find? Cmd.unread).map Cmd.badWords = some true ∧
      s.cmdValid (k s) (cmdOf 1) = true ∧ cmdForeign (k s) (cmdOf 1) = false ∧ s.cmdValid (k s) [4] = false ∧
      s.cmdValid (k s) w = true ∧ cmdForeign (k s) w = true ∧ s.parcel 7 = some parcel7 ∧ (0, 0) ∈ parcel7.tasks := by decide

/-- A command at the front of a task. -/
def atFront (c : Cmd) : State := withTask { k0 with cmds := [c] } []

/-- A READY part with parcel 7 whose task 0 waits at a DRAIN, and record 15 of its cluster, 127 of the partition or domain. -/
def atDrain (c : Cmd) : State :=
  { atFront c with
    part := { parcels := [parcel7] }
    sync := { clusterBar := [(15, { active := true, parcel := 7, expected := 2 })]
              partBar := [(127, { active := true, parcel := 7, expected := 2 })] } }

theorem witness_DrainRuns :
    let c : Cmd := { words := cmdOf 2 }
    let d : Cmd := { words := (cmdOf 2).set 0 0x10000000002 }
    let e : Cmd := { words := (cmdOf 2).set 0 0x20000000002 }
    let f : Cmd := { words := (cmdOf 2).set 0 0x40000000002 }
    let two := { parcel7 with tasks := [(0, 0), (1, 0)] }
    opOf c.words = 2 ∧ c.phase = .waiting ∧ drainFlush c.words = false ∧ (atFront c).waitMet 0 c.words = true ∧
      drainScope c.words = 0 ∧ drainScope f.words = 0 ∧ drainFlush f.words = true ∧ drainScope d.words = 1 ∧
      drainFlush d.words = false ∧ (atDrain d).recordOf 0 0 7 = some 15 ∧ (atDrain d).clocked = true ∧ drainScope e.words = 2 ∧
      drainFlush e.words = false ∧ (atDrain e).recordOf 1 0 7 = some 127 ∧ (atDrain e).parcel 7 = some parcel7 ∧
      ((atDrain e).updCmd 0 0 0 fun x => { x with phase := .barrier, gen := 0 }).arrivedIn 7 0 2 0 = 1 ∧
      (parcel7.tasks.filter fun x => x.1 / 64 = 0).length ≤ 1 ∧ 1 < (two.tasks.filter fun x => x.1 / 64 = 0).length := by decide

theorem witness_FetchPhaseStarts :
    let c : Cmd := { words := cmdOf 1 }
    let s := atFront c
    (s.task 0 0).state.live = true ∧ (s.task 0 0).closed = false ∧ s.lehr.gateIssue = false ∧ s.clocked = true ∧
      s.nextFetch 0 (s.task 0 0).cmds = some c ∧ s.waitMet 0 c.words = true ∧ (s.task 0 0).opened = false ∧
      { k0 with opened := true }.opened = true ∧ s.nextFetch 0 [] = none ∧ { k0 with closed := true }.closed = true := by decide

theorem witness_BuffersSwap :
    let k := { k0 with closed := true, cmds := [{ words := cmdOf 1, phase := .fetching }] }
    let s := withTask k []
    k.state.live = true ∧ k.closed = true ∧ k.computing = none ∧ s.awaits 0 0 = false ∧ s.clocked = true ∧ k0.closed = false ∧
      { k with cmds := [{ phase := .computing }] }.computing.isSome = true ∧
      (withTask { k with cmds := [{ phase := .indexing }] } []).awaits 0 0 = true := by decide

theorem witness_CommandCompletes :
    let c : Cmd := { words := cmdOf 1, phase := .storing }
    let d : Cmd := { words := (cmdOf 2).set 1 0x10000, phase := .storing }
    let n : Cmd := { words := cmdOf 0 }
    (atFront c).clocked = true ∧ opOf c.words = 1 ∧ c.refuse = false ∧ c.complete = true ∧ ((atFront c).task 0 0).state.live = true ∧
      signalCtr c.words = 63 ∧ opOf d.words = 2 ∧ d.complete = true ∧ signalCtr d.words ≠ 63 ∧ { c with stores := 1 }.complete = false ∧
      opOf n.words = 0 ∧ n.phase = .waiting ∧ (atFront n).waitMet 0 n.words = true ∧ (atFront n).lehr.gateIssue = false := by
  decide

theorem witness_TasksSwitch :
    let k := { k0 with closed := true, cmds := [{ phase := .indexing }] }
    let s := { bare 0 0 with tiles := { tiles := [(4095, { tasks := [(0, k), (3, { state := .ready })] })] } }
    let r := { s with img := some { round := { samples := [] }, tile := { rtMask := 1 } } }
    (s.tile 4095).tasks.find? (fun p => p.2.state = .running) = some (0, k) ∧ s.nextReady 4095 = some 3 ∧ s.late 4095 0 = true ∧
      s.isRt k.context = false ∧ s.clocked = true ∧ (withTask k0 []).late 0 0 = false ∧ r.isRt (r.task 4095 3).context = true ∧
      (r.task 4095 0).state = .running ∧ r.nextReady 4095 = some 3 := by decide

theorem witness_DeadlineMisses :
    let c : Cmd := { words := (cmdOf 1).set 0 0x10001, phase := .storing, stores := 1, issued := true, issueValid := true }
    let s := { withTask { k0 with cmds := [c] } [] with img := some { tile := { rtMask := 1 }, round := { samples := [] } } }
    let r := { s with round := { s.round with angle := 1 } }
    (r.task 0 0).cmds = [c] ∧ (r.task 0 0).state.live = true ∧ r.clocked = true ∧ r.deadlineOpen (r.task 0 0) c = true ∧
      r.closeReached c = true ∧ c.complete = false ∧ missAbandon c.words = false ∧ s.closeReached c = false ∧
      { c with stores := 0 }.complete = true ∧ c.late = none := by decide

/-! Synchronisation. -/

/-- Parcel 7 owns counter 47 and held word 511 of tile 4095; one READY part. -/
def owned (sy : SyncSt) : State := { bare 0 0 with sync := sy, part := { doorsOpen := true, parcels := [parcel7] } }

theorem witness_Signals :
    let m : SyncMsg := ⟨1, 0, 63, 63, 47, 0, 0, 0, false, 1⟩
    let s := owned { counters := [(ctrKey 4095 47, { count := 0xFFFFFFFD, owner := 8 })] }
    let f := owned { counters := [(ctrKey 4095 47, { count := 0xFFFFFFFE, owner := 8 })] }
    let g := owned { counters := [(ctrKey 4095 47, { count := 0xFFFFFFFE, owner := 8, satRaised := true })] }
    let e := owned { counters := [(ctrKey 4095 47, { count := 0xFFFFFFFF, owner := 8 })] }
    m.kind = 1 ∧ (s.advance 0).clocked = true ∧ s.start.stage = 9 ∧ m.index < 48 ∧ m.tile < 64 ∧
      s.ownerContext (s.counter 4095 47).owner = some m.context ∧ (s.counter 4095 47).count + m.payload < 0xFFFFFFFF ∧
      s.sync.watches = [] ∧ s.sync.sendWatches = [] ∧ f.ownerContext (f.counter 4095 47).owner = some m.context ∧
      (f.counter 4095 47).count < 0xFFFFFFFF ∧ 0xFFFFFFFF ≤ (f.counter 4095 47).count + m.payload ∧
      (f.counter 4095 47).satRaised = false ∧ (g.counter 4095 47).satRaised = true ∧ (e.counter 4095 47).count = 0xFFFFFFFF ∧
      waitCtr [0, 47] = 47 ∧ s.ownerContext (s.counter 4095 46).owner ≠ some m.context ∧
      (let r := inStage 5 {}
       m.kind = 1 ∧ (r.advance 0).clocked = true ∧ 5 ≤ r.start.stage ∧ r.start.stage ≤ 9 ∧ r.start.stage ≠ 9) ∧
      (let r := inStage 4 {}; (r.advance 0).clocked = true ∧ r.start.stage < 5) := by decide

theorem witness_Fills :
    let m : SyncMsg := ⟨2, 0, 63, 63, 511, 0, 0, 0, false, 1⟩
    let s := owned { heldOwner := [(4095 * 512 + 511, 8)] }
    let q := { s with tiles := { full := [4095 * 512 + 511] } }
    let d := { q with sync := { s.sync with csus := [(63, { hfq := List.replicate 64 (4095, 511, 1) })] } }
    let r := { q with sync := { s.sync with csus := [(63, { hfq := List.replicate 64 (4095, 511, 1), dropRaised := true })] } }
    m.kind = 2 ∧ (s.advance 0).clocked = true ∧ s.start.stage = 9 ∧ m.tile < 64 ∧
      s.ownerContext (s.heldOwnerOf 4095 511) = some m.context ∧ s.heldFull 4095 511 = false ∧ q.heldFull 4095 511 = true ∧
      (q.csu 63).hfq.length < 64 ∧ 64 ≤ (d.csu 63).hfq.length ∧ (d.csu 63).dropRaised = false ∧ (r.csu 63).dropRaised = true ∧
      (d.csu 63).hfq = [] ++ (4095, 511, 1) :: List.replicate 63 (4095, 511, 1) ∧ (s.csu 63).hfq = [] ∧
      s.ownerContext (s.heldOwnerOf 4095 510) ≠ some m.context ∧
      (let r := inStage 5 {}
       (r.advance 0).clocked = true ∧ 5 ≤ r.start.stage ∧ r.start.stage ≤ 9 ∧ r.start.stage ≠ 9) ∧
      (let r := inStage 4 {}; (r.advance 0).clocked = true ∧ r.start.stage < 5) := by decide

theorem witness_BarrierMessages :
    let s := owned { clusterBar := [(63 * 16 + 15, { active := true, gen := 65535, expected := 3, arrived := 1 })] }
    let b := s.bar 0 63 15
    (s.advance 0).clocked = true ∧ s.start.stage = 9 ∧ b.active = true ∧ b.withheld = false ∧ b.gen = 65535 ∧
      b.arrived + 1 < b.expected ∧ (0 : Nat) ≠ b.gen ∧ 0 = (b.gen + 1) % 65536 ∧ (1 : Nat) < 2 ∧
      b.arrived + 2 = b.expected ∧ b.nextArrived = 0 := by decide

/-- Domain record 5 at its master, and on another member of the domain with a task in it; a release for a waiting task. -/
theorem witness_BarrierMessages_domain :
    let m := { member 9 3 with
      sync := { domBar := [(5, { active := true, gen := 2, expected := 2, arrived := 1 })] } }
    let r := { member 9 0 with part := { doorsOpen := true, parcels := [{ parcel7 with domUsed := true, domRecord := 5 }] } }
    let own := { r with sync := { domOwn := [(5 * 65536 + 2, (1, false))] } }
    let q : SyncMsg := ⟨3, 0, 0, 0, 5, 2, 0, 2, false, 1⟩
    let k : Cmd := { words := [] }
    (m.advance 0).clocked = true ∧ m.start.stage = 9 ∧ m.isMaster = true ∧ (m.bar 2 0 5).active = true ∧
      (m.bar 2 0 5).arrived + q.payload = (m.bar 2 0 5).expected ∧ m.scheduledPlan 5 = none ∧ r.isMaster = false ∧
      q.device ≠ r.deviceId ∧ (tget r.sync.domOwn (5 * 65536 + 2) (0, false)).1 = 0 ∧ (tget own.sync.domOwn (5 * 65536 + 2) (0, false)).2 = false ∧
      0 < (tget own.sync.domOwn (5 * 65536 + 2) (0, false)).1 + (0 + q.payload) ∧
      ((withTask { k0 with cmds := [k] } []).task 0 0).state ≠ .free := by decide

theorem witness_BarrierSlow :
    let s := { owned { partBar := [(127, { active := true, firstArrival := some 0 })] } with now := 1000000000 }
    let b := s.bar 1 0 127
    b.firstArrival = some 0 ∧ b.active = true ∧ b.slowRaised = false ∧
      0 + s.im.sync.slowMs * 1000000 ≤ (s.advance 0).now ∧ (s.bar 2 0 127).active = false := by decide

/-- A combine of one member and no rows in slot 7 of cluster 63, done action: signal to counter 0 of tile 0. -/
def combine7 : Combine :=
  ⟨0, 7, true, 1, 0, 0, 0, 1, 64, 0x3F800000, ⟨1, 0, 0, 0, 0, 0, 0, 0, false, 1⟩, 0⟩

/-- A ring of two members in slot 7 of cluster 63. -/
def ring7 (ended : List Nat) (landed : Nat) : Ring := ⟨62, 2, 3, 0x3FF80, 64, 0, 7, ended, landed, []⟩

theorem witness_CombinesAndRotations :
    let s := owned { combines := [(63 * 8 + 7, combine7)], due := [(0, 63 * 8 + 7)] }
    let d := owned { combines := [(63 * 8 + 7, combine7)], combining := [63 * 8 + 7] }
    let r := owned { rings := [(63 * 8 + 7, ring7 [1, 1] 0)] }
    s.clocked = true ∧ (∀ k ∈ s.sync.combining, k / 8 ≠ 63) ∧ s.sync.due.find? (fun x => x.2 / 8 = 63) = some (0, 63 * 8 + 7) ∧
      tfind s.sync.combines (63 * 8 + 7) = some combine7 ∧ d.sync.combining.contains (63 * 8 + 7) = true ∧
      combine7.writes = 0 ∧ { combine7 with writes := 1 }.writes ≠ 0 ∧
      combine7.doneMsg.device = d.deviceId ∧ combine7.doneMsg.kind = 1 ∧ Memory.wf r = true ∧
      tfind r.sync.rings (63 * 8 + 7) = some (ring7 [1, 1] 0) ∧ 2 ≤ (ring7 [1, 1] 0).size ∧
      (ring7 [1, 1] 0).area + 2 * (ring7 [1, 1] 0).sliceBytes ≤ 0x40000 ∧
      (∀ n ∈ (ring7 [1, 1] 0).ended, (ring7 [1, 1] 0).next ≤ n) ∧ ∃ n ∈ (ring7 [1, 0] 0).ended, n < (ring7 [1, 0] 0).next := by decide

/-! The feature store. -/

/-- Table 0 of 64 shards on this part, read by context 0. -/
def table0 (live : Bool) : FsTable := { live := live, rows := 128, readers := 1 }

/-- A READY part with that table and `f` in its store, channels 1 and 63 in service. -/
def stored (live : Bool) (f : FsSt) : State :=
  { bare 0 0 with
    img := some { round := { samples := [] }, tables := [table0 live] }, fs := f
    mem := { chans := [(1, { state := 1 }), (63, { state := 1 })] } }

def rowReq (r : Nat) : RowReq :=
  { table := 0, row := r, bytes := 64, whom := .tile ⟨0, 0, 0, 64, 2, 0, 0, false⟩, context := 0, since := 0, tag := 5 }

def rowResp (r : Nat) : RowResp := { req := rowReq r, bytes := List.replicate 64 (1, false) }

theorem witness_RowsServed :
    let s := stored false { reqs := [rowReq 1, rowReq 63], rowMap := [(rmKey 63 0, { shard := 63, valid := true })] }
    let t := { atFront { words := cmdOf 1, phase := .fetching } with fs := { resps := [rowResp 1] } }
    let u := { stored false { remoteReqs := [rowReq 1] } with now := 10000000 }
    s.clocked = true ∧ s.fs.reqs[0]? = some (rowReq 1) ∧ s.inService (shardChan 1) = true ∧ s.inService (shardChan 63) = true ∧
      s.inService (shardChan 2) = false ∧ { s with fs := { reqs := [rowReq 2] } }.fs.reqs[0]? = some (rowReq 2) ∧ s.im.table 0 = some (table0 false) ∧
      (s.rowMap (s.homeKey (table0 false) 1).1 (s.homeKey (table0 false) 1).2).valid = false ∧ s.fs.reqs[1]? = some (rowReq 63) ∧
      (s.rowMap (s.homeKey (table0 false) 63).1 (s.homeKey (table0 false) 63).2).valid = true ∧
      s.failedPasses [⟨1, true⟩, ⟨1, true⟩, ⟨1, true⟩, ⟨1, false⟩] = 3 ∧
      s.failedPasses [⟨1, true⟩, ⟨1, true⟩, ⟨1, true⟩, ⟨1000000, false⟩] = 4 ∧ (rowReq 1).whom.remote = false ∧
      t.fs.resps[0]? = some (rowResp 1) ∧
      (rowResp 1).pending = 0 ∧ { rowResp 1 with pending := 2 }.pending ≠ 0 ∧ t.clocked = true ∧ (rowReq 1).also = [] ∧
      t.lives ⟨0, 0, 0, 64, 2, 0, 0, false⟩ = true ∧ t.lives ⟨0, 1, 0, 64, 2, 0, 0, false⟩ = false ∧ Memory.wf t = true ∧
      u.fs.remoteReqs.find? (fun q => q.tag = 5) = some (rowReq 1) ∧ (rowReq 1).since + 10000000 ≤ (u.advance 0).now ∧
      (s.advance 0).now < (rowReq 1).since + 10000000 := by decide

/-- Row 1 held as a replica, and a table whose rows lie on a part that is not a member. -/
theorem witness_RowsServed_replicas :
    let r : Replica := { table := 0, row := 1, cc := false, bytes := List.replicate 64 (1, false) }
    let s := stored false { reqs := [rowReq 1], replicas := [r] }
    let f := { stored false { reqs := [rowReq 1] } with
      img := some { tables := [{ table0 false with devFirst := 4 }], fab := { present := true, deviceId := 3 } } }
    let q : RowReq := { rowReq 1 with whom := .device 4 0 0 0 none }
    s.clocked = true ∧ s.fs.reqs[0]? = some (rowReq 1) ∧ (rowReq 1).whom.remote = false ∧
      ((s.fs.replicas.find? fun x => x.table = 0 && x.row = 1 && x.cc == true).orElse
        fun _ => s.fs.replicas.find? fun x => x.table = 0 && x.row = 1 && x.cc == false) = some r ∧
      s.failedPasses [⟨1, true⟩, ⟨1, false⟩] < 4 ∧ f.im.table 0 = some { table0 false with devFirst := 4 } ∧ f.fs.replicas = [] ∧
      (FsTable.home { table0 false with devFirst := 4 } 1).1 ≠ f.deviceId ∧ f.admitted 4 = false ∧ f.clocked = true ∧
      q.whom.remote = true := by decide

def entry (unload : Bool) : Entry := { letter := 3, context := 0, table := 0, row := 1, unload := unload, bytes := [], stage := 0 }

theorem witness_LettersApplied :
    let v : Tab RowMap := [(rmKey 1 0, { shard := 1, valid := true })]
    let w := stored false { entries := [entry false], rowMap := v }
    let l := stored true { entries := [entry false], rowMap := v, changed := [(rmKey 1 0, 0)] }
    let x := stored true { entries := [entry true], rowMap := v }
    let e := stored true { settles := [⟨0, 0, 0, 5, false, none⟩, ⟨0, 0, 64, 5, true, none⟩] }
    let d : Letter := ⟨3, .pcie 0, 0, 0, 0, 1, 0, 0, 64, 0, 0⟩
    w.entryAt 0 false = some (entry false, table0 false) ∧ (entry false).origin = none ∧ w.fs.replicas = [] ∧ w.fs.holders = [] ∧
      (table0 false).live = false ∧ (w.rowMap 1 0).valid = true ∧ w.inService (shardChan 1) = true ∧
      { w with mem := {} }.inService (shardChan 1) = false ∧ w.homeKey (table0 false) 1 = (1, 0) ∧
      x.entryAt 0 true = some (entry true, table0 true) ∧ l.entryAt 0 false = some (entry false, table0 true) ∧
      (l.advance 1000000).settled 1 0 = true ∧ e.fs.settles[0]? = some ⟨0, 0, 0, 5, false, none⟩ ∧ (e.advance 4).now < 5 ∧ 5 ≤ (e.advance 5).now ∧
      e.fs.settles[1]? = some ⟨0, 0, 64, 5, true, none⟩ ∧ e.clocked = true ∧
      l.settled 1 0 = false ∧ { l with fs := { l.fs with written := [(rmKey 1 0, 0)] } }.past [(rmKey 1 0, 0)] 1 0 = false ∧
      (l.advance 1000000).past [(rmKey 1 0, 0)] 1 0 = true ∧ w.freeCell 1 = some 0 ∧ w.settled 1 0 = true ∧
      { e with part := { letters := [d] } }.part.letters.find? (fun l => l.id = 3) = some d ∧ d.left = 0 := by decide

theorem witness_Replicas :
    let m : ReplicaMsg := ⟨0, 1, 9, List.replicate 64 (1, false), 0⟩
    let s := stored true {}
    let h := stored true { holders := [⟨0, 1, [9], [9], 0⟩], entries := [{ entry false with stage := 1 }] }
    let h2 := stored true { holders := [⟨0, 1, [8, 9], [8, 9], 0⟩] }
    let r := { stored true { replicas := [{ table := 0, row := 1, cc := false, bytes := [] }] } with
      img := some { tables := [{ table0 true with devFirst := 4 }], fab := { present := true, deviceId := 3 } } }
    s.clocked = true ∧ ({ m with bytes := [(0, true)] } : ReplicaMsg).bytes.any Prod.snd = true ∧ m.bytes.any Prod.snd = false ∧
      s.replicaHere 0 1 false = false ∧ s.fs.replicas = [] ∧
      s.replicaUsed false + s.replicaSize 0 ≤ s.replicaRoom false ∧ (h.holdersOf 0 1).awaiting.contains 9 = true ∧
      (h.holdersOf 0 1).awaiting.erase 9 = [] ∧ (h.holdersOf 0 1).since + 10000000 ≤ (h.advance 10000000).now ∧
      (h.fs.entries.find? (fun e => e.table = 0 && e.row = 1 && e.stage = 1)).isSome = true ∧
      (h2.holdersOf 0 1).awaiting.erase 9 = [8] ∧ (h.advance 9999999).now < (h.holdersOf 0 1).since + 10000000 ∧
      s.homeOf 0 1 = s.deviceId ∧ r.homeOf 0 1 ≠ r.deviceId ∧
      (r.fs.replicas.find? (fun r => r.ofRow 0 1 && !r.cc)).isSome = true ∧
      { s.fs with reviewDue := true }.reviewDue = true ∧ s.fs.reviewDue = false ∧ s.start.stage = 9 := by decide

/-! Memory. -/

/-- A READY part with channel 63 as given, and every other channel untrained. -/
def withChan (c : Chan) : State := { bare 0 0 with mem := { trained := true, chans := [(63, c)] } }

/-- A read of 64 bytes at device address 0x3F00, which lies on channel 63. -/
def read63 : Req := ⟨0, 0, 0, 0, 5, some 0x3F00, 64, .fetch [], 0⟩

def store63 : Req := ⟨0, 0, 0, 0, 5, some 0x3F00, 64, .store (List.replicate 64 1) false, 0⟩

/-- The read of a command at device address 0x3F00. -/
def command63 : Req := ⟨0, 0, 0, 0, 5, some 0x3F00, 128, .command, 0⟩

theorem witness_MemoryRequests :
    let d := { withChan { state := 1 } with
      mem := { trained := true, chans := [(63, { state := 1 })], regs := [(5, { tokens := 1280, waiting := [command63] })] } }
    let s := withChan { state := 1, queues := [(5, [read63])], turn := 6 }
    let f := withChan { state := 1, slots := List.replicate 112 { req := read63 } }
    let h := withChan { state := 1, slots := [{ req := read63 }], retiring := [⟨0, 0, 1⟩] }
    let w := withChan { state := 1, slots := [{ req := store63 }] }
    let b := withChan { state := 1, slots := [{ req := store63 }], wcb := [⟨0, [], [], 0⟩] }
    let g := { bare 0 0 with
      img := some { round := { samples := [] }, partPlan := List.replicate 32 { rate := 1 } }
      mem := { regs := [(5, { tokens := 640, waiting := [read63] })] } }
    s.clocked = true ∧ (s.chan 63).requests < 112 ∧ (s.chan 63).nextQueue 33 (s.chan 63).turn = some (5, read63) ∧
      read63.dev = some 0x3F00 ∧ (s.chan 63).state = 1 ∧ (s.chan 63).holds [] read63 0x3F00 = false ∧ 112 ≤ (f.chan 63).requests ∧
      ((f.chan 63).slots[111]?).isSome = true ∧ (f.chan 63).holding (devOff 0x3F00) = false ∧
      (h.chan 63).holding (devOff 0x3F00) = true ∧ (h.chan 63).holds [] read63 0x3F00 = true ∧ ((w.chan 63).slots[0]?).isSome = true ∧ (w.chan 63).wcb = [] ∧
      (∃ w ∈ (b.chan 63).wcb, w.line = devOff 0x3F00 / 64) ∧ 0 < store63.len ∧
      (tget (g.advance 0).mem.regs 5 {}).waiting = read63 :: [] ∧
      10 * read63.len ≤ (tget (g.advance 0).mem.regs 5 {}).tokens ∧ ((g.advance 0).partEntry 5).rate ≠ 0 ∧
      (tget (d.advance 0).mem.regs 5 {}).waiting = command63 :: [] ∧
      10 * command63.len ≤ (tget (d.advance 0).mem.regs 5 {}).tokens ∧ command63.dev = some 0x3F00 ∧ command63.kind = .command ∧
      read63.writes = false ∧ (h.chan 63).slots[0]? = some { req := read63 } ∧
      (let m := { g with mem := { regs := [(5, { tokens := 0, waiting := [read63] })] } }
       (tget (m.advance 0).mem.regs 5 {}).tokens < 10 * read63.len) := by decide

theorem witness_MemoryUpkeep :
    let r := withChan { state := 1, retiring := [⟨260, 0, 1⟩] }
    let s := withChan { state := 1, scrubAt := 5 }
    let q := { s with now := 1000000000 }
    (r.chan 63).retiring = ⟨260, 0, 1⟩ :: [] ∧ (r.chan 63).slots = [] ∧ Memory.wf r = true ∧ (s.chan 63).retiring = [] ∧
      (s.chan 63).state = 1 ∧ (s.chan 63).scrubAt < s.im.dataBytes / 32 ∧ (s.chan 62).state ≠ 1 ∧ s.im.mem.srIdleMs ≠ 0 ∧
      q.quiet = true ∧ max (q.chan 63).idleSince q.part.lastBusy + q.im.mem.srIdleMs * 1000000 ≤ (q.advance 0).now ∧
      (q.chan 63).queues = [] ∧ (s.chan 63).reservedFree = true ∧ (s.chan 62).reservedFree = true ∧
      (s.chan 63).reservedUsed + ((s.chan 63).wcb.filter fun w => w.last + 2000 ≤ s.now).length ≤ 16 ∧
      { (s.chan 63) with slots := List.replicate 16 { req := read63, reserved := true } }.reservedFree = false ∧ { q with part := { parcels := [parcel7] } }.quiet = false := by decide

theorem witness_TrafficGenerator :
    let s := withChan { state := 2 }
    let b := withChan { state := 4, tg := { busy := true } }
    s.start.pcieUp = true ∧ 2 ≤ (s.chan 63).state ∧ (1 : BitVec 32).toNat % 2 = 1 ∧ (s.chan 63).tg.busy = false ∧
      (0 : BitVec 32).toNat % 2 = 0 ∧ (s.chan 62).state < 2 ∧ (b.chan 63).tg.busy = true ∧
      (let e := { busy := true, run := { mode := 2, base := 1, len := 1, passes := 1 } : Tg }
       e.busy = true ∧ e.run.passes ≠ 0 ∧ e.run.len ≠ 0 ∧ e.run.mode ≠ 1) := by decide

/-! Lens. -/

/-- A request of tile 0 for handle 1 of parcel 7; engine 0 serves partition 0. -/
def lensReq : LensReq := ⟨0, 0, 0, 0, 7, 1, [0], 0x3F800000, false⟩

def matrix1 : Matrix := ⟨7, 0, 1, 9, 0x3F800000, List.replicate 64 0, false⟩

/-- A READY part with engine 0 as given, and requests on their way. -/
def withEngine (e : Engine) (l : List LensReq) : State :=
  { bare 0 0 with
    img := some { round := { samples := [] }, partPlan := (List.range 32).map fun k => { clusterA := 2 * k, clusterB := 2 * k + 1 } }
    lens := { lit := true, engines := [(0, e)], flight := l }
    part := { doorsOpen := true, parcels := [parcel7] } }

theorem witness_LensServes :
    let s := withEngine { state := .serving } [lensReq]
    let w := withEngine { state := .serving, matrix := some matrix1, queue := [lensReq], lastUs := 1750, thisUs := 1999 } []
    s.clocked = true ∧ s.lens.flight[0]? = some lensReq ∧ (s.lens.flight.take 0).any (fun r => r.tile = 0) = false ∧
      ((withEngine {} [lensReq, lensReq]).lens.flight.take 1).any (fun r => r.tile = 0) = true ∧ s.engineOf 0 = 0 ∧ (s.engine 0).state = .serving ∧
      (s.engine 0).queue = [] ∧ (s.engine 0).matrix = none ∧ s.parcel 7 = some parcel7 ∧ (s.engine 31).state ≠ .serving ∧
      (withEngine { state := .loading } []).engine 0 = { state := .loading } ∧ (31 : Nat) < 32 ∧
      (w.engine 0).matrix = some matrix1 ∧ (w.engine 0).queue = lensReq :: [] ∧ matrix1.serves lensReq = true ∧
      (w.engine 0).drain = none ∧ (w.engine 0).thisUs < (w.engine 0).limit ∧ (w.engine 0).ovrLeft = [] ∧
      (w.engine 0).shadowLeft = [] ∧ (w.engine 0).frozen = false ∧
      (∀ x ∈ idealCodes matrix1 lensReq.levels, -512 ≤ x ∧ x ≤ 511) ∧
      (withEngine { state := .degraded } []).engine 0 = { state := .degraded } := by decide

theorem witness_LensCalibrates :
    let s := withEngine { state := .calibrating } []
    let t := withEngine { state := .calibrating, aborts := 2 } []
    let v := withEngine { state := .serving } []
    s.clocked = true ∧ (s.engine 0).state = .calibrating ∧ (128 : Nat) ≤ s.im.lens.darkThresh * 16 ∧ (s.engine 0).queue = [] ∧
      s.im.lens.darkThresh * 16 < 129 ∧ (s.engine 0).aborts < 2 ∧ 2 ≤ (t.engine 0).aborts ∧ (v.engine 0).state = .serving ∧
      (v.engine 0).frozen = false ∧ s.lens.lit = true ∧ s.lens.comb = false ∧ bit s.lens.bankLost 3 = false ∧
      ready0.lens.lit = false ∧ ready0.quarantined = false ∧ { ready0 with fab := { role := 3 } }.quarantined = true ∧
      (member 9 0).im.fab.present = true ∧ ((member 9 0).port 0).state ≠ .failed := by decide

/-! The fabric and the domain. -/

/-- A READY member of a domain with port 0 as given. -/
def withPort (p : Port) : State := { member 9 0 with fab := { (member 9 0).fab with ports := [(0, p)] } }

set_option maxRecDepth 100000 in
theorem witness_LinkLayer :
    let u : Port := { state := .up, expectSeq := 4095, queues := [(0, [⟨1, 0, 5, 3, 0, 1, [], none, none, 0⟩])] }
    let f : Flit := ⟨1, 0, 5, 3, 0, 1, [], none, none, 0⟩
    let r : Port := { state := .up, replay := [⟨7, f, 6⟩], resend := some 0, retrains := 3 }
    let d := flitBytes { type := 1, vc := 0, seq := 4095, ack := 0, nak := false, dst := 3, src := 5, crVc := 0, credits := 0
                         count := 1, hops := 0 } []
    let c := flitBytes { type := 3, vc := 0, seq := 0, ack := 0, nak := false, dst := 3, src := 5, crVc := 0, credits := 0
                         count := 0, hops := 0 } []
    (withPort u).running = true ∧ u.receives = true ∧ flitOk (d.set 20 1) = false ∧ flitOk d = true ∧ (headerOf d).nak = false ∧
      (headerOf d).type = 1 ∧ (headerOf d).seq = u.expectSeq ∧ flitOk c = true ∧ (headerOf c).type = 3 ∧
      (headerOf c).seq ≠ u.expectSeq ∧ u.state ≠ .retraining ∧ u.again = none ∧ (withPort u).nextFlit 0 0 = some f ∧ f.hold = none ∧ f.origin = none ∧
      (withPort u).nextFlit 0 1 = none ∧ r.state = .up ∧ r.replay ≠ [] ∧ r.again = some (0, ⟨7, f, 6⟩) ∧ r.retrains < 4 ∧
      { r with replay := [⟨7, f, 7⟩] }.again = some (0, ⟨7, f, 7⟩) ∧ (withPort r).fabricTime 0 = withPort r ∧ { r with retrains := 4 }.retrains = 4 ∧ u.replay = [] := by decide +kernel

theorem witness_CircuitsChange :
    let s := withPort { state := .retraining }
    let p := withPort { state := .circuitDown, probing := true }
    let m := member 9 0
    s.running = true ∧ (s.port 0).state = .retraining ∧ s.tooNarrow 0xFFFC 0x3FFF = false ∧ (s.port 0).pendingMode = none ∧
      s.tooNarrow 0x1FFF 0xFFFF = true ∧ (s.port 0).receives = true ∧ (p.port 0).probing = true ∧ (p.port 0).circuitRaised = false ∧
      p.fab.reconfs = [] ∧ p.fab.switching = none ∧ (p.port 0).state = .circuitDown ∧
      (let q := withPort { state := .training, probing := true }
       (q.port 0).state = .training ∧ q.tooNarrow 0xFFFF 0x3FFF = false ∧ q.tooNarrow 0 0 = true) ∧
      (withPort { state := .retraining, pendingMode := some 1 }).fab.switching = none ∧
      ((withPort { state := .foreign }).port 0).receives = true ∧ { m with round := { m.round with angle := 1 } }.reached 0 1 = true ∧
      { m with round := { m.round with slots := poolFull.round.slots } }.freeSlot 2 = none ∧ (member 5 0).start.stage ≤ 5 ∧ m.isMaster = false ∧
      m.quarantined = false ∧ m.clocked = true ∧ 0 = m.fab.parentActive ∧ (m.port 0).carries = true ∧ m.round.jumping = false ∧
      m.angleValid = true ∧ m.reached 0 1 = false ∧ m.freeSlot 2 = some 8 ∧
      { m with round := { state := .stall } }.angleValid = false := by decide

theorem witness_PartsJoin :
    let q : JoinReq := ⟨7, 0, 1, 0, 0xB0, 5, 3⟩
    let j := { member 7 0 with fab := { (member 7 0).fab with joining := true } }
    let m := member 9 3
    j.fab.joining = true ∧ (j.advance 0).inDomain 7 = true ∧ m.fab.joining = false ∧ m.isMaster = true ∧
      (m.advance 0).inDomain 7 = true ∧ (m.port 1).carries = true ∧ { q with digest := 1 }.digest ≠ m.fab.digest ∧
      q.digest = m.fab.digest ∧ m.im.fab.domainSize ≤ 8 ∧ q.device < m.im.fab.domainSize ∧ q.device ≠ m.deviceId ∧
      (∀ x ∈ m.fab.members, x.device = q.device → x.serial = q.serial) ∧
      (let n := { m with fab := { m.fab with members := [⟨7, 2⟩] } }
       n.fab.members.find? (fun y => y.device = q.device) = some ⟨7, 2⟩ ∧ (2 : Nat) ≠ q.serial) ∧ (3 : Nat) = m.deviceId ∧
      (1 : Nat) ≠ m.nv.serial ∧ m.im.fab.domainSize ≤ { q with device := 8 }.device ∧ (m.port 1).carries = true ∧ (member 9 0).isMaster = false ∧
      (member 9 0).alone = false ∧ (1 : Nat) ≠ (member 9 0).fab.parentActive ∧ q.hops < 6 ∧ (member 9 0).deviceId = 3 := by decide

theorem witness_DomainLives :
    let m := member 9 3
    let s := { member 9 0 with now := 10000000 }
    m.isMaster = true ∧ m.alone = false ∧ (m.advance 0).inDomain 6 = true ∧ s.isMaster = false ∧ (s.port 0).carries = true ∧
      m.deviceId = 3 ∧ 0 = s.fab.parentActive ∧ s.childPorts = [] ∧ s.fab.rejoin = false ∧ s.fab.joined = true ∧
      s.fab.lostRaised = false ∧ s.fs.replicas = [] ∧ s.im.fab.present = true ∧ s.quarantined = false ∧ s.running = true ∧
      s.fab.waitAdopt = false ∧ (0 : Nat) = s.fab.epoch ∧ (1 : Nat) ≠ s.fab.epoch ∧ 6 ≤ s.start.stage ∧ s.start.stage ≤ 9 ∧
      s.admitted 5 = false ∧ { s with fab := { s.fab with memberMap := 32 } }.admitted 5 = true ∧ s.fab.lastBeacon + s.im.fab.masterTimeoutMs * 1000000 ≤ (s.advance 0).now ∧
      16 ≤ s.im.fab.altParent ∧ ((member 9 0).advance 9999999).now < s.fab.lastBeacon + s.im.fab.masterTimeoutMs * 1000000 ∧
      s.start.stage = 9 ∧ (s.advance 0).clocked = true ∧ s.rxBytes ≠ 0 ∧
      { s with img := some { tile := { rxKib := 0 } } }.rxBytes = 0 := by decide

/-! Doors, parcels and status. -/

/-- A READY part whose function 127 has five words staged. -/
def staged : State :=
  { bare 0 0 with part := { doorsOpen := true, doors := [(127, { words := [0, 0, 0x10000040, 0, 0], since := 0 })] } }

def post (n : Nat) : Post := ⟨5, .pcie 1, 1, 1, n, 0, 0, 0, 0⟩

/-- A READY part that knows context 1, with that post on its way. -/
def posted (n : Nat) : State :=
  { bare 0 100000000 with
    img := some { round := { samples := [] }, contexts := [{ id := 1 }] }, part := { doorsOpen := true, posts := [post n] } }

theorem witness_PostsTaken :
    let d := tget staged.part.doors 127 {}
    staged.start.pcieUp = true ∧ (inStage 10 {}).start.stage = 10 ∧ (tget staged.part.doors 126 {}).words.length < 5 ∧
      staged.start.stage = 9 ∧ staged.part.doorsOpen = true ∧ staged.doorReason = 0 ∧ d.words.length = 5 ∧
      1 ≤ d.words.getD 2 0 / 2 ^ 28 % 16 ∧ d.words.getD 2 0 / 2 ^ 28 % 16 ≤ 2 ∧ 64 ≤ d.words.getD 2 0 % 2 ^ 28 ∧ d.words.getD 0 0 % 8 = 0 ∧ d.words.getD 3 0 % 32 = 0 ∧
      d.words ≠ [] ∧ d.since + 1000000 ≤ (staged.advance 1000000).now ∧ (staged.advance 999999).now < d.since + 1000000 ∧
      (posted 64).part.posts.find? (fun p => p.id = 5) = some (post 64) ∧ (posted 64).doorReason = 0 ∧
      (posted 64).bodyReason (post 64) (List.replicate 64 0) = 2 ∧ headerRead 1 (List.replicate 64 0) = false ∧
      { posted 64 with part := { (posted 64).part with doorsOpen := false } }.doorReason ≠ 0 ∧ 0 < (post 64).len ∧
      (post 64).since + 100000000 ≤ ((posted 64).advance 0).now ∧ (staged.advance 0).now < (post 64).since + 100000000 ∧
      { staged.start with pcieUp := false }.pcieUp = false := by decide

/-- A letter of 64 bytes with one entry for context 1, serial 1, of epoch 0. -/
def letter64 : List Byte :=
  [0x59, 0x4B, 0x34, 0x4C, 1, 0, 1, 0, 64, 0, 0, 0, 1, 0, 0, 0, 0, 0, 0, 0, 0, 0, 0, 0, 1, 0, 0, 0, 0, 0, 0, 0] ++ List.replicate 32 0

theorem witness_PostsTaken_accepted :
    let p := { post 64 with kind := 2 }
    letter64.length = p.len ∧ (posted 64).bodyReason p letter64 = 0 ∧ ((posted 64).findArea 1 64).isSome = true := by decide

set_option maxRecDepth 100000 in
theorem witness_WorkFromOutside :
    let s := { bare 0 0 with
      img := some { round := { samples := [] }, contexts := [{ id := 1, net := true, client := 9 }], nets := [{ port := 1 }] }
      start := { stage := 9, ethUp := true }
      mem := { trained := true, chans := [(0, { state := 1 })] }
      part := { doorsOpen := true, conns := [(1, 4, 1)], parcels := [{ parcel7 with limitRev := 3, revs := 3 }] } }
    let l := { s with part := { s.part with parcels := [{ parcel7 with state := .loading }] } }
    let h : List Byte := [1, 0, 0, 0, 0, 0, 0, 0, 64, 0, 0, 0, 0, 0, 0, 0]
    s.start.ethUp = true ∧ (∃ n ∈ s.im.nets, n.port = 1) ∧
      (s.im.contexts.find? (fun c => c.net && c.client = 9)).isSome = true ∧ (s.part.conns.filter fun x => x.1 = 1).length < 32 ∧
      (∀ x ∈ s.part.conns, x.1 = 1 → x.2.1 ≠ 5) ∧ s.im.contexts.find? (fun c => c.net && c.client = 8) = none ∧
      s.part.conns.find? (fun x => x.1 = 1 && x.2.1 = 4) = some (1, 4, 1) ∧ numAt (h.set 12 1) 12 4 ≠ 0 ∧ numAt h 0 4 = 1 ∧
      numAt h 12 4 = 0 ∧ 64 ≤ numAt h 8 4 ∧ numAt h 8 4 ≤ 268435455 ∧
      (s.advance 0).parcel 7 = some { parcel7 with limitRev := 3, revs := 3 } ∧ l.clocked = true ∧
      l.resourcesFree { parcel7 with state := .loading } = true ∧ ({ parcel7 with state := .loading } : Parcel).loadsLeft = 0 ∧
      parcel7.limitRev = 0 ∧ { parcel7 with limitRev := 3, revs := 3 }.state = .running ∧
      (let p := { parcel7 with limitRev := 3, revs := 3 }
       let e := fun (n : Nat) => { atFront { words := cmdOf n, phase := .waiting } with part := { parcels := [p] } }
       ((e 3).advance 0).parcel 7 = some p ∧ (e 3).clocked = true ∧ (e 3).allEnd p = true ∧ (e 0).allEnd p = false) := by
  decide +kernel

theorem witness_StatusSpace :
    let s := { ready0 with acc := [(0, { shadow := 1, tag := some 0x10018 })] }
    s.start.pcieUp = true ∧ s.pairOf 0 0x10000 = none ∧ s.pairOf 0 0x10018 = some 0x10018 ∧ s.pairOf 0 (0x10018 + 4) = some 0x10018 ∧
      (s.accOf 0).tag = some 0x10018 ∧ (ready0.accOf 0).tag ≠ some 0x10018 ∧ ¬((2 : Nat) = 4 ∧ 0 % 4 = 0) ∧
      ¬((8 : Nat) = 8 ∧ 4 % 8 = 0) ∧ (0xFFFFC : Nat) < 0x100000 := by decide

theorem witness_SmbusAndJtag :
    ready0.running = true ∧ State.reset.running = false ∧ ready0.pins.resetN = true ∧ State.reset.pins.resetN = false ∧
      (16777212 : Nat) % 4 = 0 ∧ (16777212 : Nat) < 16777216 ∧ (0x20 : Nat) % 256 ∈ [0x00, 0x01, 0x02, 0x20, 0x21] ∧
      (0x58 : Nat) = 0x58 + ready0.pins.smbAddr % 4 ∧ (0x59 : Nat) ≠ 0x58 + ready0.pins.smbAddr % 4 := by decide

theorem witness_RunningPartFrame :
    (∃ u, exec (.supervisorReview 0) ready0 = .next u) ∧ Memory.wf ready0 = true := ⟨⟨_, rfl⟩, by decide⟩

theorem witness_EveryStepSafe : ∃ u, step ready0 = .next u := ⟨_, rfl⟩

/-! ### Status: the manual's example of pairing device time -/

theorem test_pairing :
    let s := { bare 0 0x1FFFFFFF4 with round := {} }
    let a := after (.statusReadLowHalf 0x1FFFFFFF4 0 false 0x10018 4) s
    let b := after (.statusReadHighHalf 0x20000001C 0 false 0x1001C) a
    a.answer = [0xFFFFFFF4] ∧ b.answer = [1] := by decide

theorem test_stale_pair :
    let b := after (.statusReadHighHalf 0x20000001C 0 false 0x1001C) { bare 0 0x1FFFFFFF4 with round := {} }
    b.answer = [2] ∧ (b.accOf 0).stale = true := by decide

/-- Chapter 13: the six words of the example make a post of 0x3_EA60 bytes with report address 0x10_2010_0000. -/
theorem test_post_words :
    let w := fun (s : State) (x : BitVec 32) => after (.partDoorWrite 0 9 x) s
    let s := [0x20000000, 0x00000010, 0x1003EA60, 0x20100000, 0x00000010, 0x00000101].foldl w { ready0 with img := some { contexts := [{ id := 9 }] } }
    s.part.posts.map (fun p => (p.src, p.len, p.report, p.tag, p.context)) = [(0x1020000000, 0x3EA60, 0x1020100000, 0x101, 9)] := by
  decide

/-- R367: IDCODE. -/
theorem test_idcode : (after (.idcode 0) State.reset).answer = [0x14096A8B] := by decide

/-- Chapter 11: 250 vectors in the first microsecond, 500 in the second. -/
theorem test_slew :
    let s := after (.activityMicrosecond 0 0) (withEngine { state := .serving, thisUs := 250 } [])
    Engine.limit {} = 250 ∧ (s.engine 0).limit = 500 := by decide

end Sys2Proof.Tests
end

/-! PROOFS. How an event slot passes from ARMED to TIMING and fires (R50, R60): equations for the operations of
`Machine/Slots.lean` and `Machine/Round.lean`, and O23, which is put together from them. -/

namespace Sys2Proof.Machine

/-! ### The slot table -/

@[simp] theorem State.evSlot_setSlot_same (n : Nat) (e : EvSlot) (s : State) : (s.setSlot n e).evSlot n = e := by
  simp [State.setSlot, State.evSlot]

@[simp] theorem State.advance_slotsWith (t n : Nat) (s : State) : (s.advance t).slotsWith n = s.slotsWith n := by
  simp [State.slotsWith]

@[simp] theorem State.advance_slotsAt (t a : Nat) (s : State) : (s.advance t).slotsAt a = s.slotsAt a := by
  simp [State.slotsAt]

/-! ### Firing -/

theorem bump_eq (a : Nat) : bump a = min (a + 1) 4294967295 := rfl

theorem bump_bump (a : Nat) : bump (bump a) = min (a + 2) 4294967295 := by
  simp only [bump_eq]
  omega

theorem armDeferred_of_nil {s : State} (h : s.round.deferred = []) : armDeferred s = s := by
  unfold armDeferred
  rw [h]

/-- A release only frees the slot when it lies outside the pool, or when no request waits for the pool (R48). -/
theorem releaseSlot_of_no_taker {n : Nat} {s : State} (h : n < 16 ∨ s.round.deferred = []) :
    releaseSlot n s = s.setSlot n { s.evSlot n with state := .free } := by
  by_cases hn : 16 ≤ n
  · simp only [releaseSlot, hn, if_true]
    exact armDeferred_of_nil (h.resolve_left (Nat.not_lt.mpr hn))
  · simp only [releaseSlot, hn, if_false]

/-- The supervisor's slots (owner 4) stand for no action of the block's own. -/
theorem ownerActs_supervisor {e : EvSlot} (h : e.owner = 4) (s : State) : ownerActs e s = s := by
  simp [ownerActs, h]

/-- Slot `n` freed and its firing counted: a firing but for what the owner and a deferred request make of it. -/
def State.countFired (n : Nat) (s : State) : State :=
  { s with round := { s.round with fired := bump s.round.fired, slots := tset s.round.slots n { s.evSlot n with state := .free } } }

@[simp] theorem State.countFired_deferred (n : Nat) (s : State) : (s.countFired n).round.deferred = s.round.deferred := rfl

@[simp] theorem State.countFired_evSlot_same (n : Nat) (s : State) :
    (s.countFired n).evSlot n = { s.evSlot n with state := .free } :=
  tget_tset_same _ _ _ _

theorem State.countFired_evSlot_other {j n : Nat} (s : State) (h : j ≠ n) : (s.countFired n).evSlot j = s.evSlot j :=
  tget_tset_other _ _ _ h

theorem fireSlot_supervisor {n : Nat} {s : State} (ho : (s.evSlot n).owner = 4) (h : n < 16 ∨ s.round.deferred = []) :
    fireSlot n s = s.countFired n := by
  unfold fireSlot
  rw [ownerActs_supervisor ho, releaseSlot_of_no_taker (by exact h)]
  rfl

/-! ### EVENT_SLOT_FIRE -/

theorem doEventSlotFire_of_expired {n : Nat} {s : State} (hr : s.running = true) (ht : (s.evSlot n).state = .timing)
    (hx : (s.evSlot n).expiry ≤ s.now) : doEventSlotFire n s = (s.slotsWith n).foldl (fun s k => fireSlot k s) s := by
  simp [doEventSlotFire, hr, ht, hx]

theorem exec_eventSlotFire_of_expired {t n : Nat} {s : State} (hr : s.running = true) (ht : (s.evSlot n).state = .timing)
    (hx : (s.evSlot n).fireAt + (s.evSlot n).offset * 1000 ≤ (s.advance t).now) :
    exec (.eventSlotFire t n) s = .next ((s.slotsWith n).foldl (fun s k => fireSlot k s) (s.advance t)) := by
  have hfire := doEventSlotFire_of_expired (n := n) (s := s.advance t) (by simpa using hr) (by simpa using ht)
    (by simpa [EvSlot.expiry] using hx)
  rw [State.advance_slotsWith] at hfire
  exact congrArg Host.Outcome.next hfire

theorem doEventSlotFire_of_not_expired {n : Nat} {s : State} (h : (s.evSlot n).state ≠ .timing ∨ s.now < (s.evSlot n).expiry) :
    doEventSlotFire n s = s := by
  unfold doEventSlotFire
  refine if_neg fun hc => ?_
  simp only [Bool.and_eq_true, decide_eq_true_eq] at hc
  obtain ⟨⟨-, ht⟩, hx⟩ := hc
  exact h.elim (absurd ht) (Nat.not_lt.mpr hx)

/-- Two supervisor's slots that expire together both fire, the lower first (R60). -/
theorem fireSlot_fireSlot_supervisor {k n : Nat} {s : State} (hkn : k < n) (hd : s.round.deferred = [])
    (hk : (s.evSlot k).owner = 4) (hn : (s.evSlot n).owner = 4) :
    fireSlot n (fireSlot k s) = (s.countFired k).countFired n := by
  have hsame := s.countFired_evSlot_other (Nat.ne_of_gt hkn)
  rw [fireSlot_supervisor hk (.inr hd), fireSlot_supervisor (by rw [hsame, hn]) (.inr (by exact hd))]

/-! ### MICRO_TICK at an armed slot's angle -/

theorem atSamples_of_none (f : Nat → Nat → State → State) {a : Nat} {s : State} (h : ∀ x ∈ s.im.round.samples, x.1 ≠ a) :
    atSamples f a s = s := by
  unfold atSamples
  refine List.foldlRecOn (motive := fun u => u = s) _ _ rfl ?_
  rintro _ rfl i hi
  have hlt := List.mem_range.mp hi
  have hne := h _ (List.getElem_mem hlt)
  rw [List.getD_eq_getElem _ _ hlt, if_neg hne]

theorem moveDeferred_of_nil (a : Nat) {s : State} (h : s.round.deferred = []) :
    moveDeferred a s = s.setRound { s.round with defers := min s.round.defers 4294967295 } := by
  simp [moveDeferred, h, satAdd, State.setRound]

/-- At an angle other than 0.0 without a sample, and with no request deferred, only the slots armed for it are left to do (R60). -/
theorem takeAngle_slots_only {a : Nat} {s : State} (ha : a ≠ 0) (hs : ∀ x ∈ s.im.round.samples, x.1 ≠ a)
    (ho : s.im.round.outMode ≠ 1) (hd : s.round.deferred = []) :
    takeAngle a s = (s.slotsAt a).foldl reachSlot
      (s.setRound { s.round with angle := a, defers := min s.round.defers 4294967295 }) := by
  have hout (b : Bool) (u : State) (hu : u.im = s.im) : driveOut b u = u := by simp [driveOut, hu, ho]
  have him : (s.setRound { s.round with angle := a }).im = s.im := rfl
  simp only [takeAngle, hout _ _ him, ite_self, ha, if_false]
  rw [atSamples_of_none _ (by exact hs), moveDeferred_of_nil _ (by exact hd)]
  rfl

@[simp] theorem State.advance_refPeriod (t : Nat) (s : State) : (s.advance t).refPeriod = s.refPeriod := by
  simp [State.refPeriod]

/-- The next tick is taken in SYNC once its moment has come, short of the angle where the counter halts (R41). -/
theorem doMicroTick_of_due {s : State} (hr : s.running = true) (hv : s.round.state = .sync) (hh : s.round.angle < s.round.haltAngle)
    (hd : (s.round.angle + 1 - s.round.position * 256) * s.refPeriod ≤ s.sinceEdge s.now) :
    doMicroTick s = takeAngle (s.round.angle + 1) s := by
  simp [doMicroTick, State.angleValid, State.tickBefore, hr, hv, hh, Nat.lt_succ_of_le hd]

/-- MICRO_TICK where slot `n` alone is due: the counter takes the angle and the slot's angle is reached. -/
theorem doMicroTick_of_one_slot {t n : Nat} {s : State} (hr : s.running = true) (hv : s.round.state = .sync)
    (hh : s.round.angle < s.round.haltAngle)
    (hd : (s.round.angle + 1 - s.round.position * 256) * s.refPeriod ≤ (s.advance t).sinceEdge (s.advance t).now)
    (hs : ∀ x ∈ s.im.round.samples, x.1 ≠ s.round.angle + 1) (ho : s.im.round.outMode ≠ 1) (hq : s.round.deferred = [])
    (hn : s.slotsAt (s.round.angle + 1) = [n]) :
    doMicroTick (s.advance t) = reachSlot ((s.advance t).setRound { s.round with
      angle := s.round.angle + 1, defers := min s.round.defers 4294967295 }) n := by
  rw [doMicroTick_of_due (by simpa using hr) (by simpa using hv) (by simpa using hh) (by simpa using hd),
    takeAngle_slots_only (by simp) (by simpa using hs) (by simpa using ho) (by simpa using hq)]
  simp [hn]

theorem reachSlot_of_offset_pos {n : Nat} {s : State} (h : 0 < (s.evSlot n).offset) :
    reachSlot s n = s.setSlot n { s.evSlot n with state := .timing, fireAt := s.now } :=
  if_neg (Nat.ne_of_gt h)

/-- With offset 0 a supervisor's slot fires in the moment its angle is reached. -/
theorem reachSlot_of_offset_zero {n : Nat} {s : State} (h : (s.evSlot n).offset = 0) (ho : (s.evSlot n).owner = 4)
    (hq : s.round.deferred = []) :
    reachSlot s n = (s.setSlot n { s.evSlot n with state := .timing, fireAt := s.now }).countFired n := by
  have hfire : reachSlot s n = fireSlot n (s.setSlot n { s.evSlot n with state := .timing, fireAt := s.now }) := if_pos h
  rw [hfire, fireSlot_supervisor (by simpa using ho) (.inr (by exact hq))]

/-! ### O23 -/

/-- Settles O23: the equations of MICRO_TICK and EVENT_SLOT_FIRE above, each read after time has passed. -/
theorem eventSlotFire : Obligations.EventSlotFire := by
  unfold Obligations.EventSlotFire
  intro t n s hr
  refine ⟨fun hv hh hd hs ho hq hn => ?reach, fun ht hx => ⟨fun hw => ?alone, fun k hw hkn hq hk hn => ?pair⟩, fun h => ?idle⟩
  case reach =>
    have htick : exec (.microTick t) s = .next (reachSlot ((s.advance t).setRound { s.round with
        angle := s.round.angle + 1, defers := min s.round.defers 4294967295 }) n) :=
      congrArg _ (doMicroTick_of_one_slot hr hv hh (by simpa [State.sinceEdge] using hd) hs ho hq hn)
    rw [htick]
    refine ⟨fun hpos => ?_, fun hzero hown => ?_⟩
    · rw [reachSlot_of_offset_pos (by exact hpos)]
      rfl
    · rw [reachSlot_of_offset_zero (by exact hzero) (by exact hown) (by exact hq)]
      exact ⟨_, rfl, by simp, rfl, rfl⟩
  case alone =>
    rw [exec_eventSlotFire_of_expired hr ht hx, hw, List.foldl_cons, List.foldl_nil]
    refine ⟨?_, fun hlow hown => ?_⟩
    · simp [fireSlot, bump_eq, State.setRound]
    · rw [fireSlot_supervisor (by simpa using hown) (.inl hlow)]
      simp [State.countFired, bump_eq]
  case pair =>
    rw [exec_eventSlotFire_of_expired hr ht hx, hw, List.foldl_cons, List.foldl_cons, List.foldl_nil,
      fireSlot_fireSlot_supervisor hkn (by simpa using hq) (by simpa using hk) (by simpa using hn)]
    refine ⟨_, rfl, ?_, by simp, ?_⟩
    · rw [State.countFired_evSlot_other _ (Nat.ne_of_lt hkn)]
      simp
    · simp [State.countFired, bump_bump]
  case idle => exact congrArg _ (doEventSlotFire_of_not_expired (by simpa [EvSlot.expiry] using h))

end Sys2Proof.Machine

/-! PROOFS. The entry to READY (R96, R109, R363): what one programming step does to the work of `readyStep` and to the fuses, what every
number of steps keeps, check 6 of an image, and O12, which is put together from them. -/

namespace Sys2Proof.Machine

/-! ### What programming leaves alone -/

/-- Programming writes fuses, flash and events, and of the start block nothing that names the stage or this start. -/
structure ProgramFrame (s u : State) : Prop where
  frame : u = { s with nv := u.nv, start := u.start, flt := u.flt }
  stage : u.start.stage = s.start.stage
  bootSeq : u.start.bootSeq = s.start.bootSeq

theorem ProgramFrame.refl (s : State) : ProgramFrame s s := ⟨rfl, rfl, rfl⟩

theorem ProgramFrame.trans {a b c : State} (h : ProgramFrame a b) (k : ProgramFrame b c) : ProgramFrame a c where
  frame := by rw [k.frame, h.frame]
  stage := k.stage.trans h.stage
  bootSeq := k.bootSeq.trans h.bootSeq

theorem ProgramFrame.part {s u : State} (h : ProgramFrame s u) : u.part = s.part := by rw [h.frame]

theorem raiseLogFull_frame (s : State) : ProgramFrame s (raiseLogFull s) := by
  unfold raiseLogFull
  split <;> exact ⟨rfl, rfl, rfl⟩

theorem appendLog_frame (kind : Nat) (payload : List Byte) (s : State) : ProgramFrame s (appendLog kind payload s).2 := by
  unfold appendLog
  split
  · exact raiseLogFull_frame s
  · exact ⟨rfl, rfl, rfl⟩

theorem markAttempt_frame (s : State) : ProgramFrame s (markAttempt s) := by
  unfold markAttempt
  split <;> exact ⟨rfl, rfl, rfl⟩

theorem setEntry_frame (e : ReadyWork) (s : State) : ProgramFrame s (s.setEntry e) := ⟨rfl, rfl, rfl⟩

theorem beginChange_frame (r : FuseReq) (s : State) : ProgramFrame s (beginChange r s) := ⟨rfl, rfl, rfl⟩

theorem setFuse_frame (r : FuseReq) (s : State) : ProgramFrame s (setFuse r s) := ⟨rfl, rfl, rfl⟩

theorem endChange_frame (r : FuseReq) (s : State) : ProgramFrame s (endChange r s) :=
  have marked : ProgramFrame s (logFuse (s.nv.fuses.log.length - 1) { s with nv := { s.nv with fuses := s.nv.fuses.marked } }) :=
    ⟨rfl, rfl, rfl⟩
  marked.trans (appendLog_frame _ _ _)

/-! ### What each operation does to the fuses -/

@[simp] theorem State.setEntry_nv (e : ReadyWork) (s : State) : (s.setEntry e).nv = s.nv := rfl

@[simp] theorem State.setEntry_entry (e : ReadyWork) (s : State) : (s.setEntry e).start.entry = e := rfl

@[simp] theorem markAttempt_fuses (s : State) : (markAttempt s).nv.fuses = s.nv.fuses := by
  unfold markAttempt
  split <;> rfl

@[simp] theorem appendLog_fuses (kind : Nat) (payload : List Byte) (s : State) :
    (appendLog kind payload s).2.nv.fuses = s.nv.fuses := by
  unfold appendLog raiseLogFull
  split
  · split <;> rfl
  · rfl

/-- The record of a change: kind 5 is the advance, and only a key change names a slot (Table 14.9). -/
def State.fuseRecord (s : State) (r : FuseReq) : FuseRec :=
  { kind := r.kind, slot := if r.kind = 2 || r.kind = 3 then r.slot else 0, complete := false, imgSeq := s.im.start.sequence
    old := s.nv.fuses.wasOf r, new := r.newOf, bootSeq := s.start.bootSeq }

theorem ProgramFrame.fuseRecord {s u : State} {r : FuseReq} (h : ProgramFrame s u) (hf : u.nv.fuses = s.nv.fuses) :
    u.fuseRecord r = s.fuseRecord r := by
  have him : u.im = s.im := by rw [h.frame]; rfl
  simp [State.fuseRecord, hf, him, h.bootSeq]

@[simp] theorem beginChange_fuses (r : FuseReq) (s : State) :
    (beginChange r s).nv.fuses = { s.nv.fuses with log := s.nv.fuses.log ++ [s.fuseRecord r] } := rfl

@[simp] theorem setFuse_fuses (r : FuseReq) (s : State) : (setFuse r s).nv.fuses = s.nv.fuses.change r := rfl

@[simp] theorem endChange_fuses (r : FuseReq) (s : State) : (endChange r s).nv.fuses = s.nv.fuses.marked := by
  simp [endChange, logFuse]

@[simp] theorem Fuses.marked_rollback (f : Fuses) : f.marked.rollback = f.rollback := rfl

theorem Fuses.marked_log_append (f : Fuses) (l : List FuseRec) (x : FuseRec) (h : f.log = l ++ [x]) :
    f.marked.log = l ++ [{ x with complete := true }] := by
  simp [Fuses.marked, h]

@[simp] theorem Fuses.change_log (f : Fuses) (r : FuseReq) : (f.change r).log = f.log := by
  unfold Fuses.change Fuses.apply
  split
  · rfl
  · dsimp only
    split <;> rfl

/-- Anti-rollback `b` after the change `r`: only the advance moves it. -/
def rollbackAfter (b : Nat) (r : FuseReq) : Nat := if r.kind = 5 then max b r.value else b

@[simp] theorem Fuses.change_rollback (f : Fuses) (r : FuseReq) : (f.change r).rollback = rollbackAfter f.rollback r := by
  unfold Fuses.change Fuses.apply rollbackAfter
  split
  · rfl
  · dsimp only
    split <;> rfl

/-- Records up to a complete one stay as they are, for a completion mark goes to the last record. -/
theorem Fuses.marked_keeps_complete (f : Fuses) {l : List FuseRec} {x : FuseRec} (hx : x.complete = true)
    (h : l ++ [x] <+: f.log) : l ++ [x] <+: f.marked.log := by
  obtain ⟨m, hm⟩ := h
  rcases List.eq_nil_or_concat m with rfl | ⟨m, z, rfl⟩
  · rw [f.marked_log_append l x (by simpa using hm.symm), ← hx]
  · rw [f.marked_log_append (l ++ [x] ++ m) z (by simpa using hm.symm), List.append_assoc]
    exact List.prefix_append _ _

/-! ### One programming step -/

/-- The first step programs the outcome byte and lists the changes. -/
theorem readyStep_of_not_begun {s : State} (h : s.start.entry.begun = false) :
    readyStep s = (markAttempt s).setEntry
      { begun := true, todo := (if s.im.advances s.nv.fuses then [s.im.rollbackReq] else []) ++ s.im.fuseReqs } := by
  simp [readyStep, h]

section
variable {s : State} {r : FuseReq} {l : List FuseReq} (hb : s.start.entry.begun = true)
include hb

theorem readyStep_of_setting (hc : s.start.entry.cur = some (r, 2)) :
    readyStep s = (setFuse r s).setEntry { s.start.entry with cur := some (r, 3) } := by
  simp [readyStep, hb, hc]

theorem readyStep_of_ending {k : Nat} (hk : k ≠ 2) (hc : s.start.entry.cur = some (r, k)) :
    readyStep s = (endChange r s).setEntry { s.start.entry with cur := none } := by
  simp [readyStep, hb, hc]

theorem readyStep_of_permitted (hc : s.start.entry.cur = none) (ht : s.start.entry.todo = r :: l)
    (hm : s.mayChange r = true) :
    readyStep s = (beginChange r s).setEntry { s.start.entry with cur := some (r, 2), todo := l } := by
  simp [readyStep, hb, hc, ht, hm]

theorem readyStep_of_refused (hc : s.start.entry.cur = none) (ht : s.start.entry.todo = r :: l)
    (hm : s.mayChange r = false) : readyStep s = s.setEntry { s.start.entry with todo := l } := by
  simp [readyStep, hb, hc, ht, hm]

theorem readyStep_of_nothing_left (hc : s.start.entry.cur = none) (ht : s.start.entry.todo = []) : readyStep s = s := by
  simp [readyStep, hb, hc, ht]

end

theorem readyStep_frame (s : State) : ProgramFrame s (readyStep s) := by
  by_cases hb : s.start.entry.begun = true
  · rcases hc : s.start.entry.cur with _ | ⟨r, k⟩
    · rcases ht : s.start.entry.todo with _ | ⟨r, l⟩
      · rw [readyStep_of_nothing_left hb hc ht]
        exact .refl s
      · by_cases hm : s.mayChange r = true
        · rw [readyStep_of_permitted hb hc ht hm]
          exact (beginChange_frame r s).trans (setEntry_frame _ _)
        · rw [readyStep_of_refused hb hc ht (Bool.not_eq_true _ ▸ hm)]
          exact setEntry_frame _ _
    · by_cases hk : k = 2
      · rw [readyStep_of_setting hb (hk ▸ hc)]
        exact (setFuse_frame r s).trans (setEntry_frame _ _)
      · rw [readyStep_of_ending hb hk hc]
        exact (endChange_frame r s).trans (setEntry_frame _ _)
  · rw [readyStep_of_not_begun (Bool.eq_false_iff.mpr hb)]
    exact (markAttempt_frame s).trans (setEntry_frame _ _)

theorem readySteps_frame (n : Nat) (s : State) : ProgramFrame s (readySteps n s) := by
  induction n generalizing s with
  | zero => exact .refl s
  | succ n ih => exact (readyStep_frame s).trans (ih (readyStep s))

theorem readySteps_succ (n : Nat) (s : State) : readySteps (n + 1) s = readySteps n (readyStep s) := rfl

theorem readySteps_add (m n : Nat) (s : State) : readySteps (m + n) s = readySteps n (readySteps m s) := by
  induction m generalizing s with
  | zero => rw [Nat.zero_add]; rfl
  | succ m ih => rw [Nat.succ_add]; exact ih (readyStep s)

/-! ### What every number of steps keeps, once the entry has begun -/

/-- Programming steps left at most: three for a change not begun, and those of the change under way. -/
def ReadyWork.left (e : ReadyWork) : Nat :=
  3 * e.todo.length + match e.cur with | none => 0 | some (_, 2) => 2 | some _ => 1

/-- The changes whose setting has not been programmed, in their order. -/
def ReadyWork.unset (e : ReadyWork) : List FuseReq :=
  (match e.cur with | some (r, 2) => [r] | _ => []) ++ e.todo

/-- Anti-rollback when all of the work is done, from `b` on. -/
def ReadyWork.rollbackTo (e : ReadyWork) (b : Nat) : Nat := e.unset.foldl rollbackAfter b

theorem ReadyWork.finished_iff {e : ReadyWork} (h : e.begun = true) : e.finished = true ↔ e.left = 0 := by
  obtain ⟨_, todo, _ | ⟨r, k⟩⟩ := e
  · simp_all [finished, left]
  · by_cases hk : k = 2 <;> simp [finished, left, hk]

theorem ReadyWork.rollbackTo_of_finished {e : ReadyWork} (h : e.finished = true) (b : Nat) : e.rollbackTo b = b := by
  simp only [finished, Bool.and_eq_true, Option.isNone_iff_eq_none, List.isEmpty_iff] at h
  obtain ⟨⟨-, hc⟩, ht⟩ := h
  simp [rollbackTo, unset, hc, ht]

/-- What `n` steps of an entry that has begun do: the work shrinks by a step each while any is left, anti-rollback stays bound for
the same value, and the fuse log keeps its records up to any complete one. -/
structure Works (n : Nat) (s u : State) : Prop where
  begun : u.start.entry.begun = true
  left : u.start.entry.left ≤ s.start.entry.left - n
  rollbackTo : u.start.entry.rollbackTo u.nv.fuses.rollback = s.start.entry.rollbackTo s.nv.fuses.rollback
  log : ∀ (l : List FuseRec) (x : FuseRec), x.complete = true → l ++ [x] <+: s.nv.fuses.log → l ++ [x] <+: u.nv.fuses.log

theorem Works.trans {m n : Nat} {a b c : State} (h : Works m a b) (k : Works n b c) : Works (m + n) a c where
  begun := k.begun
  left := by
    have := h.left
    have := k.left
    omega
  rollbackTo := k.rollbackTo.trans h.rollbackTo
  log l x hx p := k.log l x hx (h.log l x hx p)

theorem mayChange_rollbackReq (s : State) (i : Image) :
    s.mayChange i.rollbackReq = decide (s.nv.fuses.rollback < i.start.rollbackStep) := rfl

theorem rollbackAfter_of_refused {s : State} {r : FuseReq} (h : s.mayChange r = false) :
    rollbackAfter s.nv.fuses.rollback r = s.nv.fuses.rollback := by
  unfold rollbackAfter
  split
  next hk => exact Nat.max_eq_left (by simpa [State.mayChange, hk] using h)
  next => rfl

theorem readyStep_works {s : State} (hb : s.start.entry.begun = true) : Works 1 s (readyStep s) := by
  rcases hc : s.start.entry.cur with _ | ⟨r, k⟩
  · rcases ht : s.start.entry.todo with _ | ⟨r, l⟩
    · rw [readyStep_of_nothing_left hb hc ht]
      exact ⟨hb, by simp [ReadyWork.left, hc, ht], rfl, fun _ _ _ p => p⟩
    · by_cases hm : s.mayChange r = true
      · rw [readyStep_of_permitted hb hc ht hm]
        exact ⟨hb, by simp [ReadyWork.left, hc, ht]; omega, by simp [ReadyWork.rollbackTo, ReadyWork.unset, hc, ht],
          fun _ _ _ p => p.trans (List.prefix_append _ _)⟩
      · rw [Bool.not_eq_true] at hm
        rw [readyStep_of_refused hb hc ht hm]
        exact ⟨hb, by simp [ReadyWork.left, hc, ht]; omega,
          by simp [ReadyWork.rollbackTo, ReadyWork.unset, hc, ht, rollbackAfter_of_refused hm], fun _ _ _ p => p⟩
  · by_cases hk : k = 2
    · subst hk
      rw [readyStep_of_setting hb hc]
      exact ⟨hb, by simp [ReadyWork.left, hc], by simp [ReadyWork.rollbackTo, ReadyWork.unset, hc],
        fun _ _ _ p => by simpa using p⟩
    · rw [readyStep_of_ending hb hk hc]
      exact ⟨hb, by simp [ReadyWork.left, hc, hk], by simp [ReadyWork.rollbackTo, ReadyWork.unset, hc, hk],
        fun _ _ hx p => by simpa using s.nv.fuses.marked_keeps_complete hx p⟩

theorem readySteps_works (n : Nat) {s : State} (hb : s.start.entry.begun = true) : Works n s (readySteps n s) := by
  induction n generalizing s with
  | zero => exact ⟨hb, Nat.le_refl _, rfl, fun _ _ _ p => p⟩
  | succ n ih =>
    have first := readyStep_works hb
    rw [Nat.add_comm n 1, readySteps_add 1]
    exact first.trans (ih first.begun)

/-! ### The whole entry -/

/-- A change that may be made has, three steps later, its record with the completion mark (R363). -/
theorem readySteps_three_log {s : State} {r : FuseReq} {l : List FuseReq} (hb : s.start.entry.begun = true)
    (hc : s.start.entry.cur = none) (ht : s.start.entry.todo = r :: l) (hm : s.mayChange r = true) :
    (readySteps 3 s).nv.fuses.log = s.nv.fuses.log ++ [{ s.fuseRecord r with complete := true }] := by
  have h1 := readyStep_of_permitted hb hc ht hm
  have h2 : readyStep (readyStep s) = _ := readyStep_of_setting (r := r) (by rw [h1]; exact hb) (by rw [h1]; rfl)
  have h3 : readyStep (readyStep (readyStep s)) = _ :=
    readyStep_of_ending (r := r) (k := 3) (by rw [h2, h1]; exact hb) (by decide) (by rw [h2]; rfl)
  show (readyStep (readyStep (readyStep s))).nv.fuses.log = _
  rw [h3, State.setEntry_nv, endChange_fuses]
  apply Fuses.marked_log_append
  rw [h2, h1]
  simp

section
variable {s : State} (hn : s.start.entry.begun = false)
include hn

theorem readyStep_first_works (n : Nat) : Works n (readyStep s) (readySteps (n + 1) s) :=
  readySteps_works n (by rw [readyStep_of_not_begun hn]; rfl)

theorem readyStep_first_left : (readyStep s).start.entry.left + 1 ≤ s.stepsLeft := by
  rw [readyStep_of_not_begun hn]
  by_cases ha : s.im.advances s.nv.fuses = true <;> simp [ReadyWork.left, State.stepsLeft, hn, ha]

/-- Before the first step anti-rollback is bound for the image's step where the image advances it (R96). -/
theorem readyStep_first_rollbackTo (hr : ∀ r ∈ s.im.fuseReqs, r.kind ≠ 5) :
    (readyStep s).start.entry.rollbackTo (readyStep s).nv.fuses.rollback =
      if s.im.start.rollbackAdvance then max s.nv.fuses.rollback s.im.start.rollbackStep else s.nv.fuses.rollback := by
  have requests : ∀ b, s.im.fuseReqs.foldl rollbackAfter b = b := fun b =>
    List.foldlRecOn (motive := (· = b)) s.im.fuseReqs rollbackAfter rfl fun c hc r hmem => by simp [rollbackAfter, hr r hmem, hc]
  rw [readyStep_of_not_begun hn]
  by_cases ha : s.im.start.rollbackAdvance = true
  · by_cases hlt : s.nv.fuses.rollback < s.im.start.rollbackStep
    · simp [ReadyWork.rollbackTo, ReadyWork.unset, Image.advances, ha, hlt, requests, Image.rollbackReq, rollbackAfter]
    · simp [ReadyWork.rollbackTo, ReadyWork.unset, Image.advances, ha, hlt, requests, Nat.le_of_not_lt hlt]
  · simp [ReadyWork.rollbackTo, ReadyWork.unset, Image.advances, ha, requests]

/-- An advance that is due has its complete record next in the fuse log (R96, R363), however many steps follow. -/
theorem readySteps_advance_log (ha : s.im.advances s.nv.fuses = true) (n : Nat) :
    s.nv.fuses.log ++ [{ s.fuseRecord s.im.rollbackReq with complete := true }] <+: (readySteps (4 + n) s).nv.fuses.log := by
  have first := readyStep_of_not_begun hn
  have hb : (readyStep s).start.entry.begun = true := by rw [first]; rfl
  have hf : (readyStep s).nv.fuses = s.nv.fuses := by rw [first]; simp
  have hm : (readyStep s).mayChange s.im.rollbackReq = true := by
    rw [mayChange_rollbackReq, hf]
    exact (Bool.and_eq_true_iff.mp ha).2
  have three := readySteps_three_log (l := s.im.fuseReqs) hb (by rw [first]; rfl) (by rw [first]; simp [ha]) hm
  rw [(readyStep_frame s).fuseRecord hf, hf] at three
  rw [Nat.add_comm 4 n, ← Nat.add_assoc n 3 1, readySteps_succ, Nat.add_comm n 3, readySteps_add]
  have begun3 := (readySteps_works 3 hb).begun
  exact (readySteps_works n begun3).log _ _ rfl (three ▸ List.prefix_rfl)

end

theorem readySteps_finished_of_left_le {n : Nat} {s : State} (hb : s.start.entry.begun = true)
    (h : s.start.entry.left ≤ n) : (readySteps n s).start.entry.finished = true := by
  have works := readySteps_works n hb
  have left := works.left
  exact (ReadyWork.finished_iff works.begun).mpr (by omega)

theorem left_le_stepsLeft {s : State} (hb : s.start.entry.begun = true) : s.start.entry.left ≤ s.stepsLeft := by
  simp only [ReadyWork.left, State.stepsLeft, hb, if_true]
  split <;> omega

/-- As many steps as may be left finish the entry. -/
theorem readySteps_stepsLeft_finished (s : State) : (readySteps s.stepsLeft s).start.entry.finished = true := by
  by_cases hb : s.start.entry.begun = true
  · exact readySteps_finished_of_left_le hb (left_le_stepsLeft hb)
  · have hn := Bool.eq_false_iff.mpr hb
    obtain ⟨n, hsteps⟩ := Nat.exists_eq_add_of_le (readyStep_first_left hn)
    rw [hsteps, Nat.add_right_comm, readySteps_succ]
    exact readySteps_finished_of_left_le (by rw [readyStep_of_not_begun hn]; rfl) (Nat.le_add_right _ _)

/-! ### The command READY -/

/-- The state once every change is programmed: READY begins and the doors open. -/
def State.openDoors (s : State) : State := { setStage 9 s with part := { s.part with doorsOpen := true } }

@[simp] theorem State.openDoors_nv (s : State) : s.openDoors.nv = s.nv := rfl

theorem ProgramFrame.openDoors {s u : State} (h : ProgramFrame s u) :
    u.openDoors = { s with nv := u.openDoors.nv, start := u.openDoors.start, part := u.openDoors.part, flt := u.openDoors.flt } := by
  rw [h.frame]
  rfl

theorem doReady_of_not_govern {k : Option Nat} {s : State} (hg : s.lehr.state ≠ .govern) : doReady k s = s := by
  simp [doReady, hg]

section
variable {s : State} (hc : s.clocked = true) (hs : s.start.stage = 8) (hg : s.lehr.state = .govern)
include hc hs hg

/-- In GOVERN the steps are made, and the doors open if they finished the entry. -/
theorem doReady_of_govern (k : Option Nat) :
    doReady k s = if (readySteps (min (k.getD s.stepsLeft) s.stepsLeft) s).start.entry.finished
      then (readySteps (min (k.getD s.stepsLeft) s.stepsLeft) s).openDoors
      else readySteps (min (k.getD s.stepsLeft) s.stepsLeft) s := by
  simp only [doReady, hc, hs, hg]
  rfl

theorem doReady_none : doReady none s = (readySteps s.stepsLeft s).openDoors := by
  rw [doReady_of_govern hc hs hg, Option.getD_none, Nat.min_self, if_pos (readySteps_stepsLeft_finished s)]

theorem doReady_entry (k : Option Nat) :
    (doReady k s).start.entry = (readySteps (min (k.getD s.stepsLeft) s.stepsLeft) s).start.entry := by
  rw [doReady_of_govern hc hs hg]
  split <;> rfl

theorem doReady_nv (k : Option Nat) : (doReady k s).nv = (readySteps (min (k.getD s.stepsLeft) s.stepsLeft) s).nv := by
  rw [doReady_of_govern hc hs hg]
  split <;> rfl

/-- The doors are open exactly where no step was left. -/
theorem doReady_doors (k : Option Nat) :
    (doReady k s).start.stage = 9 ∧ (doReady k s).part = { s.part with doorsOpen := true } ∧
        (doReady k s).start.entry.finished = true ∨
      (doReady k s).start.stage = 8 ∧ (doReady k s).part = s.part ∧ (doReady k s).start.entry.finished = false := by
  have frame := readySteps_frame (min (k.getD s.stepsLeft) s.stepsLeft) s
  rw [doReady_of_govern hc hs hg]
  split
  next h => exact .inl ⟨rfl, congrArg (fun p : PartSt => { p with doorsOpen := true }) frame.part, h⟩
  next h => exact .inr ⟨frame.stage.trans hs, frame.part, Bool.eq_false_iff.mpr h⟩

theorem doReady_none_doors : (doReady none s).start.stage = 9 ∧ (doReady none s).start.entry.finished = true ∧
    (doReady none s).part = { s.part with doorsOpen := true } := by
  have finished : (doReady none s).start.entry.finished = true := by
    rw [doReady_none hc hs hg]
    exact readySteps_stepsLeft_finished s
  rcases doReady_doors hc hs hg none with ⟨hstage, hpart, -⟩ | ⟨-, -, hunfinished⟩
  · exact ⟨hstage, finished, hpart⟩
  · exact absurd finished (Bool.eq_false_iff.mp hunfinished)

/-- Entered and not interrupted, anti-rollback is the image's step where the image advances it and it was lower (R96). -/
theorem doReady_none_rollback (hn : s.start.entry.begun = false) (hr : ∀ r ∈ s.im.fuseReqs, r.kind ≠ 5) :
    (doReady none s).nv.fuses.rollback =
      if s.im.start.rollbackAdvance then max s.nv.fuses.rollback s.im.start.rollbackStep else s.nv.fuses.rollback := by
  obtain ⟨n, hsteps⟩ := Nat.exists_eq_add_of_le' (Nat.le_trans (Nat.le_add_left 1 _) (readyStep_first_left hn))
  have finished := readySteps_stepsLeft_finished s
  have works := (readyStep_first_works hn n).rollbackTo
  rw [← hsteps, ReadyWork.rollbackTo_of_finished finished, readyStep_first_rollbackTo hn hr] at works
  rw [doReady_none hc hs hg, State.openDoors_nv, works]

/-- An advance that is due leaves its complete record next in the fuse log (R96, R364). -/
theorem doReady_none_log (hn : s.start.entry.begun = false) (ha : s.im.start.rollbackAdvance = true)
    (hlt : s.nv.fuses.rollback < s.im.start.rollbackStep) :
    ∃ l, (doReady none s).nv.fuses.log = s.nv.fuses.log ++
      { kind := 5, slot := 0, complete := true, factory := false, imgSeq := s.im.start.sequence
        old := s.nv.fuses.rollback, new := s.im.start.rollbackStep, bootSeq := s.start.bootSeq } :: l := by
  have four : 4 ≤ s.stepsLeft := by
    simp [State.stepsLeft, hn]
  obtain ⟨n, hsteps⟩ := Nat.exists_eq_add_of_le four
  obtain ⟨l, hl⟩ := readySteps_advance_log hn (by simp [Image.advances, ha, hlt]) n
  refine ⟨l, ?_⟩
  rw [doReady_none hc hs hg, State.openDoors_nv, hsteps, ← hl, List.append_assoc]
  rfl

/-- Interrupted after its first step, the entry has begun and only the outcome byte is programmed (R109). -/
theorem doReady_one (hn : s.start.entry.begun = false) :
    (doReady (some 1) s).nv = (markAttempt s).nv ∧ (doReady (some 1) s).start.entry.begun = true := by
  have one : min ((some 1 : Option Nat).getD s.stepsLeft) s.stepsLeft = 1 :=
    Nat.min_eq_left (Nat.le_trans (Nat.le_add_left 1 _) (readyStep_first_left hn))
  have hstep : readySteps 1 s = _ := readyStep_of_not_begun hn
  rw [doReady_nv hc hs hg, doReady_entry hc hs hg, one, hstep]
  exact ⟨rfl, rfl⟩

end

theorem doReady_fusesGrow (k : Option Nat) (s : State) : FusesGrow s.nv.fuses (doReady k s).nv.fuses :=
  (doReady_holds (Holds.refl s)).fuses

/-- The outcome byte of this start's boot attempt reads 0 once it is programmed. -/
theorem markAttempt_outcome {s : State} {i : Nat} (hw : Memory.wf s = true) (hi : s.start.bootEntry = some i) :
    cellGet 0xFF#8 (markAttempt s).nv.flash (logBase + 32 * i + 9) = 0 := by
  have hflash : cellsWf 0xFF s.nv.flash = true := (Bool.and_eq_true_iff.mp hw).2
  have hwritten : (markAttempt s).nv.flash = cellSet 0xFF#8 s.nv.flash (logBase + 32 * i + 9) 0 := by
    unfold markAttempt
    rw [hi]
    rfl
  rw [hwritten]
  exact cellGet_cellSet _ _ hflash

/-! ### Check 6 of an image -/

theorem decodeStart_rollbackStep (rs : List Rec) :
    (decodeStart rs).rollbackStep = bits ((recNum rs 0x0001).getD 0) 0 8 := by
  unfold decodeStart
  split <;> rfl

/-- An accepted image passed a check whose failure answers a check's number. -/
theorem passed_of_accepted {p : Prop} [Decidable p] {a b r : ImgCheck} (hr : (if p then a else b) = r) (ha : a.failed ≠ 0)
    (h : r.failed = 0) : ¬p ∧ b = r := by
  by_cases hp : p
  · rw [if_pos hp] at hr
    exact absurd (hr ▸ h) ha
  · rw [if_neg hp] at hr
    exact ⟨hp, hr⟩

/-- An accepted image has its IMG_CONTAINER among the records it is decoded from, with a step that check 6 lets pass. -/
theorem checkImage_accepted {nv : NonVol} {f : Fuses} {err : Nat} {bs : List Byte} (h : (checkImage nv f err bs).failed = 0) :
    ∃ rs c, findRec rs 0x0001 = some c ∧ f.rollback ≤ bits c.num 0 8 ∧ (checkImage nv f err bs).image = decodeImage nv rs := by
  generalize hr : checkImage nv f err bs = r at h ⊢
  unfold checkImage at hr
  obtain ⟨-, hr⟩ := passed_of_accepted hr (Nat.succ_ne_zero 0) h
  split at hr
  next =>
    subst hr
    exact absurd h (Nat.succ_ne_zero 1)
  next rs _ =>
    obtain ⟨-, hr⟩ := passed_of_accepted hr (Nat.succ_ne_zero 1) h
    split at hr
    next c _ hc _ =>
      obtain ⟨-, hr⟩ := passed_of_accepted hr (Nat.succ_ne_zero 2) h
      obtain ⟨-, hr⟩ := passed_of_accepted hr (Nat.succ_ne_zero 3) h
      obtain ⟨-, hr⟩ := passed_of_accepted hr (Nat.succ_ne_zero 4) h
      obtain ⟨h6, hr⟩ := passed_of_accepted hr (Nat.succ_ne_zero 5) h
      obtain ⟨-, hr⟩ := passed_of_accepted hr (Nat.succ_ne_zero 6) h
      obtain ⟨-, hr⟩ := passed_of_accepted hr (Nat.succ_ne_zero 7) h
      obtain ⟨-, hr⟩ := passed_of_accepted hr (Nat.succ_ne_zero 8) h
      have hstep : f.rollback ≤ bits c.num 0 8 := by
        simp only [Bool.or_eq_true, decide_eq_true_eq, not_or, Nat.not_lt] at h6
        exact h6.2
      exact ⟨rs, c, hc, hstep, hr ▸ rfl⟩
    next =>
        subst hr
        exact absurd h (Nat.succ_ne_zero 2)

/-- Check 6: the step of an accepted image is at least the fused anti-rollback value (R96). -/
theorem checkImage_accepted_rollback {nv : NonVol} {f : Fuses} {err : Nat} {bs : List Byte}
    (h : (checkImage nv f err bs).failed = 0) : f.rollback ≤ (checkImage nv f err bs).image.start.rollbackStep := by
  obtain ⟨rs, c, hc, hle, himg⟩ := checkImage_accepted h
  have hstep : (decodeImage nv rs).start.rollbackStep = bits c.num 0 8 := by
    rw [show (decodeImage nv rs).start = decodeStart rs from rfl, decodeStart_rollbackStep, recNum, hc]
    rfl
  rwa [himg, hstep]

/-! ### O12 -/

/-- Settles O12: the entry's steps are bounded, keep anti-rollback's final value and complete records, and open the doors exactly when
they are finished; check 6 bounds the step of an accepted image. -/
theorem readyOpensDoors : Obligations.ReadyOpensDoors := by
  unfold Obligations.ReadyOpensDoors
  intro t s hclocked hstage
  have hc : (s.advance t).clocked = true := by simpa using hclocked
  have hs : (s.advance t).start.stage = 8 := by simpa using hstage
  refine ⟨fun hg => ⟨?whole, fun k => ?stopped, fun hn hw => ?first⟩, fun f err bs => checkImage_accepted_rollback,
    fun k hg => congrArg _ (doReady_of_not_govern hg)⟩
  case whole =>
    obtain ⟨hready, hfinished, hdoors⟩ := doReady_none_doors hc hs hg
    refine ⟨doReady none (s.advance t), rfl, ?_, hready, hfinished, by simpa using hdoors, fun hn hr => ?_,
      fun hn ha hlt => ?_, by simpa using doReady_fusesGrow none (s.advance t)⟩
    · rw [doReady_none hc hs hg]
      exact (readySteps_frame _ _).openDoors
    · simpa using doReady_none_rollback hc hs hg (by simpa using hn) (by simpa using hr)
    · simpa using doReady_none_log hc hs hg (by simpa using hn) (by simpa using ha) (by simpa using hlt)
  case stopped =>
    refine ⟨doReady (some k) (s.advance t), rfl, ?_, ?_⟩
    · simpa using doReady_fusesGrow (some k) (s.advance t)
    · simpa using doReady_doors hc hs hg (some k)
  case first =>
    obtain ⟨hnv, hbegun⟩ := doReady_one hc hs hg (by simpa using hn)
    refine ⟨doReady (some 1) (s.advance t), rfl, by simp [hnv], hbegun, fun i hi => ?_⟩
    rw [hnv]
    exact markAttempt_outcome (by simpa [Memory.wf] using hw) (by simpa using hi)

end Sys2Proof.Machine

/-! PROOFS. Signals and fills (R140, R141, R146, R149, R152, R153): equations for counters, held words and the messages to them, and
O37 and O38, which are put together from them; and O30, which fails where a tile lists a slot twice. -/

namespace Sys2Proof.Machine

/-! ### O30: a slot that its tile's table lists twice -/

/-- Slot 0 of tile 0 stands twice in the tile's table, whose keys so do not rise: first the task of parcel 7 that runs and whose one
command came poisoned, and behind it, where no lookup by slot reaches, a ready task. -/
def slotListedTwice : State :=
  { tiles := { tiles := [(0, { tasks :=
      [(0, { state := .running, parcel := 7, cmds := [{ badWords := true, phase := .read }] }), (0, { state := .ready })] })] }
    part := { parcels := [{
      id := 7, via := .pcie 0, context := 0, report := 0, tag := 0, serial := 1, epoch := 0, claimW := 0, exact := false, relAngle := 0
      relRev := 0, limitRev := 0, base := 0, len := 224, sections := [], state := .running, tasks := [(0, 0)] }] } }

/-- A task that a fault has ended, but that is made to run again, ends no parcel. -/
theorem reap_of_running {s : State} {tile slot : Nat} (hr : (s.task tile slot).state = .running)
    (hl : (s.tiles.tiles.flatMap fun p => (p.2.tasks.filter fun q => q.2.fault ≠ 0).map fun q => (p.1, q.1)) = [(tile, slot)]) :
    reap s = s := by
  have kept : reapTask s (tile, slot) = s := by
    simp [reapTask, hr]
  rw [reap, hl, List.foldl_cons, List.foldl_nil, kept]

/-- The entry found by its key ends with the fault, the pipeline goes to the slot of the ready entry behind it, and that makes the
ended one run: the parcel stays. -/
theorem reap_slotListedTwice : reap (checkCommand 0 0 slotListedTwice) = checkCommand 0 0 slotListedTwice :=
  have runs : ((checkCommand 0 0 slotListedTwice).task 0 0).state = .running := by decide
  reap_of_running runs (by decide)

/-- Refutes O30: the statement ranges over tables whose keys do not rise, and at `slotListedTwice` the poisoned command's task runs on
and its parcel does not end. -/
theorem not_commandsRefused : ¬ Obligations.CommandsRefused := by
  unfold Obligations.CommandsRefused
  intro h
  obtain ⟨-, -, -, refused, -, -⟩ := h 0 0 slotListedTwice { badWords := true, phase := .read } rfl rfl rfl
  obtain ⟨gone, -⟩ := refused (.inl rfl)
  rw [reap_slotListedTwice] at gone
  have stays : 7 ∈ (checkCommand 0 0 slotListedTwice).part.parcels.map Parcel.id := by decide
  obtain ⟨p, hp, hid⟩ := List.mem_map.mp stays
  exact gone p hp hid

/-! ### Tables and bits -/

theorem tset_tset_same {α : Type} (m : Tab α) (k : Nat) (v w : α) : tset (tset m k v) k w = tset m k w := by
  induction m with
  | nil => simp [tset]
  | cons p r ih =>
    obtain ⟨a, x⟩ := p
    by_cases ha : a = k
    · simp [tset, ha]
    · by_cases hk : k < a
      · simp [tset, ha, hk]
      · simp [tset, ha, hk, ih]

theorem tget_map {α β : Type} (f : α → β) (m : Tab α) (k : Nat) (d : α) :
    tget (m.map fun p => (p.1, f p.2)) k (f d) = f (tget m k d) := by
  induction m with
  | nil => rfl
  | cons p r ih =>
    by_cases hp : p.1 = k
    · simp [tget, hp]
    · simpa [tget, hp] using ih

theorem waitValue_le (ws : List Nat) : waitValue ws ≤ 0xFFFFFFFF :=
  Nat.le_of_lt_succ (Nat.mod_lt _ (Nat.two_pow_pos 32))

/-! ### A message leaves those in flight -/

section
variable (t : Nat) (m : SyncMsg) (s : State)

theorem landed_advance : landed m (s.advance t) =
    { s.advance t with sync := { s.sync with flight := s.sync.flight.erase m } } := by
  simp [landed]

@[simp] theorem landed_advance_counter (tile n : Nat) : (landed m (s.advance t)).counter tile n = s.counter tile n := by
  simp [landed, State.counter]

@[simp] theorem landed_advance_ownerContext (owner : Nat) :
    (landed m (s.advance t)).ownerContext owner = s.ownerContext owner := by
  simp [landed, State.ownerContext, State.parcel]

@[simp] theorem landed_advance_isReady : (landed m (s.advance t)).isReady = s.isReady := by
  simp [landed, State.isReady]

@[simp] theorem landed_advance_heldOwnerOf (tile i : Nat) :
    (landed m (s.advance t)).heldOwnerOf tile i = s.heldOwnerOf tile i := by
  simp [landed, State.heldOwnerOf]

@[simp] theorem landed_advance_heldFull (tile i : Nat) : (landed m (s.advance t)).heldFull tile i = s.heldFull tile i := by
  simp [landed, State.heldFull]

@[simp] theorem landed_advance_csu (c : Nat) : (landed m (s.advance t)).csu c = s.csu c := by
  simp [landed, State.csu]

end

/-! ### When a message is taken (R165) -/

theorem State.takesSync_eq {s : State} (hc : s.clocked = true) :
    s.takesSync = decide (5 ≤ s.start.stage ∧ s.start.stage ≤ 9) := by
  simp [State.takesSync, hc]

section
variable {t : Nat} {m : SyncMsg} {s : State} (hc : (s.advance t).clocked = true)
include hc

theorem advance_takesSync (h5 : 5 ≤ s.start.stage) (h9 : s.start.stage ≤ 9) : (s.advance t).takesSync = true := by
  simpa [State.takesSync_eq hc] using And.intro h5 h9

theorem advance_not_takesSync (h : s.start.stage < 5 ∨ 9 < s.start.stage) : (s.advance t).takesSync = false := by
  rw [State.takesSync_eq hc, State.advance_start]
  exact decide_eq_false (by omega)

theorem exec_signal (hm : m.kind = 1) (h5 : 5 ≤ s.start.stage) (h9 : s.start.stage ≤ 9) :
    exec (.signal t m) s = .next (takeSignal m (landed m (s.advance t))) := by
  have hdo : doSignal m (s.advance t) = takeSignal m (landed m (s.advance t)) := by
    simp [doSignal, hm, advance_takesSync hc h5 h9]
  exact congrArg _ hdo

theorem exec_signal_not_taken (h : s.start.stage < 5 ∨ 9 < s.start.stage) :
    exec (.signal t m) s = .next (s.advance t) := by
  have hdo : doSignal m (s.advance t) = s.advance t := by
    simp [doSignal, advance_not_takesSync hc h]
  exact congrArg _ hdo

theorem exec_fill (hm : m.kind = 2) (h5 : 5 ≤ s.start.stage) (h9 : s.start.stage ≤ 9) :
    exec (.fill t m) s = .next (pumpTile (m.cluster * 64 + m.tile) (takeFill m (landed m (s.advance t)))) := by
  have hdo : doFill m (s.advance t) = pumpTile (m.cluster * 64 + m.tile) (takeFill m (landed m (s.advance t))) := by
    simp [doFill, hm, advance_takesSync hc h5 h9]
  exact congrArg _ hdo

theorem exec_fill_not_taken (h : s.start.stage < 5 ∨ 9 < s.start.stage) :
    exec (.fill t m) s = .next (s.advance t) := by
  have hdo : doFill m (s.advance t) = s.advance t := by
    simp [doFill, advance_not_takesSync hc h]
  exact congrArg _ hdo

end

/-! ### Counters (R140, R141) -/

/-- Nothing watches the counter with this key, neither a watch slot nor a send entry (R151, R314). -/
def State.unwatched (s : State) (key : Nat) : Prop :=
  (∀ p ∈ s.sync.watches, p.2.source ≠ key) ∧ ∀ p ∈ s.sync.sendWatches, p.2.source ≠ key

theorem checkSource_of_unwatched {key : Nat} {s : State} (h : s.unwatched key) : checkSource key s = s := by
  obtain ⟨hw, hs⟩ := h
  have nowatch : s.sync.watches.filter (fun p => p.2.source = key) = [] := by simpa using hw
  have nosend : s.sync.sendWatches.filter (fun p => p.2.source = key) = [] := by simpa using hs
  simp [checkSource, nowatch, nosend]

/-- The state with another value of a counter. -/
def State.setCounter (tile n : Nat) (x : Counter) (s : State) : State :=
  { s with sync := { s.sync with counters := tset s.sync.counters (ctrKey tile n) x } }

theorem State.counter_setCounter (tile n : Nat) (x : Counter) (s : State) : (s.setCounter tile n x).counter tile n = x :=
  tget_tset_same _ _ _ _

theorem addCounter_of_lt {tile n inc : Nat} {s : State} (hw : s.unwatched (ctrKey tile n))
    (h : (s.counter tile n).count + inc < 0xFFFFFFFF) :
    addCounter tile n inc s = s.setCounter tile n { s.counter tile n with count := (s.counter tile n).count + inc } := by
  have hv : min ((s.counter tile n).count + inc) 0xFFFFFFFF = (s.counter tile n).count + inc := Nat.min_eq_left (Nat.le_of_lt h)
  simp only [addCounter, hv, Nat.ne_of_lt h, decide_false, Bool.false_and, Bool.false_eq_true, if_false]
  exact checkSource_of_unwatched hw

theorem addCounter_of_reaches {tile n inc : Nat} {s : State} (hlt : (s.counter tile n).count < 0xFFFFFFFF)
    (hle : 0xFFFFFFFF ≤ (s.counter tile n).count + inc) :
    addCounter tile n inc s = checkSource (ctrKey tile n)
      (noteSaturated tile n (s.setCounter tile n { s.counter tile n with count := 0xFFFFFFFF })) := by
  have hv : min ((s.counter tile n).count + inc) 0xFFFFFFFF = 0xFFFFFFFF := Nat.min_eq_right hle
  simp only [addCounter, hv, Nat.ne_of_lt hlt, ne_eq, not_false_eq_true, decide_true, Bool.true_and, if_true]
  rfl

/-- Counter `n` of tile `i` of cluster `c` saturated: its count, whether that is raised, and what the CSU shows of it (R141). -/
def State.saturated (c i n : Nat) (raised : Bool) (s : State) : State :=
  { s with sync := { s.sync with
      counters := tset s.sync.counters (ctrKey (c * 64 + i) n)
        { s.counter (c * 64 + i) n with count := 0xFFFFFFFF, satRaised := raised }
      csus := tset s.sync.csus c { s.csu c with satTiles := setBit (s.csu c).satTiles i, stSaturated := true } } }

theorem clusterOfTile_add {c i : Nat} (h : i < 64) : clusterOfTile (c * 64 + i) = c := by
  unfold clusterOfTile
  omega

theorem raiseFor_sync (code unit pid : Nat) (s : State) : (raiseFor code unit pid s).sync = s.sync := by
  unfold raiseFor
  split <;> rfl

section
variable {c i n : Nat} {s : State} (hi : i < 64)
include hi

theorem noteSaturated_again (h : (s.counter (c * 64 + i) n).satRaised = true) :
    noteSaturated (c * 64 + i) n (s.setCounter (c * 64 + i) n { s.counter (c * 64 + i) n with count := 0xFFFFFFFF }) =
      s.saturated c i n true := by
  simp only [noteSaturated, State.counter_setCounter, h, if_true, clusterOfTile_add hi, Nat.mul_add_mod_of_lt hi]
  rw [State.saturated, ← h]
  rfl

theorem noteSaturated_first (h : (s.counter (c * 64 + i) n).satRaised = false) :
    noteSaturated (c * 64 + i) n (s.setCounter (c * 64 + i) n { s.counter (c * 64 + i) n with count := 0xFFFFFFFF }) =
      raiseFor 0x5001 c ((s.counter (c * 64 + i) n).owner - 1) (s.saturated c i n true) := by
  simp only [noteSaturated, State.counter_setCounter, h, Bool.false_eq_true, if_false, clusterOfTile_add hi,
    Nat.mul_add_mod_of_lt hi]
  simp only [State.setCounter, State.updCsu, tset_tset_same]
  rfl

variable {inc : Nat} (hw : s.unwatched (ctrKey (c * 64 + i) n)) (hlt : (s.counter (c * 64 + i) n).count < 0xFFFFFFFF)
  (hle : 0xFFFFFFFF ≤ (s.counter (c * 64 + i) n).count + inc)
include hw hlt hle

theorem addCounter_saturates_again (h : (s.counter (c * 64 + i) n).satRaised = true) :
    addCounter (c * 64 + i) n inc s = s.saturated c i n true := by
  rw [addCounter_of_reaches hlt hle, noteSaturated_again hi h]
  exact checkSource_of_unwatched hw

theorem addCounter_saturates_first (h : (s.counter (c * 64 + i) n).satRaised = false) :
    addCounter (c * 64 + i) n inc s = raiseFor 0x5001 c ((s.counter (c * 64 + i) n).owner - 1) (s.saturated c i n true) := by
  rw [addCounter_of_reaches hlt hle, noteSaturated_first hi h]
  refine checkSource_of_unwatched ?_
  rw [State.unwatched, raiseFor_sync]
  exact hw

end

/-- A saturated counter has reached every value (R141). -/
theorem waitMet_of_saturated {tile : Nat} {ws : List Nat} {s : State} (h : (s.counter tile (waitCtr ws)).count = 0xFFFFFFFF) :
    s.waitMet tile ws = true := by
  simp [State.waitMet, h, waitValue_le ws]

/-! ### Signal messages (R152, R153) -/

theorem takeSignal_of_owned {m : SyncMsg} {s : State} (hr : s.isReady = true) (hi : m.index < 48)
    (ho : s.ownerContext (s.counter (m.cluster * 64 + m.tile) m.index).owner = some m.context) :
    takeSignal m s = addCounter (m.cluster * 64 + m.tile) m.index m.payload s := by
  simp [takeSignal, hr, hi, ho]

theorem takeSignal_of_stale {m : SyncMsg} {s : State}
    (h : s.isReady = false ∨ 48 ≤ m.index ∨
      s.ownerContext (s.counter (m.cluster * 64 + m.tile) m.index).owner ≠ some m.context) :
    takeSignal m s = staleDrop m.cluster s := by
  refine if_neg fun hall => ?_
  simp only [Bool.and_eq_true, decide_eq_true_eq] at hall
  obtain ⟨⟨hr, hi⟩, ho⟩ := hall
  rcases h with hn | hle | hne
  · exact absurd hr (Bool.eq_false_iff.mp hn)
  · exact absurd hi (Nat.not_lt.mpr hle)
  · exact hne ho

theorem State.isReady_iff (s : State) : s.isReady = true ↔ s.start.stage = 9 := decide_eq_true_iff

theorem State.isReady_eq_false_iff (s : State) : s.isReady = false ↔ s.start.stage ≠ 9 := decide_eq_false_iff_not

theorem exec_signal_of_owned {t : Nat} {m : SyncMsg} {s : State} (hm : m.kind = 1) (hc : (s.advance t).clocked = true)
    (hs : s.start.stage = 9) (hi : m.index < 48)
    (ho : s.ownerContext (s.counter (m.cluster * 64 + m.tile) m.index).owner = some m.context) :
    exec (.signal t m) s = .next (addCounter (m.cluster * 64 + m.tile) m.index m.payload (landed m (s.advance t))) := by
  rw [exec_signal hc hm (by omega) (by omega),
    takeSignal_of_owned (by simpa using s.isReady_iff.mpr hs) hi (by simpa using ho)]

theorem landed_advance_unwatched {t key : Nat} {m : SyncMsg} {s : State} (h : s.unwatched key) :
    (landed m (s.advance t)).unwatched key := by
  simpa [State.unwatched, landed] using h

/-! ### O37 -/

/-- Settles O37: a signal that is taken adds to an owned counter, by the equations of `addCounter`, or is stale. -/
theorem signals : Obligations.Signals := by
  unfold Obligations.Signals
  intro t m s hm hc
  refine ⟨fun hs hi ho hlt hw hsw => ?counts, fun hs hi ht ho hlt hle hw hsw => ⟨fun hr => ?again, fun hr => ?first⟩,
    fun hx ws hws => waitMet_of_saturated (by rw [hws]; exact hx), fun h5 h9 h => ?stale, exec_signal_not_taken hc⟩
  case counts =>
    rw [exec_signal_of_owned hm hc hs hi ho, addCounter_of_lt (landed_advance_unwatched ⟨hw, hsw⟩) (by simpa using hlt),
      landed_advance_counter, landed_advance]
    rfl
  case again =>
    rw [exec_signal_of_owned hm hc hs hi ho,
      addCounter_saturates_again ht (landed_advance_unwatched ⟨hw, hsw⟩) (by simpa using hlt) (by simpa using hle)
        (by simpa using hr), State.saturated, landed_advance_counter, landed_advance_csu, landed_advance]
  case first =>
    rw [exec_signal_of_owned hm hc hs hi ho,
      addCounter_saturates_first ht (landed_advance_unwatched ⟨hw, hsw⟩) (by simpa using hlt) (by simpa using hle)
        (by simpa using hr), State.saturated, landed_advance_counter, landed_advance_csu, landed_advance]
  case stale =>
    rw [exec_signal hc hm h5 h9, takeSignal_of_stale (by simpa [State.isReady_eq_false_iff] using h), landed_advance]
    rfl

/-! ### Held words (R146 to R149) -/

@[simp] theorem State.csu_setFull (tile i c : Nat) (full : Bool) (s : State) : (s.setFull tile i full).csu c = s.csu c := rfl

/-- The first entry of a queue for a word is the one found, and taking it leaves the others in their order. -/
theorem erase_first_of_word {tile i v : Nat} {pre post : List (Nat × Nat × Nat)} (h : ∀ q ∈ pre, ¬(q.1 = tile ∧ q.2.1 = i)) :
    (pre ++ (tile, i, v) :: post).erase (tile, i, v) = pre ++ post := by
  have hnot : (tile, i, v) ∉ pre := fun hmem => h _ hmem ⟨rfl, rfl⟩
  rw [List.erase_append_right _ hnot, List.erase_cons_head]

theorem find_first_of_word {tile i v : Nat} {pre post : List (Nat × Nat × Nat)} (h : ∀ q ∈ pre, ¬(q.1 = tile ∧ q.2.1 = i)) :
    (pre ++ (tile, i, v) :: post).find? (fun q => q.1 = tile && q.2.1 = i) = some (tile, i, v) := by
  have hpre : pre.find? (fun q => q.1 = tile && q.2.1 = i) = none := by simpa using h
  simp [List.find?_append, hpre]

theorem remoteFill_of_empty {tile i v : Nat} {s : State} (he : s.heldFull tile i = false) :
    remoteFill tile i v s = fillWord tile i v s := by
  simp [remoteFill, he]

section
variable {c j i : Nat} {s : State} (hj : j < 64)
include hj

/-- A word that is emptied takes its oldest queued fill (R149). -/
theorem emptyWord_of_queued {v : Nat} {pre post : List (Nat × Nat × Nat)}
    (hq : (s.csu c).hfq = pre ++ (c * 64 + j, i, v) :: post) (h : ∀ q ∈ pre, ¬(q.1 = c * 64 + j ∧ q.2.1 = i)) :
    emptyWord (c * 64 + j) i s =
      fillWord (c * 64 + j) i v ((s.setFull (c * 64 + j) i false).updCsu c fun u => { u with hfq := pre ++ post }) := by
  simp only [emptyWord, clusterOfTile_add hj, State.csu_setFull, hq, find_first_of_word h]
  simp only [State.updCsu, tupd]
  have hq' : (tget (s.setFull (c * 64 + j) i false).sync.csus c {}).hfq = pre ++ (c * 64 + j, i, v) :: post := hq
  rw [hq', erase_first_of_word h]

theorem emptyWord_of_none (h : ∀ q ∈ (s.csu c).hfq, ¬(q.1 = c * 64 + j ∧ q.2.1 = i)) :
    emptyWord (c * 64 + j) i s = s.setFull (c * 64 + j) i false := by
  have hnone : (s.csu c).hfq.find? (fun q => q.1 = c * 64 + j && q.2.1 = i) = none := by simpa using h
  simp only [emptyWord, clusterOfTile_add hj, State.csu_setFull, hnone]

variable {v : Nat} (hf : s.heldFull (c * 64 + j) i = true)
include hf

theorem remoteFill_queues (hl : (s.csu c).hfq.length < 64) :
    remoteFill (c * 64 + j) i v s = s.updCsu c fun u => { u with
      hfq := u.hfq ++ [(c * 64 + j, i, v)], hfqHigh := max u.hfqHigh (u.hfq.length + 1) } := by
  simp [remoteFill, hf, clusterOfTile_add hj, Nat.not_le.mpr hl]

theorem remoteFill_drops (hl : 64 ≤ (s.csu c).hfq.length) :
    remoteFill (c * 64 + j) i v s = dropFill c (s.heldOwnerOf (c * 64 + j) i - 1) s := by
  simp [remoteFill, hf, clusterOfTile_add hj, hl]

end

/-- What the CSU counts and shows of a fill it drops (R149). -/
def State.countDrop (c : Nat) (s : State) : State :=
  s.updCsu c fun u => { u with heldDrops := min (u.heldDrops + 1) 4294967295, stFillLost := true, dropRaised := true }

theorem dropFill_again {c pid : Nat} {s : State} (h : (s.csu c).dropRaised = true) : dropFill c pid s = s.countDrop c :=
  if_pos h

theorem dropFill_first {c pid : Nat} {s : State} (h : (s.csu c).dropRaised = false) :
    dropFill c pid s = raiseFor 0x5002 c pid (s.countDrop c) :=
  if_neg (Bool.eq_false_iff.mp h)

/-- At the end of a revolution a dropped fill may be raised again. -/
theorem endRevolution_dropRaised (s : State) (c : Nat) : ((endRevolution s).csu c).dropRaised = false := by
  have cleared := tget_map (fun u : Csu => { u with dropRaised := false }) (countIdle (latchShards s)).sync.csus c {}
  exact congrArg Csu.dropRaised cleared

/-! ### Fill messages (R149, R153) -/

theorem takeFill_of_owned {m : SyncMsg} {s : State} (hr : s.isReady = true)
    (ho : s.ownerContext (s.heldOwnerOf (m.cluster * 64 + m.tile) m.index) = some m.context) :
    takeFill m s = remoteFill (m.cluster * 64 + m.tile) m.index m.payload s := by
  simp [takeFill, hr, ho]

theorem takeFill_of_stale {m : SyncMsg} {s : State}
    (h : s.isReady = false ∨ s.ownerContext (s.heldOwnerOf (m.cluster * 64 + m.tile) m.index) ≠ some m.context) :
    takeFill m s = staleDrop m.cluster s := by
  refine if_neg fun hall => ?_
  simp only [Bool.and_eq_true, decide_eq_true_eq] at hall
  obtain ⟨hr, ho⟩ := hall
  exact h.elim (fun hn => absurd hr (Bool.eq_false_iff.mp hn)) (absurd ho)

theorem exec_fill_of_owned {t : Nat} {m : SyncMsg} {s : State} (hm : m.kind = 2) (hc : (s.advance t).clocked = true)
    (hs : s.start.stage = 9) (ho : s.ownerContext (s.heldOwnerOf (m.cluster * 64 + m.tile) m.index) = some m.context) :
    exec (.fill t m) s = .next (pumpTile (m.cluster * 64 + m.tile)
      (remoteFill (m.cluster * 64 + m.tile) m.index m.payload (landed m (s.advance t)))) := by
  rw [exec_fill hc hm (by omega) (by omega), takeFill_of_owned (by simpa using s.isReady_iff.mpr hs) (by simpa using ho)]

/-! ### O38 -/

/-- Settles O38: a fill that is taken fills, queues or is dropped, by the equations of `remoteFill`, or is stale. -/
theorem fills : Obligations.Fills := by
  unfold Obligations.Fills
  intro t m s hm hc
  refine ⟨fun hs ho ht => ⟨fun he => ?empty, fun hf hl => ?queued, fun hf hl hr => ?again, fun hf hl hr => ?first⟩,
    fun ht => ⟨fun v pre post hq h => emptyWord_of_queued ht hq h, emptyWord_of_none ht⟩, endRevolution_dropRaised s,
    fun h5 h9 h => ?stale, exec_fill_not_taken hc⟩
  case empty =>
    rw [exec_fill_of_owned hm hc hs ho, remoteFill_of_empty (by simpa using he), landed_advance]
    rfl
  case queued =>
    rw [exec_fill_of_owned hm hc hs ho, remoteFill_queues ht (by simpa using hf) (by simpa using hl), landed_advance]
  case again =>
    rw [exec_fill_of_owned hm hc hs ho, remoteFill_drops ht (by simpa using hf) (by simpa using hl),
      dropFill_again (by simpa using hr), landed_advance]
    rfl
  case first =>
    rw [exec_fill_of_owned hm hc hs ho, remoteFill_drops ht (by simpa using hf) (by simpa using hl),
      dropFill_first (by simpa using hr), landed_advance_heldOwnerOf, landed_advance]
    rfl
  case stale =>
    rw [exec_fill hc hm h5 h9, takeFill_of_stale (by simpa [State.isReady_eq_false_iff] using h), landed_advance]
    rfl

end Sys2Proof.Machine

/-! PROOFS. Every command answers a next state and keeps what `Holds` names (O59); the running part's commands keep what `Keeps` names
(O58). -/

namespace Sys2Proof.Machine

/-! ### O59 -/

/-- Each command of the block answers a next state that keeps what every operation keeps. -/
theorem exec_answers_next (c : Instr) (s : State) : ∃ u, exec c s = .next u ∧ Holds s u := by
  cases c with
  | resetNAssert => exact ⟨_, rfl, doResetAssert_holds (advance_holds (.refl s))⟩
  | resetNRelease => exact ⟨_, rfl, doResetRelease_holds (.refl s)⟩
  | pgoodFall => exact ⟨_, rfl, doPgoodFall_holds (advance_holds (.refl s))⟩
  | sysclkLoss => exact ⟨_, rfl, doSysclkLoss_holds (advance_holds (.refl s))⟩
  | refclkStop => exact ⟨_, rfl, doRefclkStop_holds (advance_holds (.refl s))⟩
  | pcieLinkUp => exact ⟨_, rfl, doPcieLinkUp_holds (advance_holds (.refl s))⟩
  | imageStage => exact ⟨_, rfl, doImageStage_holds (advance_holds (.refl s))⟩
  | memoryStage => exact ⟨_, rfl, doMemoryStage_holds (advance_holds (.refl s))⟩
  | lightStage => exact ⟨_, rfl, doLightStage_holds (advance_holds (.refl s))⟩
  | fabricStage => exact ⟨_, rfl, doFabricStage_holds (advance_holds (.refl s))⟩
  | roundStage => exact ⟨_, rfl, doRoundStage_holds (advance_holds (.refl s))⟩
  | joinStage => exact ⟨_, rfl, doJoinStage_holds (advance_holds (.refl s))⟩
  | rampStage => exact ⟨_, rfl, doRampStage_holds (advance_holds (.refl s))⟩
  | startStageTimeout => exact ⟨_, rfl, doStageTimeout_holds (advance_holds (.refl s))⟩
  | ready => exact ⟨_, rfl, doReady_holds (advance_holds (.refl s))⟩
  | forceRecoveryNFall => exact ⟨_, rfl, doRecoveryPinFall_holds (advance_holds (.refl s))⟩
  | recoveryPinHeld => exact ⟨_, rfl, doRecoveryPinHeld_holds (advance_holds (.refl s))⟩
  | imgRecoveryDoorWrite => exact ⟨_, rfl, doRecoveryDoor_holds (advance_holds (.refl s))⟩
  | recoveryProgrammingDone => exact ⟨_, rfl, doProgrammingDone_holds (advance_holds (.refl s))⟩
  | recoveryTimeout => exact ⟨_, rfl, doRecoveryTimeout_holds (advance_holds (.refl s))⟩
  | generatedTooth => exact ⟨_, rfl, doGeneratedTooth_holds (advance_holds (.refl s))⟩
  | roundEdge => exact ⟨_, rfl, doRoundEdge_holds (advance_holds (.refl s))⟩
  | roundMark => exact ⟨_, rfl, doRoundMark_holds (advance_holds (.refl s))⟩
  | stallTimeout => exact ⟨_, rfl, doStallTimeout_holds (advance_holds (.refl s))⟩
  | microTick => exact ⟨_, rfl, doMicroTick_holds (advance_holds (.refl s))⟩
  | deviceTimeAngleTick => exact ⟨_, rfl, doDeviceTimeAngleTick_holds (advance_holds (.refl s))⟩
  | armRequest => exact ⟨_, rfl, doArmRequest_holds (advance_holds (.refl s))⟩
  | eventSlotFire => exact ⟨_, rfl, doEventSlotFire_holds (advance_holds (.refl s))⟩
  | taskPlacement => exact ⟨_, rfl, .of_keeps (advance_holds (.refl s)) (doTaskPlacement_keeps (.refl _))⟩
  | segmentEnd => exact ⟨_, rfl, doSegmentEnd_holds (advance_holds (.refl s))⟩
  | plateauReached => exact ⟨_, rfl, doPlateauReached_holds (advance_holds (.refl s))⟩
  | controlTick => exact ⟨_, rfl, doControlTick_holds (advance_holds (.refl s))⟩
  | claimIdleRelease => exact ⟨_, rfl, doClaimIdleRelease_holds (advance_holds (.refl s))⟩
  | powerHoldExpired => exact ⟨_, rfl, doPowerHoldExpired_holds (advance_holds (.refl s))⟩
  | pwrAlertNAssert => exact ⟨_, rfl, doPwrAlertNAssert_holds (advance_holds (.refl s))⟩
  | pwrAlertNRelease => exact ⟨_, rfl, doPwrAlertNRelease_holds (advance_holds (.refl s))⟩
  | thermalTrip => exact ⟨_, rfl, doThermalTrip_holds (advance_holds (.refl s))⟩
  | nop => exact ⟨_, rfl, .of_keeps (advance_holds (.refl s)) (doNop_keeps (.refl _))⟩
  | fused => exact ⟨_, rfl, .of_keeps (advance_holds (.refl s)) (doFused_keeps (.refl _))⟩
  | drain => exact ⟨_, rfl, .of_keeps (advance_holds (.refl s)) (doDrain_keeps (.refl _))⟩
  | endTask => exact ⟨_, rfl, .of_keeps (advance_holds (.refl s)) (doEnd_keeps (.refl _))⟩
  | fetchPhaseStart => exact ⟨_, rfl, .of_keeps (advance_holds (.refl s)) (doFetchPhaseStart_keeps (.refl _))⟩
  | bufferSwap => exact ⟨_, rfl, .of_keeps (advance_holds (.refl s)) (doBufferSwap_keeps (.refl _))⟩
  | commandComplete => exact ⟨_, rfl, .of_keeps (advance_holds (.refl s)) (doCommandComplete_keeps (.refl _))⟩
  | taskSwitch => exact ⟨_, rfl, .of_keeps (advance_holds (.refl s)) (doTaskSwitch_keeps (.refl _))⟩
  | deadlineClose => exact ⟨_, rfl, .of_keeps (advance_holds (.refl s)) (doDeadlineClose_keeps (.refl _))⟩
  | signal => exact ⟨_, rfl, .of_keeps (advance_holds (.refl s)) (doSignal_keeps (.refl _))⟩
  | fill => exact ⟨_, rfl, .of_keeps (advance_holds (.refl s)) (doFill_keeps (.refl _))⟩
  | arrive => exact ⟨_, rfl, .of_keeps (advance_holds (.refl s)) (doArrive_keeps (.refl _))⟩
  | release => exact ⟨_, rfl, .of_keeps (advance_holds (.refl s)) (doRelease_keeps (.refl _))⟩
  | barrierSlow => exact ⟨_, rfl, .of_keeps (advance_holds (.refl s)) (doBarrierSlow_keeps (.refl _))⟩
  | marverCombine => exact ⟨_, rfl, .of_keeps (advance_holds (.refl s)) (doMarverCombine_keeps (.refl _))⟩
  | doneAction => exact ⟨_, rfl, .of_keeps (advance_holds (.refl s)) (doDoneAction_keeps (.refl _))⟩
  | rotation => exact ⟨_, rfl, .of_keeps (advance_holds (.refl s)) (doRotation_keeps (.refl _))⟩
  | rowRequest => exact ⟨_, rfl, .of_keeps (advance_holds (.refl s)) (doRowRequest_keeps (.refl _))⟩
  | rowResponse => exact ⟨_, rfl, .of_keeps (advance_holds (.refl s)) (doRowResponse_keeps (.refl _))⟩
  | rowHomeUnreachable => exact ⟨_, rfl, .of_keeps (advance_holds (.refl s)) (doRowHomeUnreachable_keeps (.refl _))⟩
  | letterWrite => exact ⟨_, rfl, .of_keeps (advance_holds (.refl s)) (doLetterWrite_keeps (.refl _))⟩
  | letterUnload => exact ⟨_, rfl, .of_keeps (advance_holds (.refl s)) (doLetterUnload_keeps (.refl _))⟩
  | replicaCopy => exact ⟨_, rfl, .of_keeps (advance_holds (.refl s)) (doReplicaCopy_keeps (.refl _))⟩
  | replicaInvalidate => exact ⟨_, rfl, .of_keeps (advance_holds (.refl s)) (doReplicaInvalidate_keeps (.refl _))⟩
  | invalidateAcknowledgement => exact ⟨_, rfl,
      .of_keeps (advance_holds (.refl s)) (doInvalidateAcknowledgement_keeps (.refl _))⟩
  | replicaDrop => exact ⟨_, rfl, .of_keeps (advance_holds (.refl s)) (doReplicaDrop_keeps (.refl _))⟩
  | invalidationTimeout => exact ⟨_, rfl, .of_keeps (advance_holds (.refl s)) (doInvalidationTimeout_keeps (.refl _))⟩
  | settleExpiry => exact ⟨_, rfl, .of_keeps (advance_holds (.refl s)) (doSettleExpiry_keeps (.refl _))⟩
  | letterComplete => exact ⟨_, rfl, .of_keeps (advance_holds (.refl s)) (doLetterComplete_keeps (.refl _))⟩
  | supervisorReview => exact ⟨_, rfl, .of_keeps (advance_holds (.refl s)) (doSupervisorReview_keeps (.refl _))⟩
  | memoryRequestAccept => exact ⟨_, rfl, .of_keeps (advance_holds (.refl s))
      (withTiles_keeps (doMemoryRequestAccept_keeps (.refl _)))⟩
  | memoryReadDone => exact ⟨_, rfl,
      .of_keeps (advance_holds (.refl s)) (withTiles_keeps (doMemoryReadDone_keeps (.refl _)))⟩
  | retirementCopyDone => exact ⟨_, rfl,
      .of_keeps (doRetirementCopyDone_holds (advance_holds (.refl s))) (settleTiles_keeps (.refl _))⟩
  | wcbIdleEviction => exact ⟨_, rfl,
      .of_keeps (advance_holds (.refl s)) (withTiles_keeps (doWcbIdleEviction_keeps (.refl _)))⟩
  | regulatorAdmit => exact ⟨_, rfl,
      .of_keeps (advance_holds (.refl s)) (withTiles_keeps (doRegulatorAdmit_keeps (.refl _)))⟩
  | refresh => exact ⟨_, rfl,
      .ite (fun _ => .of_keeps (advance_holds (.refl s)) (doRefresh_keeps (.refl _))) fun _ => advance_holds (.refl s)⟩
  | scrubRead => exact ⟨_, rfl, .of_keeps (advance_holds (.refl s)) (doScrubRead_keeps (.refl _))⟩
  | selfRefreshEntry => exact ⟨_, rfl, .of_keeps (advance_holds (.refl s)) (doSelfRefreshEntry_keeps (.refl _))⟩
  | tgStart => exact ⟨_, rfl, doTgStart_holds (advance_holds (.refl s))⟩
  | tgStop => exact ⟨_, rfl, doTgStop_holds (advance_holds (.refl s))⟩
  | tgRunEnd => exact ⟨_, rfl, .of_keeps (advance_holds (.refl s)) (doTgRunEnd_keeps (.refl _))⟩
  | lensRequest => exact ⟨_, rfl, .of_keeps (advance_holds (.refl s)) (doLensRequest_keeps (.refl _))⟩
  | matrixLoadDone => exact ⟨_, rfl, .of_keeps (advance_holds (.refl s)) (doMatrixLoadDone_keeps (.refl _))⟩
  | integrationWindow => exact ⟨_, rfl, .of_keeps (advance_holds (.refl s)) (doIntegrationWindow_keeps (.refl _))⟩
  | activityMicrosecond => exact ⟨_, rfl, .of_keeps (advance_holds (.refl s)) (doActivityMicrosecond_keeps (.refl _))⟩
  | calibrationDone => exact ⟨_, rfl, .of_keeps (advance_holds (.refl s)) (doCalibrationDone_keeps (.refl _))⟩
  | pilotCorrection => exact ⟨_, rfl, .of_keeps (advance_holds (.refl s)) (doPilotCorrection_keeps (.refl _))⟩
  | lightSourceLost => exact ⟨_, rfl, .of_keeps (advance_holds (.refl s)) (doLightSourceLost_keeps (.refl _))⟩
  | flitReceive => exact ⟨_, rfl, doFlitReceive_holds (fabricTime_holds (.refl s))⟩
  | flitSend => exact ⟨_, rfl, doFlitSend_holds (fabricTime_holds (.refl s))⟩
  | replayTimeout => exact ⟨_, rfl, doReplayTimeout_holds (fabricTime_holds (.refl s))⟩
  | ackTimeout => exact ⟨_, rfl, doAckTimeout_holds (fabricTime_holds (.refl s))⟩
  | portRetrainDone => exact ⟨_, rfl, doPortRetrainDone_holds (fabricTime_holds (.refl s))⟩
  | controlFlit => exact ⟨_, rfl, doControlFlit_holds (fabricTime_holds (.refl s))⟩
  | probeTimeout => exact ⟨_, rfl, doProbeTimeout_holds (fabricTime_holds (.refl s))⟩
  | probeRepeat => exact ⟨_, rfl, doProbeRepeat_holds (fabricTime_holds (.refl s))⟩
  | reconf => exact ⟨_, rfl, doReconf_holds (fabricTime_holds (.refl s))⟩
  | joinRequestTimer => exact ⟨_, rfl, doJoinRequestTimer_holds (advance_holds (.refl s))⟩
  | joinRequest => exact ⟨_, rfl, doJoinRequest_holds (advance_holds (.refl s))⟩
  | joinAnswer => exact ⟨_, rfl, doJoinAnswer_holds (advance_holds (.refl s))⟩
  | beaconTimer => exact ⟨_, rfl, doBeaconTimer_holds (advance_holds (.refl s))⟩
  | beacon => exact ⟨_, rfl, doBeacon_holds (advance_holds (.refl s))⟩
  | member => exact ⟨_, rfl, doMember_holds (advance_holds (.refl s))⟩
  | masterTimeout => exact ⟨_, rfl, doMasterTimeout_holds (advance_holds (.refl s))⟩
  | sendData => exact ⟨_, rfl, doSendData_holds (fabricTime_holds (.refl s))⟩
  | partDoorWrite => exact ⟨_, rfl,
      .ite (fun _ => doPartDoorWrite_holds (advance_holds (.refl s))) fun _ => advance_holds (.refl s)⟩
  | doorTorn => exact ⟨_, rfl, .of_keeps (advance_holds (.refl s)) (doDoorTorn_keeps (.refl _))⟩
  | postReceived => exact ⟨_, rfl, .of_keeps (advance_holds (.refl s)) (doPostReceived_keeps (.refl _))⟩
  | postReadTimeout => exact ⟨_, rfl, .of_keeps (advance_holds (.refl s)) (doPostReadTimeout_keeps (.refl _))⟩
  | tlsHandshake => exact ⟨_, rfl, .of_keeps (advance_holds (.refl s)) (doTlsHandshake_keeps (.refl _))⟩
  | networkFrame => exact ⟨_, rfl, .of_keeps (advance_holds (.refl s)) (doNetworkFrame_keeps (.refl _))⟩
  | parcelLimit => exact ⟨_, rfl, .of_keeps (advance_holds (.refl s)) (doParcelLimit_keeps (.refl _))⟩
  | functionLevelReset => exact ⟨_, rfl, doFunctionLevelReset_holds (advance_holds (.refl s))⟩
  | statusReadLowHalf => exact ⟨_, rfl, readSpace_holds (advance_holds (.refl s))⟩
  | statusReadHighHalf => exact ⟨_, rfl, readSpace_holds (advance_holds (.refl s))⟩
  | badSizeRead => exact ⟨_, rfl, readSpace_holds (advance_holds (.refl s))⟩
  | w1cWrite => exact ⟨_, rfl, writeSpace_holds (advance_holds (.refl s))⟩
  | registerWrite => exact ⟨_, rfl, writeSpace_holds (advance_holds (.refl s))⟩
  | smbusStatusRead => exact ⟨_, rfl, doSmbusStatusRead_holds (advance_holds (.refl s))⟩
  | smbusAccessStatus => exact ⟨_, rfl, doSmbusAccessStatus_holds (advance_holds (.refl s))⟩
  | smbusAccessClear => exact ⟨_, rfl, doSmbusAccessClear_holds (advance_holds (.refl s))⟩
  | smbusPowerSample => exact ⟨_, rfl, doSmbusPowerSample_holds (advance_holds (.refl s))⟩
  | smbusSummary => exact ⟨_, rfl, doSmbusSummary_holds (advance_holds (.refl s))⟩
  | extest => exact ⟨_, rfl, doExtest_holds (advance_holds (.refl s))⟩
  | samplePreload => exact ⟨_, rfl, doSamplePreload_holds (advance_holds (.refl s))⟩
  | idcode => exact ⟨_, rfl, doIdcode_holds (advance_holds (.refl s))⟩
  | statusRead => exact ⟨_, rfl, doStatusRead_holds (advance_holds (.refl s))⟩
  | accClear => exact ⟨_, rfl, doAccClear_holds (advance_holds (.refl s))⟩
  | bypass => exact ⟨_, rfl, doBypass_holds (advance_holds (.refl s))⟩
  | forceRecoveryNRise => exact ⟨_, rfl, doRecoveryPinRise_holds (advance_holds (.refl s))⟩
  | roundInFallingEdge => exact ⟨_, rfl, doRoundInFallingEdge_holds (advance_holds (.refl s))⟩
  | connectionClose => exact ⟨_, rfl, .of_keeps (advance_holds (.refl s)) (doConnectionClose_keeps (.refl _))⟩
  | writeToDeviceDone => exact ⟨_, rfl, .of_keeps (advance_holds (.refl s)) (doWriteToDeviceDone_keeps (.refl _))⟩

/-- A step is a command, or an edge of SYSCLK, and keeps all but the front of the queue. -/
theorem step_answers_next (s : State) : ∃ u, step s = .next u ∧ Holds { s with pending := u.pending } u := by
  rcases hp : s.pending with _ | ⟨c, rest⟩
  · have edge := sysclkEdge_holds (Holds.refl s)
    have hstep : step s = .next s.sysclkEdge := by simp [step, hp]
    have hsame : { s with pending := s.sysclkEdge.pending } = s := by rw [edge.pending]
    exact ⟨_, hstep, hsame.symm ▸ edge⟩
  · obtain ⟨u, hu, keeps⟩ := exec_answers_next c { s with pending := rest }
    have hstep : step s = .next u := by simp [step, hp, hu]
    exact ⟨u, hstep, keeps.pending ▸ keeps⟩

/-- Canonical byte stores stay canonical. -/
theorem Holds.safe {s u : State} (h : Holds s u) (hs : Safe s) : Safe u := by
  simp only [Safe, Memory.wf, Bool.and_eq_true] at hs ⊢
  obtain ⟨⟨hc, hr⟩, hf⟩ := hs
  exact ⟨⟨h.cells hc, h.sram hr⟩, h.flash hf⟩

/-- Settles O59: every command answers a next state that keeps what `Holds` names, and so does every step. -/
theorem everyStepSafe : Obligations.EveryStepSafe := by
  unfold Obligations.EveryStepSafe
  refine ⟨fun c s => ?_, fun s => ?_⟩
  · obtain ⟨u, hu, keeps⟩ := exec_answers_next c s
    exact ⟨u, hu, keeps.pending⟩
  · obtain ⟨u, hu, keeps⟩ := step_answers_next s
    refine ⟨⟨u, hu, fun hs => keeps.safe hs, keeps.fuses⟩, fun v hv => ?_⟩
    obtain rfl : u = v := by simpa [hu] using hv
    exact ⟨keeps.variantC, keeps.serial, keeps.supvRelease, keeps.devKey⟩

/-! ### O58 -/

/-- What a command of the running part leaves alone once time has passed. -/
theorem Keeps.frame_of_advance {t : Nat} {s u : State} (h : Keeps (s.advance t) u) :
    u.pending = s.pending ∧ u.now = (s.advance t).now ∧ u.answer = s.answer ∧ u.pins = s.pins ∧ u.nv = s.nv ∧ u.img = s.img ∧
      u.start = s.start ∧ u.acc = s.acc ∧ u.jtag = s.jtag ∧ u.round.state = s.round.state ∧ u.round.angle = s.round.angle ∧
      u.round.rev = s.round.rev ∧ u.round.epoch = s.round.epoch ∧ u.round.refPeriod = s.round.refPeriod ∧
      u.lehr.setpoint = (s.advance t).lehr.setpoint ∧ u.lehr.state = (s.advance t).lehr.state ∧
      (Memory.wf s = true → Memory.wf u = true) := by
  have round := s.advance_round t ▸ h.round
  have wf : Memory.wf s = true → Memory.wf u = true := (advance_holds (.refl s) |>.of_keeps h).safe
  exact ⟨by simpa using h.pending, h.now, by simpa using h.answer, by simpa using h.pins, by simpa using h.nv, by simpa using h.img,
    by simpa using h.start, by simpa using h.acc, by simpa using h.jtag, by rw [round], by rw [round], by rw [round], by rw [round],
    by rw [round], by rw [h.lehr], by rw [h.lehr], wf⟩

/-- Settles O58: each of the commands is an operation that `Keeps` all of this, run after time has passed. -/
theorem runningPartFrame : Obligations.RunningPartFrame := by
  unfold Obligations.RunningPartFrame
  intro s u t a b n c hc he
  apply Keeps.frame_of_advance
  have ran {v : State} (hv : exec c s = .next v) (k : Keeps (s.advance t) v) : Keeps (s.advance t) u := by
    obtain rfl : v = u := by simpa [hv] using he
    exact k
  simp only [List.mem_cons, List.not_mem_nil, or_false] at hc
  rcases hc with (rfl | rfl | rfl | rfl | rfl | rfl | rfl | rfl | rfl | rfl | rfl | rfl | rfl | rfl | rfl | rfl | rfl | rfl | rfl |
      rfl | rfl | rfl | rfl | rfl | rfl | rfl | rfl | rfl | rfl | rfl | rfl | rfl) | ⟨m, rfl | rfl | rfl | rfl⟩ |
    ⟨m, rfl | rfl | rfl | rfl | rfl⟩ | ⟨l, rfl⟩ | ⟨l, rfl⟩
  · exact ran rfl (doNop_keeps (.refl _))
  · exact ran rfl (doFused_keeps (.refl _))
  · exact ran rfl (doDrain_keeps (.refl _))
  · exact ran rfl (doEnd_keeps (.refl _))
  · exact ran rfl (doFetchPhaseStart_keeps (.refl _))
  · exact ran rfl (doBufferSwap_keeps (.refl _))
  · exact ran rfl (doCommandComplete_keeps (.refl _))
  · exact ran rfl (doTaskSwitch_keeps (.refl _))
  · exact ran rfl (doDeadlineClose_keeps (.refl _))
  · exact ran rfl (doBarrierSlow_keeps (.refl _))
  · exact ran rfl (doMarverCombine_keeps (.refl _))
  · exact ran rfl (doDoneAction_keeps (.refl _))
  · exact ran rfl (doRotation_keeps (.refl _))
  · exact ran rfl (doRowResponse_keeps (.refl _))
  · exact ran rfl (doRowHomeUnreachable_keeps (.refl _))
  · exact ran rfl (doLetterWrite_keeps (.refl _))
  · exact ran rfl (doLetterUnload_keeps (.refl _))
  · exact ran rfl (doSettleExpiry_keeps (.refl _))
  · exact ran rfl (doSupervisorReview_keeps (.refl _))
  · exact ran rfl (doLetterComplete_keeps (.refl _))
  · exact ran rfl (withTiles_keeps (doMemoryRequestAccept_keeps (.refl _)))
  · exact ran rfl (withTiles_keeps (doWcbIdleEviction_keeps (.refl _)))
  · exact ran rfl (withTiles_keeps (doRegulatorAdmit_keeps (.refl _)))
  · exact ran rfl (.ite (fun _ => doRefresh_keeps (.refl _)) fun _ => .refl _)
  · exact ran rfl (doSelfRefreshEntry_keeps (.refl _))
  · exact ran rfl (doLensRequest_keeps (.refl _))
  · exact ran rfl (doMatrixLoadDone_keeps (.refl _))
  · exact ran rfl (doIntegrationWindow_keeps (.refl _))
  · exact ran rfl (doActivityMicrosecond_keeps (.refl _))
  · exact ran rfl (doLightSourceLost_keeps (.refl _))
  · exact ran rfl (doParcelLimit_keeps (.refl _))
  · exact ran rfl (doTaskPlacement_keeps (.refl _))
  · exact ran rfl (doSignal_keeps (.refl _))
  · exact ran rfl (doFill_keeps (.refl _))
  · exact ran rfl (doArrive_keeps (.refl _))
  · exact ran rfl (doRelease_keeps (.refl _))
  · exact ran rfl (doReplicaCopy_keeps (.refl _))
  · exact ran rfl (doReplicaInvalidate_keeps (.refl _))
  · exact ran rfl (doInvalidateAcknowledgement_keeps (.refl _))
  · exact ran rfl (doReplicaDrop_keeps (.refl _))
  · exact ran rfl (doInvalidationTimeout_keeps (.refl _))
  · exact ran rfl (doRowRequest_keeps (.refl _))
  · exact ran rfl (doPostReceived_keeps (.refl _))

end Sys2Proof.Machine

/-! PROOFS. A step, the supplies and clocks, the ROM stage, the recovery pin and door, and the stages' timeouts: O1, O2, O3, O4, O5,
O11 and O13. -/

namespace Sys2Proof.Machine

/-! ### O1 -/

/-- Settles O1. -/
theorem stepRunsFront : Obligations.StepRunsFront := by
  unfold Obligations.StepRunsFront
  refine ⟨fun c rest s hp => ?_, fun s hp => ?_⟩ <;> simp [step, hp]

/-! ### Reset -/

/-- A part whose slot was not being programmed keeps its flash. -/
theorem cutProgramming_idle {s : State} (h : s.start.recResult ≠ 3) : cutProgramming s = s := if_pos h

/-- Cut programming touches the flash and the free values only (R109). -/
theorem cutProgramming_frame (s : State) :
    cutProgramming s = { s with
      free := (cutProgramming s).free, nv := { s.nv with flash := (cutProgramming s).nv.flash } } := by
  unfold cutProgramming
  split <;> rfl

/-- No byte outside the blocks of the slot that was being programmed changes. -/
theorem cutProgramming_flash_outside {s : State} {a : Nat} (h : a < slotBase s.start.recTarget ∨
    slotBase s.start.recTarget + roundUp s.start.recBuf.length 65536 ≤ a) :
    cellGet 0xFF#8 (cutProgramming s).nv.flash a = cellGet 0xFF#8 s.nv.flash a := by
  unfold cutProgramming
  split
  · rfl
  · exact cellGet_writeBytes_other _ _ _ (by simpa using h)

/-- What a reset with pins `p` leaves of `s` (R84, R109). -/
theorem clearState_cutProgramming (p : Pins) (s : State) :
    clearState p (cutProgramming s) = { State.reset with
      pending := s.pending, free := (cutProgramming s).free, answer := s.answer, pins := { p with roundOut := false }
      nv := { s.nv with flash := (cutProgramming s).nv.flash }, jtag := s.jtag } := by
  rw [cutProgramming_frame]
  rfl

theorem fallBack_of_running {s : State} (h : s.running = true) :
    fallBack s = clearState { s.pins with holdReset := true } (cutProgramming s) := if_pos h

/-- Settles O2: each of the three clears every register after it has cut short the programming of a slot. -/
theorem resetClears : Obligations.ResetClears := by
  unfold Obligations.ResetClears
  intro t s c p hc
  suffices cleared : ∃ (a : State) (q : Pins), exec c s = .next (clearState q (cutProgramming a)) ∧ p = { q with roundOut := false } ∧
      a.pending = s.pending ∧ a.free = s.free ∧ a.answer = s.answer ∧ a.nv = s.nv ∧ a.jtag = s.jtag ∧ a.start = s.start by
    obtain ⟨a, q, he, hp, hpending, hfree, hanswer, hnv, hjtag, hstart⟩ := cleared
    refine ⟨_, he, ?_, fun hr => ?_, fun x hx => ?_⟩
    · rw [clearState_cutProgramming, hp, hpending, hanswer, hnv, hjtag]
    · rw [cutProgramming_idle (by rwa [hstart])]
      exact ⟨hfree, congrArg NonVol.flash hnv⟩
    · rw [← hstart] at hx
      rw [← hnv]
      exact cutProgramming_flash_outside hx
  rcases hc with ⟨rfl, rfl⟩ | ⟨hrun, rfl, rfl⟩ | ⟨hrun, rfl, rfl⟩
  · exact ⟨s.advance t, { s.pins with resetN := false, holdReset := false }, by rw [← s.advance_pins t]; rfl, rfl, by simp⟩
  · refine ⟨{ s.advance t with pins := { s.pins with pgood := false } }, { s.pins with pgood := false, holdReset := true },
      ?_, rfl, by simp⟩
    have fall := fallBack_of_running (s := { s.advance t with pins := { s.pins with pgood := false } }) hrun
    exact congrArg Host.Outcome.next ((congrArg (fun q : Pins => fallBack { s.advance t with pins := { q with pgood := false } })
      (s.advance_pins t)).trans fall)
  · refine ⟨{ s.advance t with pins := { s.pins with sysclk := false } }, { s.pins with sysclk := false, holdReset := true },
      ?_, rfl, by simp⟩
    have fall := fallBack_of_running (s := { s.advance t with pins := { s.pins with sysclk := false } }) hrun
    exact congrArg Host.Outcome.next ((congrArg (fun q : Pins => fallBack { s.advance t with pins := { q with sysclk := false } })
      (s.advance_pins t)).trans fall)

/-! ### O4 and O5 -/

/-- Settles O4. -/
theorem pcieLink : Obligations.PcieLink := by
  unfold Obligations.PcieLink
  intro t s
  refine ⟨?_, fun hr ht => ?_, fun ht => ?_⟩
  · simp [exec, execRefclkStop, doRefclkStop]
  · simp [exec, execPcieLinkUp, doPcieLinkUp, hr, ht]
  · simp [exec, execPcieLinkUp, doPcieLinkUp, ht]

/-- Settles O5. -/
theorem recoveryPin : Obligations.RecoveryPin := by
  unfold Obligations.RecoveryPin
  intro t s
  refine ⟨fun hf => ?_, ?_, fun hr hf hd => ?_⟩
  · simp [exec, execForceRecoveryNFall, doRecoveryPinFall, hf]
  · simp [exec, execForceRecoveryNRise, doRecoveryPinRise]
  · simp [exec, execRecoveryPinHeld, doRecoveryPinHeld, hr, hf, Nat.not_lt.mpr hd, State.setStart, bump_eq]

/-! ### O11 -/

@[simp] theorem State.advance_joinDone (t : Nat) (s : State) : (s.advance t).joinDone = s.joinDone := by simp [State.joinDone]

/-- Settles O11. -/
theorem stageTimeouts : Obligations.StageTimeouts := by
  unfold Obligations.StageTimeouts
  intro t s hc
  refine ⟨fun h6 hs hr hd => ?_, fun h7 hs hr hd => ?_, fun h6 hr => ?_, fun h7 hr => ?_, fun h6 h7 => ?_⟩
  · simp [exec, execStartStageTimeout, doStageTimeout, hc, h6, hs, hr, hd, State.setStart]
  · simp [exec, execStartStageTimeout, doStageTimeout, hc, h7, hs, hr, hd, State.setStart]
  · simp [exec, execStartStageTimeout, doStageTimeout, hc, h6, hr]
  · simp [exec, execStartStageTimeout, doStageTimeout, hc, h7, hr]
  · simp [exec, execStartStageTimeout, doStageTimeout, hc, h6, h7]

end Sys2Proof.Machine

/-! PROOFS. The ROM stage, the selection of a slot, and the recovery door: O3, O6 and O13. -/

namespace Sys2Proof.Machine

/-! ### What training and verification leave alone -/

/-- What training a link or verifying a slot finds goes into result registers and events: nothing outside the start block and the
event log changes, nor of the start block what says where the start stands. -/
structure FindingFrame (s u : State) : Prop where
  frame : u = { s with start := u.start, flt := u.flt }
  stage : u.start.stage = s.start.stage
  stageTime : u.start.stageTime = s.start.stageTime
  fuseView : u.start.fuseView = s.start.fuseView
  idFilled : u.start.idFilled = s.start.idFilled
  slotActive : u.start.slotActive = s.start.slotActive
  recoveryCause : u.start.recoveryCause = s.start.recoveryCause

theorem FindingFrame.refl (s : State) : FindingFrame s s := ⟨rfl, rfl, rfl, rfl, rfl, rfl, rfl⟩

theorem FindingFrame.trans {a b c : State} (h : FindingFrame a b) (k : FindingFrame b c) : FindingFrame a c where
  frame := by rw [k.frame, h.frame]
  stage := k.stage.trans h.stage
  stageTime := k.stageTime.trans h.stageTime
  fuseView := k.fuseView.trans h.fuseView
  idFilled := k.idFilled.trans h.idFilled
  slotActive := k.slotActive.trans h.slotActive
  recoveryCause := k.recoveryCause.trans h.recoveryCause

theorem FindingFrame.nv {s u : State} (h : FindingFrame s u) : u.nv = s.nv := by rw [h.frame]

theorem FindingFrame.foldl {α : Type} {f : State → α → State} (hf : ∀ s x, FindingFrame s (f s x)) (l : List α) (s : State) :
    FindingFrame s (l.foldl f s) :=
  List.foldlRecOn l f (.refl s) fun u h x _ => h.trans (hf u x)

theorem raise_finding (c n : Nat) (s : State) : FindingFrame s (raise c n s) := ⟨rfl, rfl, rfl, rfl, rfl, rfl, rfl⟩

theorem setResult_finding (k code : Nat) (s : State) : FindingFrame s (setResult k code s) := by
  unfold setResult
  split <;> exact ⟨rfl, rfl, rfl, rfl, rfl, rfl, rfl⟩

/-! ### The ROM stage (R89) -/

/-- A link that needs more lanes than it has in the direction that is reported. -/
def d2dFails (x : D2dFail) : Prop := x.link < 5 ∧ 4 < x.data + x.spare

theorem trainD2d_finding (acc : List Nat × State) (x : D2dFail) : FindingFrame acc.2 (trainD2d acc x).2 := by
  unfold trainD2d
  split
  · exact .refl _
  · split
    · exact .refl _
    · refine FindingFrame.trans (.foldl (fun s _ => ?_) (List.range x.data) acc.2) ⟨rfl, rfl, rfl, rfl, rfl, rfl, rfl⟩
      have noted : FindingFrame s (s.setStart { s.start with stD2dSpared := true }) := ⟨rfl, rfl, rfl, rfl, rfl, rfl, rfl⟩
      exact noted.trans (raise_finding _ _ _)

/-- A link is listed as failed once it, or another before it, has failed. -/
theorem trainD2d_isEmpty (acc : List Nat × State) (x : D2dFail) :
    (trainD2d acc x).1.isEmpty = true ↔ acc.1.isEmpty = true ∧ ¬d2dFails x := by
  by_cases hl : 5 ≤ x.link
  · simp [trainD2d, d2dFails, hl, Nat.not_lt.mpr hl]
  · by_cases hf : 4 < x.data + x.spare
    · have listed : (addOnce acc.1 x.link) ≠ [] := by
        unfold addOnce
        split
        next h => exact List.ne_nil_of_mem (List.contains_iff_mem.mp h)
        next => simp
      simp [trainD2d, d2dFails, hl, hf, listed, Nat.lt_of_not_le hl]
    · simp [trainD2d, d2dFails, hl, hf]

theorem trainD2d_foldl (l : List D2dFail) (acc : List Nat × State) :
    FindingFrame acc.2 (l.foldl trainD2d acc).2 ∧
      ((l.foldl trainD2d acc).1.isEmpty = true ↔ acc.1.isEmpty = true ∧ ∀ x ∈ l, ¬d2dFails x) := by
  induction l generalizing acc with
  | nil => exact ⟨.refl _, by simp⟩
  | cons x r ih =>
    obtain ⟨frame, empty⟩ := ih (trainD2d acc x)
    refine ⟨(trainD2d_finding acc x).trans frame, ?_⟩
    rw [List.foldl_cons, empty, trainD2d_isEmpty, List.forall_mem_cons, and_assoc]

/-- The part at the release, its straps and fuses sampled, before its links are trained (R32, R84, R86). -/
def released (frcLow testEn : Bool) (smbAddr : Nat) (s : State) : State :=
  let u := setStage 1 (clearState { s.pins with
    resetN := true, holdReset := false, pgood := true, sysclk := true, refclk := true, frcLow := frcLow, frcSince := 0
    frcHours := 0, smbAddr := smbAddr % 4, testEn := testEn } s)
  { u with start := { u.start with frcSampled := frcLow, fuseView := u.nv.fuses }, lehr := { u.lehr with state := .start } }

/-- What every release leaves, whatever the links give: `u` differs from the part at the release by findings. -/
theorem released_then {frcLow testEn : Bool} {smbAddr : Nat} {s u : State}
    (h : FindingFrame (released frcLow testEn smbAddr s) u) (v : State)
    (hv : v = { u with start := v.start }) (ht : tget v.start.stageTime 1 1 = tget u.start.stageTime 1 1)
    (hf : v.start.fuseView = u.start.fuseView) :
    v.now = 0 ∧ v.lehr = { State.reset.lehr with state := .start } ∧ v.nv = s.nv ∧ v.pending = s.pending ∧
      v.pins.resetN = true ∧ v.pins.smbAddr = smbAddr % 4 ∧ v.start.fuseView = s.nv.fuses ∧ tget v.start.stageTime 1 1 = 0 ∧
      v = { State.reset with
        pending := s.pending, free := s.free, answer := s.answer, nv := s.nv, jtag := s.jtag, pins := v.pins, lehr := v.lehr
        start := v.start, flt := v.flt } := by
  rw [h.fuseView] at hf
  have time : tget v.start.stageTime 1 1 = 0 := by
    simp [ht, h.stageTime, released, setStage, clearState, State.devCount]
  rw [h.frame] at hv
  refine ⟨?_, ?_, ?_, ?_, ?_, ?_, hf, time, ?_⟩ <;> rw [hv] <;> rfl

/-- Settles O3: the release clears the part, samples the straps, and trains the links. -/
theorem releaseStartsRom : Obligations.ReleaseStartsRom := by
  unfold Obligations.ReleaseStartsRom
  intro t frc test addr d2d s hr
  have hfails : (∃ x ∈ d2d, x.link < 5 ∧ 4 < x.data + x.spare) ↔ ¬∀ x ∈ d2d, ¬d2dFails x := by simp [d2dFails]
  have hpass : (∀ x ∈ d2d, x.link < 5 → x.data + x.spare ≤ 4) ↔ ∀ x ∈ d2d, ¬d2dFails x := by simp [d2dFails]
  rw [hfails, hpass]
  cases test with
  | true =>
    refine ⟨setStage 11 (released frc true addr s), ?_, ?_⟩
    · simp only [exec, execResetNRelease, doResetRelease, hr]
      rfl
    · obtain ⟨h1, h2, h3, h4, h5, h6, h7, h8, h9⟩ := released_then (.refl (released frc true addr s))
        (setStage 11 (released frc true addr s)) rfl (tget_tset_other _ _ _ (by decide)) rfl
      exact ⟨h1, h2, h3, h4, h5, h6, h7, fun _ => ⟨rfl, rfl⟩, fun h => absurd h.1 (by decide), h8, h9⟩
  | false =>
    obtain ⟨frame, empty⟩ := trainD2d_foldl d2d ([], released frc false addr s)
    generalize hg : d2d.foldl trainD2d ([], released frc false addr s) = r at frame empty
    have hexec : exec (.resetNRelease t frc false addr d2d) s = .next (if r.1.isEmpty
        then r.2.setStart { r.2.start with idFilled := true }
        else setStage 11 (r.1.foldl (fun s l => raise 0x300A l s) r.2)) := by
      simp only [exec, execResetNRelease, doResetRelease, hr, ← hg]
      rfl
    by_cases hp : ∀ x ∈ d2d, ¬d2dFails x
    · have hempty := empty.mpr ⟨rfl, hp⟩
      refine ⟨r.2.setStart { r.2.start with idFilled := true }, by rw [hexec, if_pos hempty], ?_⟩
      obtain ⟨h1, h2, h3, h4, h5, h6, h7, h8, h9⟩ := released_then frame
        (r.2.setStart { r.2.start with idFilled := true }) rfl rfl rfl
      exact ⟨h1, h2, h3, h4, h5, h6, h7, fun h => absurd hp (h.resolve_left (by decide)), fun _ => ⟨frame.stage, rfl⟩, h8, h9⟩
    · have hfull : ¬r.1.isEmpty = true := fun h => hp (empty.mp h).2
      have raised := frame.trans (.foldl (fun s l => raise_finding 0x300A l s) r.1 r.2)
      refine ⟨setStage 11 (r.1.foldl (fun s l => raise 0x300A l s) r.2), by rw [hexec, if_neg hfull], ?_⟩
      obtain ⟨h1, h2, h3, h4, h5, h6, h7, h8, h9⟩ := released_then raised
        (setStage 11 (r.1.foldl (fun s l => raise 0x300A l s) r.2)) rfl
        (tget_tset_other (j := 1) (k := 11) _ _ _ (by decide)) rfl
      exact ⟨h1, h2, h3, h4, h5, h6, h7, fun _ => ⟨rfl, raised.idFilled⟩, fun h => absurd h.2 hp, h8, h9⟩

/-! ### The selection of a slot (R101) -/

/-- Checks 1 to 9 of slot `k`. -/
def State.slotCheck (s : State) (err : Nat → Nat) (k : Nat) : ImgCheck :=
  checkImage s.nv s.start.fuseView (err k) (s.nv.slotImage k)

theorem FindingFrame.slotCheck {s u : State} (h : FindingFrame s u) (err : Nat → Nat) (k : Nat) :
    u.slotCheck err k = s.slotCheck err k := by
  simp [State.slotCheck, h.nv, h.fuseView]

theorem checkSlot_fst (k : Nat) (err : Nat → Nat) (s : State) : (checkSlot k (err k) s).1 = s.slotCheck err k := rfl

theorem checkSlot_finding (k err : Nat) (s : State) : FindingFrame s (checkSlot k err s).2 := by
  have result := setResult_finding k (checkImage s.nv s.start.fuseView err (s.nv.slotImage k)).code s
  unfold checkSlot
  dsimp only
  split
  · exact result.trans (raise_finding _ _ _)
  · exact result

/-- What selection answers: the slot it held, or one that passes every check; none only where it held none and none passes. -/
theorem pickSlot_spec (err : Nat → Nat) (l : List Nat) (held : Option (Nat × Image)) (s : State) :
    FindingFrame s (pickSlot err l held s).2 ∧
      ((pickSlot err l held s).1 = held ∧ (held = none → ∀ k ∈ l, (s.slotCheck err k).failed ≠ 0) ∨
        ∃ k ∈ l, (s.slotCheck err k).failed = 0 ∧ (pickSlot err l held s).1 = some (k, (s.slotCheck err k).image)) := by
  induction l generalizing held s with
  | nil => exact ⟨.refl s, .inl ⟨rfl, by simp⟩⟩
  | cons k r ih =>
    have checked := checkSlot_finding k (err k) s
    by_cases hf : (s.slotCheck err k).failed = 0
    · by_cases ha : (checkSlot k (err k) s).2.failedAttempts k (s.slotCheck err k).seq < (s.slotCheck err k).image.start.bootAttempts
      · have taken : pickSlot err (k :: r) held s = (some (k, (s.slotCheck err k).image), (checkSlot k (err k) s).2) := by
          simp [pickSlot, checkSlot_fst, hf, ha]
        rw [taken]
        exact ⟨checked, .inr ⟨k, by simp, hf, rfl⟩⟩
      · have passed : pickSlot err (k :: r) held s = pickSlot err r (some (held.getD (k, (s.slotCheck err k).image)))
            (setResult k 7 (checkSlot k (err k) s).2) := by
          simp [pickSlot, checkSlot_fst, hf, ha]
        have frame := checked.trans (setResult_finding k 7 _)
        obtain ⟨rest, pick⟩ := ih (some (held.getD (k, (s.slotCheck err k).image))) (setResult k 7 (checkSlot k (err k) s).2)
        rw [passed]
        refine ⟨frame.trans rest, ?_⟩
        rcases pick with ⟨hpick, -⟩ | ⟨j, hj, hpass, hpick⟩
        · cases held with
          | none => exact .inr ⟨k, by simp, hf, hpick⟩
          | some x => exact .inl ⟨hpick, by simp⟩
        · rw [frame.slotCheck] at hpass hpick
          exact .inr ⟨j, List.mem_cons_of_mem _ hj, hpass, hpick⟩
    · have failed : pickSlot err (k :: r) held s = pickSlot err r held (checkSlot k (err k) s).2 := by
        simp [pickSlot, checkSlot_fst, hf]
      obtain ⟨rest, pick⟩ := ih held (checkSlot k (err k) s).2
      rw [failed]
      refine ⟨checked.trans rest, ?_⟩
      rcases pick with ⟨hpick, hall⟩ | ⟨j, hj, hpass, hpick⟩
      · refine .inl ⟨hpick, fun hn => ?_⟩
        simp only [checked.slotCheck] at hall
        exact List.forall_mem_cons.mpr ⟨hf, hall hn⟩
      · rw [checked.slotCheck] at hpass hpick
        exact .inr ⟨j, List.mem_cons_of_mem _ hj, hpass, hpick⟩

theorem pickSlot_none_iff (err : Nat → Nat) (l : List Nat) (s : State) :
    (pickSlot err l none s).1 = none ↔ ∀ k ∈ l, (s.slotCheck err k).failed ≠ 0 := by
  obtain ⟨-, ⟨hpick, hall⟩ | ⟨k, hk, hpass, hpick⟩⟩ := pickSlot_spec err l none s
  · exact ⟨fun _ => hall rfl, fun _ => hpick⟩
  · rw [hpick]
    exact ⟨fun h => (by cases h), fun h => absurd hpass (h k hk)⟩

theorem raiseLogFull_finding (s : State) : FindingFrame s (raiseLogFull s) := by
  unfold raiseLogFull
  split
  · exact .refl s
  · exact ⟨rfl, rfl, rfl, rfl, rfl, rfl, rfl⟩

theorem scanLog_finding (bad : List Nat) (s : State) : FindingFrame s (scanLog bad s) := by
  have noted : FindingFrame s (s.setStart { s.start with logBad := bad }) := ⟨rfl, rfl, rfl, rfl, rfl, rfl, rfl⟩
  unfold scanLog
  dsimp only
  split
  · exact noted.trans (raiseLogFull_finding _)
  · exact noted

/-! ### Recovery (R103) -/

/-- Recovery changes the start block and the event log only, and begins with its cause. -/
theorem enterRecovery_spec (cause : Nat) (err : Nat → Nat) (s : State) :
    enterRecovery cause err s = { s with start := (enterRecovery cause err s).start, flt := (enterRecovery cause err s).flt } ∧
      (enterRecovery cause err s).start.stage = 10 ∧ (enterRecovery cause err s).start.recoveryCause = cause := by
  let u := raise0 0x3007 ((setStage 10 s).setStart { (setStage 10 s).start with recoveryCause := cause })
  have checks (f : State → Nat → State) (hf : ∀ s k, FindingFrame s (f s k)) (v : State) (hv : v = [0, 1].foldl f u) :
      v = { s with start := v.start, flt := v.flt } ∧ v.start.stage = 10 ∧ v.start.recoveryCause = cause := by
    have frame := FindingFrame.foldl hf [0, 1] u
    rw [← hv] at frame
    exact ⟨frame.frame, frame.stage, frame.recoveryCause⟩
  by_cases hc : cause = 1
  · refine checks (fun s k =>
      let c := checkSlot k (err k) s
      if c.1.failed ≠ 0 then c.2
      else c.2.setStart { c.2.start with recSlots := tset c.2.start.recSlots k c.1.seq }) (fun s k => ?_) _ ?_
    · dsimp only
      split
      · exact checkSlot_finding _ _ _
      · exact (checkSlot_finding _ _ _).trans ⟨rfl, rfl, rfl, rfl, rfl, rfl, rfl⟩
    · simp only [enterRecovery, hc, ne_eq, not_true_eq_false, if_false]
      subst hc
      rfl
  · have hu : enterRecovery cause err s = u := if_pos hc
    rw [hu]
    exact ⟨rfl, rfl, rfl⟩

/-! ### O6 -/

/-- The start on a slot takes its image; of the rest it changes no fuse, memory, tile, door or pin. -/
theorem startOn_spec (k : Nat) (i : Image) (first : Nat) (s : State) :
    (startOn k i first s).img = some i ∧ (startOn k i first s).start.slotActive = k ∧
      (startOn k i first s).start.stage = s.start.stage ∧ (startOn k i first s).nv.fuses = s.nv.fuses ∧
      (startOn k i first s).mem = s.mem ∧ (startOn k i first s).tiles = s.tiles ∧ (startOn k i first s).part = s.part ∧
      (startOn k i first s).pins = s.pins := by
  unfold startOn
  dsimp only
  generalize hu : (if k = first then setResult k 1 s else raise 0x3006 k
    ((setResult k 1 s).setStart { (setResult k 1 s).start with fallback := true, stFallback := true })) = u
  have frame : FindingFrame s u := by
    rw [← hu]
    split
    · exact setResult_finding k 1 s
    · exact (setResult_finding k 1 s).trans ⟨rfl, rfl, rfl, rfl, rfl, rfl, rfl⟩
  have logged := appendLog_frame 3 ([BitVec.ofNat 8 k, 0xFF, 0, 0] ++ leBytes i.start.sequence 4 ++ leBytes i.start.buildId 12)
    (u.setStart { u.start with bootSeq := u.nextLogSeq % 2 ^ 32 })
  have fuses := appendLog_fuses 3 ([BitVec.ofNat 8 k, 0xFF, 0, 0] ++ leBytes i.start.sequence 4 ++ leBytes i.start.buildId 12)
    (u.setStart { u.start with bootSeq := u.nextLogSeq % 2 ^ 32 })
  generalize appendLog 3 _ _ = r at logged fuses
  refine ⟨rfl, rfl, logged.stage.trans frame.stage, ?_, ?_, ?_, ?_, ?_⟩
  · show r.2.nv.fuses = _
    rw [fuses]
    exact congrArg NonVol.fuses frame.nv
  all_goals
    simp only [takeImage, powerImage, State.setLehr, State.setStart]
    rw [logged.frame, frame.frame]
    rfl

/-- Settles O6: recovery by the pin; else selection over the slots in order, which starts on one that passes or ends in recovery. -/
theorem imageStageSelects : Obligations.ImageStageSelects := by
  unfold Obligations.ImageStageSelects
  intro t ea eb bad s hc hs hi
  dsimp only
  set err : Nat → Nat := fun k => if k = 0 then ea else eb with herr
  have hexec : exec (.imageStage t ea eb bad) s = .next (doImageStage ea eb bad (s.advance t)) := rfl
  cases hfrc : s.start.frcSampled with
  | true =>
    obtain ⟨frame, stage, cause⟩ := enterRecovery_spec 1 err (s.advance t)
    have hdo : doImageStage ea eb bad (s.advance t) = enterRecovery 1 err (s.advance t) := by
      simp [doImageStage, hc, hs, hfrc, herr]
    rw [hexec, hdo]
    refine ⟨_, rfl, ?_, ?_, ?_, ?_, ?_, fun _ => ⟨stage, cause, ?_⟩, by simp⟩ <;> rw [frame] <;> simp [hi]
  | false =>
    generalize hw : [0, 1].foldl (fun u k => if (s.nv.slotOrder err).contains k then u else setResult k 8 u)
      (scanLog bad (setStage 2 (s.advance t))) = w
    have scanned := scanLog_finding bad (setStage 2 (s.advance t))
    have frame : FindingFrame (setStage 2 (s.advance t)) w := by
      rw [← hw]
      refine scanned.trans (.foldl (fun u k => ?_) _ _)
      split
      · exact .refl u
      · exact setResult_finding k 8 u
    have hcheck (k : Nat) : w.slotCheck err k = checkImage s.nv s.start.fuseView (err k) (s.nv.slotImage k) := by
      rw [frame.slotCheck]
      simp [State.slotCheck, setStage]
    have hdo : doImageStage ea eb bad (s.advance t) = match pickSlot err (s.nv.slotOrder err) none w with
        | (some (k, i), u) => startOn k i ((s.nv.slotOrder err).headD 0) u
        | (none, u) => enterRecovery 2 err u := by
      have horder : (scanLog bad (setStage 2 (s.advance t))).nv.slotOrder err = s.nv.slotOrder err := by
        rw [scanned.nv]
        simp [setStage]
      simp only [doImageStage, State.advance_clocked, hc, State.advance_start, hs, hfrc, ← herr, horder, ← hw]
      rfl
    obtain ⟨picked, -⟩ := pickSlot_spec err (s.nv.slotOrder err) none w
    obtain ⟨-, pick⟩ := pickSlot_spec err (s.nv.slotOrder err) none w
    have none_iff := pickSlot_none_iff err (s.nv.slotOrder err) w
    have whole := frame.trans picked
    simp only [hcheck] at pick none_iff
    rw [hexec, hdo]
    rcases hp : pickSlot err (s.nv.slotOrder err) none w with ⟨_ | ⟨k, i⟩, u⟩
    · rw [hp] at whole none_iff
      replace whole : FindingFrame _ u := whole
      obtain ⟨rec, stage, cause⟩ := enterRecovery_spec 2 err u
      have hall := none_iff.mp rfl
      refine ⟨_, rfl, ?_, ?_, ?_, ?_, ?_, by simp, fun _ => ⟨fun _ => ⟨stage, cause, ?_⟩, ?_⟩⟩
      case refine_7 => exact fun ⟨k, hk, hpass⟩ => absurd hpass (hall k hk)
      all_goals
        dsimp only
        rw [rec, whole.frame]
        simp [setStage, hi]
    · rw [hp] at whole none_iff pick
      replace whole : FindingFrame _ u := whole
      obtain ⟨himg, hslot, hstage, hfuses, hmem, htiles, hpart, hpins⟩ := startOn_spec k i ((s.nv.slotOrder err).headD 0) u
      obtain ⟨j, hj, hpass, hjk⟩ : ∃ j ∈ s.nv.slotOrder err, _ ∧ _ := pick.resolve_left (fun h => by simp at h)
      obtain ⟨rfl, rfl⟩ : k = j ∧ i = _ := by simpa using hjk
      refine ⟨_, rfl, ?_, ?_, ?_, ?_, ?_, by simp,
        fun _ => ⟨fun h => absurd hpass (h k hj), fun _ => ⟨?_, k, hj, hpass, himg, hslot⟩⟩⟩
      · rw [hfuses, whole.nv]
        simp [setStage]
      · rw [hmem, whole.frame]
        rfl
      · rw [htiles, whole.frame]
        simp [setStage]
      · rw [hpart, whole.frame]
        simp [setStage]
      · rw [hpins, whole.frame]
        simp [setStage]
      · rw [hstage, whole.stage]
        rfl

/-! ### The recovery door (R104 to R106) -/

/-- A run of bytes that is written reads back, in a memory of canonical form. -/
theorem cellGet_writeBytes {u : Byte} {m : List Host.Cell} (a : Nat) (bs : List Byte) (h : cellsWf u m = true) {i : Nat}
    (hi : i < bs.length) : cellGet u (writeBytes u m a bs) (a + i) = bs.getD i 0 := by
  induction bs generalizing m a i with
  | nil => exact absurd hi (Nat.not_lt_zero i)
  | cons b r ih =>
    have hw := cellsWf_cellSet a b h
    cases i with
    | zero =>
      rw [Nat.add_zero, writeBytes, cellGet_writeBytes_other u _ r (.inl (Nat.lt_succ_self a)), cellGet_cellSet a b h]
      rfl
    | succ i =>
      rw [writeBytes, Nat.add_comm i 1, ← Nat.add_assoc, ih (a + 1) hw (Nat.lt_of_succ_lt_succ hi), Nat.add_comm 1 i]
      rfl

theorem leBytes_length (n k : Nat) : (leBytes n k).length = k := by
  induction k generalizing n with
  | zero => rfl
  | succ k ih => simp [leBytes, ih]

/-- Settles O13. -/
theorem recoveryDoor : Obligations.RecoveryDoor := by
  unfold Obligations.RecoveryDoor
  intro t w s
  refine ⟨fun hp hs => ?closed, fun hp hs hr ht hl => ?word, fun hr ht => ?timeout, fun left hr hw => ?done⟩
  case closed => simp [exec, execImgRecoveryDoorWrite, doRecoveryDoor, hp, hs]
  case word =>
    have hshort : s.start.recBuf.length + 4 < 16 := by omega
    simp [exec, execImgRecoveryDoorWrite, doRecoveryDoor, hp, hs, hr, ht, hshort, leBytes_length, State.setStart]
  case timeout =>
    simp [exec, execRecoveryTimeout, doRecoveryTimeout, hr, Nat.not_lt.mpr ht, State.setStart]
  case done =>
    have hflash : cellsWf 0xFF s.nv.flash = true := (Bool.and_eq_true_iff.mp hw).2
    have hdo : exec (.recoveryProgrammingDone t true left) s = .next (((s.advance t).setStart { s.start with
        recResult := 4
        recSlots := tset s.start.recSlots s.start.recTarget (numAt s.start.recBuf 28 4) }).flashWrite
          (slotBase s.start.recTarget) s.start.recBuf) := by
      simp [exec, execRecoveryProgrammingDone, doProgrammingDone, hr]
    refine ⟨_, hdo, by simp [State.flashWrite, State.setStart], rfl, fun i hi => ?_, fun a ha => ?_⟩
    · simpa [State.flashWrite] using cellGet_writeBytes _ _ hflash hi
    · simpa [State.flashWrite] using cellGet_writeBytes_other _ s.nv.flash _ ha

end Sys2Proof.Machine

/-! PROOFS. The MEMORY stage, and the JOIN and RAMP stages: O7 and O10. -/

namespace Sys2Proof.Machine

/-! ### The MEMORY stage (R239, R253 to R257, R268) -/

/-- Training and replay touch channels, the retirement table, the start block's findings and the event log. -/
structure TrainFrame (s u : State) : Prop where
  frame : u = { s with
    mem := { s.mem with chans := u.mem.chans, retTable := u.mem.retTable }, start := u.start, flt := u.flt }
  stage : u.start.stage = s.start.stage

theorem TrainFrame.refl (s : State) : TrainFrame s s := ⟨rfl, rfl⟩

theorem TrainFrame.trans {a b c : State} (h : TrainFrame a b) (k : TrainFrame b c) : TrainFrame a c :=
  ⟨by rw [k.frame, h.frame], k.stage.trans h.stage⟩

theorem TrainFrame.ite {s a b : State} {c : Prop} [Decidable c] (ha : TrainFrame s a) (hb : TrainFrame s b) :
    TrainFrame s (if c then a else b) := by
  split
  · exact ha
  · exact hb

theorem TrainFrame.foldl {α : Type} {f : State → α → State} (hf : ∀ s x, TrainFrame s (f s x)) (l : List α) (s : State) :
    TrainFrame s (l.foldl f s) :=
  List.foldlRecOn l f (.refl s) fun u h x _ => h.trans (hf u x)

theorem spareByte_frame (c b : Nat) (lanes : List Nat) (dmi : Bool) (s : State) : TrainFrame s (spareByte c b lanes dmi s) :=
  .ite (.refl s) ⟨rfl, rfl⟩

theorem trainChannel_frame (found : List ChanTrain) (s : State) (c : Nat) : TrainFrame s (trainChannel found s c) := by
  unfold trainChannel
  dsimp only
  generalize channelTrain s found c = x
  generalize hu : (s.updChan c fun ch => { ch with rawDetected := x.density % 16 }) = u
  have first : TrainFrame s u := hu ▸ ⟨rfl, rfl⟩
  have spared := first.trans ((spareByte_frame c 0 x.lanes0 x.dmi0 u).trans (spareByte_frame c 1 x.lanes1 x.dmi1 _))
  generalize spareByte c 1 x.lanes1 x.dmi1 (spareByte c 0 x.lanes0 x.dmi0 u) = v at spared
  exact .ite (spared.trans ⟨rfl, rfl⟩) (spared.trans ⟨rfl, rfl⟩)

theorem replayEntry_frame (s : State) (e : List Byte) : TrainFrame s (replayEntry s e) := .ite (.refl s) ⟨rfl, rfl⟩

/-- The memory and the feature store as the stage leaves them, once channels are trained and retirements replayed. -/
def memoryUp (s : State) : State :=
  { s with
    mem := { s.mem with
      generalMib := s.im.general / mib, inService := 64 - s.start.channelsDown, trained := true
      regs := (List.range 32).map fun p => (p, { tokens := (s.partEntry p).burst }) }
    fs := { s.fs with
      tablesActive := s.im.tables.length, shardsActive := (s.im.ownTables.map FsTable.shards).sum } }

theorem doMemoryStage_of_stage (found : List ChanTrain) {s : State} (hc : s.clocked = true) (hs : s.start.stage = 2)
    (hi : s.img.isSome = true) :
    ∃ b, TrainFrame (setStage 3 { s with mem := {}, tiles := {}, fs := {} }) b ∧ doMemoryStage found s =
      if b.im.start.maxChannelsDown < b.start.channelsDown then setStage 11 (raise0 0x300B (memoryUp b)) else memoryUp b := by
  have channels := TrainFrame.foldl (trainChannel_frame found) (List.range 64)
    (setStage 3 { s with mem := {}, tiles := {}, fs := {} })
  have pages (u : State) := TrainFrame.foldl replayEntry_frame u.retirements u
  have hgo : ¬(!s.clocked || s.start.stage ≠ 2 || s.img.isNone) = true := by
    simp [hc, hs, Option.isSome_iff_ne_none.mp hi]
  unfold doMemoryStage
  rw [if_neg hgo]
  dsimp only
  generalize (List.range 64).foldl (trainChannel found) (setStage 3 { s with mem := {}, tiles := {}, fs := {} }) = u at channels ⊢
  have pages := pages u
  generalize u.retirements.foldl replayEntry u = b at pages ⊢
  exact ⟨b, channels.trans pages, rfl⟩

/-- The table that `f` gives for the numbers below `n`. -/
theorem tget_map_range {α : Type} (f : Nat → α) (d : α) {n k : Nat} (h : k < n) :
    tget ((List.range n).map fun i => (i, f i)) k d = f k := by
  suffices ∀ l : List Nat, k ∈ l → tget (l.map fun i => (i, f i)) k d = f k from this _ (List.mem_range.mpr h)
  intro l hl
  induction l with
  | nil => simp at hl
  | cons i r ih =>
    by_cases hik : i = k
    · simp [tget, hik]
    · simpa [tget, hik] using ih (List.mem_of_ne_of_mem (Ne.symm hik) hl)

/-- Settles O7: training and replay touch channels only, on a part whose memory and tiles are in their reset state. -/
theorem memoryStageClears : Obligations.MemoryStageClears := by
  unfold Obligations.MemoryStageClears
  intro t found s hc hs hi
  obtain ⟨b, ⟨frame, stage⟩, hdo⟩ := doMemoryStage_of_stage found (s := s.advance t) (by simpa using hc) (by simpa using hs)
    (by simpa using hi)
  have him : b.im = s.im := by
    rw [frame]
    simp [State.im, setStage]
  have hentry (p : Nat) : b.partEntry p = s.partEntry p := by simp [State.partEntry, him]
  rw [him] at hdo
  obtain ⟨u, hu⟩ : ∃ u, doMemoryStage found (s.advance t) = u := ⟨_, rfl⟩
  rw [hu] at hdo
  have hup : u = { memoryUp b with start := u.start, flt := u.flt } := by
    rw [hdo]
    split <;> rfl
  have hdown : u.start.channelsDown = b.start.channelsDown := by
    rw [hdo]
    split <;> rfl
  refine ⟨u, congrArg Host.Outcome.next hu, ?_, ?_, ?_, ?_, ?_, ?_, ?_, ?_, fun p hp => ?_⟩
  · rw [hup, memoryUp, frame]
    simp [setStage]
  · rw [hup, memoryUp, frame]
    rfl
  · rw [hup, memoryUp, frame]
    rfl
  · rw [hup, memoryUp]
  · rw [hup, memoryUp, frame]
    rfl
  · rw [hup, memoryUp, frame]
    rfl
  · rw [hdown, hup, memoryUp]
  · rw [hdown, hdo]
    split
    · rfl
    · exact stage
  · rw [hup, ← hentry]
    exact congrArg Reg.tokens (tget_map_range (fun p => ({ tokens := (b.partEntry p).burst } : Reg)) {} hp)

/-! ### The JOIN and RAMP stages -/

/-- A request for a slot touches the Round unit only. -/
theorem takeRequest_frame (q : ArmReq) (s : State) : (takeRequest q s).2 = { s with round := (takeRequest q s).2.round } := by
  unfold takeRequest
  by_cases hv : (!s.angleValid) = true
  · rw [if_pos hv]
  · rw [if_neg hv]
    by_cases hr : (!q.next && s.reached q.rev q.angle) = true
    · rw [if_pos hr]
    · rw [if_neg hr]
      split
      · rfl
      · split <;> rfl

theorem requestSlot_frame (q : ArmReq) (s : State) : (requestSlot q s).2 = { s with round := (requestSlot q s).2.round } := by
  unfold requestSlot
  split
  · rfl
  · exact takeRequest_frame q s

theorem armLehr_frame (s : State) : armLehr s = { s with round := (armLehr s).round } := by
  unfold armLehr
  split
  · rfl
  · exact requestSlot_frame _ s

/-- The governor as RAMP begins, before an alert or a loss in force puts it elsewhere (R82). -/
def LehrSt.ramping (l : LehrSt) : LehrSt := { l with state := .rampToFloor, motion := .still, holdNs := 0, holdExpired := false }

theorem LehrSt.ramping_heldBack (l : LehrSt) : l.ramping.heldBack = { l.ramping with state := .hold, holdPending := false } := rfl

/-- RAMP ends where an alert or a loss in force puts the governor (R78, R79, R82). -/
theorem beginRamp_eq (s : State) : beginRamp s = { s with
    round := (armLehr (s.setLehr s.lehr.ramping)).round
    lehr := if s.pins.alertLow then s.lehr.ramping.alerted
      else if s.lehr.lossNow then s.lehr.ramping.heldBack else s.lehr.ramping } := by
  have armed : armLehr (s.setLehr s.lehr.ramping) =
      { s with lehr := s.lehr.ramping, round := (armLehr (s.setLehr s.lehr.ramping)).round } := armLehr_frame _
  have begun : beginRamp s =
      if (armLehr (s.setLehr s.lehr.ramping)).pins.alertLow then
        (armLehr (s.setLehr s.lehr.ramping)).setLehr (armLehr (s.setLehr s.lehr.ramping)).lehr.alerted
      else if (armLehr (s.setLehr s.lehr.ramping)).lehr.lossNow then
        (armLehr (s.setLehr s.lehr.ramping)).setLehr (armLehr (s.setLehr s.lehr.ramping)).lehr.heldBack
      else armLehr (s.setLehr s.lehr.ramping) := rfl
  generalize (armLehr (s.setLehr s.lehr.ramping)).round = r at armed ⊢
  rw [begun, armed]
  by_cases ha : s.pins.alertLow = true
  · simp [ha, State.setLehr]
  · by_cases hl : s.lehr.lossNow = true
    · have hl' : s.lehr.ramping.lossNow = true := hl
      simp [ha, hl, hl', State.setLehr]
    · have hl' : ¬s.lehr.ramping.lossNow = true := hl
      simp [ha, hl, hl']

theorem doRampStage_of_stage {s : State} (hc : s.clocked = true) (h7 : s.start.stage = 7) (hj : s.joinDone = true) :
    doRampStage s = beginRamp (setStage 8 s) := by
  simp [doRampStage, hc, h7, hj]

@[simp] theorem setStage_alone (n : Nat) (s : State) : (setStage n s).alone = s.alone := rfl
@[simp] theorem setStage_isMaster (n : Nat) (s : State) : (setStage n s).isMaster = s.isMaster := rfl
@[simp] theorem setStage_deviceId (n : Nat) (s : State) : (setStage n s).deviceId = s.deviceId := rfl

/-- JOIN after entry to SYNC: the part is its domain's first member, or asks to join (R26, R306). -/
theorem doJoinStage_of_synced {s : State} (hc : s.clocked = true) (h6 : s.start.stage = 6) (hs : s.round.synced = true) :
    doJoinStage s =
      if s.alone then { setStage 7 s with fab := { s.fab with memberMap := setBit s.fab.memberMap s.deviceId } }
      else if s.isMaster then
        { setStage 7 s with fab := { s.fab with masterPresent := true, memberMap := setBit s.fab.memberMap s.deviceId } }
      else requestJoin { setStage 7 s with fab := { s.fab with joining := true } } := by
  simp only [doJoinStage, hc, h6, hs, setStage_alone, setStage_isMaster, setStage_deviceId]
  rfl

/-- Settles O10. -/
theorem joinAndRampStages : Obligations.JoinAndRampStages := by
  unfold Obligations.JoinAndRampStages
  intro t s hc
  have join (h6 : s.start.stage = 6) (hs : s.round.synced = true) := doJoinStage_of_synced (s := s.advance t) (by simpa using hc)
    (by simpa using h6) (by simpa using hs)
  refine ⟨fun h6 hs ha => ?alone, fun h6 hs ha hm => ?master, fun h6 hs ha hm => ?asks, fun h6 hs => ?waits, fun h7 hj => ?ramp⟩
  case alone => simp [exec, execJoinStage, join h6 hs, ha, setStage]
  case master => simp [exec, execJoinStage, join h6 hs, ha, hm, setStage]
  case asks => simp [exec, execJoinStage, join h6 hs, ha, hm, setStage]
  case waits => simp [exec, execJoinStage, doJoinStage, hc, h6, hs]
  case ramp =>
    have hdo := doRampStage_of_stage (s := s.advance t) (by simpa using hc) (by simpa using h7)
      (by simpa [State.joinDone] using hj)
    rw [beginRamp_eq] at hdo
    refine ⟨_, congrArg Host.Outcome.next hdo, by simp [setStage], by simp [setStage], ?_, fun ha => ?_, fun ha hl => ?_,
      fun ha hl => ?_⟩
    · dsimp only
      split
      · rfl
      · split <;> rfl
    · have low : (setStage 8 (s.advance t)).pins.alertLow = true := by simpa [setStage] using ha
      dsimp only
      rw [if_pos low]
      rfl
    · have high : ¬(setStage 8 (s.advance t)).pins.alertLow = true := by simpa [setStage] using ha
      have lost : (setStage 8 (s.advance t)).lehr.lossNow = true := hl
      dsimp only
      rw [if_neg high, if_pos lost]
      rfl
    · have high : ¬(setStage 8 (s.advance t)).pins.alertLow = true := by simpa [setStage] using ha
      have whole : ¬(setStage 8 (s.advance t)).lehr.lossNow = true := Bool.eq_false_iff.mp hl
      dsimp only
      rw [if_neg high, if_neg whole]
      rfl

end Sys2Proof.Machine

/-! PROOFS. What a turn of the Round leaves alone: an angle taken, a slot fired, a request made, the end of a revolution. -/

namespace Sys2Proof.Machine

/-- What samples, the end of a revolution and firing slots leave alone: time, answers, pins, fuses, image, start and access, and of the
Round all but its slots, requests, counts of them and samples. -/
structure Turns (s u : State) : Prop where
  now : u.now = s.now
  answer : u.answer = s.answer
  pins : u.pins = s.pins
  nv : u.nv = s.nv
  img : u.img = s.img
  start : u.start = s.start
  acc : u.acc = s.acc
  jtag : u.jtag = s.jtag
  round : u.round = { s.round with
    slots := u.round.slots, deferred := u.round.deferred, defers := u.round.defers, armRefused := u.round.armRefused
    waiting := u.round.waiting, cancelled := u.round.cancelled, fired := u.round.fired, samples := u.round.samples }

theorem Turns.refl (s : State) : Turns s s := ⟨rfl, rfl, rfl, rfl, rfl, rfl, rfl, rfl, rfl⟩

theorem Turns.trans {a b c : State} (h : Turns a b) (k : Turns b c) : Turns a c :=
  ⟨k.now.trans h.now, k.answer.trans h.answer, k.pins.trans h.pins, k.nv.trans h.nv, k.img.trans h.img, k.start.trans h.start,
    k.acc.trans h.acc, k.jtag.trans h.jtag, by rw [k.round, h.round]⟩

theorem Turns.foldl {α : Type} {f : State → α → State} (hf : ∀ s x, Turns s (f s x)) (l : List α) (s : State) :
    Turns s (l.foldl f s) :=
  List.foldlRecOn l f (.refl s) fun u h x _ => h.trans (hf u x)

theorem Turns.ite {s a b : State} {c : Prop} [Decidable c] (ha : Turns s a) (hb : Turns s b) : Turns s (if c then a else b) := by
  split
  · exact ha
  · exact hb

/-- An operation of the running part is no turn of its own. -/
theorem Keeps.turns {s u : State} (h : Keeps s u) : Turns s u :=
  ⟨h.now, h.answer, h.pins, h.nv, h.img, h.start, h.acc, h.jtag, by rw [h.round]⟩

theorem Turns.im {s u : State} (h : Turns s u) : u.im = s.im := by simp [State.im, h.img]

/-! ### The governor -/

theorem armLehr_keeps (s : State) : Keeps s (armLehr s) := by
  unfold armLehr
  split
  · exact .refl s
  · exact requestSlot_keeps (.refl s)

theorem setLehr_turns (l : LehrSt) (s : State) : Turns s (s.setLehr l) := ⟨rfl, rfl, rfl, rfl, rfl, rfl, rfl, rfl, rfl⟩

theorem derate_turns (d : Nat) (s : State) : Turns s (derate d s) := by
  unfold derate
  dsimp only
  refine .ite (.ite (setLehr_turns _ s) ?_) (.ite (.refl s) (setLehr_turns _ s))
  exact (setLehr_turns _ s).trans (raise_keeps (.refl _)).turns

theorem lehrStep_turns (s : State) : Turns s (lehrStep s) := (derate_turns s.stepLimit s).trans (setLehr_turns _ _)

theorem fireLehr_turns (s : State) : Turns s (fireLehr s) := by
  have armed := (armLehr_keeps s).turns
  unfold fireLehr
  split
  · exact .ite (armed.trans (setLehr_turns _ _)) (armed.trans (lehrStep_turns _))
  · exact .ite (armed.trans (setLehr_turns _ _)) (armed.trans (lehrStep_turns _))
  · exact armed.trans (setLehr_turns _ _)
  · exact armed.trans (setLehr_turns _ _)
  · exact armed.trans (setLehr_turns _ _)
  all_goals exact .refl s

theorem lossEnded_turns (s : State) : Turns s (lossEnded s) := by
  unfold lossEnded
  dsimp only
  split
  · exact (setLehr_turns _ s).trans (armLehr_keeps _).turns
  · exact .ite (setLehr_turns _ s) (.refl s)

theorem roundBack_turns (s : State) : Turns s (roundBack s) :=
  .ite (armLehr_keeps s).turns ((setLehr_turns _ s).trans (lossEnded_turns _))

theorem countIdle_turns (s : State) : Turns s (countIdle s) :=
  .ite (.refl s) (.foldl (fun _ _ => setLehr_turns _ _) _ s)

/-! ### Samples, and the end of a revolution -/

theorem updChan_turns (c : Nat) (f : Chan → Chan) (s : State) : Turns s (s.updChan c f) :=
  ⟨rfl, rfl, rfl, rfl, rfl, rfl, rfl, rfl, rfl⟩

theorem updPort_turns (n : Nat) (f : Port → Port) (s : State) : Turns s (s.updPort n f) :=
  ⟨rfl, rfl, rfl, rfl, rfl, rfl, rfl, rfl, rfl⟩

theorem setRegs_turns (regs : Tab Reg) (s : State) : Turns s { s with mem := { s.mem with regs := regs } } :=
  ⟨rfl, rfl, rfl, rfl, rfl, rfl, rfl, rfl, rfl⟩

theorem memSample_turns (s : State) : Turns s (memSample s) := by
  unfold memSample
  exact .foldl (fun u c => updChan_turns c _ u) _ s

theorem regSample_turns (s : State) : Turns s (regSample s) := by
  unfold regSample
  exact .foldl (fun u p => setRegs_turns _ u) _ s

theorem fabricSample_turns (s : State) : Turns s (fabricSample s) := by
  unfold fabricSample
  exact .foldl (fun u n => updPort_turns n _ u) _ s

theorem captureSample_turns (i mask : Nat) (s : State) : Turns s (captureSample i mask s) := by
  have power : Turns s (powerSample i mask s) := .ite (.refl s) (setLehr_turns _ s)
  have fs (u : State) : Turns u (if bit mask 2 then fsSample i u else u) := .ite (fsSample_keeps (.refl u)).turns (.refl u)
  have mem (u : State) : Turns u (if bit mask 3 then memSample u else u) := .ite (memSample_turns u) (.refl u)
  have reg (u : State) : Turns u (if bit mask 4 then regSample u else u) := .ite (regSample_turns u) (.refl u)
  have lens (u : State) : Turns u (if bit mask 5 then lensSample i u else u) := .ite (lensSample_keeps (.refl u)).turns (.refl u)
  have fab (u : State) : Turns u (if bit mask 6 then fabricSample u else u) := .ite (fabricSample_turns u) (.refl u)
  have sync (u : State) : Turns u (if bit mask 7 then syncSample i u else u) := .ite (syncSample_keeps (.refl u)).turns (.refl u)
  have stamped (u : State) : Turns u (u.setRound { u.round with samples := tset u.round.samples i (u.round.rev, u.now) }) :=
    ⟨rfl, rfl, rfl, rfl, rfl, rfl, rfl, rfl, rfl⟩
  exact ((((((((power.trans (fs _)).trans (mem _)).trans (reg _)).trans (lens _)).trans (fab _)).trans (sync _)).trans (stamped _)))

theorem atSamples_turns {f : Nat → Nat → State → State} (hf : ∀ i m s, Turns s (f i m s)) (a : Nat) (s : State) :
    Turns s (atSamples f a s) :=
  .foldl (fun u _ => .ite (hf _ _ u) (.refl u)) _ s

theorem endRevolution_turns (s : State) : Turns s (endRevolution s) :=
  ((latchShards_keeps (.refl s)).turns.trans (countIdle_turns _)).trans ⟨rfl, rfl, rfl, rfl, rfl, rfl, rfl, rfl, rfl⟩

/-! ### Slots fire, requests are made -/

theorem finishReconf_keeps (s : State) : Keeps s (finishReconf s) := by
  unfold finishReconf
  dsimp only
  refine .ite (fun _ => .refl s) fun _ => ?_
  exact Keeps.trans (.mk' (.refl s) rfl rfl id id) (.foldl (fun _ _ h => releaseWithheld_keeps h) (.refl _))

theorem fireReconf_keeps (plan : Nat) (s : State) : Keeps s (fireReconf plan s) :=
  .ite (fun _ => .refl s) fun _ => (beginSwitch_keeps (.refl s)).trans (finishReconf_keeps _)

theorem ownerActs_turns (e : EvSlot) (s : State) : Turns s (ownerActs e s) :=
  .ite (fireLehr_turns s) (.ite (fireRelease_keeps (.refl s)).turns (.ite (fireReconf_keeps _ s).turns
    (.ite (fireCalibration_keeps (.refl s)).turns (.refl s))))

theorem fireSlot_turns (n : Nat) (s : State) : Turns s (fireSlot n s) :=
  have counted : Turns s (s.setRound { s.round with fired := bump s.round.fired }) :=
    ⟨rfl, rfl, rfl, rfl, rfl, rfl, rfl, rfl, rfl⟩
  (counted.trans (releaseSlot_keeps (.refl _)).turns).trans (ownerActs_turns _ _)

theorem reachSlot_turns (s : State) (n : Nat) : Turns s (reachSlot s n) :=
  have timed : Turns s (s.setSlot n { s.evSlot n with state := .timing, fireAt := s.now }) :=
    ⟨rfl, rfl, rfl, rfl, rfl, rfl, rfl, rfl, rfl⟩
  .ite (timed.trans (fireSlot_turns n _)) timed

theorem armCalibration_keeps (s : State) : Keeps s (armCalibration s) :=
  .ite (fun _ => .refl s) fun _ => requestSlot_keeps (.refl s)

theorem requestRefused_keeps (q : ArmReq) (s : State) : Keeps s (requestRefused q s) := by
  unfold requestRefused
  refine .ite (fun _ => ?_) fun _ => .ite (fun _ => ?_) fun _ => .refl s
  · split
    · exact missParcel_keeps (.refl s)
    · exact .refl s
  · exact Keeps.trans (.mk' (.refl s) rfl rfl id id) (fireReconf_keeps _ _)

/-- The requests that waited are taken, and the move of the counter is over. -/
theorem takeWaiting_turns (s : State) : Turns (s.setRound { s.round with jumping := false }) (takeWaiting s) := by
  unfold takeWaiting
  dsimp only
  refine Turns.trans (b := s.setRound { s.round with jumping := false, waiting := [] })
    ⟨rfl, rfl, rfl, rfl, rfl, rfl, rfl, rfl, rfl⟩ (.foldl (fun u q => ?_) _ _)
  have taken := takeRequest_keeps (q := q) (.refl u)
  split
  next e =>
    rw [e] at taken
    exact taken.turns.trans (requestRefused_keeps _ _).turns
  next e =>
    rw [e] at taken
    exact taken.turns

theorem closeMove_turns (s : State) : Turns (s.setRound { s.round with jumping := false }) (closeMove s) :=
  (takeWaiting_turns s).trans (.ite (armCalibration_keeps _).turns (.refl _))

theorem emitMarkers_keeps (s : State) : Keeps s (emitMarkers s) := by
  unfold emitMarkers
  refine .ite (fun _ => .refl s) fun _ => .foldl (fun u n h => ?_) (.refl s)
  exact .ite (fun _ => sendSyncOn_keeps h) fun _ => h

/-! ### An angle is taken -/

/-- The counter at angle `a`, with the output of regenerate mode driven low half a tooth after n.0 (R35). -/
def atAngle (a : Nat) (s : State) : State :=
  if a % 256 = 128 && a / 256 ≤ 253 then driveOut false (s.setRound { s.round with angle := a })
  else s.setRound { s.round with angle := a }

theorem takeAngle_turns (a : Nat) (s : State) : Turns (atAngle a s) (takeAngle a s) := by
  have sampled := atSamples_turns captureSample_turns a (atAngle a s)
  have ended : Turns (atSamples captureSample a (atAngle a s)) (if a = 0 then endRevolution (atSamples captureSample a (atAngle a s))
      else atSamples captureSample a (atAngle a s)) := .ite (endRevolution_turns _) (.refl _)
  exact ((sampled.trans ended).trans (moveDeferred_keeps (.refl _)).turns).trans (.foldl reachSlot_turns _ _)

theorem driveOut_eq (level : Bool) (s : State) :
    driveOut level s = { s with pins := { s.pins with roundOut := if s.im.round.outMode = 1 then level else s.pins.roundOut } } := by
  unfold driveOut
  split <;> rfl

@[simp] theorem atAngle_start (a : Nat) (s : State) : (atAngle a s).start = s.start := by
  unfold atAngle
  split
  · rw [driveOut_eq]
    rfl
  · rfl

@[simp] theorem takeAngle_start (a : Nat) (s : State) : (takeAngle a s).start = s.start := by
  rw [(takeAngle_turns a s).start, atAngle_start]

@[simp] theorem runTicks_start (n units : Nat) (s : State) : (runTicks n units s).start = s.start := by
  induction n generalizing s with
  | zero => rfl
  | succ n ih =>
    unfold runTicks
    split
    · rw [ih, takeAngle_start]
    · rfl

theorem armAll_turns (s : State) : Turns s (armAll s) := (armAll_keeps (.refl s)).turns

theorem adopt_start (stamp : Int) (s : State) : (adopt stamp s).start = s.start := by
  have back (u : State) : Turns u (masterBack u) := .ite (.refl u) ((setLehr_turns _ u).trans (lossEnded_turns _))
  have ended (u : State) : (joinAdopted u).start = u.start := by
    unfold joinAdopted
    split
    · rfl
    · exact ((back _).trans (armAll_turns _)).start
  unfold adopt
  split
  · rfl
  · split
    · rfl
    · exact ended _

theorem newTooth_start (stamp : Int) (s : State) : (newTooth stamp s).start = s.start := by
  have adopted : (if s.round.position = 0 then adopt stamp s else s).start = s.start := by
    split
    · exact adopt_start stamp s
    · rfl
  unfold newTooth
  rw [runTicks_start, (emitMarkers_keeps _).start, takeAngle_start, driveOut_eq]
  exact adopted

theorem closeMove_start (s : State) : (closeMove s).start = s.start := (closeMove_turns s).start

theorem enterSync_start (stamp : Int) (s : State) : (enterSync stamp s).start = s.start := by
  unfold enterSync
  rw [(armAll_turns _).start, (roundBack_turns _).start, closeMove_start, newTooth_start]
  rfl

theorem startRound_start (s : State) : (startRound s).start = s.start := by
  unfold startRound
  dsimp only
  split
  · exact enterSync_start _ _
  · rfl

end Sys2Proof.Machine

/-! PROOFS. The start stages run in their order. -/

namespace Sys2Proof.Machine

/-- What a stage command may do to the stage code: leave it, raise it by one, or lead to RECOVERY, FAILED or QUARANTINED. -/
def StageMoves (s u : State) : Prop :=
  u.start.stage = s.start.stage ∨ u.start.stage = s.start.stage + 1 ∨ u.start.stage = 10 ∨ u.start.stage = 11 ∨
    u.start.stage = 12

theorem StageMoves.of_same {s u : State} (h : u.start.stage = s.start.stage) : StageMoves s u := .inl h

theorem StageMoves.of_next {s u : State} {n : Nat} (hs : s.start.stage = n) (h : u.start.stage = n + 1) : StageMoves s u :=
  .inr (.inl (by rw [h, hs]))

/-- A stage command waits in the stage before it, `n`, or does its work there. -/
theorem StageMoves.ite {s u : State} {n : Nat} {c : Prop} [Decidable c] (hn : ¬c → s.start.stage = n)
    (hu : u.start.stage = n + 1 ∨ u.start.stage = 10 ∨ u.start.stage = 11) : StageMoves s (if c then s else u) := by
  split
  next => exact .of_same rfl
  next hc =>
    rcases hu with hu | hu | hu
    · exact .of_next (hn hc) hu
    · exact .inr (.inr (.inl hu))
    · exact .inr (.inr (.inr (.inl hu)))

/-! ### The light and the ports -/

theorem foreignPort_keeps (n : Nat) (s : State) : Keeps s (foreignPort n s) :=
  .ite (fun _ => .refl s) fun _ => raise_keeps (updPort_keeps (.refl s))

theorem trainPort_keeps (x : PortTrain) (s : State) : Keeps s (trainPort x s) := by
  unfold trainPort
  dsimp only
  refine .ite (fun _ => failPort_keeps (updPort_keeps (.refl s))) fun _ => ?_
  have known := updPort_keeps (n := x.port) (f := fun p => { p with
    farDevice := x.farDevice % 2048, farPort := x.farPort % 16, delayNs := min x.delayNs 65535 })
    (noteNarrow_keeps (n := x.port) (updPort_keeps (n := x.port)
      (f := Port.trained s.im.fab.portLanes x.rxMask x.txMask) (.refl s)))
  exact .ite (fun _ => known.trans (foreignPort_keeps _ _)) fun _ => updPort_keeps known

theorem trainFabric_keeps (found : List PortTrain) (s : State) : Keeps s (trainFabric found s) := by
  unfold trainFabric
  dsimp only
  refine .ite (fun _ => .refl s) fun _ => ?_
  refine .foldl (fun u n h => setPort_keeps h) ?_
  refine .mk' (.foldl (fun u n h => ?_) (.foldl (fun u n h => updPort_keeps h) (.refl s))) rfl rfl id id
  split
  · exact h.trans (trainPort_keeps _ _)
  · exact failPort_keeps h

/-! ### Each stage -/

theorem doImageStage_moves (a b : Nat) (l : List Nat) (s : State) : StageMoves s (doImageStage a b l s) := by
  unfold doImageStage
  dsimp only
  refine .ite (n := 1) (fun h => by grind) ?_
  split
  · exact .inr (.inl (enterRecovery_spec _ _ _).2.1)
  · generalize hw : List.foldl _ (scanLog l (setStage 2 s)) [0, 1] = w
    have frame : FindingFrame (scanLog l (setStage 2 s)) w := by
      rw [← hw]
      exact .foldl (fun u k => by split; exacts [.refl u, setResult_finding k 8 u]) _ _
    split
    next k i v hp =>
      have picked : FindingFrame w v := by
        have hv := congrArg Prod.snd hp
        dsimp only at hv
        rw [← hv]
        exact (pickSlot_spec _ _ none w).1
      refine .inl ((startOn_spec _ _ _ _).2.2.1.trans ?_)
      rw [picked.stage, frame.stage, (scanLog_finding l _).stage]
      rfl
    · exact .inr (.inl (enterRecovery_spec _ _ _).2.1)

theorem doMemoryStage_moves (found : List ChanTrain) (s : State) : StageMoves s (doMemoryStage found s) := by
  by_cases hg : s.clocked = true ∧ s.start.stage = 2 ∧ s.img.isSome = true
  · obtain ⟨hc, h2, hi⟩ := hg
    obtain ⟨b, ⟨-, stage⟩, hdo⟩ := doMemoryStage_of_stage found hc h2 hi
    rw [hdo]
    split
    · exact .inr (.inr (.inr (.inl rfl)))
    · exact .of_next h2 (stage.trans rfl)
  · refine .of_same (congrArg (fun u : State => u.start.stage) (if_pos ?_))
    simpa [or_iff_not_imp_left, Decidable.not_and_iff_or_not, Option.isSome_iff_ne_none] using hg

theorem doLightStage_moves (lost : List Nat) (runs : List CalRun) (s : State) : StageMoves s (doLightStage lost runs s) :=
  .ite (n := 3) (fun h => by grind)
    (.inl (congrArg StartSt.stage (lightEngines_keeps (.refl _)).start))

theorem doFabricStage_moves (found : List PortTrain) (s : State) : StageMoves s (doFabricStage found s) :=
  .ite (n := 4) (fun h => by grind) (.inl (congrArg StartSt.stage (trainFabric_keeps found _).start))

theorem doRoundStage_moves (s : State) : StageMoves s (doRoundStage s) :=
  .ite (n := 5) (fun h => by grind) (.inl (congrArg StartSt.stage (startRound_start _)))

theorem doJoinStage_moves (s : State) : StageMoves s (doJoinStage s) := by
  unfold doJoinStage
  refine .ite (n := 6) (fun h => by grind) (.inl ?_)
  dsimp only
  split
  · rfl
  · split
    · rfl
    · exact congrArg StartSt.stage (requestJoin_keeps (.refl _)).start

theorem doRampStage_moves (s : State) : StageMoves s (doRampStage s) := by
  unfold doRampStage
  refine .ite (n := 7) (fun h => by grind) (.inl ?_)
  rw [beginRamp_eq]
  rfl

theorem doReady_moves (k : Option Nat) (s : State) : StageMoves s (doReady k s) := by
  by_cases hg : s.clocked = true ∧ s.start.stage = 8 ∧ s.lehr.state = .govern
  · obtain ⟨hc, h8, hl⟩ := hg
    rcases doReady_doors hc h8 hl k with ⟨h, -⟩ | ⟨h, -⟩
    · exact .of_next h8 h
    · exact .of_same (h.trans h8.symm)
  · refine .of_same (congrArg (fun u : State => u.start.stage) (if_pos ?_))
    simpa [or_iff_not_imp_left, Decidable.not_and_iff_or_not] using hg

/-- Settles O14: each stage command waits in the stage before its own, or does its work there. -/
theorem stagesInOrder : Obligations.StagesInOrder := by
  unfold Obligations.StagesInOrder
  intro t s u c hc hu
  have moved : StageMoves (s.advance t) u := by
    rcases hc with ⟨a, b, l, rfl⟩ | ⟨l, rfl⟩ | ⟨a, b, rfl⟩ | ⟨l, rfl⟩ | rfl | rfl | rfl | ⟨k, rfl⟩ <;>
      rw [← Host.Outcome.next.inj hu]
    · exact doImageStage_moves a b l _
    · exact doMemoryStage_moves l _
    · exact doLightStage_moves a b _
    · exact doFabricStage_moves l _
    · exact doRoundStage_moves _
    · exact doJoinStage_moves _
    · exact doRampStage_moves _
    · exact doReady_moves k _
  simpa [StageMoves] using moved

end Sys2Proof.Machine

/-! PROOFS. Edges outside SYNC, the stall, and ticks with nothing at their angle. -/

namespace Sys2Proof.Machine

/-! ### What a send touches: the ports -/

/-- Nothing but the ports changes. -/
def PortsOnly (s u : State) : Prop := ∃ p, u = { s with fab := { s.fab with ports := p } }

theorem PortsOnly.refl (s : State) : PortsOnly s s := ⟨_, rfl⟩

theorem PortsOnly.trans {a b c : State} (h : PortsOnly a b) (k : PortsOnly b c) : PortsOnly a c := by
  obtain ⟨p, rfl⟩ := h
  obtain ⟨q, rfl⟩ := k
  exact ⟨q, rfl⟩

theorem PortsOnly.ite {s a b : State} {c : Prop} [Decidable c] (ha : PortsOnly s a) (hb : PortsOnly s b) :
    PortsOnly s (if c then a else b) := by
  split
  · exact ha
  · exact hb

theorem PortsOnly.foldl {α : Type} {f : State → α → State} (hf : ∀ s x, PortsOnly s (f s x)) (l : List α) (s : State) :
    PortsOnly s (l.foldl f s) :=
  List.foldlRecOn l f (.refl s) fun u h x _ => h.trans (hf u x)

theorem updPort_portsOnly (n : Nat) (f : Port → Port) (s : State) : PortsOnly s (s.updPort n f) := ⟨_, rfl⟩

theorem leaveBuffer_portsOnly (f : Flit) (s : State) : PortsOnly s (leaveBuffer f s) := by
  unfold leaveBuffer
  split
  · exact updPort_portsOnly _ _ s
  · exact .refl s

theorem queueFlit_portsOnly (n : Nat) (f : Flit) (s : State) : PortsOnly s (queueFlit n f s) :=
  .ite (leaveBuffer_portsOnly f s) (updPort_portsOnly _ _ s)

theorem sendReply_portsOnly (hold : Option Nat) (type vc cluster dst count : Nat) (bs : List Byte) (s : State) :
    PortsOnly s (sendReply hold type vc cluster dst count bs s) :=
  .ite (.refl s) (queueFlit_portsOnly _ _ s)

theorem rowFlits_portsOnly (h : RowHead) (n : Nat) (bs : List (Byte × Bool)) (s : State) : PortsOnly s (rowFlits h n bs s) := by
  induction n generalizing bs s with
  | zero => exact .refl s
  | succ n ih =>
    have sent := sendReply_portsOnly h.hold 1 h.vc h.cluster h.dst (ceilDiv (bs.take 224).length 32)
      (dfHead h.row h.context h.kind h.cluster h.pos (sectorPoison (bs.take 224)) h.table h.sub h.tag ++
        (bs.take 224).map Prod.fst) s
    exact .ite sent (sent.trans (ih _ _))

theorem sendRow_portsOnly (h : RowHead) (bs : List (Byte × Bool)) (s : State) : PortsOnly s (sendRow h bs s) :=
  rowFlits_portsOnly h _ bs s

/-! ### The end of a revolution -/

/-- Nothing but the feature store and the ports changes. -/
def StoreOnly (s u : State) : Prop := ∃ fs p, u = { s with fs := fs, fab := { s.fab with ports := p } }

theorem StoreOnly.refl (s : State) : StoreOnly s s := ⟨_, _, rfl⟩

theorem StoreOnly.trans {a b c : State} (h : StoreOnly a b) (k : StoreOnly b c) : StoreOnly a c := by
  obtain ⟨_, _, rfl⟩ := h
  obtain ⟨_, _, rfl⟩ := k
  exact ⟨_, _, rfl⟩

theorem PortsOnly.store {s u : State} (h : PortsOnly s u) : StoreOnly s u := by
  obtain ⟨p, rfl⟩ := h
  exact ⟨_, p, rfl⟩

theorem StoreOnly.foldl {α : Type} {f : State → α → State} (hf : ∀ s x, StoreOnly s (f s x)) (l : List α) (s : State) :
    StoreOnly s (l.foldl f s) :=
  List.foldlRecOn l f (.refl s) fun u h x _ => h.trans (hf u x)

theorem noteReplicated_storeOnly (table row : Nat) (s : State) : StoreOnly s (noteReplicated table row s) := by
  unfold noteReplicated
  split
  · exact .refl s
  · dsimp only
    split
    · exact .refl s
    · exact ⟨_, _, rfl⟩

theorem leaveReplica_storeOnly (r : Replica) (s : State) : StoreOnly s (leaveReplica r s) := by
  have dropped : StoreOnly s (dropReplica r s) := ⟨_, _, rfl⟩
  unfold leaveReplica
  dsimp only
  split
  · exact dropped.trans (noteReplicated_storeOnly _ _ _)
  · split
    · exact dropped
    · exact dropped.trans (sendRow_portsOnly _ _ _).store

theorem latchCounts_storeOnly (s : State) : StoreOnly s (latchCounts s) := by
  unfold latchCounts
  dsimp only
  exact StoreOnly.trans ⟨_, s.fab.ports, rfl⟩ (.foldl (fun u r => leaveReplica_storeOnly r u) _ _)

theorem latchShards_storeOnly (s : State) : StoreOnly s (latchShards s) := by
  unfold latchShards
  split
  · exact latchCounts_storeOnly s
  · exact .refl s

/-- What the work of a device-time tick leaves alone: the Round unit and the memory's bytes among it. -/
structure Quiet (s u : State) : Prop where
  now : u.now = s.now
  pins : u.pins = s.pins
  nv : u.nv = s.nv
  img : u.img = s.img
  start : u.start = s.start
  acc : u.acc = s.acc
  tiles : u.tiles = s.tiles
  flt : u.flt = s.flt
  cells : u.mem.cells = s.mem.cells
  round : u.round = s.round

theorem Quiet.refl (s : State) : Quiet s s := ⟨rfl, rfl, rfl, rfl, rfl, rfl, rfl, rfl, rfl, rfl⟩

theorem Quiet.trans {a b c : State} (h : Quiet a b) (k : Quiet b c) : Quiet a c :=
  ⟨k.now.trans h.now, k.pins.trans h.pins, k.nv.trans h.nv, k.img.trans h.img, k.start.trans h.start, k.acc.trans h.acc,
    k.tiles.trans h.tiles, k.flt.trans h.flt, k.cells.trans h.cells, k.round.trans h.round⟩

theorem Quiet.ite {s a b : State} {c : Prop} [Decidable c] (ha : Quiet s a) (hb : Quiet s b) :
    Quiet s (if c then a else b) := by
  split
  · exact ha
  · exact hb

theorem Quiet.foldl {α : Type} {f : State → α → State} (hf : ∀ s x, Quiet s (f s x)) (l : List α) (s : State) :
    Quiet s (l.foldl f s) :=
  List.foldlRecOn l f (.refl s) fun u h x _ => h.trans (hf u x)

theorem StoreOnly.quiet {s u : State} (h : StoreOnly s u) : Quiet s u := by
  obtain ⟨_, _, rfl⟩ := h
  exact ⟨rfl, rfl, rfl, rfl, rfl, rfl, rfl, rfl, rfl, rfl⟩

theorem Quiet.refPeriod {s u : State} (h : Quiet s u) : u.refPeriod = s.refPeriod := by
  unfold State.refPeriod State.im
  rw [h.round, h.img]

theorem setLehr_quiet (l : LehrSt) (s : State) : Quiet s (s.setLehr l) := ⟨rfl, rfl, rfl, rfl, rfl, rfl, rfl, rfl, rfl, rfl⟩

theorem updEngine_quiet (n : Nat) (f : Engine → Engine) (s : State) : Quiet s (s.updEngine n f) :=
  ⟨rfl, rfl, rfl, rfl, rfl, rfl, rfl, rfl, rfl, rfl⟩

theorem countIdle_quiet (s : State) : Quiet s (countIdle s) :=
  .ite (.refl s) (.foldl (fun _ _ => setLehr_quiet _ _) _ s)

theorem endRevolution_quiet (s : State) : Quiet s (endRevolution s) :=
  ((latchShards_storeOnly s).quiet.trans (countIdle_quiet _)).trans ⟨rfl, rfl, rfl, rfl, rfl, rfl, rfl, rfl, rfl, rfl⟩

theorem skipSample_quiet (i mask : Nat) (s : State) : Quiet s (skipSample i mask s) := by
  have power : Quiet s (if bits mask 0 2 = 0 then s
      else s.setLehr { s.lehr with samples := tupd s.lehr.samples i {} fun r => { r with skips := bump r.skips } }) :=
    .ite (.refl s) (setLehr_quiet _ s)
  have fs (u : State) : Quiet u (if bit mask 2 then { u with fs := { u.fs with
      samples := tupd u.fs.samples i {} fun r => { r with skips := bump r.skips } } } else u) :=
    .ite ⟨rfl, rfl, rfl, rfl, rfl, rfl, rfl, rfl, rfl, rfl⟩ (.refl u)
  have lens (u : State) : Quiet u (if bit mask 5 then (List.range 32).foldl (fun s n => s.updEngine n fun e => { e with
      samples := tupd e.samples i {} fun r => { r with skips := bump r.skips } }) u else u) :=
    .ite (.foldl (fun v n => updEngine_quiet n _ v) _ u) (.refl u)
  have sync (u : State) : Quiet u (if bit mask 7 then { u with sync := { u.sync with
      samples := tupd u.sync.samples i {} fun r => { r with skips := bump r.skips } } } else u) :=
    .ite ⟨rfl, rfl, rfl, rfl, rfl, rfl, rfl, rfl, rfl, rfl⟩ (.refl u)
  exact ((power.trans (fs _)).trans (lens _)).trans (sync _)

/-- The device-time angle at angle `a`, counted from `b`. -/
def State.devAt (s : State) (a b : Nat) : State := s.setRound { s.round with devAngle := a, devBase := b }

/-- The device-time angle takes one tick, the next a reference period later (R55). -/
theorem devTick_quiet (s : State) :
    Quiet (s.devAt ((s.round.devAngle + 1) % 65536) (s.round.devBase + s.refPeriod)) (devTick s) := by
  have sampled : Quiet (s.devAt ((s.round.devAngle + 1) % 65536) (s.round.devBase + s.refPeriod))
      (atSamples skipSample ((s.round.devAngle + 1) % 65536)
        (s.devAt ((s.round.devAngle + 1) % 65536) (s.round.devBase + s.refPeriod))) :=
    .foldl (fun u i => .ite (skipSample_quiet _ _ u) (.refl u)) _ _
  exact .ite (sampled.trans (endRevolution_quiet _)) sampled

theorem Quiet.devAt {s u : State} (h : Quiet s u) (a b : Nat) : Quiet (s.devAt a b) (u.devAt a b) :=
  ⟨h.now, h.pins, h.nv, h.img, h.start, h.acc, h.tiles, h.flt, h.cells, by simp [State.devAt, State.setRound, h.round]⟩

theorem runDevTicks_quiet (n : Nat) (s : State) : ∃ a b, Quiet (s.devAt a b) (runDevTicks n s) := by
  induction n generalizing s with
  | zero => exact ⟨_, _, .refl s⟩
  | succ n ih =>
    unfold runDevTicks
    split
    · obtain ⟨a, b, h⟩ := ih (devTick s)
      exact ⟨a, b, ((devTick_quiet s).devAt a b).trans h⟩
    · exact ⟨_, _, .refl s⟩

/-- Settles O19: the angle takes its tick, and what lies at that angle touches nothing named here. -/
theorem deviceTimeAngle : Obligations.DeviceTimeAngle := by
  unfold Obligations.DeviceTimeAngle
  intro t s hr hreset hsync hdue
  have due : doDeviceTimeAngleTick (s.advance t) = devTick (s.advance t) :=
    if_pos (by simpa [State.devTickDue, hr, hreset, hsync] using hdue)
  have quiet := devTick_quiet (s.advance t)
  refine ⟨_, congrArg Host.Outcome.next due, ?_⟩
  simp [quiet.round, quiet.nv, quiet.img, quiet.pins, quiet.start, quiet.tiles, quiet.flt, quiet.cells, quiet.acc, State.devAt,
    State.setRound]

/-- Settles O18: with no sample, slot or deferred request at the angle, taking it moves the counter alone. -/
theorem microTick : Obligations.MicroTick := by
  unfold Obligations.MicroTick
  intro t s hr hv hh hd hs ho hq hnone
  have none : s.slotsAt (s.round.angle + 1) = [] := by
    simp only [State.slotsAt, List.map_eq_nil_iff, List.filter_eq_nil_iff, Bool.and_eq_true, decide_eq_true_eq]
    rintro p hp ⟨⟨ha, he⟩, -⟩
    exact hnone p hp ha he
  have due := doMicroTick_of_due (s := s.advance t) (by simpa using hr) (by simpa using hv) (by simpa using hh)
    (by simpa [State.sinceEdge] using hd)
  have taken := takeAngle_slots_only (s := s.advance t) (a := s.round.angle + 1) (by simp) (by simpa using hs)
    (by simpa using ho) (by simpa using hq)
  refine congrArg Host.Outcome.next (due.trans ?_)
  rw [State.advance_round, taken, State.advance_slotsAt, none]
  simp [State.setRound]

/-! ### Edges outside SYNC -/

theorem doStallTimeout_of_recent {s : State}
    (h : (s.now - s.round.lastArrival) * 256 < s.im.round.stallTeeth * s.refPeriod ∨ s.round.state = .stall) :
    doStallTimeout s = s := by
  refine if_pos ?_
  rcases h with h | h <;> simp [h]

/-- An edge with source INPUT is taken at its corrected moment (R33, R36). -/
theorem doRoundEdge_of_input {s : State} (hr : s.running = true) (hs : s.im.round.source = 1) (ho : s.im.round.outMode ≠ 2)
    (hreset : s.round.state ≠ .reset) :
    doRoundEdge s = doEdge ((s.now : Int) - s.im.round.lineDelay) { s with pins := { s.pins with roundIn := true } } := by
  have hr' : State.running { s with pins := { s.pins with roundIn := true } } = true := hr
  simp only [doRoundEdge, hr', hreset]
  simp [State.im] at hs ho ⊢
  simp [hs, ho]

section
variable {stamp : Int} {s : State} (hn : s.round.state ≠ .reset) (hq : doStallTimeout s = s)
include hn hq

/-- The first edge of a stay is kept for the next one's interval, which is not known yet (R36, R56). -/
theorem doEdge_of_first (h : s.round.lastEdge = none) :
    doEdge stamp s = ringWrite 0xFFFFFFFF 0xFF 5 ((if s.round.state = .stall then enterSeek s else s).setRound
      { (if s.round.state = .stall then enterSeek s else s).round with lastEdge := some stamp, lastArrival := s.now }) := by
  unfold doEdge
  rw [if_neg hn, hq]
  simp only [h]
  by_cases hs : s.round.state = .stall
  · simp only [hs, if_true]
    rfl
  · simp only [hs, if_false]

/-- Another edge is a glitch or a valid one by its interval (R36). -/
theorem doEdge_of_next {e : Int} (h : s.round.lastEdge = some e) :
    doEdge stamp s = if s.classOf (stamp - e).toNat = 2 then
        ringWrite (stamp - e).toNat 0xFF 2 (s.setRound { s.round with glitches := bump s.round.glitches })
      else validEdge stamp (stamp - e).toNat s := by
  unfold doEdge
  rw [if_neg hn, hq]
  simp only [h]

end

/-- The state in which an edge on ROUND_IN is taken. -/
def State.edgeIn (s : State) (t : Nat) : State := { s.advance t with pins := { s.pins with roundIn := true } }

@[simp] theorem State.edgeIn_round (s : State) (t : Nat) : (s.edgeIn t).round = s.round := State.advance_round ..
@[simp] theorem State.edgeIn_now (s : State) (t : Nat) : (s.edgeIn t).now = (s.advance t).now := rfl
@[simp] theorem State.edgeIn_im (s : State) (t : Nat) : (s.edgeIn t).im = s.im := State.advance_im ..
@[simp] theorem State.edgeIn_refPeriod (s : State) (t : Nat) : (s.edgeIn t).refPeriod = s.refPeriod := State.advance_refPeriod ..
@[simp] theorem State.edgeIn_classOf (s : State) (t iv : Nat) : (s.edgeIn t).classOf iv = s.classOf iv := by
  simp [State.classOf]

theorem exec_roundEdge {t : Nat} {s : State} (hr : s.running = true) (hs : s.im.round.source = 1) (ho : s.im.round.outMode ≠ 2)
    (hn : s.round.state ≠ .reset) :
    exec (.roundEdge t) s = .next (doEdge (((s.advance t).now : Int) - s.im.round.lineDelay) (s.edgeIn t)) := by
  have edge := doRoundEdge_of_input (s := s.advance t) (by simpa using hr) (by simpa using hs) (by simpa using ho)
    (by simpa using hn)
  rw [State.advance_im, State.advance_pins] at edge
  exact congrArg _ edge

/-- Settles O15. -/
theorem firstEdgeAndGlitch : Obligations.FirstEdgeAndGlitch := by
  unfold Obligations.FirstEdgeAndGlitch
  intro t s hr hsrc hout
  refine ⟨fun hlast hstate hrecent => ?first, fun e hlast hreset hstall hrecent hglitch => ?glitch⟩
  case first =>
    have hreset : s.round.state ≠ .reset := by rcases hstate with h | h <;> simp [h]
    rw [exec_roundEdge hr hsrc hout hreset, doEdge_of_first (by simpa using hreset)
      (doStallTimeout_of_recent (by simpa using hrecent)) (by simpa using hlast)]
    rcases hstate with h | h <;> rw [State.edgeIn_round, h]
    · exact ⟨_, by rw [if_neg (by simp)]; simp only [ringWrite, State.setRound, State.edgeIn]; rfl, by
        simp [h], by simp, by simp, by simp, by simp⟩
    · exact ⟨_, by rw [if_pos rfl]; simp only [ringWrite, enterSeek, State.setRound, State.edgeIn]; rfl, by
        simp, by simp, by simp, by simp, by simp⟩
  case glitch =>
    have short : s.classOf (((s.advance t).now : Int) - s.im.round.lineDelay - e).toNat = 2 := if_pos hglitch
    rw [exec_roundEdge hr hsrc hout hreset,
      doEdge_of_next (by simpa using hreset) (doStallTimeout_of_recent (.inl (by simpa using hrecent))) (by simpa using hlast),
      if_pos (by simpa using short)]
    simp [ringWrite, State.setRound, State.edgeIn, bump_eq]

/-- With no reference yet a tooth-class interval joins those kept while they are fewer than 16 (R37). -/
theorem validEdge_of_few {stamp : Int} {iv : Nat} {s : State} (hs : s.round.state = .seek) (hr : s.round.refCommitted = false)
    (hl : s.round.seek.length < 15) (hc : s.classOf iv = 0) :
    validEdge stamp iv s = ringWrite iv 0xFF 0
      ((markEdge stamp iv s).setRound { (markEdge stamp iv s).round with seek := s.round.seek ++ [iv] }) := by
  have kept : seekCollect iv (markEdge stamp iv s) =
      (markEdge stamp iv s).setRound { (markEdge stamp iv s).round with seek := s.round.seek ++ [iv] } := by
    have few : s.round.seek.length + 1 - 16 = 0 := by omega
    have few' : s.round.seek.length + 1 < 16 := by omega
    have old : (markEdge stamp iv s).round.seek = s.round.seek := rfl
    simp [seekCollect, old, few, few']
  have learn : learnEdge stamp iv 0 (markEdge stamp iv s) = (0xFF, seekCollect iv (markEdge stamp iv s)) := by
    have hs' : (markEdge stamp iv s).round.state = .seek := hs
    have hr' : (markEdge stamp iv s).round.refCommitted = false := hr
    simp [learnEdge, hs', hr']
  unfold validEdge
  rw [hc, if_neg (by simp [hs]), learn, kept]

/-- Settles O16. -/
theorem seekCollects : Obligations.SeekCollects := by
  unfold Obligations.SeekCollects
  intro t s hr hsrc hout
  refine ⟨fun e hlast hseek href hfew hrecent hclass => ?edge, ?falling⟩
  case edge =>
    have hreset : s.round.state ≠ .reset := by simp [hseek]
    rw [exec_roundEdge hr hsrc hout hreset,
      doEdge_of_next (by simpa using hreset) (doStallTimeout_of_recent (.inl (by simpa using hrecent))) (by simpa using hlast),
      State.edgeIn_classOf, hclass, if_neg (by decide)]
    refine ⟨_, rfl, ?_⟩
    rw [validEdge_of_few (by simpa using hseek) (by simpa using href) (by simpa using hfew) (by simpa using hclass)]
    simp [ringWrite, markEdge, State.setRound, State.edgeIn, hseek]
  case falling =>
    have out : ¬(s.advance t).im.round.outMode = 2 := by simpa using hout
    refine congrArg Host.Outcome.next ?_
    unfold doRoundInFallingEdge
    rw [if_neg]
    · simp
    · simp only [Bool.and_eq_true, decide_eq_true_eq]
      exact fun h => out h.2

/-- The loss of the reference runs the device-time ticks due until now, and counts them on from now at the nominal rate (R38, R55). -/
theorem setReference_none_quiet {s : State} (h : s.round.state ≠ .sync) :
    ∃ a b, Quiet ((s.setRound { s.round with refCommitted := false, refPeriod := 0, seek := [] }).devAt a b)
      (setReference none s) := by
  obtain ⟨a, b, ticks⟩ := runDevTicks_quiet devTickBound s
  have hsync : ¬(runDevTicks devTickBound s).round.state = .sync := by
    rw [ticks.round]
    exact h
  obtain ⟨c, hset⟩ : ∃ c, setReference none s = (runDevTicks devTickBound s).setRound { (runDevTicks devTickBound s).round with
      refCommitted := false, refPeriod := 0, seek := [], devBase := c } := ⟨_, if_neg hsync⟩
  rw [hset]
  refine ⟨a, c, ticks.now, ticks.pins, ticks.nv, ticks.img, ticks.start, ticks.acc, ticks.tiles, ticks.flt, ticks.cells, ?_⟩
  simp only [State.setRound, ticks.round]
  rfl

/-- A stall outside SYNC, with the fault and its entry in the ring. -/
def stalled (s : State) : State := noteStall (raise0 0x1003 (ringWrite (s.now - s.round.lastArrival) 0xFF 4 s))

/-- Settles O17: outside SYNC the stall is noted, then the reference goes, with the device-time ticks due until now. -/
theorem stallTimeout : Obligations.StallTimeout := by
  unfold Obligations.StallTimeout
  intro t s hr hsrc hstate hlong
  set a := s.advance t with ha
  have out : ¬a.round.state = .sync := by rcases hstate with h | h | h <;> simp [ha, h]
  have stall : doStallTimeout a = setReference none ((stalled a).setRound
      { (stalled a).round with state := .stall, lastEdge := none }) := by
    have hlong' : ¬(a.now - a.round.lastArrival) * 256 < a.im.round.stallTeeth * a.refPeriod := by simpa [ha] using hlong
    have hr' : a.running = true := by simpa [ha] using hr
    have hsrc' : a.im.round.source ≠ 0 := by simpa [ha] using hsrc
    have hstate' : a.round.state = .seek ∨ a.round.state = .confirm ∨ a.round.state = .lost := by simpa [ha] using hstate
    refine (if_neg ?_).trans ?_
    · rcases hstate' with h | h | h <;> simp [h, hr', hsrc', hlong']
    · rw [if_neg out, if_neg out]
      rfl
  obtain ⟨x, y, quiet⟩ := setReference_none_quiet (s := (stalled a).setRound
      { (stalled a).round with state := .stall, lastEdge := none }) (by simp [State.setRound])
  refine ⟨_, congrArg Host.Outcome.next stall, ?_⟩
  generalize setReference none _ = u at quiet ⊢
  simp [quiet.round, quiet.nv, quiet.img, quiet.pins, quiet.start, quiet.tiles, quiet.acc, State.devAt, State.setRound, stalled,
    noteStall, ringWrite, raise0, bump_eq, ha]

end Sys2Proof.Machine

/-! PROOFS. Arm requests, Round markers and generated teeth. -/

namespace Sys2Proof.Machine

/-! ### Requests for a slot -/

/-- The answer of an arm request (R43). -/
def armAnswer : Armed → List Nat
  | .slot n => [0, n]
  | .deferred => [1]
  | .refused => [2]

/-- A request within its columns is taken as it is. -/
theorem doArmRequest_of_wf {q : ArmReq} {s : State} (hr : s.running = true) (hj : s.round.jumping = false) (hq : q.wf = true)
    (ha : s.ownerAsks q = true) :
    doArmRequest q s = { (takeRequest q s).2 with answer := armAnswer (takeRequest q s).1 } := by
  obtain ⟨-, hangle, hoffset, hrev, -⟩ : q.owner ≤ 4 ∧ q.angle < 65536 ∧ q.offset < 2 ^ 20 ∧ q.rev < 2 ^ 32 ∧
      q.tag < 65536 := by
    simpa [ArmReq.wf, and_assoc] using hq
  have same : { q with angle := q.angle % 65536, offset := q.offset % 2 ^ 20, rev := q.rev % 2 ^ 32 } = q := by
    rw [Nat.mod_eq_of_lt hangle, Nat.mod_eq_of_lt hoffset, Nat.mod_eq_of_lt hrev]
  unfold doArmRequest
  rw [if_neg (by simp [hr, ha])]
  dsimp only
  rw [same, requestSlot, if_neg (by simp [hj])]
  obtain ⟨armed, u⟩ := takeRequest q s
  cases armed <;> rfl

/-- Settles O22. -/
theorem armRequest : Obligations.ArmRequest := by
  unfold Obligations.ArmRequest
  intro t q s hr hj hq
  set a := s.advance t with ha
  have running : a.running = true := by simpa [ha] using hr
  have free : a.freeSlot q.owner = s.freeSlot q.owner := by simp [ha, State.freeSlot]
  have target : a.targetRev q = s.targetRev q := by simp [ha, State.targetRev]
  have reached : a.reached q.rev q.angle = s.reached q.rev q.angle := by simp [ha, State.reached]
  have valid : a.angleValid = s.angleValid := State.advance_angleValid ..
  have round : a.round = s.round := State.advance_round ..
  have exec_eq : exec (.armRequest t q) s = .next (doArmRequest q a) := rfl
  refine ⟨fun hask => ?silent, fun hask => ?asks⟩
  case silent => rw [exec_eq, doArmRequest, if_pos (by simp [hask])]
  case asks =>
    rw [exec_eq, doArmRequest_of_wf running (by simpa [round] using hj) hq hask, takeRequest, valid, reached, free, target, round]
    refine ⟨fun hv => ?_, fun hv hn hx => ?_, fun hv hx => ?_⟩
    · simp [hv, armAnswer]
    · simp [hv, hn, hx, bump_eq, armAnswer]
    · have open_ : ¬(!q.next && s.reached q.rev q.angle) = true := by rcases hx with h | h <;> simp [h]
      refine ⟨fun k hk => ?_, fun hk ho => ?_, fun hk h1 h4 => ?_⟩
      · simp [hv, open_, hk, armIn, State.setSlot, target, round, armAnswer]
      · simp [hv, open_, hk, ho, bump_eq, armAnswer]
      · simp [hv, open_, hk, h1, h4, armAnswer]

/-! ### Markers -/

theorem sendSyncOn_portsOnly (n count : Nat) (bs : List Byte) (s : State) : PortsOnly s (sendSyncOn n count bs s) :=
  queueFlit_portsOnly _ _ s

theorem toChildren_portsOnly (count : Nat) (bs : List Byte) (s : State) : PortsOnly s (toChildren count bs s) :=
  .foldl (fun u n => sendSyncOn_portsOnly n _ _ u) _ s

theorem forwardMarker_frame (m : MarkMsg) (delay : Nat) (s : State) : PortsOnly { s with free := s.free + 1 } (forwardMarker m delay s) :=
  toChildren_portsOnly _ _ _

/-- Settles O21. -/
theorem roundMark : Obligations.RoundMark := by
  unfold Obligations.RoundMark
  intro t n m s hd hm hc
  set a := s.advance t with ha
  have domain : a.inDomain 6 = true := by simpa [ha, State.inDomain, State.quarantined] using hd
  have master : a.isMaster = false := by simpa [ha] using hm
  have carries : (a.port n).carries = true := by simpa [ha] using hc
  refine ⟨fun hn hs => ?parent, fun hn => ?other⟩
  case parent =>
    set d := m.delayNs + (a.port n).delayNs with hdelay
    obtain ⟨p, hp⟩ := forwardMarker_frame m d { a with fab := { a.fab with depth := (m.hops + 1) % 8 } }
    have source : ¬a.im.round.source = 2 := by simpa [ha] using hs
    have done : doRoundMark n m a = { a with
        free := a.free + 1, fab := { a.fab with depth := (m.hops + 1) % 8, ports := p }
        round := if m.tooth = 0 then { a.round with
          marker := some { rev := m.rev % 2 ^ 32, epoch := m.epoch % 2 ^ 64, stamp := (a.now : Int) - (d : Int) } } else a.round } := by
      unfold doRoundMark
      rw [if_neg (by simp [domain, carries]), if_neg (by simp [master]), if_neg (by simp [hn, ha])]
      dsimp only
      rw [hp]
      split <;> exact if_neg source
    refine ⟨_, congrArg Host.Outcome.next done, ?_⟩
    split <;> simp [ha, hdelay, hn]
  case other =>
    refine congrArg Host.Outcome.next (a₁ := doRoundMark n m a) ?_
    unfold doRoundMark
    rw [if_neg (by simp [domain, carries]), if_neg (by simp [master]), if_pos (by simpa [ha] using hn)]

/-! ### Ticks with nothing at their angles -/

/-- Nothing is due at any angle but 0.0. -/
structure IdleAngles (s : State) : Prop where
  slots : s.round.slots = []
  deferred : s.round.deferred = []
  outMode : s.im.round.outMode ≠ 1
  samples : ∀ x ∈ s.im.round.samples, x.1 = 0

/-- Nothing moves but the counter, its jumps and halts, and the deferrals counted. -/
def Ticking (s u : State) : Prop :=
  u = { s with round := { s.round with
    angle := u.round.angle, defers := u.round.defers, jumps := u.round.jumps, halts := u.round.halts, jumping := u.round.jumping } }

theorem Ticking.refl (s : State) : Ticking s s := rfl

theorem Ticking.trans {a b c : State} (h : Ticking a b) (k : Ticking b c) : Ticking a c := by
  unfold Ticking at *
  rw [k, h]

theorem Ticking.ite {s a b : State} {c : Prop} [Decidable c] (ha : Ticking s a) (hb : Ticking s b) :
    Ticking s (if c then a else b) := by
  split
  · exact ha
  · exact hb

theorem Ticking.idle {s u : State} (h : Ticking s u) (hs : IdleAngles s) : IdleAngles u := by
  rw [h]
  exact ⟨hs.slots, hs.deferred, hs.outMode, hs.samples⟩

theorem IdleAngles.takeAngle {s : State} (h : IdleAngles s) {a : Nat} (ha : a ≠ 0) :
    takeAngle a s = s.setRound { s.round with angle := a, defers := min s.round.defers 4294967295 } := by
  rw [takeAngle_slots_only ha (fun x hx => by rw [h.samples x hx]; exact ha.symm) h.outMode h.deferred]
  simp [State.slotsAt, h.slots]

theorem IdleAngles.takeAngle_ticking {s : State} (h : IdleAngles s) {a : Nat} (ha : a ≠ 0) : Ticking s (Machine.takeAngle a s) := by
  rw [h.takeAngle ha]
  rfl

theorem IdleAngles.runTicks {s : State} (h : IdleAngles s) (n units : Nat) : Ticking s (runTicks n units s) := by
  induction n generalizing s with
  | zero => exact .refl s
  | succ n ih =>
    have tick := h.takeAngle_ticking (Nat.succ_ne_zero s.round.angle)
    exact .ite (tick.trans (ih (tick.idle h))) (.refl s)

theorem IdleAngles.runToHalt {s : State} (h : IdleAngles s) (n : Nat) : Ticking s (runToHalt n s) := by
  induction n generalizing s with
  | zero => exact .refl s
  | succ n ih =>
    have tick := h.takeAngle_ticking (Nat.succ_ne_zero s.round.angle)
    exact .ite (tick.trans (ih (tick.idle h))) (.refl s)

theorem countHalt_ticking (stamp : Int) (s : State) : Ticking s (countHalt stamp s) := .ite rfl (.refl s)

/-! ### A generated tooth -/

/-- The ticks still due before the next position: those of the time passed, a jump or a halt counted, and the rest at once (R43). -/
def restOfTooth (stamp : Int) (s : State) : State :=
  let u := runTicks 1024 (s.sinceEdge s.now) s
  let v := if u.round.angle < u.round.haltAngle then u.setRound { u.round with jumps := bump u.round.jumps } else countHalt stamp u
  runToHalt 1024 (v.setRound { v.round with jumping := true })

theorem IdleAngles.restOfTooth {s : State} (h : IdleAngles s) (stamp : Int) : Ticking s (restOfTooth stamp s) := by
  have ticks := h.runTicks 1024 (s.sinceEdge s.now)
  unfold Machine.restOfTooth
  dsimp only
  generalize Machine.runTicks 1024 (s.sinceEdge s.now) s = u at ticks ⊢
  have counted : Ticking s (if u.round.angle < u.round.haltAngle then
      u.setRound { u.round with jumps := bump u.round.jumps } else countHalt stamp u) :=
    ticks.trans (.ite rfl (countHalt_ticking stamp u))
  generalize (if u.round.angle < u.round.haltAngle then _ else _ : State) = v at counted ⊢
  have jumping : Ticking s (v.setRound { v.round with jumping := true }) := counted.trans rfl
  exact jumping.trans ((jumping.idle h).runToHalt 1024)

/-- The edge of a tooth ends the one before it and begins the next position (R43, R44). -/
theorem syncEdge_tooth (stamp : Int) (iv : Nat) (s : State) :
    syncEdge stamp iv false s = closeMove (newTooth stamp (markEdge stamp iv ((restOfTooth stamp s).setRound
      { (restOfTooth stamp s).round with
        position := (restOfTooth stamp s).round.position + 1
        revMin := if (restOfTooth stamp s).round.position = 0 then iv else min (restOfTooth stamp s).round.revMin iv
        revMax := max (restOfTooth stamp s).round.revMax iv }))) := by
  unfold syncEdge restOfTooth
  simp only [Bool.false_eq_true, if_false]

theorem emitMarkers_portsOnly (s : State) : PortsOnly s (emitMarkers s) :=
  .ite (.refl s) (.foldl (fun u _ => .ite (sendSyncOn_portsOnly _ _ _ u) (.refl u)) _ s)

theorem emitMarkers_of_silent {s : State} (h : s.isMaster = false ∨ s.inDomain 6 = false) : emitMarkers s = s :=
  if_pos (by rcases h with h | h <;> simp [h])

theorem runTicks_of_not_before {units : Nat} {s : State} (h : s.tickBefore units = false) (n : Nat) : runTicks n units s = s := by
  cases n with
  | zero => rfl
  | succ n => exact if_neg (by simp [h])

/-- A tooth whose edge is taken as it comes leaves no tick to run. -/
theorem newTooth_idle {s : State} (h : IdleAngles s) {stamp : Int} (hp : s.round.position ≠ 0)
    (hn : s.round.lastEdge = some (s.now : Int)) (hr : 0 < s.refPeriod) :
    newTooth stamp s = emitMarkers (s.setRound { s.round with
      angle := s.round.position * 256, defers := min s.round.defers 4294967295 }) := by
  have out : driveOut true s = s := by simp [driveOut, h.outMode]
  have angle : s.round.position * 256 ≠ 0 := by omega
  obtain ⟨p, hports⟩ := emitMarkers_portsOnly (s.setRound { s.round with
    angle := s.round.position * 256, defers := min s.round.defers 4294967295 })
  unfold newTooth
  rw [if_neg hp]
  dsimp only
  rw [out, h.takeAngle angle, hports]
  refine runTicks_of_not_before ?_ _
  have period : 0 < State.refPeriod { s with
      round := { s.round with angle := s.round.position * 256, defers := min s.round.defers 4294967295 }
      fab := { s.fab with ports := p } } := hr
  simp [State.tickBefore, State.sinceEdge, State.setRound, hn] at period ⊢
  omega

theorem takeWaiting_of_nil {s : State} (h : s.round.waiting = []) :
    takeWaiting s = s.setRound { s.round with jumping := false, waiting := [] } := by
  simp [takeWaiting, h]

/-- A tooth in SYNC whose edge is taken as it comes: the position rises, and the markers are queued (R33, R34, R44). -/
theorem syncEdge_idle {s : State} (h : IdleAngles s) (hn : 0 < s.refPeriod) (hw : s.round.waiting = []) (iv : Nat) :
    ∃ r p, syncEdge (s.now : Int) iv false s = { s with round := r, fab := { s.fab with ports := p } } ∧
      r.state = s.round.state ∧ r.position = s.round.position + 1 ∧ r.angle = (s.round.position + 1) * 256 ∧
      r.rev = s.round.rev ∧ r.lastEdge = some (s.now : Int) ∧ r.ring = s.round.ring ∧ r.ringIdx = s.round.ringIdx ∧
      (s.isMaster = false ∨ s.inDomain 6 = false → p = s.fab.ports) := by
  have ticking := h.restOfTooth (s.now : Int)
  rw [syncEdge_tooth]
  generalize restOfTooth (s.now : Int) s = w at ticking ⊢
  set x := markEdge (s.now : Int) iv (w.setRound { w.round with
    position := w.round.position + 1
    revMin := if w.round.position = 0 then iv else min w.round.revMin iv
    revMax := max w.round.revMax iv }) with hx
  have hround : x.round = { s.round with
      angle := x.round.angle, defers := x.round.defers, jumps := x.round.jumps, halts := x.round.halts
      jumping := x.round.jumping, position := s.round.position + 1, revMin := x.round.revMin, revMax := x.round.revMax
      lastEdge := some (s.now : Int), lastArrival := s.now, lastInterval := x.round.lastInterval } := by
    rw [hx, ticking]
    rfl
  have hrest : x = { s with round := x.round } := by
    rw [hx, ticking]
    rfl
  have him : x.im = s.im := by rw [hrest]; rfl
  have idle : IdleAngles x := ⟨by rw [hround]; exact h.slots, by rw [hround]; exact h.deferred, him ▸ h.outMode, him ▸ h.samples⟩
  have hpos : x.round.position = s.round.position + 1 := by rw [hround]
  have hnow : x.now = s.now := by rw [hrest]
  have hper : x.refPeriod = s.refPeriod := by
    unfold State.refPeriod
    rw [him, hround]
  rw [newTooth_idle idle (by omega) (by rw [hround, hnow]) (by rw [hper]; exact hn)]
  have silent := @emitMarkers_of_silent (x.setRound { x.round with
    angle := x.round.position * 256, defers := min x.round.defers 4294967295 })
  obtain ⟨p, hports⟩ := emitMarkers_portsOnly (x.setRound { x.round with
    angle := x.round.position * 256, defers := min x.round.defers 4294967295 })
  have hwait : x.round.waiting = [] := by rw [hround]; exact hw
  have hclose : closeMove (emitMarkers (x.setRound { x.round with
      angle := x.round.position * 256, defers := min x.round.defers 4294967295 })) =
      { x with
        round := { x.round with
          angle := x.round.position * 256, defers := min x.round.defers 4294967295, jumping := false, waiting := [] }
        fab := { x.fab with ports := p } } := by
    rw [hports, closeMove, takeWaiting_of_nil (by exact hwait)]
    exact if_neg (by simp [State.setRound, hpos])
  rw [hclose]
  have rest := congrArg (fun y : State => { y with
    round := { x.round with
      angle := x.round.position * 256, defers := min x.round.defers 4294967295, jumping := false, waiting := [] }
    fab := { y.fab with ports := p } }) hrest
  refine ⟨_, p, rest, by rw [hround], hpos, congrArg (· * 256) hpos, by rw [hround], by rw [hround],
    by rw [hround], by rw [hround], ?_⟩
  intro hs
  have same := congrArg (fun u : State => u.fab.ports) (hports.symm.trans (silent (by rw [hrest]; exact hs)))
  rw [hrest] at same
  exact same

/-- Settles O20. -/
theorem generatedTooth : Obligations.GeneratedTooth := by
  unfold Obligations.GeneratedTooth
  intro s e t hr hv hsrc href hper hdvd hpos hp hlow hhigh hlast ht hnow hslots hdef hwait hout hsamples
  set a := s.advance t with ha
  have now : a.now = t := by rw [ha, State.advance_now s t hr, Nat.max_eq_right hnow]
  have period : a.refPeriod = s.nominal := by simp [ha, State.refPeriod, href, hper]
  have idle : IdleAngles a := ⟨by simpa [ha], by simpa [ha], by simpa [ha], fun x hx => hsamples x (by simpa [ha] using hx)⟩
  have run : doGeneratedTooth a = doEdge (a.now : Int) a := by
    have due : a.round.lastEdge.getD 0 + (a.nominal / 256 * (if a.round.position = 253 then 3 else 1) : Nat) = (a.now : Int) := by
      have nominal : a.nominal = s.nominal := by simp [ha, State.nominal]
      rw [nominal, now, ht, ha, State.advance_round, hlast, if_neg (by omega)]
      simp
    unfold doGeneratedTooth
    rw [due]
    exact if_pos (by simp [ha, hr, State.angleValid, hv, hsrc])
  have first : (a.now : Int) - e = (s.nominal / 256 : Nat) := by omega
  have cls : a.classOf (s.nominal / 256) = 0 := by
    obtain ⟨k, hk⟩ := hdvd
    unfold State.classOf
    rw [period, hk]
    dsimp only
    rw [if_neg (by omega), if_pos (by omega)]
  have edge : doEdge (a.now : Int) a = ringWrite (s.nominal / 256) (syncEdge (a.now : Int) (s.nominal / 256) false a).round.position 0
      (syncEdge (a.now : Int) (s.nominal / 256) false a) := by
    have still : doStallTimeout a = a := if_pos (by simp [ha, hsrc])
    have sync : a.round.state = .sync := by simpa [ha] using hv
    rw [doEdge_of_next (by simp [sync]) still (by simpa [ha] using hlast), first, Int.toNat_natCast, cls, if_neg (by decide)]
    unfold validEdge
    dsimp only
    rw [if_pos sync, cls, if_pos]
    simpa [ha] using hp
  obtain ⟨r, p, hsync, hstate, hposition, hangle, hrev, hedge, hring, hidx, hsilent⟩ :=
    syncEdge_idle idle (by omega) (by simpa [ha]) (s.nominal / 256)
  refine ⟨_, congrArg Host.Outcome.next (run.trans edge), ?_⟩
  rw [hsync]
  refine ⟨?frame, fun hs => ?silent, ?_⟩
  case frame => simp [ringWrite, State.setRound, ha]
  case silent =>
    have same := hsilent (by simpa [ha, State.inDomain, State.quarantined] using hs)
    simp [ringWrite, State.setRound, same, ha]
  simpa [ringWrite, State.setRound, hstate, hposition, hangle, hrev, hedge, hidx, ha, hv] using now

end Sys2Proof.Machine

/-! PROOFS. The FABRIC and ROUND stages: what training makes of each port. -/

namespace Sys2Proof.Machine

/-! ### What training and routing touch -/

/-- What a port's training settles. -/
structure PortCore where
  state : PortState
  failCause : Nat
  farDevice : Nat
  farPort : Nat
  delayNs : Nat
  child : Bool
  parentClaimed : Bool

/-- What a port's training has settled of it. -/
def Port.core (p : Port) : PortCore := ⟨p.state, p.failCause, p.farDevice, p.farPort, p.delayNs, p.child, p.parentClaimed⟩

/-- Ports, the port status bit and the event log change, and nothing else. -/
def FabricWork (s u : State) : Prop :=
  ∃ p b f, u = { s with fab := { s.fab with ports := p, stPort := b }, flt := f }

theorem FabricWork.refl (s : State) : FabricWork s s := ⟨_, _, _, rfl⟩

theorem FabricWork.trans {a b c : State} (h : FabricWork a b) (k : FabricWork b c) : FabricWork a c := by
  obtain ⟨_, _, _, rfl⟩ := h
  obtain ⟨_, _, _, rfl⟩ := k
  exact ⟨_, _, _, rfl⟩

theorem FabricWork.im {s u : State} (h : FabricWork s u) : u.im = s.im := by
  obtain ⟨_, _, _, rfl⟩ := h
  rfl

/-- Work on a port's queues and widths: what training settles stays, of every port. -/
structure SameCore (s u : State) : Prop where
  work : FabricWork s u
  core : ∀ k, (u.port k).core = (s.port k).core

theorem SameCore.refl (s : State) : SameCore s s := ⟨.refl s, fun _ => rfl⟩

theorem SameCore.trans {a b c : State} (h : SameCore a b) (k : SameCore b c) : SameCore a c :=
  ⟨h.work.trans k.work, fun n => (k.core n).trans (h.core n)⟩

theorem SameCore.ite {s a b : State} {c : Prop} [Decidable c] (ha : SameCore s a) (hb : SameCore s b) :
    SameCore s (if c then a else b) := by
  split
  · exact ha
  · exact hb

theorem SameCore.foldl {α : Type} {f : State → α → State} (hf : ∀ s x, SameCore s (f s x)) (l : List α) (s : State) :
    SameCore s (l.foldl f s) :=
  List.foldlRecOn l f (.refl s) fun u h x _ => h.trans (hf u x)

theorem updPort_port_same (n : Nat) (f : Port → Port) (s : State) : (s.updPort n f).port n = f (s.port n) := by
  simp [State.port, State.updPort]

theorem updPort_port_other {n k : Nat} (h : k ≠ n) (f : Port → Port) (s : State) : (s.updPort n f).port k = s.port k :=
  tget_tupd_other _ _ _ h

theorem updPort_sameCore (n : Nat) (f : Port → Port) (s : State) (hf : ∀ p, (f p).core = p.core) : SameCore s (s.updPort n f) := by
  refine ⟨⟨_, _, _, rfl⟩, fun k => ?_⟩
  by_cases hk : k = n
  · rw [hk, updPort_port_same, hf]
  · rw [updPort_port_other hk]

theorem raise_sameCore (c n : Nat) (s : State) : SameCore s (raise c n s) := ⟨⟨_, _, _, rfl⟩, fun _ => rfl⟩

theorem leaveBuffer_sameCore (f : Flit) (s : State) : SameCore s (leaveBuffer f s) := by
  unfold leaveBuffer
  split
  · exact updPort_sameCore _ _ s fun _ => rfl
  · exact .refl s

theorem queueFlit_sameCore (n : Nat) (f : Flit) (s : State) : SameCore s (queueFlit n f s) :=
  .ite (leaveBuffer_sameCore f s) (updPort_sameCore _ _ s fun _ => rfl)

theorem reroute_sameCore (n : Nat) (fs : List Flit) (s : State) : SameCore s (reroute n fs s) :=
  .foldl (fun u f => .ite (leaveBuffer_sameCore f u) (queueFlit_sameCore _ f u)) fs s

theorem raise_updPort_sameCore (c n : Nat) (f : Port → Port) (s : State) (hf : ∀ p, (f p).core = p.core) :
    SameCore s (raise c n (s.updPort n f)) :=
  (updPort_sameCore n f s hf).trans (raise_sameCore _ _ _)

theorem noteNarrow_sameCore (n : Nat) (s : State) : SameCore s (noteNarrow n s) := by
  have rx : SameCore s (if (s.port n).widthRx < s.im.fab.portLanes && !(s.port n).narrowRx then
      raise 0x9009 n (s.updPort n fun p => { p with narrowRx := true }) else s) :=
    .ite (raise_updPort_sameCore _ _ _ s fun _ => rfl) (.refl s)
  exact .ite (rx.trans (raise_updPort_sameCore _ _ _ _ fun _ => rfl)) rx

/-! ### One port's own work -/

/-- The work of port `n`: the other ports keep what training settled. -/
structure OwnPort (n : Nat) (s u : State) : Prop where
  work : FabricWork s u
  other : ∀ k, k ≠ n → (u.port k).core = (s.port k).core

theorem updPort_ownPort (n : Nat) (f : Port → Port) (s : State) : OwnPort n s (s.updPort n f) :=
  ⟨⟨_, _, _, rfl⟩, fun _ hk => by rw [updPort_port_other hk]⟩

theorem SameCore.ownPort {s u : State} (h : SameCore s u) (n : Nat) : OwnPort n s u := ⟨h.work, fun k _ => h.core k⟩

theorem OwnPort.trans {n : Nat} {a b c : State} (h : OwnPort n a b) (k : OwnPort n b c) : OwnPort n a c :=
  ⟨h.work.trans k.work, fun j hj => (k.other j hj).trans (h.other j hj)⟩

/-- A port that carried nothing fails alone (R293, R298). -/
theorem failPort_of_idle {n : Nat} (cause : Nat) {s : State} (h : (s.port n).carries = false) :
    OwnPort n s (failPort n cause s) ∧
      ((failPort n cause s).port n).core = { (s.port n).core with state := .failed, failCause := cause } := by
  set v := s.updPort n fun p => { dropReplay p with
    state := .failed, failCause := cause, probing := false, pendingMode := none, queues := [] } with hv
  have own : OwnPort n s v := updPort_ownPort n _ s
  have noted : SameCore v (raise 0x9006 n { v with fab := { v.fab with stPort := true } }) := ⟨⟨_, _, _, rfl⟩, fun _ => rfl⟩
  have rest : SameCore v (failPort n cause s) := by
    unfold failPort
    dsimp only
    rw [if_pos (by simp [h])]
    exact noted.trans (reroute_sameCore _ _ _)
  refine ⟨own.trans (rest.ownPort n), (rest.core n).trans ?_⟩
  rw [hv, updPort_port_same]
  rfl

/-- Training of one port: failed where it is too narrow, foreign beyond its domain, else up with its far end known (R293, R294). -/
theorem trainPort_of_idle {x : PortTrain} {s : State} (h : (s.port x.port).carries = false) (hf : (s.port x.port).state ≠ .foreign) :
    OwnPort x.port s (trainPort x s) ∧ ((trainPort x s).port x.port).core =
      if s.tooNarrow x.rxMask x.txMask then { (s.port x.port).core with state := .failed, failCause := 1 }
      else if x.farDomain ≠ s.im.fab.domainId then { (s.port x.port).core with
        state := .foreign, farDevice := x.farDevice % 2048, farPort := x.farPort % 16, delayNs := min x.delayNs 65535 }
      else { (s.port x.port).core with
        state := .up, farDevice := x.farDevice % 2048, farPort := x.farPort % 16, delayNs := min x.delayNs 65535
        child := x.parentClaim } := by
  set v := s.updPort x.port (Port.trained s.im.fab.portLanes x.rxMask x.txMask) with hv
  have widths : SameCore s v := updPort_sameCore _ _ s fun _ => rfl
  have narrow : v.tooNarrow x.rxMask x.txMask = s.tooNarrow x.rxMask x.txMask := rfl
  have idle : (v.port x.port).carries = false := by
    rw [hv, updPort_port_same]
    exact h
  set w := (noteNarrow x.port v).updPort x.port fun p => { p with
    farDevice := x.farDevice % 2048, farPort := x.farPort % 16, delayNs := min x.delayNs 65535 } with hw
  have noted := widths.trans (noteNarrow_sameCore x.port v)
  have known : OwnPort x.port s w := (noted.ownPort _).trans (updPort_ownPort _ _ _)
  have core : (w.port x.port).core = { (s.port x.port).core with
      farDevice := x.farDevice % 2048, farPort := x.farPort % 16, delayNs := min x.delayNs 65535 } := by
    rw [hw, updPort_port_same, ← noted.core]
    rfl
  have trained : trainPort x s = if s.tooNarrow x.rxMask x.txMask then failPort x.port 1 v
      else if x.farDomain ≠ w.im.fab.domainId then foreignPort x.port w
      else w.updPort x.port fun p => { p with state := .up, child := x.parentClaim } := rfl
  rw [trained, known.work.im]
  split
  · obtain ⟨own, failed⟩ := failPort_of_idle 1 idle
    rw [widths.core] at failed
    exact ⟨(widths.ownPort _).trans own, failed⟩
  · split
    · have state : ¬(w.port x.port).state = .foreign := fun h => hf ((congrArg PortCore.state core).symm.trans h)
      rw [foreignPort, if_neg state]
      refine ⟨known.trans ((updPort_ownPort _ _ _).trans ((raise_sameCore _ _ _).ownPort _)), ?_⟩
      rw [(raise_sameCore _ _ _).core, updPort_port_same]
      exact congrArg (fun c : PortCore => { c with state := .foreign }) core
    · refine ⟨known.trans (updPort_ownPort _ _ _), ?_⟩
      rw [updPort_port_same]
      exact congrArg (fun c : PortCore => { c with state := .up, child := x.parentClaim }) core

theorem portMode_of_not_lit {s : State} {n : Nat} (h : s.litPort n = false) : s.portMode 0 n = 2 := by
  simp only [State.litPort, Bool.or_eq_false_iff, decide_eq_false_iff_not, not_not] at h
  exact h.1

theorem modeOf_eq (s : State) (n : Nat) : (if s.litPort n then s.portMode 0 n else 2) = s.portMode 0 n := by
  split
  next => rfl
  next h => exact (portMode_of_not_lit (Bool.eq_false_iff.mpr h)).symm

theorem litPort_eq {s u : State} (him : u.im = s.im) (hp : ∀ k, u.port k = s.port k) (n : Nat) : u.litPort n = s.litPort n := by
  have spine (k : Nat) : u.isSpine k = s.isSpine k := by
    unfold State.isSpine
    rw [him, hp]
  simp only [State.litPort, State.portMode, spine, him]

/-- The state of port `n` becomes `st`, or stays; all else that training settled stays. -/
def Restated (n : Nat) (s u : State) : Prop := OwnPort n s u ∧ ∃ st, (u.port n).core = { (s.port n).core with state := st }

theorem Restated.refl (n : Nat) (s : State) : Restated n s s := ⟨(SameCore.refl s).ownPort n, _, rfl⟩

theorem Restated.ite {n : Nat} {s a b : State} {c : Prop} [Decidable c] (ha : Restated n s a) (hb : Restated n s b) :
    Restated n s (if c then a else b) := by
  split
  · exact ha
  · exact hb

theorem SameCore.restated {n : Nat} {s u : State} (h : SameCore s u) : Restated n s u := ⟨h.ownPort n, _, h.core n⟩

theorem updPort_restated (n : Nat) (f : Port → Port) (s : State) (hf : ∀ p, (f p).core = p.core) : Restated n s (s.updPort n f) :=
  (updPort_sameCore n f s hf).restated

theorem terminatePort_restated (n : Nat) (s : State) : Restated n s (terminatePort n s) := by
  set v := s.updPort n fun p => { dropReplay p with
    state := .training, probing := true, circuitRaised := false
    nextSeq := 0, expectSeq := 0, nakSent := false, nakDue := false, credits := [], returned := [], reserved := 0, landing := 0 }
    with hv
  have rest : SameCore v (terminatePort n s) := (queueFlit_sameCore _ _ v).trans (noteNarrow_sameCore n _)
  refine ⟨(updPort_ownPort n _ s).trans (rest.ownPort n), .training, (rest.core n).trans ?_⟩
  rw [hv, updPort_port_same]
  rfl

/-- The port in state `st`, its queue sent another way. -/
def moveTo (n : Nat) (st : PortState) (s : State) : State :=
  rerouteQueue n (s.updPort n fun p => { dropReplay p with state := st, probing := false })

theorem moveTo_ownPort (n : Nat) (st : PortState) (s : State) :
    OwnPort n s (moveTo n st s) ∧ ((moveTo n st s).port n).core = { (s.port n).core with state := st } := by
  set v := s.updPort n fun p => { dropReplay p with state := st, probing := false } with hv
  have emptied : SameCore v (v.updPort n fun p => { p with queues := [] }) := updPort_sameCore _ _ _ fun _ => rfl
  have rest : SameCore v (moveTo n st s) := emptied.trans (reroute_sameCore _ _ _)
  refine ⟨(updPort_ownPort n _ s).trans (rest.ownPort n), (rest.core n).trans ?_⟩
  rw [hv, updPort_port_same]
  rfl

theorem setPort_restated (n : Nat) (s : State) : Restated n s (setPort 0 s n) := by
  have moved (st : PortState) : Restated n s (moveTo n st s) := ⟨(moveTo_ownPort n st s).1, st, (moveTo_ownPort n st s).2⟩
  unfold setPort
  dsimp only
  refine .ite (.refl n s) (.ite (updPort_restated _ _ s fun _ => rfl) (.ite (.ite (.refl n s)
    (terminatePort_restated n s)) (.ite (.refl n s) (moved _))))

theorem setPort_of_stuck {n : Nat} {s : State} (h : (s.port n).stuck = true) : setPort 0 s n = s := if_pos h

/-- A port that is up takes its mode in plan 0 (R291). -/
theorem setPort_of_up {n : Nat} {s : State} (h : (s.port n).state = .up) : ((setPort 0 s n).port n).core =
    { (s.port n).core with
      state := if s.portMode 0 n = 0 then .up else if s.portMode 0 n = 1 then .passThrough else .dark } := by
  unfold setPort
  dsimp only
  rw [modeOf_eq, if_neg (by simp [Port.stuck, h]), if_neg (by simp [h])]
  have up : (s.port n).core = { (s.port n).core with state := .up } := by rw [← h]; rfl
  have moved (st : PortState) := (moveTo_ownPort n st s).2
  split
  next h0 => rw [if_pos (by simp [Port.terminated, h])]; exact up
  next h0 =>
    rw [if_neg (by split <;> simp [h])]
    exact moved _

/-! ### The stage's folds over the ports -/

/-- In a fold over different ports each port is worked on once: between two states that keep what was settled of it. -/
theorem foldl_ports {R : State → State → Prop} (hrefl : ∀ s, R s s) (htrans : ∀ a b c, R a b → R b c → R a c)
    {c : PortCore → Prop} {f : State → Nat → State}
    (hf : ∀ s n, c (s.port n).core → R s (f s n) ∧ ∀ k, k ≠ n → ((f s n).port k).core = (s.port k).core)
    (l : List Nat) (hl : l.Nodup) (s : State) (hs : ∀ n ∈ l, c (s.port n).core) :
    R s (l.foldl f s) ∧ (∀ k, k ∉ l → ((l.foldl f s).port k).core = (s.port k).core) ∧
      ∀ n ∈ l, ∃ v, R s v ∧ (v.port n).core = (s.port n).core ∧ R (f v n) (l.foldl f s) ∧
        ((l.foldl f s).port n).core = ((f v n).port n).core := by
  induction l generalizing s with
  | nil => exact ⟨hrefl s, fun _ _ => rfl, by simp⟩
  | cons n l ih =>
    obtain ⟨hn, hl⟩ := List.nodup_cons.mp hl
    obtain ⟨hR, hother⟩ := hf s n (hs n (by simp))
    have ne {k : Nat} (hk : k ∈ l) : k ≠ n := fun h => hn (h ▸ hk)
    obtain ⟨hRest, hout, hin⟩ := ih hl (f s n) fun k hk => by
      rw [hother k (ne hk)]
      exact hs k (by simp [hk])
    refine ⟨htrans _ _ _ hR hRest, fun k hk => ?_, fun k hk => ?_⟩
    · obtain ⟨hkn, hkl⟩ := not_or.mp (mt List.mem_cons.mpr hk)
      exact (hout k hkl).trans (hother k hkn)
    · rcases List.mem_cons.mp hk with rfl | hkl
      · exact ⟨s, hrefl s, rfl, hRest, hout k hn⟩
      · obtain ⟨v, hv, hcore, hfv, hlast⟩ := hin k hkl
        exact ⟨v, htrans _ _ _ hR hv, hcore.trans (hother k (ne hkl)), hfv, hlast⟩

/-- The training of port `n` with what was found of it. -/
def trainFound (found : List PortTrain) (s : State) (n : Nat) : State :=
  match found.find? fun x => x.port = n with
  | some x => trainPort x s
  | none => failPort n 1 s

/-- The ports that some plan uses. -/
def State.usedPorts (s : State) : List Nat := (List.range 16).filter fun n => s.litPort n && !(s.port n).stuck

theorem trainFabric_of_present (found : List PortTrain) {s : State} (h : s.im.fab.present = true) :
    trainFabric found s = (List.range 16).foldl (setPort 0)
      { s.usedPorts.foldl (trainFound found) (s.usedPorts.foldl (fun s n => s.updPort n fun p => { p with state := .training }) s) with
        fab := { (s.usedPorts.foldl (trainFound found)
          (s.usedPorts.foldl (fun s n => s.updPort n fun p => { p with state := .training }) s)).fab with plan := 0 } } := by
  unfold trainFabric
  rw [if_neg (by simp [h])]
  rfl

/-- What the found training of a port settles. -/
def PortCore.trained (s : State) (x : PortTrain) (c : PortCore) : PortCore :=
  if s.tooNarrow x.rxMask x.txMask then { c with state := .failed, failCause := 1 }
  else if x.farDomain ≠ s.im.fab.domainId then { c with
    state := .foreign, farDevice := x.farDevice % 2048, farPort := x.farPort % 16, delayNs := min x.delayNs 65535 }
  else { c with
    state := .up, farDevice := x.farDevice % 2048, farPort := x.farPort % 16, delayNs := min x.delayNs 65535
    child := x.parentClaim }

/-- A port in training ends failed where nothing was found of it, else as it trained. -/
theorem trainFound_spec (found : List PortTrain) {n : Nat} {s : State} (h : (s.port n).state = .training) :
    OwnPort n s (trainFound found s n) ∧
      (found.find? (fun x => x.port = n) = none →
        ((trainFound found s n).port n).core = { (s.port n).core with state := .failed, failCause := 1 }) ∧
      ∀ x, found.find? (fun x => x.port = n) = some x →
        ((trainFound found s n).port n).core = (s.port n).core.trained s x := by
  have idle : (s.port n).carries = false := by simp [Port.carries, h]
  unfold trainFound
  cases hx : found.find? fun x => x.port = n with
  | none =>
    obtain ⟨own, core⟩ := failPort_of_idle 1 idle
    exact ⟨own, fun _ => core, by simp⟩
  | some x =>
    obtain rfl : x.port = n := by simpa using List.find?_some hx
    obtain ⟨own, core⟩ := trainPort_of_idle idle (by simp [h])
    refine ⟨own, by simp, fun y hy => ?_⟩
    cases hy
    exact core

/-- The tree's claims stay, so the modes of the ports stay. -/
def SameClaims (s u : State) : Prop :=
  FabricWork s u ∧ ∀ k, (u.port k).child = (s.port k).child ∧ (u.port k).parentClaimed = (s.port k).parentClaimed

theorem SameClaims.portMode {s u : State} (h : SameClaims s u) (n : Nat) : u.portMode 0 n = s.portMode 0 n := by
  obtain ⟨work, claims⟩ := h
  have spine (k : Nat) : u.isSpine k = s.isSpine k := by
    unfold State.isSpine
    rw [work.im, (claims k).1, (claims k).2]
  simp only [State.portMode, spine, work.im]

theorem Restated.sameClaims {n : Nat} {s u : State} (h : Restated n s u) : SameClaims s u := by
  obtain ⟨own, st, core⟩ := h
  refine ⟨own.work, fun k => ?_⟩
  have same : (u.port k).core.child = (s.port k).core.child ∧ (u.port k).core.parentClaimed = (s.port k).core.parentClaimed := by
    by_cases hk : k = n
    · rw [hk, core]
      exact ⟨rfl, rfl⟩
    · rw [own.other k hk]
      exact ⟨rfl, rfl⟩
  exact same

/-- The stage changes the fabric and the event log, and the ports that some plan uses end as they trained, in their mode of plan 0. -/
theorem trainFabric_spec (found : List PortTrain) {s : State} (h : s.im.fab.present = true) :
    (∃ p b f, trainFabric found s = { s with fab := { s.fab with ports := p, stPort := b, plan := 0 }, flt := f }) ∧
      ∀ n ∈ s.usedPorts, ∃ w c : PortCore, c.state = .training ∧
        (found.find? (fun x => x.port = n) = none → w = { c with state := .failed, failCause := 1 }) ∧
        (∀ x, found.find? (fun x => x.port = n) = some x → w = c.trained s x) ∧
        (w.state = .failed ∨ w.state = .foreign → ((trainFabric found s).port n).core = w) ∧
        (w.state = .up → ((trainFabric found s).port n).core = { w with
          state := if (trainFabric found s).portMode 0 n = 0 then .up
            else if (trainFabric found s).portMode 0 n = 1 then .passThrough else .dark }) := by
  have nodup : s.usedPorts.Nodup := List.nodup_range.filter _
  rw [trainFabric_of_present found h]
  obtain ⟨work₁, -, in₁⟩ := foldl_ports (R := FabricWork) .refl (fun _ _ _ => .trans) (c := fun _ => True)
    (f := fun s n => s.updPort n fun p => { p with state := .training })
    (fun u n _ => ⟨(updPort_ownPort n _ u).work, (updPort_ownPort n _ u).other⟩) s.usedPorts nodup s fun _ _ => trivial
  generalize s.usedPorts.foldl (fun s n => s.updPort n fun p => { p with state := .training }) s = a at work₁ in₁ ⊢
  have training : ∀ n ∈ s.usedPorts, (a.port n).core.state = .training := by
    intro n hn
    obtain ⟨v, -, -, -, hlast⟩ := in₁ n hn
    rw [hlast, updPort_port_same]
    rfl
  obtain ⟨work₂, -, in₂⟩ := foldl_ports (R := FabricWork) .refl (fun _ _ _ => .trans) (c := fun c => c.state = .training)
    (f := trainFound found) (fun u n hc => ⟨(trainFound_spec found hc).1.work, (trainFound_spec found hc).1.other⟩)
    s.usedPorts nodup a training
  generalize s.usedPorts.foldl (trainFound found) a = b at work₂ in₂ ⊢
  set b' : State := { b with fab := { b.fab with plan := 0 } } with hb'
  obtain ⟨work₃, -, in₃⟩ := foldl_ports (R := SameClaims) (fun s => (Restated.refl 0 s).sameClaims)
    (fun _ _ _ h k => ⟨h.1.trans k.1, fun n => ⟨(k.2 n).1.trans (h.2 n).1, (k.2 n).2.trans (h.2 n).2⟩⟩) (c := fun _ => True)
    (f := setPort 0) (fun u n _ => ⟨(setPort_restated n u).sameClaims, (setPort_restated n u).1.other⟩)
    (List.range 16) List.nodup_range b' fun _ _ => trivial
  generalize (List.range 16).foldl (setPort 0) b' = u at work₃ in₃ ⊢
  refine ⟨?frame, fun n hn => ?port⟩
  case frame =>
    obtain ⟨_, _, _, hab⟩ := work₁.trans work₂
    obtain ⟨p, q, f, hu⟩ := work₃.1
    exact ⟨p, q, f, by rw [hu, hb', hab]⟩
  case port =>
    obtain ⟨v, hv, hcore, -, hlast⟩ := in₂ n hn
    obtain ⟨-, none, some⟩ := trainFound_spec found (s := v) (n := n) ((congrArg PortCore.state hcore).trans (training n hn))
    obtain ⟨w, hw, hwcore, hwu, hwlast⟩ := in₃ n (List.mem_of_mem_filter hn)
    have same : (w.port n).core = (b.port n).core := hwcore
    have mode : u.portMode 0 n = w.portMode 0 n := (hwu.portMode n).trans ((setPort_restated n w).sameClaims.portMode n)
    have him : v.im = s.im := (work₁.trans hv).im
    refine ⟨(b.port n).core, (v.port n).core, (congrArg PortCore.state hcore).trans (training n hn), fun hx => hlast.trans (none hx),
      fun x hx => (hlast.trans (some x hx)).trans ?_, fun hst => ?_, fun hst => ?_⟩
    · unfold PortCore.trained State.tooNarrow
      rw [him]
    · have stuck : (w.port n).stuck = true := by
        have hst' : (w.port n).core.state = .failed ∨ (w.port n).core.state = .foreign := by rwa [same]
        have hst'' : (w.port n).state = .failed ∨ (w.port n).state = .foreign := hst'
        rcases hst'' with h | h <;> simp [Port.stuck, h]
      rw [hwlast, setPort_of_stuck stuck, same]
    · have up : (w.port n).state = .up := (congrArg PortCore.state same).trans hst
      rw [hwlast, setPort_of_up up, same, mode]

/-! ### The ROUND stage with source GENERATE -/

theorem Turns.clearJumping {s u : State} (h : Turns s u) :
    Turns (s.setRound { s.round with jumping := false }) (u.setRound { u.round with jumping := false }) := by
  refine ⟨h.now, h.answer, h.pins, h.nv, h.img, h.start, h.acc, h.jtag, ?_⟩
  simp only [State.setRound]
  rw [h.round]

theorem roundBack_closeMove_turns (s : State) :
    Turns (s.setRound { s.round with jumping := false }) (armAll (roundBack (closeMove s))) :=
  ((closeMove_turns s).trans (roundBack_turns _)).trans (armAll_turns _)

theorem Turns.refPeriod {s u : State} (h : Turns s u) : u.refPeriod = s.refPeriod := by
  unfold State.refPeriod
  rw [h.im, h.round]

theorem Turns.sinceEdge {s u : State} (h : Turns s u) (now : Int) : u.sinceEdge now = s.sinceEdge now := by
  unfold State.sinceEdge
  rw [h.round]

/-- The first tooth of a generated Round is tooth 0, with no tick due yet. -/
theorem newTooth_first {s : State} (hm : s.isMaster = true) (hp : s.round.position = 0)
    (hn : s.sinceEdge s.now + 1 ≤ s.refPeriod) (stamp : Int) :
    Turns ((driveOut true s).setRound { s.round with angle := 0 }) (newTooth stamp s) := by
  have adopted : (if s.round.position = 0 then adopt stamp s else s) = s := by
    rw [if_pos hp, adopt]
    split
    · rfl
    · exact if_pos hm
  have round : (driveOut true s).round = s.round := by rw [driveOut_eq]
  have at0 : atAngle (s.round.position * 256) (driveOut true s) = (driveOut true s).setRound { s.round with angle := 0 } := by
    rw [hp, ← round]
    exact if_neg (by decide)
  have taken := (takeAngle_turns (s.round.position * 256) (driveOut true s)).trans (emitMarkers_keeps _).turns
  rw [at0] at taken
  unfold newTooth
  rw [adopted]
  dsimp only
  generalize emitMarkers (takeAngle (s.round.position * 256) (driveOut true s)) = w at taken ⊢
  rw [runTicks_of_not_before]
  · exact taken
  · have position : w.round.position = 0 := by rw [taken.round]; exact hp
    have angle : w.round.angle = 0 := by rw [taken.round]; rfl
    have now : w.now = s.now := by rw [taken.now, driveOut_eq]; rfl
    have since : w.sinceEdge w.now = s.sinceEdge s.now := by rw [taken.sinceEdge, now, driveOut_eq]; rfl
    have period : w.refPeriod = s.refPeriod := by rw [taken.refPeriod, driveOut_eq]; rfl
    rw [State.tickBefore, angle, position, since, period]
    simp only [Bool.and_eq_false_iff, decide_eq_false_iff_not]
    omega

/-- The Round state in which a master enters SYNC (R40). -/
def RoundSt.entered (r : RoundSt) (stamp : Int) : RoundSt := { r with
  state := .sync, position := 0, angle := 0, rev := 0, epoch := epochOf stamp
  syncDevtime := stamp.toNat, tooth0 := some stamp, revMin := 0, revMax := 0, mismatchRaised := false
  slots := r.slots.map fun (p : Nat × EvSlot) => (p.1, if p.2.state = .cancelled then { p.2 with state := .free } else p.2)
  synced := true, jumping := true }

theorem enterSync_of_master {s : State} (hm : s.isMaster = true) (stamp : Int) :
    enterSync stamp s = armAll (roundBack (closeMove (newTooth stamp (s.setRound (s.round.entered stamp))))) := by
  unfold enterSync
  dsimp only
  rw [if_pos hm, if_pos hm]
  rfl

/-- A generated Round of a master is in SYNC at 0.0 of revolution 0 at once (R33, R40). -/
theorem startRound_of_generate {s : State} (hs : s.im.round.source = 0) (hm : s.isMaster = true) (hn : 1310720 ≤ s.nominal) :
    ∃ v : State, v.round.state = .sync ∧ v.round.synced = true ∧ v.round.angle = 0 ∧ v.round.rev = 0 ∧ v.round.position = 0 ∧
      v.round.refCommitted = true ∧ v.round.refPeriod = s.nominal ∧ v.round.lastEdge = some (s.devCount : Int) ∧
      v.round.epoch = s.devCount ∧
      v = { s with
        pins := { s.pins with roundOut := s.im.round.outMode = 1 || (s.im.round.outMode = 2 && s.pins.roundIn) }
        round := v.round } ∧ Turns v (startRound s) := by
  set y : State := { s with
    pins := { s.pins with roundOut := s.im.round.outMode = 2 && s.pins.roundIn }
    round := { s.round with
      refCommitted := true, refPeriod := s.nominal, lastEdge := some (s.devCount : Int), lastArrival := s.devCount } } with hy
  have started : startRound s = enterSync s.devCount y := if_pos hs
  have master : y.isMaster = true := hm
  rw [enterSync_of_master master] at started
  obtain ⟨x, hx⟩ : ∃ x, x = y.setRound (y.round.entered s.devCount) := ⟨_, rfl⟩
  rw [← hx] at started
  have devCount : s.devCount ≤ s.now ∧ s.now < s.devCount + 20 := by
    unfold State.devCount
    omega
  have since : x.sinceEdge x.now + 1 ≤ x.refPeriod := by
    have h₁ : x.sinceEdge x.now = ((s.now : Int) - (s.devCount : Int)).toNat * 65536 := by rw [hx]; rfl
    have h₂ : x.refPeriod = s.nominal := by rw [hx]; rfl
    rw [h₁, h₂]
    omega
  have first := newTooth_first (s := x) (by rw [hx]; exact hm) (by rw [hx]; rfl) since s.devCount
  have move := first.clearJumping.trans (roundBack_closeMove_turns (newTooth s.devCount x))
  rw [← started, driveOut_eq] at move
  refine ⟨_, ?_, ?_, ?_, ?_, ?_, ?_, ?_, ?_, ?_, ?_, move⟩
  case refine_9 =>
    have epoch : epochOf (s.devCount : Int) = s.devCount := by
      unfold epochOf State.devCount
      rw [Int.toNat_natCast, Nat.mul_div_cancel _ (by decide)]
    rw [hx]
    exact epoch
  case refine_10 =>
    have out : (if s.im.round.outMode = 1 then true else (s.im.round.outMode = 2 && s.pins.roundIn)) =
        (s.im.round.outMode = 1 || (s.im.round.outMode = 2 && s.pins.roundIn) : Bool) := by
      by_cases h : s.im.round.outMode = 1 <;> simp [h]
    rw [← out, hx]
    rfl
  all_goals rw [hx]; rfl

/-! ### Time at the engines -/

/-- Time at an engine (R262). -/
theorem State.advance_engine (t : Nat) (s : State) (n : Nat) : (s.advance t).engine n =
    if s.running then (s.engine n).advance (s.driven (max s.now t - s.now)) else s.engine n := by
  have fresh (dt : Nat) : Engine.advance dt {} = {} := rfl
  unfold State.advance
  split
  · have mapped := tget_map (Engine.advance (s.driven (max s.now t - s.now))) s.lens.engines n {}
    rwa [fresh] at mapped
  · rfl

@[simp] theorem State.advance_engine_state (t : Nat) (s : State) (n : Nat) : ((s.advance t).engine n).state = (s.engine n).state := by
  rw [State.advance_engine]
  split <;> rfl

/-- Settles O9. -/
theorem fabricAndRoundStages : Obligations.FabricAndRoundStages := by
  unfold Obligations.FabricAndRoundStages
  intro t s hc
  set a := s.advance t with ha
  have clocked : a.clocked = true := by simpa [ha] using hc
  have stage (n : Nat) (h : s.start.stage = n) : a.start.stage = n := by simpa [ha] using h
  have him : a.im = s.im := by simp [ha]
  have start : a.start = s.start := by simp [ha]
  have lightDone : a.lightDone = s.lightDone := by simp [ha, State.lightDone]
  have fabric (found : List PortTrain) (h4 : s.start.stage = 4) (hl : s.lightDone = true) :
      doFabricStage found a = trainFabric found (setStage 5 a) := by
    rw [doFabricStage, if_neg]
    simp [clocked, stage 4 h4, lightDone, hl]
  set b := setStage 6 { a with fab := { a.fab with lastBeacon := a.now } } with hb
  have bim : b.im = s.im := him
  have round (h5 : s.start.stage = 5) : doRoundStage a = startRound b := if_neg (by simp [clocked, stage 5 h5])
  refine ⟨fun found h4 hl hp => ?absent, fun found h4 hl => ?waits, fun found h4 hl hp => ?trains, fun h5 hs hm hn => ?generate,
    fun h5 hs => ?seek⟩
  case absent =>
    refine congrArg Host.Outcome.next ((fabric found h4 hl).trans ?_)
    rw [trainFabric, if_pos (by simpa [setStage, State.im, ha] using hp), setStage, start]
  case waits =>
    refine congrArg Host.Outcome.next (a₁ := doFabricStage found a) ?_
    rw [doFabricStage, if_pos (by simp [lightDone, hl])]
  case trains =>
    have trained := fabric found h4 hl
    obtain ⟨⟨p, b, f, frame⟩, ports⟩ := trainFabric_spec found (s := setStage 5 a) (by simpa [setStage, State.im, ha] using hp)
    refine ⟨_, congrArg Host.Outcome.next trained, ?_, ?_, ?_, fun n hn hlit hstuck => ?_⟩
    · rw [frame]
      rfl
    · rw [frame, setStage, start]
    · rw [frame]
    · obtain ⟨w, c, hc, hnone, hsome, hstay, hup⟩ := ports n (by
        have lit : (setStage 5 a).litPort n = s.litPort n := litPort_eq him (fun k => State.advance_port ..) n
        have port : (setStage 5 a).port n = s.port n := State.advance_port ..
        simp [State.usedPorts, lit, port, hn, hlit, hstuck])
      have narrow (x : PortTrain) : (setStage 5 a).tooNarrow x.rxMask x.txMask = s.tooNarrow x.rxMask x.txMask := by
        unfold State.tooNarrow
        rw [show (setStage 5 a).im = s.im from him]
      have domain : (setStage 5 a).im.fab.domainId = s.im.fab.domainId := by rw [show (setStage 5 a).im = s.im from him]
      generalize trainFabric found (setStage 5 a) = u at hstay hup ⊢
      have result {c : PortCore} (h : (u.port n).core = c) : (u.port n).state = c.state ∧ (u.port n).failCause = c.failCause ∧
          (u.port n).farDevice = c.farDevice ∧ (u.port n).farPort = c.farPort ∧ (u.port n).delayNs = c.delayNs ∧
          (u.port n).child = c.child := by
        rw [← h]
        exact ⟨rfl, rfl, rfl, rfl, rfl, rfl⟩
      refine ⟨fun hf => ?_, fun x hf => ⟨fun hx => ?_, fun hx => ?_⟩⟩
      · have r := result (hstay (by rw [hnone hf]; exact .inl rfl))
        rw [hnone hf] at r
        exact ⟨r.1, r.2.1⟩
      · have hw := hsome x hf
        rw [PortCore.trained, narrow, if_pos hx] at hw
        have r := result (hstay (by rw [hw]; exact .inl rfl))
        rw [hw] at r
        exact ⟨r.1, r.2.1⟩
      · have hw := hsome x hf
        rw [PortCore.trained, narrow, domain, if_neg (by simp [hx])] at hw
        by_cases hd : x.farDomain = s.im.fab.domainId
        · rw [if_neg (by simp [hd])] at hw
          have r := result (hup (by rw [hw]))
          rw [hw] at r
          obtain ⟨h₁, -, h₃, h₄, h₅, h₆⟩ := r
          exact ⟨h₃, h₄, h₅, fun h => absurd hd h, fun _ => ⟨h₆, h₁⟩⟩
        · rw [if_pos hd] at hw
          have r := result (hstay (by rw [hw]; exact .inr rfl))
          rw [hw] at r
          obtain ⟨h₁, -, h₃, h₄, h₅, -⟩ := r
          exact ⟨h₃, h₄, h₅, fun _ => h₁, fun h => absurd h hd⟩
  case generate =>
    have source : b.im.round.source = 0 := by rw [bim]; exact hs
    have master : b.isMaster = true := (State.advance_isMaster ..).trans hm
    have nominal : b.nominal = s.nominal := by unfold State.nominal; rw [bim]
    obtain ⟨v, hstate, hsynced, hangle, hrev, hposition, href, hperiod, hedge, hepoch, hv, turns⟩ :=
      startRound_of_generate source master (by rw [nominal]; exact hn)
    refine ⟨_, congrArg Host.Outcome.next (round h5), ?_⟩
    rw [turns.round, turns.start, turns.pins, turns.nv, turns.img, turns.acc, turns.jtag]
    refine ⟨?_, ?_, hstate, hsynced, hangle, hrev, hposition, href, hperiod.trans nominal, hedge, hepoch, ?_, ?_, ?_, ?_⟩
    · rw [hv]
      simp [hb, setStage, start, State.devCount]
    · rw [hv]
      rw [bim]
      simp [hb, setStage, ha]
    all_goals
      rw [hv]
      simp [hb, setStage, ha]
  case seek =>
    refine congrArg Host.Outcome.next ((round h5).trans ?_)
    rw [startRound]
    dsimp only
    rw [bim, if_neg hs]
    simp [enterSeek, State.setRound, hb, setStage, ha, State.devCount]

end Sys2Proof.Machine

/-! PROOFS. The governor's segments, control tick, claims, holds and alerts. -/

namespace Sys2Proof.Machine

/-! ### What time leaves of the governor -/

/-- Time moves the setpoint, the state at the end of a ramp, and the times of a hold and an alert (R65, R78). -/
def LehrTime (l k : LehrSt) : Prop :=
  k = { l with setpoint := k.setpoint, state := k.state, holdNs := k.holdNs, alertNs := k.alertNs }

theorem State.advance_lehrTime (t : Nat) (s : State) : LehrTime s.lehr (s.advance t).lehr := by
  unfold State.advance
  split <;> rfl

section
variable (t : Nat) (s : State)

@[simp] theorem State.advance_holdPending : (s.advance t).lehr.holdPending = s.lehr.holdPending := by
  rw [State.advance_lehrTime t s]

@[simp] theorem State.advance_holdExpired : (s.advance t).lehr.holdExpired = s.lehr.holdExpired := by
  rw [State.advance_lehrTime t s]

@[simp] theorem State.advance_lossNow : (s.advance t).lehr.lossNow = s.lehr.lossNow := by
  rw [State.advance_lehrTime t s]
  rfl

@[simp] theorem State.advance_floorW : (s.advance t).lehr.floorW = s.lehr.floorW := by
  rw [State.advance_lehrTime t s]

@[simp] theorem State.advance_alerts : (s.advance t).lehr.alerts = s.lehr.alerts := by
  rw [State.advance_lehrTime t s]

@[simp] theorem State.advance_ballast : (s.advance t).lehr.ballast = s.lehr.ballast := by
  rw [State.advance_lehrTime t s]

@[simp] theorem State.advance_throttle : (s.advance t).lehr.throttle = s.lehr.throttle := by
  rw [State.advance_lehrTime t s]

@[simp] theorem State.advance_claims : (s.advance t).lehr.claims = s.lehr.claims := by
  rw [State.advance_lehrTime t s]

@[simp] theorem State.advance_idleRevs : (s.advance t).lehr.idleRevs = s.lehr.idleRevs := by
  rw [State.advance_lehrTime t s]

/-- A state other than the ramp lasts. -/
theorem State.advance_pwrState {p : PwrState} (hp : p ≠ .rampToFloor) (h : s.lehr.state = p) : (s.advance t).lehr.state = p := by
  unfold State.advance
  split
  · simp [LehrSt.advance, h, hp]
  · exact h

end

/-- One watt in the units of the setpoint (R65). -/
theorem wattU_eq : wattU = 256000000000 := rfl

/-- Settles O24. -/
theorem setpointRests : Obligations.SetpointRests := by
  unfold Obligations.SetpointRests
  intro t s
  set a := s.advance t with ha
  have segment (goal : Nat) (hm : a.lehr.motion = .segment goal) (hg : a.lehr.setpoint = goal) :
      doSegmentEnd a = a.setLehr (if a.lehr.holdPending then ({ a.lehr with motion := .still } : LehrSt).enterHold
        else { a.lehr with motion := .still }) := by
    unfold doSegmentEnd
    simp only [hm]
    exact if_neg (not_not.mpr hg)
  have pending : a.lehr.holdPending = s.lehr.holdPending := State.advance_holdPending t s
  have expired : a.lehr.holdExpired = s.lehr.holdExpired := State.advance_holdExpired t s
  refine ⟨fun goal hm hg hp => ?_, fun goal hm hg hp hx => ?_, fun hm hg => ?_⟩
  · refine congrArg Host.Outcome.next ((segment goal hm hg).trans ?_)
    rw [if_neg (by simp [pending, hp])]
    rfl
  · refine congrArg Host.Outcome.next ((segment goal hm hg).trans ?_)
    rw [if_pos (by simp [pending, hp]), LehrSt.enterHold]
    dsimp only
    rw [if_neg (by simp [expired, hx])]
    rfl
  · exact congrArg Host.Outcome.next (if_pos (Bool.and_eq_true_iff.mpr ⟨decide_eq_true hm, decide_eq_true hg⟩))

/-- Settles O26. -/
theorem claimsAndHolds : Obligations.ClaimsAndHolds := by
  unfold Obligations.ClaimsAndHolds
  intro t p s
  set a := s.advance t with ha
  have busy : a.partitionBusy p = s.partitionBusy p := by
    unfold State.partitionBusy State.ctxPartition State.ctxRec
    rw [ha, State.advance_part, State.advance_im]
  have revs : tget a.lehr.idleRevs p 0 = tget s.lehr.idleRevs p 0 := by simp [ha]
  have him : a.im = s.im := by simp [ha]
  refine ⟨fun hi hb => ?_, fun h => ?_, fun hs hl hx hn => ?_⟩
  · have released : doClaimIdleRelease p a = a.setLehr { a.lehr with claims := tset a.lehr.claims p 0 } :=
      if_neg (by simp [revs, him, busy, hb, hi])
    exact ⟨_, congrArg Host.Outcome.next released, rfl, by simp [State.setLehr], fun k hk => by
      simp [State.setLehr, tget_tset_other _ _ _ hk, ha]⟩
  · refine congrArg Host.Outcome.next (if_pos ?_ : doClaimIdleRelease p a = a)
    rcases h with h | h <;> simp [revs, him, busy, h]
  · have hold : a.lehr.state = .hold := State.advance_pwrState t s (by decide) hs
    have expired : doPowerHoldExpired a = raise0 0x2003 (a.setLehr
        ({ a.lehr with holdExpired := true, stHoldExpired := true } : LehrSt).descend) := by
      unfold doPowerHoldExpired
      dsimp only
      rw [if_neg, if_pos hold]
      have loss : a.lehr.lossNow = true := (State.advance_lossNow t s).trans hl
      have expired : a.lehr.holdExpired = false := (State.advance_holdExpired t s).trans hx
      simp [hold, PwrState.governing, him, loss, expired, hn]
    refine congrArg Host.Outcome.next (expired.trans ?_)
    rw [← State.advance_floorW t s, ← wattU_eq]
    rfl

/-- Settles O27. -/
theorem alert : Obligations.Alert := by
  unfold Obligations.Alert
  intro t s
  set a := s.advance t with ha
  have floor : a.lehr.floorW = s.lehr.floorW := State.advance_floorW t s
  have alerts : a.lehr.alerts = s.lehr.alerts := State.advance_alerts t s
  have loss : a.lehr.lossNow = s.lehr.lossNow := State.advance_lossNow t s
  have pins : a.pins = s.pins := State.advance_pins ..
  have released (hs : a.lehr.state = .alert) : doPwrAlertNRelease a = if a.lehr.lossNow then
      { a with pins := { a.pins with alertLow := false }, lehr := a.lehr.enterHold }
      else armLehr { a with pins := { a.pins with alertLow := false }, lehr := { a.lehr with state := a.lehr.resumed } } :=
    if_neg (not_not.mpr hs)
  refine ⟨fun hr hp hg => ?_, fun hs hl hx => ?_, fun hs hl => ?_⟩
  · have running : a.running = true := (State.advance_running ..).trans hr
    have asserted : doPwrAlertNAssert a = raise0 0x2001 { a with
        pins := { a.pins with alertLow := true }
        lehr := ({ a.lehr with alerts := bump a.lehr.alerts, stAlert := true } : LehrSt).alerted } := by
      unfold doPwrAlertNAssert
      dsimp only
      rw [if_neg (by simp [pins, hp]), if_neg (by simpa [State.running] using running), if_pos (by simp [hg, PwrState.governing])]
      rfl
    refine congrArg Host.Outcome.next (asserted.trans ?_)
    rw [← floor, ← alerts, ← pins, LehrSt.alerted, wattU_eq, bump_eq]
  · have alert := State.advance_pwrState t s (by decide) hs
    have expired : a.lehr.holdExpired = false := (State.advance_holdExpired t s).trans hx
    refine congrArg Host.Outcome.next ((released alert).trans ?_)
    rw [if_pos (loss.trans hl), LehrSt.enterHold, pins]
    dsimp only
    rw [if_neg (by simp [expired])]
  · have alert := State.advance_pwrState t s (by decide) hs
    have kept : ∃ r, doPwrAlertNRelease a = { a with
        pins := { s.pins with alertLow := false }, lehr := { a.lehr with state := a.lehr.resumed }, round := r } := by
      rw [released alert, if_neg (by simp [loss, hl]), armLehr_frame, pins]
      exact ⟨_, rfl⟩
    obtain ⟨r, hr⟩ := kept
    refine ⟨_, congrArg Host.Outcome.next hr, rfl, ?_⟩
    rw [LehrSt.resumed, wattU_eq, floor]

/-! ### The control tick -/

/-- What the control law and the notes of a tick read and never write. -/
structure LehrHeld where
  state : PwrState
  setpoint : Nat
  motion : Motion
  work : Nat
  stAdcClamp : Bool
  idleMxe : List Nat
  ballastAvail : Nat

/-- Of the governor, what the control law and the notes of a tick read and never write. -/
def LehrSt.held (l : LehrSt) : LehrHeld :=
  ⟨l.state, l.setpoint, l.motion, l.work, l.stAdcClamp, l.idleMxe, l.ballastAvail⟩

/-- The control tick's work: Lehr's registers, the comb powers, the event log and the free counter change. -/
structure Controls (s u : State) : Prop where
  frame : u = { s with
    lehr := u.lehr, flt := u.flt, free := u.free
    lens := { s.lens with combPwr0 := u.lens.combPwr0, combPwr1 := u.lens.combPwr1 } }
  held : u.lehr.held = s.lehr.held

/-- Noting changes neither the ballast nor the throttle. -/
def Notes (s u : State) : Prop := Controls s u ∧ u.lehr.ballast = s.lehr.ballast ∧ u.lehr.throttle = s.lehr.throttle

theorem Controls.refl (s : State) : Controls s s := ⟨rfl, rfl⟩

theorem Controls.trans {a b c : State} (h : Controls a b) (k : Controls b c) : Controls a c :=
  ⟨by rw [k.frame, h.frame], k.held.trans h.held⟩

theorem Notes.trans {a b c : State} (h : Notes a b) (k : Notes b c) : Notes a c :=
  ⟨h.1.trans k.1, k.2.1.trans h.2.1, k.2.2.trans h.2.2⟩

theorem noteComb_notes (p : List Int) (s : State) : Notes s (noteComb p s) := ⟨⟨rfl, rfl⟩, rfl, rfl⟩

theorem noteShortfall_notes (applied measured : Nat) (s : State) : Notes s (noteShortfall applied measured s) := by
  unfold noteShortfall
  dsimp only
  split <;> exact ⟨⟨rfl, rfl⟩, rfl, rfl⟩

theorem noteWindow_notes (measured : Nat) (clamp : Bool) (s : State) : Notes s (noteWindow measured clamp s) := by
  unfold noteWindow
  dsimp only
  split
  · split <;> exact ⟨⟨rfl, rfl⟩, rfl, rfl⟩
  · exact ⟨⟨rfl, rfl⟩, rfl, rfl⟩

/-- The control law (R67, R68, R70): ballast within what is there, and a stage of throttle beyond 1 % of the setpoint. -/
theorem controlLaw_spec (measured : Nat) (s : State) :
    Controls s (controlLaw measured s) ∧ (controlLaw measured s).lehr.ballast ≤ s.lehr.ballastAvail ∧
      (uToMw s.lehr.setpoint * 101 < measured * 100 → (controlLaw measured s).lehr.ballast = 0 →
        (controlLaw measured s).lehr.throttle = min (s.lehr.throttle + 1) (s.clockStages + 1)) ∧
      (measured * 100 < uToMw s.lehr.setpoint * 99 → (controlLaw measured s).lehr.throttle = s.lehr.throttle - 1) := by
  unfold controlLaw
  dsimp only
  generalize uToMw s.lehr.setpoint = goal
  split
  next h =>
    obtain ⟨hless, hpos⟩ : measured < goal ∧ 0 < s.lehr.throttle := by simpa using h
    split
    · exact ⟨⟨rfl, rfl⟩, Nat.min_le_right _ _, by omega, fun _ => rfl⟩
    next hfar => exact ⟨⟨rfl, rfl⟩, Nat.min_le_right _ _, by omega, fun hx => absurd hx hfar⟩
  next h =>
    have idle : measured < goal → s.lehr.throttle = 0 := by simpa using h
    split
    next hless =>
      refine ⟨⟨rfl, rfl⟩, Nat.min_le_right _ _, by omega, fun _ => ?_⟩
      exact (idle hless).trans (by rw [idle hless])
    next hmore =>
      split
      next hb => exact ⟨⟨rfl, rfl⟩, Nat.min_le_right _ _, fun _ _ => rfl, by omega⟩
      next hb =>
        refine ⟨⟨rfl, rfl⟩, Nat.min_le_right _ _, fun hx hzero => absurd ?_ hb, by omega⟩
        exact Bool.and_eq_true_iff.mpr ⟨decide_eq_true hzero, decide_eq_true hx⟩

/-- The power a tick takes, up to 1,100 W (R75). -/
def measuredOf (r : PowerReading) : Nat := min r.measuredMw 1100000

/-- The temperatures a tick takes. -/
def tempsOf (r : PowerReading) : List Int := r.temps.map (saturateInt (-640) 2400)

/-- Has a tick clamped what it took? -/
def clampOf (r : PowerReading) : Bool := measuredOf r ≠ r.measuredMw || tempsOf r ≠ r.temps

/-- The governor as a tick reads the sensors. -/
def ticked (r : PowerReading) (l : LehrSt) : LehrSt := { l with
  maxTemp := if (tempsOf r).isEmpty then l.maxTemp else (hottest (tempsOf r)).2
  hotDie := if (tempsOf r).isEmpty then l.hotDie else (hottest (tempsOf r)).1
  work := measuredOf r - l.ballast, stAdcClamp := l.stAdcClamp || clampOf r }

/-- The ballast that the idle MXEs can take (R67). -/
def availOf (r : PowerReading) : Nat := 630000 * ({ idleMxe := r.idleMxe.take 64 } : LehrSt).idleSum / 4096

/-- Settles O25. -/
theorem controlTick : Obligations.ControlTick := by
  unfold Obligations.ControlTick
  intro t r s hr
  set a := s.advance t with ha
  have running : a.running = true := (State.advance_running ..).trans hr
  have ballast : a.lehr.ballast = s.lehr.ballast := State.advance_ballast t s
  have throttle : a.lehr.throttle = s.lehr.throttle := State.advance_throttle t s
  obtain ⟨b, hb⟩ : ∃ b, b = noteComb r.comb (a.setLehr (ticked r a.lehr)) := ⟨_, rfl⟩
  obtain ⟨g, hg⟩ : ∃ g, g = b.setLehr { b.lehr with idleMxe := r.idleMxe.take 64, ballastAvail := availOf r } := ⟨_, rfl⟩
  have frame (u : State) (hu : Controls b u ∨ Controls g u) : u = { a with
      lehr := u.lehr, flt := u.flt, free := u.free
      lens := { a.lens with combPwr0 := u.lens.combPwr0, combPwr1 := u.lens.combPwr1 } } := by
    rcases hu with hu | hu <;> rw [hu.frame] <;> simp only [hg, hb] <;> rfl
  have done : doControlTick r a = noteWindow (measuredOf r) (clampOf r) (if a.governs then
      noteShortfall (min a.lehr.ballast (availOf r)) (measuredOf r) (controlLaw (measuredOf r) g) else b) := by
    unfold doControlTick
    rw [if_neg (by simp [running])]
    dsimp only
    rw [apply_ite (noteWindow _ _), hg, hb]
    rfl
  refine ⟨_, congrArg Host.Outcome.next done, ?_⟩
  obtain ⟨law, within, tighter, looser⟩ := controlLaw_spec (measuredOf r) g
  have short := noteShortfall_notes (min a.lehr.ballast (availOf r)) (measuredOf r) (controlLaw (measuredOf r) g)
  have clamps : 1100000 < r.measuredMw → clampOf r = true := fun h => by
    have less : min r.measuredMw 1100000 ≠ r.measuredMw := by omega
    simp [clampOf, measuredOf, less]
  have common (u : State) (hu : u.lehr.held = b.lehr.held ∨ u.lehr.held = g.lehr.held) :
      u.lehr.work = min r.measuredMw 1100000 - s.lehr.ballast ∧ (1100000 < r.measuredMw → u.lehr.stAdcClamp = true) ∧
        u.lehr.setpoint = a.lehr.setpoint ∧ u.lehr.motion = a.lehr.motion ∧ u.lehr.state = a.lehr.state := by
    have same : u.lehr.work = (ticked r a.lehr).work ∧ u.lehr.stAdcClamp = (ticked r a.lehr).stAdcClamp ∧
        u.lehr.setpoint = a.lehr.setpoint ∧ u.lehr.motion = a.lehr.motion ∧ u.lehr.state = a.lehr.state := by
      rcases hu with hu | hu <;> simp only [hg, hb] at hu <;>
        exact ⟨congrArg LehrHeld.work hu, congrArg LehrHeld.stAdcClamp hu, congrArg LehrHeld.setpoint hu,
          congrArg LehrHeld.motion hu, congrArg LehrHeld.state hu⟩
    obtain ⟨work, clamp, rest⟩ := same
    refine ⟨work.trans ?_, fun h => clamp.trans ?_, rest⟩
    · rw [← ballast]
      rfl
    · simp [ticked, clamps h]
  by_cases hgov : a.governs = true
  · rw [if_pos hgov]
    obtain ⟨kept, hballast, hthrottle⟩ := short.trans (noteWindow_notes (measuredOf r) (clampOf r) _)
    generalize noteWindow (measuredOf r) (clampOf r) _ = u at kept hballast hthrottle ⊢
    have held : u.lehr.held = g.lehr.held := (law.trans kept).held
    obtain ⟨hwork, hclamp, hset, hmotion, hstate⟩ := common u (.inr held)
    have idle : u.lehr.idleMxe = r.idleMxe.take 64 := (congrArg LehrHeld.idleMxe held).trans (by rw [hg]; rfl)
    have avail : u.lehr.ballastAvail = availOf r := (congrArg LehrHeld.ballastAvail held).trans (by rw [hg]; rfl)
    have goal : g.lehr.setpoint = a.lehr.setpoint := by rw [hg, hb]; rfl
    have old : g.lehr.throttle = s.lehr.throttle := by rw [hg, hb, ← throttle]; rfl
    have stages : g.clockStages = s.clockStages := by
      unfold State.clockStages
      rw [← State.advance_im s t, ← ha, hg, hb]
      rfl
    rw [hballast, hthrottle]
    rw [goal, old, stages] at tighter
    rw [goal, old] at looser
    refine ⟨frame u (.inr (law.trans kept)), hwork, hclamp, hset, hmotion, hstate,
      fun _ => ⟨idle, avail.trans ?_, ?_, tighter, looser⟩, fun hi => ?_⟩
    · unfold availOf LehrSt.idleSum LehrSt.idleOf
      rw [idle]
    · rw [avail]
      exact within.trans_eq (by rw [hg]; rfl)
    · have none : a.img = none := (State.advance_img ..).trans hi
      simp [State.governs, none] at hgov
  · rw [if_neg hgov]
    obtain ⟨kept, hballast, hthrottle⟩ := noteWindow_notes (measuredOf r) (clampOf r) b
    generalize noteWindow (measuredOf r) (clampOf r) b = u at kept hballast hthrottle ⊢
    obtain ⟨hwork, hclamp, hset, hmotion, hstate⟩ := common u (.inl kept.held)
    refine ⟨frame u (.inl kept), hwork, hclamp, hset, hmotion, hstate, fun h => absurd h hgov, fun _ => ⟨?_, ?_⟩⟩
    · rw [hballast, ← ballast, hb]
      rfl
    · rw [hthrottle, ← throttle, hb]
      rfl

end Sys2Proof.Machine

/-! PROOFS. Commands of a task: drains, fetch phases, swaps, completion, switches and deadlines. -/

namespace Sys2Proof.Machine

/-! ### Reading a tile and a task after a write -/

section
variable (s : State)

@[simp] theorem State.tile_updTile_same (n : Nat) (f : Tile → Tile) : (s.updTile n f).tile n = f (s.tile n) := by
  simp [State.tile, State.updTile, State.setTile]

theorem State.tile_updTile_other {j n : Nat} (h : j ≠ n) (f : Tile → Tile) : (s.updTile n f).tile j = s.tile j :=
  tget_tset_other _ _ _ h

@[simp] theorem State.task_updTask_same (n k : Nat) (f : Task → Task) : (s.updTask n k f).task n k = f (s.task n k) := by
  simp [State.task, State.updTask]

theorem State.task_updTask_other (n : Nat) {j k : Nat} (h : j ≠ k) (f : Task → Task) :
    (s.updTask n k f).task n j = s.task n j := by
  simp [State.task, State.updTask, tget_tupd_other _ _ _ h]

theorem State.tile_updTask_other {j n : Nat} (h : j ≠ n) (k : Nat) (f : Task → Task) : (s.updTask n k f).tile j = s.tile j :=
  s.tile_updTile_other h _

theorem State.task_updTile {n : Nat} (f : Tile → Tile) (h : ∀ x, (f x).tasks = x.tasks) (k : Nat) :
    (s.updTile n f).task n k = s.task n k := by
  simp [State.task, h]

@[simp] theorem State.advance_gateIssue (t : Nat) : (s.advance t).lehr.gateIssue = s.lehr.gateIssue := by
  rw [State.advance_lehrTime t s]

end

/-! ### Drains -/

/-- A DRAIN at the front of a task, its wait met, flushes and then moves on or joins its barrier (R128, R156). -/
theorem doDrain_of_ready {tile slot : Nat} {s : State} {c : Cmd} {r : List Cmd} (hk : (s.task tile slot).cmds = c :: r)
    (hop : opOf c.words = 2) (hw : c.phase = .waiting) (hl : (s.task tile slot).state.live = true)
    (hg : s.lehr.gateIssue = false) (hc : s.clocked = true) (hm : s.waitMet tile c.words = true) :
    doDrain tile slot s =
      (let u := if drainFlush c.words then
          (flushContext (tile / 64) (s.task tile slot).context s).2.taskFlags tile slot
            (flushContext (tile / 64) (s.task tile slot).context s).1
        else s
      pumpTile tile (if drainScope c.words = 0 then u.updCmd tile slot c.index fun x => { x with phase := .storing }
        else joinBarrier tile slot (drainScope c.words) c.index u)) := by
  have holds : (s.task tile slot).holdsOp 2 = true := by simp [Task.holdsOp, hk, hop, hw]
  unfold doDrain runDrain
  rw [if_pos holds]
  dsimp only
  simp only [hk]
  rw [if_neg (by simp [hop, hw, hl, hg, hc, hm])]
  rfl

/-- The task at its drain's barrier, in the generation of its drains of the scope so far (R157). -/
def atBarrier (tile slot scope i : Nat) (s : State) : State :=
  (s.updTask tile slot fun k => k.addDrain scope).updCmd tile slot i fun x =>
    { x with phase := .barrier, gen := (s.task tile slot).drains scope % 65536 }

/-- A drain joins its parcel's record: a cluster's at once, a wider one with the cluster's last task (R156, R157). -/
theorem joinBarrier_of_record {tile slot scope i n : Nat} {s : State}
    (h : s.recordOf (scope - 1) (tile / 64) (s.task tile slot).parcel = some n) :
    joinBarrier tile slot scope i s =
      let gen := (s.task tile slot).drains scope % 65536
      let b := atBarrier tile slot scope i s
      if scope = 1 then arriveAt 0 (tile / 64) n gen 1 b
      else
        let need := match s.parcel (s.task tile slot).parcel with
          | some p => (p.tasks.filter fun x => x.1 / 64 = tile / 64).length
          | none => 0
        let here := b.arrivedIn (s.task tile slot).parcel (tile / 64) scope gen
        let m := markFirst (scope - 1) (tile / 64) n gen b
        if here < need then m
        else { m with sync := { m.sync with
          flight := m.sync.flight ++
            [arriveMsg m.deviceId (tile / 64) (scope - 1) n gen (s.task tile slot).context here] } } := by
  have record : (atBarrier tile slot scope i s).recordOf (scope - 1) (tile / 64) (s.task tile slot).parcel = some n := h
  unfold joinBarrier
  dsimp only
  unfold atBarrier at record ⊢
  simp only [clusterOfTile, record]
  rfl

theorem markFirst_deviceId (level cluster index gen : Nat) (s : State) : (markFirst level cluster index gen s).deviceId = s.deviceId := by
  unfold markFirst
  dsimp only
  split <;> rfl

/-- Settles O31. -/
theorem drainRuns : Obligations.DrainRuns := by
  unfold Obligations.DrainRuns
  intro t tile slot s c r a k hk hop hw hl hg hc hm
  have gate : a.lehr.gateIssue = false := (State.advance_gateIssue s t).trans hg
  have run := doDrain_of_ready hk hop hw hl gate hc hm
  refine ⟨fun h0 hf => ?_, fun h0 hf => ?_, fun h1 hf n hn => ?_, fun h2 hf n p hn hp => ?_⟩
  · refine congrArg Host.Outcome.next (run.trans ?_)
    simp [h0, hf]
  · refine congrArg Host.Outcome.next (run.trans ?_)
    simp [h0, hf, k]
  · refine congrArg Host.Outcome.next (run.trans ?_)
    rw [if_neg (by simp [hf]), h1]
    dsimp only
    rw [if_neg (by decide), joinBarrier_of_record hn]
    rfl
  · have joined := joinBarrier_of_record (i := c.index) hn
    dsimp only at joined
    rw [if_neg (by omega), hp, markFirst_deviceId] at joined
    have run' := run
    rw [if_neg (by simp [hf])] at run'
    dsimp only at run'
    rw [if_neg (by omega), joined] at run'
    refine ⟨fun hx => ?_, fun hx => ?_⟩
    · exact congrArg Host.Outcome.next (run'.trans (congrArg (pumpTile tile) (if_pos hx)))
    · exact congrArg Host.Outcome.next (run'.trans (congrArg (pumpTile tile) (if_neg (Nat.not_lt.mpr hx))))

/-! ### Fetch phases and swaps -/

/-- A command as its fetch phase begins, with the stamps of its issue (R121, R139). -/
def State.issue (s : State) (k : Task) (c : Cmd) : Cmd := { c with
  phase := .indexing, issued := true, group := k.group
  issueRev := s.round.rev, issueAngle := s.round.angle, issueTime := s.now, issueValid := s.angleValid }

/-- A task whose command `c` has begun its fetch phase, the first of a group taking its buffer (R122, R123). -/
def State.fetching (s : State) (k : Task) (c : Cmd) : Task := (k.opens c.words).updCmd c.index fun _ => s.issue k c

theorem startFetch_of_ready {tile slot : Nat} {s : State} {c : Cmd} (hl : (s.task tile slot).state.live = true)
    (ho : (s.task tile slot).closed = false) (hg : s.lehr.gateIssue = false) (hc : s.clocked = true)
    (hn : s.nextFetch tile (s.task tile slot).cmds = some c) (hm : s.waitMet tile c.words = true) :
    startFetch tile slot s =
      (let u := s.updTask tile slot fun k => (k.opens c.words).updCmd c.index fun _ => s.issue (s.task tile slot) c
      if gatherOf c.words then beginStage tile slot (s.issue (s.task tile slot) c) u else u) := by
  unfold startFetch
  dsimp only
  rw [if_neg (by simp [hl, ho, hg, hc]), hn]
  dsimp only
  rw [if_neg (by simp [hm])]
  rfl

/-- Only the tile's own state changes, and its tasks keep what they hold. -/
theorem beginStage_frame (tile slot : Nat) (c : Cmd) (s : State) :
    (∃ x : Tile, x.tasks = (s.tile tile).tasks ∧ beginStage tile slot c s = s.setTile tile x) ∨ beginStage tile slot c s = s := by
  unfold beginStage
  split
  · exact .inr rfl
  · refine .inl ⟨_, ?_, rfl⟩
    rfl

theorem startFetch_spec {tile slot : Nat} {s : State} {c : Cmd} (hl : (s.task tile slot).state.live = true)
    (ho : (s.task tile slot).closed = false) (hg : s.lehr.gateIssue = false) (hc : s.clocked = true)
    (hn : s.nextFetch tile (s.task tile slot).cmds = some c) (hm : s.waitMet tile c.words = true) :
    startFetch tile slot s = { s with tiles := { s.tiles with tiles := (startFetch tile slot s).tiles.tiles } } ∧
      (∀ i, i ≠ tile → (startFetch tile slot s).tile i = s.tile i) ∧
      (startFetch tile slot s).task tile slot = s.fetching (s.task tile slot) c := by
  rw [startFetch_of_ready hl ho hg hc hn hm]
  dsimp only
  set u := s.updTask tile slot fun k => (k.opens c.words).updCmd c.index fun _ => s.issue (s.task tile slot) c with hu
  have other (i : Nat) (hi : i ≠ tile) : u.tile i = s.tile i := s.tile_updTask_other hi _ _
  have task : u.task tile slot = s.fetching (s.task tile slot) c := s.task_updTask_same _ _ _
  split
  · rcases beginStage_frame tile slot (s.issue (s.task tile slot) c) u with ⟨x, hx, h⟩ | h <;> rw [h]
    · refine ⟨rfl, fun i hi => ?_, ?_⟩
      · exact (tget_tset_other _ _ _ hi).trans (other i hi)
      · rw [← task]
        simp [State.task, State.tile, State.setTile, hx]
    · exact ⟨rfl, other, task⟩
  · exact ⟨rfl, other, task⟩

/-- Settles O32. -/
theorem fetchPhaseStarts : Obligations.FetchPhaseStarts := by
  unfold Obligations.FetchPhaseStarts
  intro t tile slot s c a k
  refine ⟨fun hl ho hg hc hn hm => ?_, fun h => ?_⟩
  · have gate : a.lehr.gateIssue = false := (State.advance_gateIssue s t).trans hg
    obtain ⟨frame, other, task⟩ := startFetch_spec hl ho gate hc hn hm
    refine ⟨_, rfl, frame, other, ?_⟩
    rw [task]
    have cmds : (a.fetching (a.task tile slot) c).cmds =
        (a.task tile slot).cmds.map fun x => if x.index = c.index then a.issue (a.task tile slot) c else x := by
      unfold State.fetching Task.opens Task.updCmd
      dsimp only
      split <;> rfl
    refine ⟨rfl, rfl, fun h => ?_, fun h => ?_, ?_, fun y hy hi => ?_⟩
    · have h' : (a.task tile slot).opened = false := h
      simp [State.fetching, Task.opens, Task.updCmd, h']
    · have h' : (a.task tile slot).opened = true := h
      simp [State.fetching, Task.opens, Task.updCmd, h', k]
    · rw [cmds, List.map_map]
      refine List.map_congr_left fun x _ => ?_
      by_cases hx : x.index = c.index <;> simp [hx, State.issue]
    · rw [cmds, List.mem_map] at hy
      obtain ⟨x, -, rfl⟩ := hy
      by_cases hx : x.index = c.index
      · rw [if_pos hx]
        exact ⟨rfl, rfl, rfl, congrArg RoundSt.rev (State.advance_round ..), congrArg RoundSt.angle (State.advance_round ..), rfl,
          State.advance_angleValid ..⟩
      · rw [if_neg hx] at hi
        exact absurd hi hx
  · refine congrArg Host.Outcome.next (congrArg (pumpTile tile) ?_ : doFetchPhaseStart tile slot a = _)
    unfold startFetch
    dsimp only
    split
    · rfl
    next hx =>
      rcases h with h | h
      · have h' : (a.task tile slot).closed = true := h
        simp [h'] at hx
      · rw [show a.nextFetch tile (a.task tile slot).cmds = none from h]

/-- Settles O33. -/
theorem buffersSwap : Obligations.BuffersSwap := by
  unfold Obligations.BuffersSwap
  intro t tile slot s a k
  refine ⟨fun hl hcl hcomp haw hc => ?_, fun h => ?_⟩
  · refine congrArg Host.Outcome.next (congrArg (pumpTile tile) (if_pos ?_) : doBufferSwap tile slot a = _)
    have hcl' : (a.task tile slot).closed = true := hcl
    have hcomp' : (a.task tile slot).computing = none := hcomp
    have hl' : (a.task tile slot).state.live = true := hl
    simp [State.maySwap, hl', hcl', hcomp', haw, hc]
  · refine congrArg Host.Outcome.next (congrArg (pumpTile tile) (if_neg ?_) : doBufferSwap tile slot a = _)
    have h' : (a.task tile slot).closed = false ∨ (a.task tile slot).computing.isSome = true ∨ a.awaits tile slot = true := h
    rcases h' with h | h | h
    · simp [State.maySwap, h]
    · simp [State.maySwap, Option.isSome_iff_ne_none.mp h]
    · simp [State.maySwap, h]

/-! ### Completion -/

/-- Settles O34. -/
theorem commandCompletes : Obligations.CommandCompletes := by
  unfold Obligations.CommandCompletes
  intro t tile slot s c r a b done hk hl hc hop hrefuse
  have gate : a.lehr.gateIssue = s.lehr.gateIssue := State.advance_gateIssue s t
  have may : a.mayComplete tile c = true ↔ done := by
    unfold State.mayComplete
    by_cases h0 : opOf c.words = 0
    · simp [done, h0, gate, and_assoc]
    · have fetches : opOf c.words = 1 ∨ opOf c.words = 2 := by omega
      simp [done, h0, fetches]
  have completes (h : done) : doCommandComplete tile slot a = pumpTile tile (takeOver tile slot
      (if signalCtr c.words = 63 then b else addCounter tile (signalCtr c.words) (signalInc c.words) b)) := by
    unfold doCommandComplete
    simp only [hk]
    rw [if_neg (by simp [hl, hc, may.mpr h]), if_neg (by simp [hrefuse]), completeCmd, if_neg (by omega)]
    rfl
  refine ⟨fun h hs => ?_, fun h hs => ?_, fun h => ?_⟩
  · exact congrArg Host.Outcome.next ((completes h).trans (by rw [if_pos hs]))
  · exact congrArg Host.Outcome.next ((completes h).trans (by rw [if_neg hs]))
  · refine congrArg Host.Outcome.next (?_ : doCommandComplete tile slot a = a)
    unfold doCommandComplete
    simp only [hk]
    exact if_pos (by simp [mt may.mp h])

/-! ### Switches -/

/-- A switch hands the pipeline of the tile from one task to another (R129). -/
theorem switchTo_spec {tile slot n : Nat} (st : TaskState) (s : State) (h : slot ≠ n) :
    ((switchTo tile slot n st s).tile tile).running = n ∧
      ((switchTo tile slot n st s).tile tile).switches = min ((s.tile tile).switches + 1) 4294967295 ∧
      (switchTo tile slot n st s).task tile n = { s.task tile n with state := .running } ∧
      (switchTo tile slot n st s).task tile slot = { s.task tile slot with state := st, readySince := s.now } ∧
      ∀ i, i ≠ tile → (switchTo tile slot n st s).tile i = s.tile i := by
  set u := s.updTask tile slot fun k => { k with state := st, readySince := s.now } with hu
  set v := u.updTask tile n fun k => { k with state := .running } with hv
  have switched : switchTo tile slot n st s = v.updTile tile fun x => { x with running := n, switches := bump x.switches } := rfl
  have task (k : Nat) : (switchTo tile slot n st s).task tile k = v.task tile k := by
    rw [switched]
    refine v.task_updTile _ ?_ k
    exact fun _ => rfl
  refine ⟨?_, ?_, ?_, ?_, fun i hi => ?_⟩
  · rw [switched, State.tile_updTile_same]
  · rw [switched, State.tile_updTile_same, hv, State.updTask, State.tile_updTile_same, hu, State.updTask, State.tile_updTile_same]
    rfl
  · rw [task, hv, State.task_updTask_same, hu, State.task_updTask_other _ _ h.symm]
  · rw [task, hv, State.task_updTask_other _ _ h, hu, State.task_updTask_same]
  · rw [switched, State.tile_updTile_other _ hi, hv, State.tile_updTask_other _ hi, hu, State.tile_updTask_other _ hi]

/-- Settles O35. -/
theorem tasksSwitch : Obligations.TasksSwitch := by
  unfold Obligations.TasksSwitch
  intro t tile slot n k s a hfind hnext
  refine ⟨fun hlate hrt hc hne => ?_, fun hlate => ?_, fun hrun hrt hne => ?_⟩
  · have switched : doTaskSwitch tile a = pumpTile tile (switchTo tile slot n .lateData a) := by
      unfold doTaskSwitch
      simp only [hfind, hnext]
      exact if_pos (by simp [hlate, hrt, hc])
    exact ⟨_, congrArg Host.Outcome.next switched, rfl, switchTo_spec .lateData a hne⟩
  · refine congrArg Host.Outcome.next (?_ : doTaskSwitch tile a = a)
    unfold doTaskSwitch
    simp only [hfind, hnext]
    exact if_neg (by simp [hlate])
  · have taken : takeOver tile slot a = switchTo tile slot n .ready a := by
      unfold takeOver
      rw [if_neg (not_not.mpr hrun)]
      simp only [hnext]
      exact if_pos hrt
    obtain ⟨running, -, next, old, -⟩ := switchTo_spec (tile := tile) .ready a hne
    rw [taken, next, old]
    exact ⟨running, rfl, rfl⟩

/-! ### Deadlines -/

/-- Settles O36. -/
theorem deadlineMisses : Obligations.DeadlineMisses := by
  unfold Obligations.DeadlineMisses
  intro t tile slot s c a k hk hl hc hopen
  have closes : doDeadlineClose tile slot a = pumpTile tile (closeCmd tile slot a c) := by
    have hl' : (a.task tile slot).state.live = true := hl
    have hk' : (a.task tile slot).cmds = [c] := hk
    unfold doDeadlineClose
    dsimp only
    rw [if_neg (by simp [hl', hc]), hk']
    rfl
  refine ⟨fun hr hcomp hm => ?_, fun hr => ?_, fun hr hcomp hlate => ?_⟩
  · refine congrArg Host.Outcome.next (closes.trans (congrArg (pumpTile tile) ?_))
    have missed : closeCmd tile slot a c = noteMiss tile slot c a := by
      unfold closeCmd
      rw [if_pos (by simp [show a.deadlineOpen (a.task tile slot) c = true from hopen, hr, hcomp])]
      exact if_neg (by simp [hm])
    rw [missed]
    rfl
  · refine congrArg Host.Outcome.next (closes.trans (congrArg (pumpTile tile) ?_))
    exact if_neg (by simp [hr])
  · set u := a.updCmd tile slot c.index fun x => { x with late := some true } with hu
    have task : u.task tile slot = (a.task tile slot).updCmd c.index fun x => { x with late := some true } :=
      a.task_updTask_same _ _ _
    have still : u.deadlineOpen (u.task tile slot) c = true := by
      rw [task]
      exact hopen
    have parcel : (u.task tile slot).parcel = k.parcel := by
      rw [task]
      rfl
    unfold stampCmd
    rw [if_neg (by simp [hcomp, hlate])]
    dsimp only
    rw [hr, ← hu, if_pos (by simp [still]), noteMiss, parcel]
    rfl

end Sys2Proof.Machine

/-! PROOFS. Barrier messages where a slot stands twice in a tile's table. -/

namespace Sys2Proof.Machine

/-- Slot 0 of tile 0 stands twice in the tile's table, whose keys so do not rise: first the running task of parcel 7 that waits at cluster
record 0, and behind it, where no lookup by slot reaches, a ready task. -/
def waitsListedTwice : State :=
  { pins := { resetN := true }, start := { stage := 9 }
    tiles := { tiles := [(0, { tasks := [
      (0, { state := .running, parcel := 7, cmds := [{ words := [2 + 2 ^ 40], phase := .barrier }] }),
      (0, { state := .ready })] })] }
    sync := { clusterBar := [(0, { active := true, parcel := 7 })] } }

/-- The abort ends the entry found by its key; the pipeline then goes to the slot of the ready entry behind it, and that makes the
ended one run. -/
theorem release_waitsListedTwice :
    ((doRelease (releaseMsg 0 0 0 0 0 0 true) (waitsListedTwice.advance 0)).task 0 0).state = .running := by decide

/-- Refutes O39: the statement ranges over tables whose keys do not rise, and at `waitsListedTwice` a release with the abort mark leaves
the waiting task running. -/
theorem not_barrierMessages : ¬ Obligations.BarrierMessages := by
  unfold Obligations.BarrierMessages
  intro h
  obtain ⟨-, -, release⟩ := h 0 (releaseMsg 0 0 0 0 0 0 true) waitsListedTwice (by decide) rfl
  obtain ⟨u, hu, -, -, -, -, -, tasks⟩ := release rfl (.inl (by decide))
  obtain rfl := Host.Outcome.next.inj hu
  obtain ⟨-, ended⟩ := tasks 0 0 (by decide) (.inr rfl) (by decide)
  have runs := release_waitsListedTwice.symm.trans (ended rfl (by decide))
  exact absurd runs (by decide)

end Sys2Proof.Machine

/-! PROOFS. Combines of the marver, done actions and rotations around the cluster ring. -/

namespace Sys2Proof.Machine

/-! ### What memory's own work touches -/

/-- Memory changes, and nothing else. -/
def MemOnly (s u : State) : Prop := ∃ m, u = { s with mem := m }

theorem MemOnly.refl (s : State) : MemOnly s s := ⟨_, rfl⟩

theorem MemOnly.trans {a b c : State} (h : MemOnly a b) (k : MemOnly b c) : MemOnly a c := by
  obtain ⟨_, rfl⟩ := h
  obtain ⟨_, rfl⟩ := k
  exact ⟨_, rfl⟩

theorem MemOnly.ite {s a b : State} {c : Prop} [Decidable c] (ha : MemOnly s a) (hb : MemOnly s b) :
    MemOnly s (if c then a else b) := by
  split
  · exact ha
  · exact hb

theorem MemOnly.foldl {α : Type} {f : State → α → State} (hf : ∀ s x, MemOnly s (f s x)) (l : List α) (s : State) :
    MemOnly s (l.foldl f s) :=
  List.foldlRecOn l f (.refl s) fun u h x _ => h.trans (hf u x)

theorem updChan_memOnly (c : Nat) (f : Chan → Chan) (s : State) : MemOnly s (s.updChan c f) := ⟨_, rfl⟩

theorem writeEntry_memOnly (c : Nat) (w : Wcb) (s : State) : MemOnly s (writeEntry c w s) := by
  unfold writeEntry
  dsimp only
  refine (MemOnly.trans ?_ (.foldl (fun u p => ?_) _ _)).trans (updChan_memOnly _ _ _)
  · exact .foldl (fun u q => ⟨_, rfl⟩) _ s
  · exact ⟨_, rfl⟩

theorem reservedRead_memOnly (c off n : Nat) (s : State) : MemOnly s (reservedRead c off n s) := updChan_memOnly _ _ s

theorem evictRead_memOnly (c : Nat) (w : Wcb) (s : State) : MemOnly s (evictRead c w s) :=
  .ite (.refl s) (.ite (reservedRead_memOnly _ _ _ s) (reservedRead_memOnly _ _ _ s))

theorem evictEntry_memOnly (c : Nat) (w : Wcb) (s : State) : MemOnly s (evictEntry c w s) :=
  ((updChan_memOnly c _ s).trans (evictRead_memOnly c w _)).trans (writeEntry_memOnly c w _)

theorem evictLine_memOnly (c line : Nat) (s : State) : MemOnly s (evictLine c line s) := by
  unfold evictLine
  split
  · exact .refl s
  · exact .ite (evictEntry_memOnly _ _ s) (.refl s)

theorem makeRoom_memOnly (c : Nat) (s : State) : MemOnly s (makeRoom c s) := by
  unfold makeRoom
  refine .ite (.refl s) ?_
  split
  · exact evictEntry_memOnly _ _ s
  · exact .refl s

theorem wcbWrite_memOnly (c off : Nat) (bs : List Byte) (poison : Bool) (s : State) : MemOnly s (wcbWrite c off bs poison s) := by
  have room : MemOnly s (if ((s.chan c).wcbAt (off / 64)).isNone then makeRoom c s else s) := .ite (makeRoom_memOnly c s) (.refl s)
  have written := room.trans (updChan_memOnly c (fun ch =>
    match ch.wcbAt (off / 64) with
    | some w => { ch with
        wcb := ch.wcb.map fun x => if x.line = off / 64 then w.merge (off % 64) bs poison
          (if ((s.chan c).wcbAt (off / 64)).isNone then makeRoom c s else s).now else x }
    | none => { ch with wcb := ch.wcb ++ [(Wcb.mk (off / 64) [] []
        (if ((s.chan c).wcbAt (off / 64)).isNone then makeRoom c s else s).now).merge (off % 64) bs poison
          (if ((s.chan c).wcbAt (off / 64)).isNone then makeRoom c s else s).now] }) _)
  exact .ite (written.trans (evictLine_memOnly _ _ _)) written

theorem devWrite_memOnly (d : Nat) (bs : List Byte) (poison : Bool) (s : State) : MemOnly s (devWrite d bs poison s) := by
  unfold devWrite
  generalize bs.length / 64 + 2 = n
  induction n generalizing d bs s with
  | zero => exact .refl s
  | succ n ih => exact .ite (.refl s) (MemOnly.trans (.ite (wcbWrite_memOnly _ _ _ _ s) (.refl s)) (ih _ _ _))

/-! ### A combine's rows -/

/-- Memory, the clusters' counts, the parcels, the event log and the writes counted of combines change, and nothing else. -/
def Combining (s u : State) : Prop :=
  ∃ c m p f e, u = { s with
    tiles := { s.tiles with clusters := c }, mem := m, part := p, flt := f, sync := { s.sync with combines := e } }

theorem Combining.refl (s : State) : Combining s s := ⟨_, _, _, _, _, rfl⟩

theorem Combining.trans {a b c : State} (h : Combining a b) (k : Combining b c) : Combining a c := by
  obtain ⟨_, _, _, _, _, rfl⟩ := h
  obtain ⟨_, _, _, _, _, rfl⟩ := k
  exact ⟨_, _, _, _, _, rfl⟩

theorem Combining.ite {s a b : State} {c : Prop} [Decidable c] (ha : Combining s a) (hb : Combining s b) :
    Combining s (if c then a else b) := by
  split
  · exact ha
  · exact hb

theorem Combining.foldl {α : Type} {f : State → α → State} (hf : ∀ s x, Combining s (f s x)) (l : List α) (s : State) :
    Combining s (l.foldl f s) :=
  List.foldlRecOn l f (.refl s) fun u h x _ => h.trans (hf u x)

theorem MemOnly.combining {s u : State} (h : MemOnly s u) : Combining s u := by
  obtain ⟨m, rfl⟩ := h
  exact ⟨_, m, _, _, _, rfl⟩

theorem updCluster_combining (c : Nat) (f : Cluster → Cluster) (s : State) : Combining s (s.updCluster c f) := ⟨_, _, _, _, _, rfl⟩

theorem noteWrite_combining (queue d n : Nat) (key : Option Nat) (s : State) : Combining s (noteWrite queue d n key s) := by
  unfold noteWrite
  refine Combining.trans ?_ (updChan_memOnly _ _ _).combining
  split
  · exact ⟨_, _, _, _, _, rfl⟩
  · exact .refl s

theorem ctxWrite_combining (cluster queue ctx a : Nat) (key : Option Nat) (bs : List Byte) (poison : Bool) (s : State) :
    Combining s (ctxWrite cluster queue ctx a key bs poison s) := by
  unfold ctxWrite
  generalize bs.length / 64 + 2 = n
  induction n generalizing a bs s with
  | zero => exact .refl s
  | succ n ih =>
    refine .ite (.refl s) (Combining.trans ?_ (ih _ _ _))
    split
    · exact (devWrite_memOnly _ _ _ s).combining.trans (noteWrite_combining _ _ _ _ _)
    · exact updCluster_combining _ _ s

theorem seeCtx_combining (cluster queue ctx a n : Nat) (s : State) : Combining s (seeCtx cluster queue ctx a n s) := by
  unfold seeCtx
  generalize n / 256 + 2 = k
  induction k generalizing a n s with
  | zero => exact .refl s
  | succ k ih =>
    refine .ite (.refl s) (Combining.trans ?_ (ih _ _ _))
    split
    · exact (updChan_memOnly _ _ s).combining
    · exact updCluster_combining _ _ s

theorem combineRows_combining (cluster key : Nat) (e : Combine) (k r : Nat) (s : State) :
    Combining s (combineRows cluster key e k r s).2 := by
  induction k generalizing r s with
  | zero => exact .refl s
  | succ k ih =>
    have seen : Combining s ((List.range e.members).foldl (fun u j =>
        seeCtx cluster (s.partitionOf cluster) e.context (e.rowAddr j r) (64 * e.width16) u) s) :=
      .foldl (fun u j => seeCtx_combining _ _ _ _ _ u) _ s
    exact ((seen.trans (updCluster_combining _ _ _)).trans (ctxWrite_combining _ _ _ _ _ _ _ _)).trans (ih _ _)

theorem raiseOnce_combining (code unit pid : Nat) (s : State) : Combining s (raiseOnce code unit pid s) := by
  have raised (u : State) : Combining u (raiseFor code unit pid u) := by
    unfold raiseFor
    split <;> exact ⟨_, _, _, _, _, rfl⟩
  unfold raiseOnce
  split
  · exact .ite (.refl s) (Combining.trans ⟨_, _, _, _, _, rfl⟩ (raised _))
  · exact .refl s

theorem reportFlags_combining (cluster pid w : Nat) (s : State) : Combining s (reportFlags cluster pid w s) := by
  have noted (u : State) (c : Bool) (code : Nat) : Combining u (if c then raiseOnce code cluster pid u else u) :=
    .ite (raiseOnce_combining _ _ _ u) (.refl u)
  exact ((updCluster_combining _ _ s).trans (Combining.trans ⟨_, _, _, _, _, rfl⟩ (noted _ _ _))).trans (noted _ _ _)

/-! ### Slices that land (R180) -/

/-- A slice's bytes go to the tile's SRAM, in one run where they do not wrap. -/
theorem sramWrite_sram (t a : Nat) (bs : List Byte) (s : State) (h : a + bs.length ≤ 0x40000) :
    (State.sramWrite t a bs s).tiles.sram = writeBytes 0#8 s.tiles.sram (t * 0x40000 + a) bs := by
  induction bs generalizing a s with
  | nil => rfl
  | cons b r ih =>
    simp only [List.length_cons] at h
    have key : sramKey t a = t * 0x40000 + a := by rw [sramKey, Nat.mod_eq_of_lt (by omega)]
    rw [State.sramWrite, ih (a + 1) _ (by omega), writeBytes, State.sramPut, key, Nat.add_assoc]

/-- SRAM and its poison change, and nothing else. -/
def SramOnly (s u : State) : Prop := ∃ m p, u = { s with tiles := { s.tiles with sram := m, poison := p } }

theorem SramOnly.refl (s : State) : SramOnly s s := ⟨_, _, rfl⟩

theorem SramOnly.trans {a b c : State} (h : SramOnly a b) (k : SramOnly b c) : SramOnly a c := by
  obtain ⟨_, _, rfl⟩ := h
  obtain ⟨_, _, rfl⟩ := k
  exact ⟨_, _, rfl⟩

theorem SramOnly.foldl {α : Type} {f : State → α → State} (hf : ∀ s x, SramOnly s (f s x)) (l : List α) (s : State) :
    SramOnly s (l.foldl f s) :=
  List.foldlRecOn l f (.refl s) fun u h x _ => h.trans (hf u x)

theorem sramWrite_only (t a : Nat) (bs : List Byte) (s : State) : SramOnly s (State.sramWrite t a bs s) := by
  induction bs generalizing a s with
  | nil => exact .refl s
  | cons b r ih => exact SramOnly.trans ⟨_, _, rfl⟩ (ih (a + 1) _)

theorem landSlice_only (t a : Nat) (x : List Byte × List Bool) (s : State) : SramOnly s (landSlice t a x s) :=
  (sramWrite_only t a x.1 s).trans (.foldl (fun _ _ => ⟨_, _, rfl⟩) _ _)

theorem landSlice_sram (t a : Nat) (x : List Byte × List Bool) (s : State) (h : a + x.1.length ≤ 0x40000) :
    (landSlice t a x s).tiles.sram = writeBytes 0#8 s.tiles.sram (t * 0x40000 + a) x.1 := by
  rw [← sramWrite_sram t a x.1 s h]
  exact List.foldlRecOn (motive := fun u : State => u.tiles.sram = (State.sramWrite t a x.1 s).tiles.sram) _ _ rfl fun u hu _ _ => hu

/-- Slices of `len` bytes that go to different tiles each stand at their own one, and no other byte changes. -/
theorem landSlices_sram {size len a : Nat} (T : Nat → Nat) (hT : ∀ i j, i < size → j < size → T i = T j → i = j)
    (x : Nat → List Byte × List Bool) (hx : ∀ i, i < size → (x i).1.length = len) (ha : a + len ≤ 0x40000) {s : State}
    (hw : cellsWf 0#8 s.tiles.sram = true) (n : Nat) (hn : n ≤ size) :
    let u := (List.range n).foldl (fun s i => landSlice (T i) a (x i) s) s
    cellsWf 0#8 u.tiles.sram = true ∧
      (∀ i, i < n → ∀ k, k < len → cellGet 0#8 u.tiles.sram (T i * 0x40000 + (a + k)) = (x i).1.getD k 0) ∧
      ∀ y, (∀ i, i < n → y < T i * 0x40000 + a ∨ T i * 0x40000 + a + len ≤ y) →
        cellGet 0#8 u.tiles.sram y = cellGet 0#8 s.tiles.sram y := by
  induction n with
  | zero => exact ⟨hw, fun i hi => absurd hi (Nat.not_lt_zero i), fun _ _ => rfl⟩
  | succ n ih =>
    obtain ⟨wf, read, other⟩ := ih (by omega)
    have hlen := hx n (by omega)
    dsimp only
    rw [List.range_succ, List.foldl_append, List.foldl_cons, List.foldl_nil, landSlice_sram _ _ _ _ (by omega)]
    generalize (List.range n).foldl (fun s i => landSlice (T i) a (x i) s) s = u at wf read other ⊢
    refine ⟨cellsWf_writeBytes _ _ wf, fun i hi k hk => ?_, fun y hy => ?_⟩
    · by_cases hin : i = n
      · rw [hin, ← Nat.add_assoc]
        exact cellGet_writeBytes _ _ wf (by omega)
      · have hne : T i ≠ T n := fun h => hin (hT i n (by omega) (by omega) h)
        rw [cellGet_writeBytes_other]
        · exact read i (by omega) k hk
        · rw [hlen]
          rcases Nat.lt_or_gt_of_ne hne with h | h <;> omega
    · rw [cellGet_writeBytes_other]
      · exact other y fun i hi => hy i (by omega)
      · rw [hlen]
        exact hy n (by omega)

theorem nextMember_injective {size : Nat} (tile i j : Nat) (hi : i < size) (hj : j < size)
    (h : tile + (i + 1) % size = tile + (j + 1) % size) : i = j := by
  have wrap (k : Nat) (hk : k < size) : (k + 1) % size = if k + 1 = size then 0 else k + 1 := by
    split
    next he => rw [he, Nat.mod_self]
    next he => exact Nat.mod_eq_of_lt (by omega)
  have hmod : (i + 1) % size = (j + 1) % size := Nat.add_left_cancel h
  rw [wrap i hi, wrap j hj] at hmod
  split at hmod <;> split at hmod <;> omega

/-- Settles O41. -/
theorem combinesAndRotations : Obligations.CombinesAndRotations := by
  unfold Obligations.CombinesAndRotations
  intro t cluster slot s a hc
  have sync : a.sync = s.sync := State.advance_sync ..
  refine ⟨fun d e hidle hdue hcomb => ?combine, fun e he hw => ?pending, fun e hslot hin he hw hdev hkind => ?doneAction,
    fun r hwf hslot hr hsize harea hended => ?rotation, fun r hr hended => ?waits⟩
  case combine =>
    have idle : (a.sync.combining.any fun k => k / 8 = cluster) = false := by
      rw [sync]
      simpa using hidle
    have run : doMarverCombine cluster a = (let r := combineRows cluster d.2 e e.rows 0 { a with sync := { a.sync with
          due := s.sync.due.erase d, combining := s.sync.combining ++ [d.2] } }
        if r.1 = 0 then r.2 else reportFlags cluster e.parcel r.1 r.2) := by
      unfold doMarverCombine
      rw [if_neg (by simp [hc, idle])]
      rw [sync]
      simp only [hdue, hcomb]
    refine ⟨_, congrArg Host.Outcome.next run, ?_, rfl⟩
    have rows := combineRows_combining cluster d.2 e e.rows 0 { a with sync := { a.sync with
      due := s.sync.due.erase d, combining := s.sync.combining ++ [d.2] } }
    have done : Combining _ _ := rows.trans (.ite (c := (combineRows cluster d.2 e e.rows 0 { a with sync := { a.sync with
      due := s.sync.due.erase d, combining := s.sync.combining ++ [d.2] } }).1 = 0) (.refl _) (reportFlags_combining cluster e.parcel
        (combineRows cluster d.2 e e.rows 0 { a with sync := { a.sync with
          due := s.sync.due.erase d, combining := s.sync.combining ++ [d.2] } }).1 _))
    obtain ⟨c, m, p, f, x, hdone⟩ := done
    dsimp only
    rw [hdone]
  case pending =>
    refine congrArg Host.Outcome.next (if_pos ?_ : doDoneAction cluster slot a = a)
    simp [sync, he, hw]
  case doneAction =>
    refine congrArg Host.Outcome.next (?_ : doDoneAction cluster slot a = _)
    unfold doDoneAction
    dsimp only
    have hin' : cluster * 8 + slot ∈ s.sync.combining := by simpa using hin
    rw [if_neg (by simp [sync, hc, hslot, hin', he, hw]), sync]
    simp only [he]
    rw [if_neg (by simp [hkind]), sendSync]
    refine (if_pos hdev).trans ?_
    have tiles : a.tiles = s.tiles := State.advance_tiles ..
    simp [State.updCluster, tiles, State.cluster, tupd, bump_eq]
  case rotation =>
    intro tile src dst
    set x : Nat → List Byte × List Bool := fun i => (a.slices tile r.next r).getD i ([], []) with hx
    set b := (List.range r.size).foldl (fun u i => landSlice (tile + (i + 1) % r.size) dst (x i) u) a with hb
    obtain ⟨m, p, hframe⟩ : SramOnly a b := .foldl (fun u i => landSlice_only _ _ _ u) _ a
    have run : doRotation cluster slot a = pumpTiles ((List.range r.size).map fun i => tile + i)
        (({ b with sync := { b.sync with rings := tset b.sync.rings (cluster * 8 + slot) { r with landed := r.next } } } :
          State).updCluster cluster fun c => { c with rotations := bump c.rotations }) := by
      unfold doRotation
      rw [if_neg (by simp [hc]; omega), sync]
      simp only [hr]
      rw [if_neg (by simpa using hended)]
    have half : dst + r.sliceBytes ≤ 0x40000 := by
      have : r.next % 2 * r.sliceBytes ≤ 1 * r.sliceBytes := Nat.mul_le_mul_right _ (by omega)
      omega
    have half' : src + r.sliceBytes ≤ 0x40000 := by
      have : (r.next - 1) % 2 * r.sliceBytes ≤ 1 * r.sliceBytes := Nat.mul_le_mul_right _ (by omega)
      omega
    have slice (i : Nat) (hi : i < r.size) : (x i).1 = a.sramBytes (tile + i) src r.sliceBytes := by
      simp [hx, State.slices, hi, src]
    obtain ⟨-, read, other⟩ := landSlices_sram (size := r.size) (len := r.sliceBytes) (a := dst) (s := a)
      (fun i => tile + (i + 1) % r.size) (nextMember_injective tile) x
      (fun i hi => by rw [slice i hi]; simp [State.sramBytes]) half
      (by rw [State.advance_tiles]; exact (Bool.and_eq_true_iff.mp (Bool.and_eq_true_iff.mp hwf).1).2) r.size le_rfl
    rw [← hb] at read other
    have sram (n y : Nat) : s.sramByte n y = cellGet 0#8 a.tiles.sram (sramKey n y) := by
      rw [State.sramByte, ← State.advance_tiles s t]
    refine ⟨_, congrArg Host.Outcome.next run, ?_, ?_, fun i hi k hk => ?_, fun n y hy => ?_⟩
    · rw [hframe]
      simp [State.updCluster, sync]
    · have clusters : b.tiles.clusters = s.tiles.clusters := by
        rw [hframe, ← State.advance_tiles s t]
      simp [State.cluster, State.updCluster, clusters, bump_eq]
    · have inside : dst + k < 0x40000 := by omega
      refine (congrArg (cellGet 0#8 b.tiles.sram) ?_).trans ((read i hi k hk).trans ?_)
      · rw [sramKey, Nat.mod_eq_of_lt inside]
      · rw [slice i hi, sram, State.sramBytes, List.getD_eq_getElem _ _ (by simpa using hk), List.getElem_map, List.getElem_range]
        rfl
    · rw [sram]
      refine other (sramKey n y) fun i hi => ?_
      have hlt : (i + 1) % r.size < r.size := Nat.mod_lt _ (by omega)
      have low : y % 0x40000 < 0x40000 := Nat.mod_lt _ (by decide)
      rw [sramKey]
      generalize (i + 1) % r.size = j at hlt ⊢
      generalize y % 0x40000 = z at low hy ⊢
      rcases hy with h | h | h | h
      · left
        omega
      · right
        omega
      · rcases Nat.lt_or_ge (tile + j) n with hn | hn <;> omega
      · rcases Nat.lt_or_ge n (tile + j) with hn | hn <;> omega
  case waits =>
    refine congrArg Host.Outcome.next (?_ : doRotation cluster slot a = a)
    unfold doRotation
    rw [sync]
    split
    · rfl
    · simp only [hr]
      refine if_pos ?_
      obtain ⟨n, hn, hlt⟩ := hended
      simpa using ⟨n, hn, hlt⟩

end Sys2Proof.Machine

/-! PROOFS. Rows of the feature store: where a row is served from, and where it lands. -/

namespace Sys2Proof.Machine

/-! ### Re-reads and deliveries (R220, R228, R229) -/

theorem satAdd_32 (a k : Nat) : satAdd 32 a k = min (a + k) 4294967295 := rfl

theorem satAdd_64 (a k : Nat) : satAdd 64 a k = min (a + k) 18446744073709551615 := rfl

/-- Rows counted as served, here and for other parts. -/
def State.countServed (s : State) (far : Bool) : State := { s with fs := { s.fs with
  served := min (s.fs.served + 1) 18446744073709551615
  remote := if far then min (s.fs.remote + 1) 18446744073709551615 else s.fs.remote } }

theorem noteRereads_of_passed {q : RowReq} {ats : List RowAttempt} {s : State} (h : s.failedPasses ats < 4) :
    noteRereads q ats s = (false, { s with fs := { s.fs with
      rereads := min (s.fs.rereads + min (s.failedPasses ats) 3) 4294967295 } }) := by
  unfold noteRereads
  dsimp only
  rw [if_neg (by omega)]
  rfl

theorem noteRereads_of_torn {q : RowReq} {ats : List RowAttempt} {s : State} (h : s.failedPasses ats = 4) :
    noteRereads q ats s = (true, noteTorn q { s with fs := { s.fs with
      rereads := min (s.fs.rereads + 3) 4294967295, torn := bump s.fs.torn } }) := by
  unfold noteRereads
  dsimp only
  rw [if_pos h, h]
  rfl

theorem deliverRow_eq (n : Nat) (r : RowResp) (s : State) :
    deliverRow n r s = { s with fs := { s.fs with
      served := min (s.fs.served + 1) 18446744073709551615
      remote := if r.req.whom.remote then min (s.fs.remote + 1) 18446744073709551615 else s.fs.remote
      shards := tset s.fs.shards n { s.shard n with
        live := min ((s.shard n).live + 1) 4294967295, hot := hotCount r.req.row r.req.whom (s.shard n).hot }
      resps := s.fs.resps ++ [r] } } := rfl

/-- A fault told once for a parcel changes the parcels and the event log (R349). -/
theorem raiseOnce_frame (code unit pid : Nat) (s : State) : ∃ p f, raiseOnce code unit pid s = { s with part := p, flt := f } := by
  have raised (u : State) : ∃ p f, raiseFor code unit pid u = { u with part := p, flt := f } := by
    unfold raiseFor
    split <;> exact ⟨_, _, rfl⟩
  unfold raiseOnce
  split
  · split
    · exact ⟨_, _, rfl⟩
    · exact raised _
  · exact ⟨_, _, rfl⟩

theorem raiseRow_frame (code : Nat) (q : RowReq) (s : State) : ∃ p f, raiseRow code q s = { s with part := p, flt := f } := by
  refine List.foldlRecOn (motive := fun u => ∃ p f, u = { s with part := p, flt := f }) _ _ ⟨s.part, s.flt, rfl⟩ fun u hu pid _ => ?_
  obtain ⟨p, f, rfl⟩ := hu
  obtain ⟨p', f', h⟩ := raiseOnce_frame code q.table pid { s with part := p, flt := f }
  exact ⟨p', f', h⟩

/-- The requests for a row's sectors go to the queues of their channel (R246). -/
theorem askSectors_frame (c off n id queue : Nat) (s : State) :
    ∃ ch : Tab Chan, askSectors c off n id queue s = { s with mem := { s.mem with chans := ch } } := by
  refine List.foldlRecOn (motive := fun u => ∃ ch : Tab Chan, u = { s with mem := { s.mem with chans := ch } }) _ _ ⟨s.mem.chans, rfl⟩
    fun u hu p _ => ?_
  obtain ⟨ch, rfl⟩ := hu
  exact ⟨_, rfl⟩

/-! ### Where a row is served -/

/-- The replica of a row in its cluster's cache, or in the device area (R218). -/
def State.heldReplica (s : State) (q : RowReq) (cc : Bool) : Option Replica :=
  s.fs.replicas.find? fun r => r.table = q.table && r.row = q.row && r.cc == cc

theorem doRowRequest_of_clocked {i : Nat} {ats : List RowAttempt} {q : RowReq} {s : State} (hc : s.clocked = true)
    (hq : s.fs.reqs[i]? = some q) :
    doRowRequest i ats s = if q.whom.remote then serveRow q ats { s with fs := { s.fs with reqs := dropAt s.fs.reqs i } }
      else serveTile q ats { s with fs := { s.fs with reqs := dropAt s.fs.reqs i } } := by
  unfold doRowRequest
  simp only [hq]
  rw [if_neg (by simp [hc])]

theorem serveTile_of_replica {q : RowReq} {ats : List RowAttempt} {s : State} {r : Replica}
    (h : ((s.heldReplica q true).orElse fun _ => s.heldReplica q false) = some r) :
    serveTile q ats s = serveReplica q r ats s := by
  unfold State.heldReplica at h
  unfold serveTile
  dsimp only
  rw [h]

theorem serveTile_of_none {q : RowReq} {ats : List RowAttempt} {s : State} {ft : FsTable} (h₁ : s.heldReplica q true = none)
    (h₂ : s.heldReplica q false = none) (ht : s.im.table q.table = some ft) :
    serveTile q ats s = if (ft.home q.row).1 = s.deviceId then serveRow q ats s
      else if !s.admitted (ft.home q.row).1 then pushResp (poisonResp q 0) (noteUnreachable q s)
      else askHome q (ft.home q.row).1 s := by
  unfold State.heldReplica at h₁ h₂
  unfold serveTile
  dsimp only
  rw [h₁, h₂, ht]
  rfl

/-- A row at its home: poisoned on a channel held out of service, unresolved where its entry is not valid, else from its live slot. -/
theorem serveRow_of_table {q : RowReq} {ats : List RowAttempt} {s : State} {ft : FsTable} (ht : s.im.table q.table = some ft) :
    serveRow q ats s =
      let k := s.homeKey ft q.row
      let m := s.rowMap k.1 k.2
      if !s.inService (shardChan k.1) then deliverRow k.1 (poisonResp q 0) s
      else if !m.valid then pushResp (poisonResp q 1) (noteUnresolved q s)
      else
        let n := s.firstShard ft.id + m.shard
        let x := noteRereads q ats s
        if x.1 then deliverRow n (poisonResp q 2) x.2
        else
          let off := x.2.slotOff n m.cell (flag m.ver)
          askSectors (shardChan n) off q.bytes (x.2.fs.nextRow + 1) (x.2.rowQueue q.whom)
            (deliverRow n
              { req := q, bytes := x.2.chanRead (shardChan n) off q.bytes, id := x.2.fs.nextRow + 1
                pending := (pieces 64 (q.bytes / 64 + 2) off 0 q.bytes).length }
              { x.2 with fs := { x.2.fs with nextRow := x.2.fs.nextRow + 1 } }) := by
  unfold serveRow
  rw [ht]

/-! ### Where a row lands -/

theorem landBytes_only (t dst : Nat) (bs : List (Byte × Bool)) (s : State) : SramOnly s (landBytes t dst bs s) := by
  refine (sramWrite_only t dst _ s).trans (.foldl (fun u i => ?_) _ _)
  split
  · exact ⟨_, _, rfl⟩
  · exact .refl u

theorem landBytes_sram (t dst : Nat) (bs : List (Byte × Bool)) (s : State) :
    (landBytes t dst bs s).tiles.sram = (State.sramWrite t dst (bs.map Prod.fst) s).tiles.sram := by
  refine List.foldlRecOn (motive := fun u : State => u.tiles.sram = (State.sramWrite t dst (bs.map Prod.fst) s).tiles.sram) _ _ rfl
    fun u hu i _ => ?_
  split
  · exact hu
  · exact hu

/-- The key of a byte of SRAM tells the tile and the place in it. -/
theorem sramKey_inj {t a x y : Nat} (h : sramKey x y = sramKey t a) : x = t ∧ y % 0x40000 = a % 0x40000 := by
  have ha : a % 0x40000 < 0x40000 := Nat.mod_lt _ (by decide)
  have hy : y % 0x40000 < 0x40000 := Nat.mod_lt _ (by decide)
  unfold sramKey at h
  omega

/-- A run written to SRAM, wrapping at the end of the tile's 256 KiB, reads back; no other byte changes. -/
theorem sramWrite_spec (t a : Nat) (bs : List Byte) {s : State} (hw : cellsWf 0#8 s.tiles.sram = true) (hl : bs.length ≤ 0x40000) :
    (∀ j, j < bs.length → (State.sramWrite t a bs s).sramByte t (a + j) = bs.getD j 0) ∧
      ∀ x y, (x ≠ t ∨ ∀ j, j < bs.length → y % 0x40000 ≠ (a + j) % 0x40000) →
        (State.sramWrite t a bs s).sramByte x y = s.sramByte x y := by
  induction bs generalizing a s with
  | nil => exact ⟨fun j hj => absurd hj (Nat.not_lt_zero j), fun _ _ _ => rfl⟩
  | cons b r ih =>
    simp only [List.length_cons] at hl ⊢
    obtain ⟨read, other⟩ := ih (a + 1) (s := State.sramPut t a b s) (cellsWf_cellSet _ _ hw) (by omega)
    refine ⟨fun j hj => ?_, fun x y h => ?_⟩
    · cases j with
      | zero =>
        rw [Nat.add_zero, State.sramWrite, other t a (.inr fun j hj => by omega)]
        exact cellGet_cellSet _ _ hw
      | succ j =>
        rw [State.sramWrite, show a + (j + 1) = a + 1 + j by omega, read j (by omega)]
        rfl
    · rw [State.sramWrite, other x y]
      · refine cellGet_cellSet_other _ _ _ fun hk => ?_
        obtain ⟨rfl, hy⟩ := sramKey_inj hk
        rcases h with h | h
        · exact h rfl
        · exact h 0 (by omega) hy
      · rcases h with h | h
        · exact .inl h
        · refine .inr fun j hj => ?_
          rw [show a + 1 + j = a + (j + 1) by omega]
          exact h (j + 1) (by omega)

/-- Settles O42. -/
theorem rowsServed : Obligations.RowsServed := by
  unfold Obligations.RowsServed
  intro t i s a hc
  have fs : s.fs = a.fs := (State.advance_fs ..).symm
  have shard (j : Nat) : s.shard j = a.shard j := by rw [State.shard, fs]; rfl
  rw [fs]
  refine ⟨fun q ats hq => ?request, fun r hr => ?response, fun tag q hq => ?unreachable⟩
  case request =>
    intro b held
    have run : exec (.rowRequest t i ats) s = .next (if q.whom.remote then serveRow q ats b else serveTile q ats b) :=
      congrArg Host.Outcome.next (doRowRequest_of_clocked hc hq)
    rw [run]
    have passes : b.failedPasses ats = a.failedPasses ats := rfl
    refine ⟨fun r hl hr hp => ?_, fun ft ht hl h₁ h₂ hne => ?_, fun ft ht how => ?_⟩
    · rw [if_neg (by simp [hl]), serveTile_of_replica (s := b) hr, serveReplica, noteRereads_of_passed (by exact hp)]
      rfl
    · rw [if_neg (by simp [hl]), serveTile_of_none (s := b) h₁ h₂ ht, if_neg (by exact hne)]
      have member : b.admitted (ft.home q.row).1 = a.admitted (ft.home q.row).1 := rfl
      rw [member]
      by_cases had : a.admitted (ft.home q.row).1 = true
      · rw [if_pos had, if_neg (by simpa using had)]
      · rw [if_neg had, if_pos (by simpa using had)]
    · have here : (if q.whom.remote then serveRow q ats b else serveTile q ats b) = serveRow q ats b := by
        rcases how with h | ⟨h₁, h₂, hh⟩
        · rw [if_pos h]
        · split
          · rfl
          · rw [serveTile_of_none (s := b) h₁ h₂ ht, if_pos (by exact hh)]
      intro k m n far count
      have home : serveRow q ats b =
          if !a.inService (shardChan k.1) then deliverRow k.1 (poisonResp q 0) b
          else if !m.valid then pushResp (poisonResp q 1) (noteUnresolved q b)
          else
            let x := noteRereads q ats b
            if x.1 then deliverRow n (poisonResp q 2) x.2
            else
              let off := x.2.slotOff n m.cell (flag m.ver)
              askSectors (shardChan n) off q.bytes (x.2.fs.nextRow + 1) (x.2.rowQueue q.whom)
                (deliverRow n
                  { req := q, bytes := x.2.chanRead (shardChan n) off q.bytes, id := x.2.fs.nextRow + 1
                    pending := (pieces 64 (q.bytes / 64 + 2) off 0 q.bytes).length }
                  { x.2 with fs := { x.2.fs with nextRow := x.2.fs.nextRow + 1 } }) :=
        serveRow_of_table (s := b) ht
      rw [here, home]
      refine ⟨fun hon => ?_, fun hon hv => ?_, fun hon hv hp => ?_, fun hon hv hp => ?_⟩
      · rw [if_pos (by simp [hon]), deliverRow_eq]
        simp only [count, shard]
        rfl
      · rw [if_neg (by simp [hon]), if_pos (by simp [hv])]
      · intro off r e
        rw [if_neg (by simp [hon]), if_neg (by simp [hv])]
        dsimp only
        rw [noteRereads_of_passed (by exact hp)]
        obtain ⟨ch, hch⟩ := askSectors_frame (shardChan n) off q.bytes (a.fs.nextRow + 1) (a.rowQueue q.whom) e
        have served : askSectors (shardChan n) off q.bytes (a.fs.nextRow + 1) (a.rowQueue q.whom) e =
            { e with mem := { e.mem with
              chans := (askSectors (shardChan n) off q.bytes (a.fs.nextRow + 1) (a.rowQueue q.whom) e).mem.chans } } := by
          rw [hch]
        refine ⟨_, congrArg Host.Outcome.next ?_, rfl, served⟩
        rw [if_neg (by simp), deliverRow_eq]
        simp only [e, r, count, shard]
        rfl
      · rw [if_neg (by simp [hon]), if_neg (by simp [hv])]
        dsimp only
        rw [noteRereads_of_torn (by exact hp)]
        obtain ⟨p, f, htorn⟩ := raiseRow_frame 0x7002 q { b with fs := { b.fs with
          rereads := min (b.fs.rereads + 3) 4294967295, torn := bump b.fs.torn, stTorn := true } }
        refine ⟨_, rfl, ?_⟩
        rw [if_pos rfl, deliverRow_eq, noteTorn]
        dsimp only
        rw [htorn]
        exact ⟨rfl, rfl, rfl, rfl⟩
  case response =>
    intro b
    have run : exec (.rowResponse t i) s = .next (doRowResponse i a) := rfl
    have done (hp : r.pending = 0) : doRowResponse i a = if r.req.whom.remote then returnRow r b
        else settleTiles ((r.req.whom :: r.req.also).foldl (landAt r) b) := by
      unfold doRowResponse
      simp only [hr]
      rw [if_neg (by simp [hc, hp])]
    rw [run]
    refine ⟨fun hp => ?_, fun hp hrem => ?_, fun p hp hw halso hpart => ?_⟩
    · refine congrArg Host.Outcome.next ?_
      unfold doRowResponse
      simp only [hr]
      exact if_pos (by simp [hp])
    · rw [done hp, if_pos hrem]
    · have landed : doRowResponse i a = settleTiles (landRow p r.bytes b) := by
        rw [done hp, hw, halso, if_neg (by simp [RowFor.remote])]
        simp [landAt, hpart]
      rw [landed]
      have lives : b.lives p = a.lives p := rfl
      rw [landRow, lives]
      refine ⟨fun hl => ?_, fun hl hlen hwf => ?_⟩
      · rw [if_pos (by simp [hl])]
      · rw [if_neg (by simp [hl])]
        set c := b.updTask p.tile p.slot fun k => { k with composed := k.composed.filter fun x => x.1 ≠ p.place } with hc'
        have sram (x y : Nat) : s.sramByte x y = c.sramByte x y := by
          rw [State.sramByte, ← State.advance_tiles s t]
          rfl
        have wf : cellsWf 0#8 c.tiles.sram = true := by
          have h : cellsWf 0#8 s.tiles.sram = true := (Bool.and_eq_true_iff.mp (Bool.and_eq_true_iff.mp hwf).1).2
          rwa [← State.advance_tiles s t] at h
        obtain ⟨read, other⟩ := sramWrite_spec p.tile p.place (r.bytes.map Prod.fst) wf (by simpa using hlen)
        have bytes (x y : Nat) : (landBytes p.tile p.place r.bytes c).sramByte x y =
            (State.sramWrite p.tile p.place (r.bytes.map Prod.fst) c).sramByte x y := by
          rw [State.sramByte, landBytes_sram]
          rfl
        obtain ⟨m, q, hframe⟩ := landBytes_only p.tile p.place r.bytes c
        refine ⟨_, rfl, ?_, fun j hj => ?_, fun x y h => ?_⟩
        · rw [hframe]
          rfl
        · rw [bytes, read j (by simpa using hj)]
          simp [hj]
        · rw [bytes, sram]
          exact other x y (by simpa using h)
  case unreachable =>
    have run : exec (.rowHomeUnreachable t tag) s = .next (doRowHomeUnreachable tag a) := rfl
    rw [run]
    refine ⟨fun hx => ?_, fun hx => ?_⟩
    · refine congrArg Host.Outcome.next ?_
      unfold doRowHomeUnreachable
      simp only [hq]
      exact if_neg (by simp [hc, hx])
    · refine congrArg Host.Outcome.next ?_
      unfold doRowHomeUnreachable
      simp only [hq]
      exact if_pos (by simp [hx])

end Sys2Proof.Machine

/-! PROOFS. Letter entries change rows: the entry change, the refusal, and what settles. -/

namespace Sys2Proof.Machine

theorem chanWriteSectors_memOnly (c n off : Nat) (bs : List (Byte × Bool)) (s : State) :
    MemOnly s (chanWriteSectors c n off bs s) := by
  induction n generalizing off bs s with
  | zero => exact .refl s
  | succ n ih =>
    refine .ite (.refl s) (MemOnly.trans ?_ (ih _ _ _))
    exact (wcbWrite_memOnly _ _ _ _ s).trans (updChan_memOnly _ _ _)

theorem writeSlot_memOnly (n cell ver : Nat) (bs : List (Byte × Bool)) (s : State) : MemOnly s (writeSlot n cell ver bs s) :=
  chanWriteSectors_memOnly _ _ _ _ s

/-- The entry `e` has been applied from state `s`: the entry of its row in the row map is `m`, it is counted, and it is no longer
there; beside the feature store the letters may have changed. -/
structure Applied (e : Entry) (k : Nat × Nat) (m : RowMap) (s u : State) : Prop where
  frame : u = { s with fs := u.fs, part := u.part }
  rowMap : u.rowMap k.1 k.2 = m
  applied : u.fs.applied = min (s.fs.applied + 1) 4294967295
  entries : u.fs.entries = s.fs.entries.erase e

theorem Applied.frame_mem {e : Entry} {k : Nat × Nat} {m : RowMap} {a s u : State} (h : Applied e k m s u)
    (hs : s = { a with fs := s.fs, mem := s.mem }) : u = { a with fs := u.fs, part := u.part, mem := u.mem } := by
  rw [h.frame, hs]

/-- An entry of this part that is not refused counts as applied (R226). -/
theorem endEntry_of_applied {e : Entry} (ho : e.origin = none) (hs : e.stage ≠ 2) (s : State) :
    endEntry e false s = { s with
      fs := { s.fs with entries := s.fs.entries.erase e, applied := min (s.fs.applied + 1) 4294967295 }
      part := { s.part with letters := s.part.letters.map fun l => if l.id = e.letter then { l with left := l.left - 1 } else l } } := by
  unfold endEntry
  simp only [ho, hs]
  rfl

theorem State.rowMap_setRowMap (n e : Nat) (m : RowMap) (s : State) : (s.setRowMap n e m).rowMap n e = m := by
  simp [State.rowMap, State.setRowMap]

theorem rowMap_changeEntry (n e : Nat) (m : RowMap) (s : State) : (changeEntry n e m s).rowMap n e = m := by
  simp [changeEntry, State.rowMap, State.setRowMap]

/-- Without replicas and holders the entry change follows at once (R226). -/
theorem invalidateFor_of_none {e : Entry} {s : State} (hr : s.fs.replicas = []) (hh : s.fs.holders = []) :
    invalidateFor e s = commitEntry e { s with fs := { s.fs with
      settles := s.fs.settles.map fun x => if x.waitsFor e.table e.row then { x with next := none } else x } } := by
  simp [invalidateFor, State.holdersOf, dropRow, hr, hh]

/-- What an entry makes of the entry of a live row (R225, R226). -/
def Entry.changed (e : Entry) (m : RowMap) : RowMap :=
  if e.unload then { m with valid := false, busy := false, replicated := false }
  else { m with ver := !m.ver, valid := true, busy := false, replicated := false }

/-- The entry of a row has been changed to `m`; the letter entry itself is still there. -/
structure Rewritten (k : Nat × Nat) (m : RowMap) (s v : State) : Prop where
  frame : v = { s with fs := v.fs }
  rowMap : v.rowMap k.1 k.2 = m
  applied : v.fs.applied = s.fs.applied
  entries : v.fs.entries = s.fs.entries

theorem Rewritten.endEntry {e : Entry} {k : Nat × Nat} {m : RowMap} {s v : State} (h : Rewritten k m s v) (ho : e.origin = none)
    (hs : e.stage ≠ 2) : Applied e k m s (endEntry e false v) := by
  rw [endEntry_of_applied ho hs]
  refine ⟨?_, h.rowMap, ?_, ?_⟩
  · rw [h.frame]
  · rw [← h.applied]
  · rw [← h.entries]

theorem settleCell_rewritten {k : Nat × Nat} {m : RowMap} {s v : State} (h : Rewritten k m s v) (n c : Nat) :
    Rewritten k m s (settleCell n c v) :=
  ⟨by rw [h.frame]; rfl, h.rowMap, h.applied, h.entries⟩

theorem changeEntry_rewritten (k : Nat × Nat) (m : RowMap) {s v : State} (h : v = { s with fs := v.fs })
    (ha : v.fs.applied = s.fs.applied) (he : v.fs.entries = s.fs.entries) : Rewritten k m s (changeEntry k.1 k.2 m v) := by
  refine ⟨?_, rowMap_changeEntry .., ha, he⟩
  rw [h]
  rfl

theorem commitEntry_spec {e : Entry} {ft : FsTable} {s : State} (ht : s.im.table e.table = some ft) (ho : e.origin = none)
    (hs : e.stage ≠ 2) :
    Applied e (s.homeKey ft e.row) (e.changed (s.rowMap (s.homeKey ft e.row).1 (s.homeKey ft e.row).2)) s (commitEntry e s) := by
  set k := s.homeKey ft e.row
  set m := s.rowMap k.1 k.2
  set w := stampWrite k.1 k.2 (setHolders ⟨e.table, e.row, [], [], 0⟩ s) with hw
  have written : w = { s with fs := w.fs } := rfl
  have changed (x : RowMap) : Rewritten k x s (changeEntry k.1 k.2 x w) := changeEntry_rewritten k x written rfl rfl
  have done : commitEntry e s = endEntry e false (if e.unload then
      if m.valid then settleCell ((changeEntry k.1 k.2 (e.changed m) w).firstShard ft.id + m.shard) m.cell
        (changeEntry k.1 k.2 (e.changed m) w)
      else changeEntry k.1 k.2 (e.changed m) w
    else changeEntry k.1 k.2 (e.changed m) w) := by
    unfold commitEntry
    simp only [ht]
    by_cases hu : e.unload = true
    · rw [if_pos hu, if_pos hu, Entry.changed, if_pos hu]
    · rw [if_neg hu, if_neg hu, Entry.changed, if_neg hu]
  rw [done]
  refine Rewritten.endEntry ?_ ho hs
  split
  · split
    · exact settleCell_rewritten (changed _) _ _
    · exact changed _
  · exact changed _

/-- Without replicas and holders the change of a live row's entry follows its write at once. -/
theorem invalidateFor_applied {e : Entry} {ft : FsTable} {s : State} (ht : s.im.table e.table = some ft) (ho : e.origin = none)
    (hs : e.stage ≠ 2) (hr : s.fs.replicas = []) (hh : s.fs.holders = []) :
    Applied e (s.homeKey ft e.row) (e.changed (s.rowMap (s.homeKey ft e.row).1 (s.homeKey ft e.row).2)) s (invalidateFor e s) := by
  rw [invalidateFor_of_none hr hh]
  obtain ⟨frame, rowMap, applied, entries⟩ := commitEntry_spec (e := e) (ft := ft) (s := { s with fs := { s.fs with
    settles := s.fs.settles.map fun x => if x.waitsFor e.table e.row then { x with next := none } else x } }) ht ho hs
  exact ⟨frame, rowMap, applied, entries⟩

/-- What the chosen entry says of itself: its table is known, its row waits for no answer, and its kind is the one asked for. -/
theorem State.entryAt_some {s : State} {i : Nat} {unload : Bool} {e : Entry} {ft : FsTable}
    (h : s.entryAt i unload = some (e, ft)) : s.im.table e.table = some ft ∧ e.stage ≠ 2 ∧ e.unload = unload := by
  unfold State.entryAt at h
  split at h
  · cases h
  · next x hx =>
    split at h
    · cases h
    · next y hy =>
      simp only [Option.ite_none_right_eq_some, Option.some.injEq, Prod.mk.injEq, Bool.and_eq_true, beq_iff_eq,
        Bool.or_eq_true, decide_eq_true_eq] at h
      obtain ⟨⟨⟨⟨-, hu⟩, -⟩, hstage⟩, rfl, rfl⟩ := h
      exact ⟨hy, by omega, hu⟩

/-- Settles O43. -/
theorem lettersApplied : Obligations.LettersApplied := by
  unfold Obligations.LettersApplied
  intro t i s a
  have fs : s.fs = a.fs := (State.advance_fs ..).symm
  have part : s.part = a.part := (State.advance_part ..).symm
  have shard (j : Nat) : s.shard j = a.shard j := by rw [State.shard, fs]; rfl
  rw [fs, part]
  refine ⟨fun e ft unload hat ho hr hh => ?entry, fun x hx => ?settle, fun l hl => ?letter⟩
  case entry =>
    intro c k m on
    obtain ⟨ht, hs, unloads⟩ := State.entryAt_some hat
    have write (h : unload = false) : exec c s = .next (doLetterWrite i a) := by
      simp only [c, h]
      rfl
    have unload' (h : unload = true) : exec c s = .next (doLetterUnload i a) := by
      simp only [c, h]
      rfl
    have applies {v : State} {m' : RowMap} (hv : v = { a with fs := v.fs, mem := v.mem })
        (hfs : v.fs.replicas = a.fs.replicas ∧ v.fs.holders = a.fs.holders ∧ v.fs.applied = a.fs.applied ∧
          v.fs.entries = a.fs.entries) (hm : v.rowMap k.1 k.2 = m') :
        Applied e k (e.changed m') v (invalidateFor e v) := by
      have hk : v.homeKey ft e.row = k := by rw [hv]; rfl
      have him : v.im.table e.table = some ft := by rw [hv]; exact ht
      have := invalidateFor_applied him ho hs (hfs.1.trans hr) (hfs.2.1.trans hh)
      rwa [hk, hm] at this
    refine ⟨fun hl how => ?_, fun how hon => ?_, fun hl hon hpast => ?_, fun hu hon hv hset cell hcell => ?_,
      fun hl hu hon hpast => ?_, fun hl hu hon hv hset => ?_⟩
    · cases unload with
      | true =>
        rw [unload' rfl, doLetterUnload]
        simp only [hat]
        exact congrArg _ (if_pos (by simp [hl]))
      | false =>
        obtain ⟨hon, hv⟩ : on = true ∧ m.valid = true := how.resolve_left (by decide)
        rw [write rfl, doLetterWrite]
        simp only [hat]
        exact congrArg _ ((if_neg (by simpa using hon)).trans ((if_pos (by simp [hl])).trans (if_pos hv)))
    · cases unload with
      | true =>
        obtain hl : ft.live = true := how.resolve_right (by decide)
        rw [unload' rfl, doLetterUnload]
        simp only [hat]
        exact congrArg _ ((if_neg (by simp [hl])).trans (if_pos (by simpa using hon)))
      | false =>
        rw [write rfl, doLetterWrite]
        simp only [hat]
        exact congrArg _ (if_pos (by simpa using hon))
    · cases unload with
      | true =>
        rw [unload' rfl, doLetterUnload]
        simp only [hat]
        exact congrArg _ ((if_neg (by simp [hl])).trans ((if_neg (by simpa using hon)).trans (if_pos (by simpa [fs] using hpast))))
      | false =>
        rw [write rfl, doLetterWrite]
        simp only [hat]
        exact congrArg _ ((if_neg (by simpa using hon)).trans ((if_neg (by simp [hl])).trans (if_pos (by simpa using hpast))))
    · subst hu
      by_cases hl : ft.live = true
      · set m' : RowMap := { m with cell := cell, shard := (ft.home e.row).2.1, busy := true }
        obtain ⟨w, hw⟩ := writeSlot_memOnly k.1 cell (flag (!m.ver)) e.bytes (takeCell k.1 cell (a.setRowMap k.1 k.2 m'))
        have run : exec c s = .next (invalidateFor e
            (writeSlot k.1 cell (flag (!m.ver)) e.bytes (takeCell k.1 cell (a.setRowMap k.1 k.2 m')))) := by
          rw [write rfl, doLetterWrite]
          simp only [hat]
          refine congrArg _ ((if_neg (by simpa using hon)).trans ((if_neg (by simp [hl])).trans
            ((if_neg (by simpa using hset hl)).trans ((if_neg (by simpa using hv)).trans ?_))))
          simp only [k] at hcell
          simp only [hcell]
          rfl
        rw [hw] at run
        have applied := applies (v := { takeCell k.1 cell (a.setRowMap k.1 k.2 m') with mem := w })
          rfl ⟨rfl, rfl, rfl, rfl⟩ (State.rowMap_setRowMap ..)
        refine ⟨_, run, applied.frame_mem rfl, ?_⟩
        rw [applied.rowMap, Entry.changed, if_neg (by simp [unloads]), if_pos hl]
        exact ⟨rfl, rfl, rfl, rfl, applied.applied, applied.entries⟩
      · set m' : RowMap := { cell := cell, shard := (ft.home e.row).2.1, ver := false, valid := true }
        obtain ⟨w, hw⟩ := writeSlot_memOnly k.1 cell 0 e.bytes (takeCell k.1 cell a)
        have run : exec c s = .next (endEntry e false
            (changeEntry k.1 k.2 m' (writeSlot k.1 cell 0 e.bytes (takeCell k.1 cell a)))) := by
          rw [write rfl, doLetterWrite]
          simp only [hat]
          refine congrArg _ ((if_neg (by simpa using hon)).trans ((if_pos (by simp [hl])).trans 
            ((if_neg (by simpa using hv)).trans ?_)))
          simp only [k] at hcell
          simp only [hcell]
          rfl
        rw [hw] at run
        have applied := Rewritten.endEntry (s := { takeCell k.1 cell a with mem := w })
          (v := changeEntry k.1 k.2 m' { takeCell k.1 cell a with mem := w }) (k := k) (m := m')
          ⟨rfl, rowMap_changeEntry .., rfl, rfl⟩ ho hs
        refine ⟨_, run, applied.frame_mem rfl, ?_⟩
        rw [applied.rowMap, if_neg hl]
        exact ⟨rfl, rfl, rfl, rfl, applied.applied, applied.entries⟩
    · subst hu
      have run : exec c s = .next (invalidateFor e (a.setRowMap k.1 k.2 { m with busy := true })) := by
        rw [unload' rfl, doLetterUnload]
        simp only [hat]
        exact congrArg _ ((if_neg (by simp [hl])).trans ((if_neg (by simpa using hon)).trans (if_neg (by simpa [fs] using hpast))))
      obtain ⟨frame, hrow, happ, hent⟩ := applies (v := a.setRowMap k.1 k.2 { m with busy := true })
        rfl ⟨rfl, rfl, rfl, rfl⟩ (State.rowMap_setRowMap ..)
      refine ⟨_, run, frame, hrow.trans ?_, happ, hent⟩
      rw [Entry.changed, if_pos unloads]
    · subst hu
      set m' : RowMap := { m with busy := true }
      obtain ⟨w, hw⟩ := writeSlot_memOnly (a.firstShard ft.id + m.shard) m.cell (flag (!m.ver)) e.bytes (a.setRowMap k.1 k.2 m')
      have run : exec c s = .next (invalidateFor e
          (writeSlot (a.firstShard ft.id + m.shard) m.cell (flag (!m.ver)) e.bytes (a.setRowMap k.1 k.2 m'))) := by
        rw [write rfl, doLetterWrite]
        simp only [hat]
        exact congrArg _ ((if_neg (by simpa using hon)).trans ((if_neg (by simp [hl])).trans
          ((if_neg (by simpa using hset)).trans (if_pos hv))))
      rw [hw] at run
      have applied := applies (v := { a.setRowMap k.1 k.2 m' with mem := w })
        rfl ⟨rfl, rfl, rfl, rfl⟩ (State.rowMap_setRowMap ..)
      refine ⟨_, run, applied.frame_mem rfl, applied.rowMap.trans ?_, applied.applied, applied.entries⟩
      rw [Entry.changed, if_neg (by simp [unloads])]
  case settle =>
    refine ⟨fun hd => ?_, fun hc hd hz => ?_, fun hc hd hz => ?_⟩ <;>
      refine congrArg Host.Outcome.next (?_ : doSettleExpiry i a = _) <;>
      unfold doSettleExpiry <;> simp only [hx]
    · exact if_pos (by simp [hd])
    · rw [if_neg (by simp [hc, hd]), if_pos hz, shard]
      rfl
    · rw [if_neg (by simp [hc, hd]), if_neg hz]
  case letter =>
    refine ⟨fun hz => ?_, fun hz => ?_⟩ <;> refine congrArg Host.Outcome.next (?_ : doLetterComplete i a = _) <;>
      unfold doLetterComplete <;> simp only [hl]
    · rw [if_neg (by simp [hz])]
      simp [a]
    · exact if_pos hz

end Sys2Proof.Machine

/-! PROOFS. Replicas, and the supervisor's review. -/

namespace Sys2Proof.Machine

/-! ### What a review may change -/

/-- Nothing but memory, the feature store, the fabric and the event log changes, and whether a review is due stays. -/
def Reviewing (s u : State) : Prop :=
  ∃ m f b l, u = { s with mem := m, fs := f, fab := b, flt := l } ∧ f.reviewDue = s.fs.reviewDue

theorem Reviewing.refl (s : State) : Reviewing s s := ⟨_, _, _, _, rfl, rfl⟩

theorem Reviewing.trans {a b c : State} (h : Reviewing a b) (k : Reviewing b c) : Reviewing a c := by
  obtain ⟨_, _, _, _, rfl, hdue⟩ := h
  obtain ⟨_, _, _, _, rfl, kdue⟩ := k
  exact ⟨_, _, _, _, rfl, kdue.trans hdue⟩

theorem Reviewing.ite {s a b : State} {c : Prop} [Decidable c] (ha : Reviewing s a) (hb : Reviewing s b) :
    Reviewing s (if c then a else b) := by
  split
  · exact ha
  · exact hb

theorem Reviewing.foldl {α : Type} {f : State → α → State} (hf : ∀ s x, Reviewing s (f s x)) (l : List α) (s : State) :
    Reviewing s (l.foldl f s) :=
  List.foldlRecOn l f (.refl s) fun u h x _ => h.trans (hf u x)

theorem MemOnly.reviewing {s u : State} (h : MemOnly s u) : Reviewing s u := by
  obtain ⟨m, rfl⟩ := h
  exact ⟨m, _, _, _, rfl, rfl⟩

theorem PortsOnly.reviewing {s u : State} (h : PortsOnly s u) : Reviewing s u := by
  obtain ⟨p, rfl⟩ := h
  exact ⟨_, _, _, _, rfl, rfl⟩

theorem updShard_reviewing (n : Nat) (f : Shard → Shard) (s : State) : Reviewing s (s.updShard n f) := ⟨_, _, _, _, rfl, rfl⟩

theorem changeEntry_reviewing (n e : Nat) (m : RowMap) (s : State) : Reviewing s (changeEntry n e m s) := ⟨_, _, _, _, rfl, rfl⟩

theorem settleCell_reviewing (n c : Nat) (s : State) : Reviewing s (settleCell n c s) := ⟨_, _, _, _, rfl, rfl⟩

theorem setHolders_reviewing (h : Holders) (s : State) : Reviewing s (setHolders h s) := ⟨_, _, _, _, rfl, rfl⟩

theorem seeChan_reviewing (c off n : Nat) (s : State) : Reviewing s (seeChan c off n s) :=
  .foldl (fun u _ => (updChan_memOnly _ _ u).reviewing) _ _

theorem noteReplicated_reviewing (table row : Nat) (s : State) : Reviewing s (noteReplicated table row s) := by
  unfold noteReplicated
  split
  · exact .refl s
  · exact .ite (.refl s) ⟨_, _, _, _, rfl, rfl⟩

theorem leaveReplica_reviewing (r : Replica) (s : State) : Reviewing s (leaveReplica r s) := by
  have dropped : Reviewing s (dropReplica r s) := ⟨_, _, _, _, rfl, rfl⟩
  exact .ite (dropped.trans (noteReplicated_reviewing _ _ _))
    (.ite dropped (dropped.trans (sendRow_portsOnly _ _ _).reviewing))

theorem denyReplica_reviewing (table : Nat) (s : State) : Reviewing s (denyReplica table s) :=
  .ite ⟨_, _, _, _, rfl, rfl⟩ ⟨_, _, _, _, rfl, rfl⟩

theorem displace_reviewing (old : Replica) (table row : Nat) (bs : List (Byte × Bool)) (s : State) :
    Reviewing s (displace old table row bs s) :=
  (leaveReplica_reviewing old s).trans ⟨_, _, _, _, rfl, rfl⟩

theorem placeReplica_reviewing (table row est : Nat) (cc : Bool) (bs : List (Byte × Bool)) (s : State) :
    Reviewing s (placeReplica table row est cc bs s).2 := by
  unfold placeReplica
  dsimp only
  split
  · exact .refl s
  · split
    · exact ⟨_, _, _, _, rfl, rfl⟩
    · split
      · split
        · exact displace_reviewing _ _ _ _ s
        · exact denyReplica_reviewing table s
      · exact denyReplica_reviewing table s

/-! ### Migrations -/

theorem migrateRow_reviewing (t : FsTable) (row dst cell : Nat) (s : State) : Reviewing s (migrateRow t row dst cell s) := by
  unfold migrateRow
  extract_lets k m n off bs seen written changed
  have moved : Reviewing s written :=
    (seeChan_reviewing _ _ _ s).trans ((updShard_reviewing dst _ seen).trans (writeSlot_memOnly dst cell _ _ _).reviewing)
  have again : Reviewing s changed := moved.trans (changeEntry_reviewing _ _ _ written)
  exact again.trans (.trans (b := { changed with fs := { changed.fs with migrated := bump changed.fs.migrated, moved := true } })
    ⟨_, _, _, _, rfl, rfl⟩ (settleCell_reviewing n m.cell _))

theorem migratePair_reviewing (t : FsTable) (hot cold : Nat) (l : List HotRow) (moved budget : Nat) (s : State) :
    Reviewing s (migratePair t hot cold l moved budget s) := by
  induction l generalizing moved budget s with
  | nil => exact .refl s
  | cons h r ih =>
    unfold migratePair
    dsimp only
    split
    · exact .refl s
    · exact .ite (.refl s) (.ite (ih _ _ _) ((migrateRow_reviewing _ _ _ _ s).trans (ih _ _ _)))

theorem countHot_reviewing (t : FsTable) (s : State) : Reviewing s (countHot t s) :=
  .foldl (fun u _ => .ite (updShard_reviewing _ _ u) (.refl u)) _ _

theorem reviewTable_reviewing (t : FsTable) (s : State) : Reviewing s (reviewTable t s) :=
  (countHot_reviewing t s).trans (.ite (.refl _) (.foldl (fun u _ => migratePair_reviewing _ _ _ _ _ _ u) _ _))

/-! ### Replication -/

theorem copyRow_reviewing (t : FsTable) (row : Nat) (bs : List (Byte × Bool)) (s : State) (p : Nat × Nat) :
    Reviewing s (copyRow t row bs s p) :=
  .ite (.refl s) ((setHolders_reviewing _ s).trans (sendRow_portsOnly _ _ _).reviewing)

theorem replicateRow_reviewing (t : FsTable) (s : State) (h : HotRow) : Reviewing s (replicateRow t s h) := by
  unfold replicateRow
  dsimp only
  split
  · exact .refl s
  · refine .trans (.trans (.trans (.ite (seeChan_reviewing _ _ _ s) (.refl s)) (.ite (placeReplica_reviewing _ _ _ _ _ _) (.refl _)))
      (.foldl (copyRow_reviewing _ _ _) _ _)) (noteReplicated_reviewing _ _ _)

theorem replicateTable_reviewing (t : FsTable) (s : State) : Reviewing s (replicateTable t s) :=
  .foldl (fun _ _ => .foldl (replicateRow_reviewing t) _ _) _ _

/-- The migrations and the copies of a review, before it takes back the hot-row tables. -/
def reviewWork (s : State) : State :=
  let migrated := s.im.ownTables.foldl (fun u x => if x.mode = 2 then u else reviewTable x u) s
  let copied := migrated.im.ownTables.foldl (fun u x => if x.mode = 2 then u else replicateTable x u) migrated
  (copied.fs.replicas.filter fun r => !r.cc && copied.im.fs.ccRepThresh ≤ r.lastHits).foldl (fun u r =>
    (placeReplica r.table r.row r.lastHits true r.bytes u).2) copied

theorem reviewWork_reviewing (s : State) : Reviewing s (reviewWork s) :=
  .trans (.foldl (fun u x => .ite (.refl u) (reviewTable_reviewing x u)) _ s)
    (.trans (.foldl (fun u x => .ite (.refl u) (replicateTable_reviewing x u)) _ _)
      (.foldl (fun u _ => placeReplica_reviewing _ _ _ _ _ u) _ _))

/-- A shard whose hot-row table has gone back. -/
def Shard.untabled (x : Shard) : Shard := { x with hotRead := [] }

/-- The hot-row tables of every shard go back. -/
def takeTables (s : State) : State := { s with fs := { s.fs with shards := s.fs.shards.map fun p => (p.1, p.2.untabled) } }

theorem takeTables_hotRead (s : State) (n : Nat) : ((takeTables s).shard n).hotRead = [] :=
  congrArg Shard.hotRead (tget_map Shard.untabled s.fs.shards n {})

theorem doSupervisorReview_of_due {s : State} (hdue : s.fs.reviewDue = true) (hready : s.start.stage = 9)
    (hc : s.clocked = true) :
    let w := takeTables (reviewWork { s with fs := { s.fs with reviewDue := false, moved := false } })
    doSupervisorReview s = if !w.fs.moved then w else raise0 0x7001 { w with fs := { w.fs with stMigrated := true } } :=
  if_neg (by simp [hdue, hready, hc, State.isReady])

/-- A review takes back the hot-row tables of every shard (R228). -/
theorem doSupervisorReview_spec {s : State} (hdue : s.fs.reviewDue = true) (hready : s.start.stage = 9)
    (hc : s.clocked = true) :
    ∃ u, doSupervisorReview s = u ∧ u = { s with mem := u.mem, fs := u.fs, fab := u.fab, flt := u.flt } ∧
      u.fs.reviewDue = false ∧ ∀ n, (u.shard n).hotRead = [] := by
  set b : State := { s with fs := { s.fs with reviewDue := false, moved := false } }
  have hrun := doSupervisorReview_of_due hdue hready hc
  obtain ⟨m, f, x, l, hw, hf⟩ := reviewWork_reviewing b
  have taken := takeTables_hotRead (reviewWork b)
  rw [hw] at taken hrun
  by_cases hm : f.moved = true
  · exact ⟨_, hrun.trans (if_neg (by simpa [takeTables] using hm)), rfl, hf, taken⟩
  · exact ⟨_, hrun.trans (if_pos (by simpa [takeTables] using hm)), rfl, hf, taken⟩

/-! ### Replicas that leave -/

theorem dropReplica_replicas (r : Replica) (s : State) :
    (dropReplica r s).fs.replicas = s.fs.replicas.filter fun x => !(x.ofRow r.table r.row && x.cc == r.cc) := rfl

/-- Dropping a list of replicas leaves those that are of none of their rows and areas. -/
theorem foldl_dropReplica (l : List Replica) (s : State) :
    ∃ settles, l.foldl (fun s r => dropReplica r s) s = { s with fs := { s.fs with
      replicas := s.fs.replicas.filter fun x => !(l.any fun r => x.ofRow r.table r.row && x.cc == r.cc)
      settles := settles } } := by
  induction l generalizing s with
  | nil => exact ⟨s.fs.settles, by simp⟩
  | cons r l ih =>
    obtain ⟨z, hz⟩ := ih (dropReplica r s)
    refine ⟨z, hz.trans ?_⟩
    rw [dropReplica_replicas, List.filter_filter]
    simp only [List.any_cons, Bool.not_or, Bool.and_comm]
    rfl

/-- Dropping the replicas of a row changes the feature store's replicas and what settles, and none of the row is left. -/
theorem dropRow_spec (table row : Nat) (s : State) :
    ∃ settles, dropRow table row s = { s with fs := { s.fs with
      replicas := s.fs.replicas.filter fun x => !(x.table = table && x.row = row), settles := settles } } := by
  obtain ⟨z, hz⟩ := foldl_dropReplica (s.fs.replicas.filter fun r => r.ofRow table row) s
  have left : (s.fs.replicas.filter fun x => !((s.fs.replicas.filter fun r => r.ofRow table row).any fun r =>
      x.ofRow r.table r.row && x.cc == r.cc)) = s.fs.replicas.filter fun x => !(x.table = table && x.row = row) := by
    refine List.filter_congr fun x hx => ?_
    simp only [Replica.ofRow]
    rw [Bool.eq_iff_iff]
    simp only [Bool.not_eq_true', List.any_eq_false, List.mem_filter, Bool.and_eq_true,
      decide_eq_true_eq, beq_iff_eq, Bool.and_eq_false_iff, decide_eq_false_iff_not]
    constructor
    · intro h
      by_contra hrow
      push Not at hrow
      exact h x ⟨hx, hrow⟩ ⟨⟨rfl, rfl⟩, rfl⟩
    · rintro h r ⟨-, rfl, rfl⟩ ⟨⟨htable, hrow⟩, -⟩
      exact h.elim (· htable) (· hrow)
  rw [left] at hz
  unfold dropRow
  rw [hz]
  exact ⟨_, rfl⟩

/-- An invalidation drops the replicas of its row and answers (R226). -/
theorem doReplicaInvalidate_spec (m : ReplicaMsg) {s : State} (hc : s.clocked = true) :
    ∃ z p, doReplicaInvalidate m s = { s with
      fs := { s.fs with replicas := s.fs.replicas.filter fun x => !(x.table = m.table && x.row = m.row), settles := z }
      fab := { s.fab with ports := p } } := by
  obtain ⟨z, hz⟩ := dropRow_spec m.table m.row s
  obtain ⟨p, hp⟩ := sendRow_portsOnly { kind := 4, sub := 4, table := m.table, row := m.row, dst := m.device, vc := 0 } []
    (dropRow m.table m.row s)
  refine ⟨z, p, (if_pos hc).trans (hp.trans ?_)⟩
  rw [hz]

/-- A part that held a copy and has answered, or has been silent, is struck (R226). -/
theorem holderGone_of_awaited {table row d : Nat} {s : State} (h : (s.holdersOf table row).awaiting.contains d = true) :
    let h' := { s.holdersOf table row with awaiting := (s.holdersOf table row).awaiting.erase d
                                           devices := (s.holdersOf table row).devices.erase d }
    holderGone table row d s = if !h'.awaiting.isEmpty then setHolders h' s else
      match s.fs.entries.find? fun e => e.table = table && e.row = row && e.stage = 1 with
      | some e => commitEntry e (setHolders h' s)
      | none => setHolders h' s :=
  if_neg (by simpa using h)

/-- Among replicas of the cluster caches alone there is none of the device area to give way. -/
theorem coldestReplica_of_cc {s : State} (h : ∀ r ∈ s.fs.replicas, r.cc = true) : s.coldestReplica false = none := by
  have : (s.fs.replicas.filter fun r => r.cc == false) = [] := List.filter_eq_nil_iff.mpr fun r hr => by simp [h r hr]
  rw [State.coldestReplica, this]
  rfl

/-- Settles O44. -/
theorem replicas : Obligations.Replicas := by
  unfold Obligations.Replicas
  intro t m s a h h' hc
  have fs : s.fs = a.fs := (State.advance_fs ..).symm
  have start : s.start = a.start := (State.advance_start ..).symm
  rw [fs, start]
  refine ⟨fun hp => congrArg Host.Outcome.next (?_ : doReplicaCopy m a = _),
    fun hp hhere hroom hcount => congrArg Host.Outcome.next (?_ : doReplicaCopy m a = _),
    fun hp hhere hroom hcc => congrArg Host.Outcome.next (?_ : doReplicaCopy m a = _), ?_,
    fun c hrun haw => ?_, fun hlt => congrArg Host.Outcome.next (?_ : doInvalidationTimeout m a = _),
    fun hhome => congrArg Host.Outcome.next (?_ : doReplicaDrop m a = _),
    fun hhome r hr => congrArg Host.Outcome.next (?_ : doReplicaDrop m a = _),
    fun hdue hst => ?_, fun hdue => congrArg Host.Outcome.next (?_ : doSupervisorReview a = _)⟩
  · exact if_pos (by simp [hp])
  · have full : (a.replicaRoom false < a.replicaUsed false + a.replicaSize m.table
        || (!false && 65536 ≤ (a.fs.replicas.filter fun r => !r.cc).length)) = false := by
      simp [hroom, hcount]
    have placed : placeReplica m.table m.row m.est false m.bytes a = (true, addReplica m.table m.row false m.bytes a) := by
      unfold placeReplica
      rw [if_neg (by simp [hhere])]
      exact if_pos (by rw [full]; rfl)
    refine (if_neg (by simp [hp, hc])).trans ?_
    dsimp only
    rw [placed]
    rfl
  · have full : (a.replicaRoom false < a.replicaUsed false + a.replicaSize m.table
        || (!false && 65536 ≤ (a.fs.replicas.filter fun r => !r.cc).length)) = true := by
      simp [hroom]
    have denied : placeReplica m.table m.row m.est false m.bytes a = (false, denyReplica m.table a) := by
      unfold placeReplica
      rw [if_neg (by simp [hhere])]
      refine (if_neg (by rw [full]; decide)).trans ?_
      rw [coldestReplica_of_cc hcc]
    refine (if_neg (by simp [hp, hc])).trans ?_
    dsimp only
    rw [denied]
    rfl
  · obtain ⟨z, p, hu⟩ := doReplicaInvalidate_spec m hc
    exact ⟨_, congrArg Host.Outcome.next hu, rfl, rfl, rfl⟩
  · have run : exec c s = .next (holderGone m.table m.row m.device a) := by
      obtain rfl | ⟨rfl, hlate⟩ := hrun
      · exact congrArg Host.Outcome.next (if_pos hc)
      · exact congrArg Host.Outcome.next (if_pos (Bool.and_eq_true_iff.mpr ⟨hc, decide_eq_true hlate⟩))
    rw [run]
    refine ⟨fun hne => congrArg _ ((holderGone_of_awaited haw).trans (if_pos (show (!h'.awaiting.isEmpty) = true by simp [hne]))),
      fun he e hfind => ?_⟩
    refine congrArg _ ((holderGone_of_awaited haw).trans ((if_neg (show ¬(!h'.awaiting.isEmpty) = true by simp [he])).trans ?_))
    simp only [hfind]
    rfl
  · exact if_neg fun hd => absurd (of_decide_eq_true (Bool.and_eq_true_iff.mp hd).2) (Nat.not_le.mpr hlt)
  · exact (if_neg (by simpa using hc)).trans (if_pos hhome)
  · refine (if_neg (by simpa using hc)).trans ((if_neg hhome).trans ?_)
    simp only [hr]
  · obtain ⟨u, hu, rest⟩ := doSupervisorReview_spec hdue hst hc
    exact ⟨u, congrArg Host.Outcome.next hu, rest⟩
  · exact if_pos (by simp [hdue])

end Sys2Proof.Machine

/-! PROOFS. Memory requests at a controller, and the regulators. -/

namespace Sys2Proof.Machine

theorem State.chan_updChan_same (c : Nat) (f : Chan → Chan) (s : State) : (s.updChan c f).chan c = f (s.chan c) :=
  tget_tupd_same ..

theorem State.chan_updChan_other {c n : Nat} (f : Chan → Chan) (s : State) (h : n ≠ c) : (s.updChan c f).chan n = s.chan n :=
  tget_tupd_other _ _ _ h

/-- A change of a channel that leaves its state, its retirement map and its write-combining buffer leaves what is read there. -/
theorem devByte_updChan {c : Nat} {f : Chan → Chan} (s : State)
    (hf : (f (s.chan c)).state = (s.chan c).state ∧ (f (s.chan c)).map = (s.chan c).map ∧ (f (s.chan c)).wcb = (s.chan c).wcb)
    (d : Nat) :
    (s.updChan c f).devByte d = s.devByte d := by
  have same (n : Nat) : ((s.updChan c f).chan n).state = (s.chan n).state ∧ ((s.updChan c f).chan n).map = (s.chan n).map ∧
      ((s.updChan c f).chan n).wcb = (s.chan n).wcb := by
    by_cases h : n = c
    · rw [h, State.chan_updChan_same]
      exact hf
    · rw [State.chan_updChan_other f s h]
      exact ⟨rfl, rfl, rfl⟩
  obtain ⟨hs, hm, hw⟩ := same (devChan d)
  simp only [State.devByte, State.inService, State.chanByte, State.rawKey, Chan.pageOf, Chan.wcbAt, hs, hm, hw]
  rfl

theorem reqBytes_updChan {c : Nat} {f : Chan → Chan} (s : State)
    (hf : (f (s.chan c)).state = (s.chan c).state ∧ (f (s.chan c)).map = (s.chan c).map ∧ (f (s.chan c)).wcb = (s.chan c).wcb)
    (r : Req) (d : Nat) : (s.updChan c f).reqBytes r d = s.reqBytes r d := by
  simp only [State.reqBytes, State.clusterByte, devByte_updChan s hf]
  rfl

/-- Findings that are not there poison nothing. -/
theorem withFindings_nil (off : Nat) (data : List (Byte × Bool)) : withFindings off [] data = data := by
  refine List.ext_getElem (by simp [withFindings]) fun i h hi => ?_
  simp [withFindings, hi]

/-- A request that is not held takes a slot with the data of this moment. -/
theorem serveReq_of_read {c d : Nat} {r : Req} {s : State} (hd : r.dev = some d) (hs : s.inService c = true)
    (hk : r.kind = .command ∨ (∃ l, r.kind = .fetch l) ∨ (∃ l, r.kind = .index l))
    (hh : (s.chan c).holds (s.chan c).slots r d = false) :
    serveReq c r s = takeSlot c { req := r, data := s.reqBytes r d } s := by
  have now : serveNow c r d s = (s.reqBytes r d, s) := by
    obtain h | ⟨_, h⟩ | ⟨_, h⟩ := hk <;> simp only [serveNow, h]
  simp only [serveReq, hd]
  rw [if_neg (by simp [hs]), if_neg (by simp [hh]), now]

theorem serveReq_of_store {c d : Nat} {r : Req} {bs : List Byte} {p : Bool} {s : State} (hd : r.dev = some d)
    (hs : s.inService c = true) (hk : r.kind = .store bs p) (hh : (s.chan c).holds (s.chan c).slots r d = false) :
    serveReq c r s = takeSlot c { req := r } (ackWrite r 0 (devWrite d bs p s)) := by
  have now : serveNow c r d s = ([], ackWrite r 0 (devWrite d bs p s)) := by simp only [serveNow, hk]
  simp only [serveReq, hd]
  rw [if_neg (by simp [hs]), if_neg (by simp [hh]), now]

theorem serveReq_of_held {c d : Nat} {r : Req} {s : State} (hd : r.dev = some d) (hs : s.inService c = true)
    (hh : (s.chan c).holds (s.chan c).slots r d = true) : serveReq c r s = takeSlot c { req := r, held := true } s := by
  simp only [serveReq, hd]
  rw [if_neg (by simp [hs]), if_pos hh]

/-- A read without findings leaves its slot and answers with the data taken as it was accepted (R248). -/
theorem doMemoryReadDone_of_clean {c i d : Nat} {x : Slot} {s : State} (hx : (s.chan c).slots[i]? = some x) (hd : x.req.dev = some d)
    (hw : x.req.writes = false) (hheld : x.held = false) (hh : (s.chan c).holding (devOff d) = false) :
    doMemoryReadDone c i [] s = resumeHeld c (answerRead x.req x.data (s.updChan c fun y => { y with
      slots := dropAt y.slots i
      rdBytes := min (y.rdBytes + 32 * ((devOff d + x.req.len + 31) / 32 - devOff d / 32)) 18446744073709551615 })) := by
  unfold doMemoryReadDone
  simp only [hx, hd]
  rw [if_neg (by simp [hheld, hw, hh]), List.take_nil, withFindings_nil]
  simp only [satAdd_64]
  rfl

theorem doMemoryReadDone_of_held {c i d : Nat} {x : Slot} {s : State} (ecc : List Ecc) (hx : (s.chan c).slots[i]? = some x)
    (hd : x.req.dev = some d) (hh : x.held = true ∨ (s.chan c).holding (devOff d) = true) : doMemoryReadDone c i ecc s = s := by
  unfold doMemoryReadDone
  simp only [hx, hd]
  refine if_pos ?_
  obtain h | h := hh <;> simp [h]

/-- What WRITE_TO_DEVICE_DONE does to the slot it names. -/
theorem doWriteToDeviceDone_eq {c i d : Nat} {x : Slot} {s : State} (hx : (s.chan c).slots[i]? = some x) (hd : x.req.dev = some d) :
    doWriteToDeviceDone c i s =
      if x.held || !x.req.writes || ((List.range ((devOff d % 64 + x.req.len + 63) / 64)).map fun i => devOff d / 64 + i).any
          (fun l => ((s.chan c).wcbAt l).isSome) then s
      else s.updChan c fun ch => { ch with slots := dropAt ch.slots i } := by
  unfold doWriteToDeviceDone
  simp only [hx, hd]

/-- An admitted read or write whose address stands goes to its channel's queue (R247). -/
theorem queued_enqueueReq {r : Req} {s : State} (hd : r.dev.isSome = true)
    (hk : r.kind = .command ∨ (∃ l, r.kind = .fetch l) ∨ (∃ bs p, r.kind = .store bs p)) :
    tget ((enqueueReq r s).chan r.channel).queues r.queue [] =
      tget (s.chan r.channel).queues r.queue [] ++ [{ r with seq := (s.chan r.channel).arrivals }] := by
  have pushed : enqueueReq r s = pushReq r s := by
    have : r.dev.isNone = false := by simpa using hd
    obtain h | ⟨_, h⟩ | ⟨_, _, h⟩ := hk <;> simp only [enqueueReq, h, this] <;> rfl
  rw [pushed, pushReq, State.chan_updChan_same, tget_tupd_same]

/-- Settles O45. -/
theorem memoryRequests : Obligations.MemoryRequests := by
  unfold Obligations.MemoryRequests
  intro t c i s a ch
  have schan (n : Nat) : s.chan n = a.chan n := (State.advance_chan ..).symm
  refine ⟨fun q r hroom hnext => ?accept, fun hno => ?idle, fun x d hx hw hd => ?read, fun x d bs p hx hk hd => ?write,
    fun r rest hr => ?admitted⟩
  case accept =>
    intro b
    have run : exec (.memoryRequestAccept t c) s = .next (settleTiles (serveReq c r b)) := by
      refine congrArg (fun u => Host.Outcome.next (settleTiles u)) (?_ : doMemoryRequestAccept c a = _)
      unfold doMemoryRequestAccept
      refine (if_neg (by simpa using hroom)).trans ?_
      rw [hnext]
      rfl
    refine ⟨run, fun d hd hs => ?_⟩
    have bchan : b.chan c = { ch with queues := tset ch.queues q ((tget ch.queues q []).drop 1), turn := (q + 1) % 33 } :=
      State.chan_updChan_same ..
    have serving : b.inService c = true := by
      rw [State.inService, bchan]
      exact decide_eq_true hs
    have slots : (b.chan c).slots = ch.slots := by rw [bchan]
    rw [run, ← slots]
    refine ⟨fun hk hh => ?_, fun bs p hk hh => ?_, fun hh => ?_⟩
    · rw [serveReq_of_read hd serving hk hh]
      refine ⟨_, rfl, rfl, (State.chan_updChan_same ..).trans ?_, fun n hn => ?_⟩
      · rw [reqBytes_updChan a ⟨rfl, rfl, rfl⟩]
      · rw [schan]
        exact (State.chan_updChan_other _ _ hn).trans (State.chan_updChan_other _ _ hn)
    · rw [serveReq_of_store hd serving hk hh]
    · rw [serveReq_of_held hd serving hh]
  case idle =>
    refine congrArg (fun u => Host.Outcome.next (settleTiles u)) (?_ : doMemoryRequestAccept c a = _)
    unfold doMemoryRequestAccept
    obtain hfull | hnone := hno
    · exact if_pos hfull
    · dsimp only
      split
      · rfl
      · split
        · rfl
        · next h => exact absurd (hnone.symm.trans h) (by simp)
  case read =>
    intro b
    have done (ecc : List Ecc) {v : State} (h : doMemoryReadDone c i ecc a = v) :
        exec (.memoryReadDone t c i ecc) s = .next (settleTiles v) :=
      congrArg (fun u => Host.Outcome.next (settleTiles u)) h
    refine ⟨fun land hk hheld hh => done [] ((doMemoryReadDone_of_clean hx hd hw hheld hh).trans ?_),
      fun hk hheld hh => done [] ((doMemoryReadDone_of_clean hx hd hw hheld hh).trans ?_),
      fun hh ecc => done ecc (doMemoryReadDone_of_held ecc hx hd hh), 
      congrArg Host.Outcome.next ((doWriteToDeviceDone_eq hx hd).trans ?_)⟩
    · simp only [answerRead, hk]
      rfl
    · simp only [answerRead, hk]
      rfl
    · exact if_pos (by simp [hw])
  case write =>
    have hw : x.req.writes = true := by rw [Req.writes, hk]
    refine ⟨fun hheld hwcb => congrArg Host.Outcome.next ((doWriteToDeviceDone_eq hx hd).trans (if_neg ?_)),
      fun w hin hline hlen => congrArg Host.Outcome.next ((doWriteToDeviceDone_eq hx hd).trans (if_pos ?_))⟩
    · have none (l : Nat) : (a.chan c).wcbAt l = none := by rw [Chan.wcbAt, hwcb]; rfl
      simp [hheld, hw, none]
    · have some : ((a.chan c).wcbAt (devOff d / 64)).isSome = true := by
        rw [Chan.wcbAt, List.find?_isSome]
        exact ⟨w, hin, by simp [hline]⟩
      have first : 0 < (devOff d % 64 + x.req.len + 63) / 64 := by omega
      exact Bool.or_eq_true_iff.mpr (.inr (List.any_eq_true.mpr
        ⟨devOff d / 64, List.mem_map.mpr ⟨0, List.mem_range.mpr first, rfl⟩, some⟩))
  case admitted =>
    intro g m
    have run {v : State} (h : doRegulatorAdmit c a = v) : exec (.regulatorAdmit t c) s = .next (settleTiles v) :=
      congrArg (fun u => Host.Outcome.next (settleTiles u)) h
    refine ⟨fun ht => ⟨run ?_, fun hd hk => ?_⟩, fun ht hrate => run ?_⟩
    · unfold doRegulatorAdmit
      simp only [hr]
      refine (if_neg ?_).trans ?_
      · simp only [Bool.and_eq_true, decide_eq_true_eq, not_and, not_lt]
        exact fun h => ht.resolve_right h
      · simp only [satAdd_64]
        rfl
    · rw [queued_enqueueReq hd hk, schan]
      rfl
    · unfold doRegulatorAdmit
      simp only [hr]
      exact if_pos (by simpa using ⟨hrate, ht⟩)

end Sys2Proof.Machine

/-! PROOFS. The upkeep of a channel: retirement, the write-combining buffer, scrubbing and self-refresh. -/

namespace Sys2Proof.Machine

/-! ### The bytes of a page that is copied -/

theorem cellGet_filter {u : Byte} {lo : Nat} {m : List Host.Cell} (p : Nat → Bool) (h : cellsFrom u lo m = true) (x : Nat) :
    cellGet u (m.filter fun c => p c.1) x = if p x then cellGet u m x else u := by
  induction m generalizing lo with
  | nil => simp [cellGet]
  | cons c r ih =>
    simp only [cellsFrom, Bool.and_eq_true, decide_eq_true_eq] at h
    obtain ⟨-, hr⟩ := h
    have hih := ih hr
    by_cases hc : c.1 = x
    · subst hc
      by_cases hp : p c.1 = true
      · rw [List.filter_cons_of_pos (p := fun c : Host.Cell => p c.1) hp, if_pos hp, cellGet, cellGet]
        simp
      · rw [List.filter_cons_of_neg (p := fun c : Host.Cell => p c.1) hp, hih, if_neg hp, if_neg hp]
    · by_cases hp : p c.1 = true
      · rw [List.filter_cons_of_pos (p := fun c : Host.Cell => p c.1) hp, cellGet, if_neg hc, hih, cellGet, if_neg hc]
      · rw [List.filter_cons_of_neg (p := fun c : Host.Cell => p c.1) hp, hih, cellGet, if_neg hc]

theorem le_of_cellsFrom {u : Byte} {lo : Nat} {m : List Host.Cell} (h : cellsFrom u lo m = true) : ∀ x ∈ m, lo ≤ x.1 := by
  induction m generalizing lo with
  | nil => simp
  | cons c r ih =>
    simp only [cellsFrom, Bool.and_eq_true, decide_eq_true_eq] at h
    obtain ⟨⟨hk, -⟩, hr⟩ := h
    exact List.forall_mem_cons.mpr ⟨hk, fun x hx => by have := ih hr x hx; omega⟩

theorem cellGet_of_not_any {u : Byte} {m : List Host.Cell} {k : Nat} (h : (m.any fun x => x.1 = k) = false) : cellGet u m k = u := by
  induction m with
  | nil => rfl
  | cons c r ih =>
    simp only [List.any_cons, Bool.or_eq_false_iff, decide_eq_false_iff_not] at h
    rw [cellGet, if_neg h.1, ih h.2]

/-- Cells of a page written one by one to another page read there as they did. -/
theorem cellGet_foldl_moved {u : Byte} {lo a b : Nat} {l m : List Host.Cell} (hl : cellsFrom u lo l = true) (ha : ∀ x ∈ l, a ≤ x.1)
    (hm : cellsWf u m = true) (k : Nat) :
    cellGet u (l.foldl (fun m x => cellSet u m (x.1 - a + b) x.2) m) (b + k) =
      if (l.any fun x => x.1 = a + k) then cellGet u l (a + k) else cellGet u m (b + k) := by
  induction l generalizing lo m with
  | nil => simp
  | cons c r ih =>
    simp only [cellsFrom, Bool.and_eq_true, decide_eq_true_eq] at hl
    obtain ⟨-, hr⟩ := hl
    obtain ⟨hc, har⟩ := List.forall_mem_cons.mp ha
    rw [List.foldl_cons, ih hr har (cellsWf_cellSet _ _ hm), cellGet]
    by_cases hk : c.1 = a + k
    · have later : (r.any fun x => x.1 = a + k) = false :=
        List.any_eq_false.mpr fun x hx => by have := le_of_cellsFrom hr x hx; simp; omega
      rw [if_pos hk, if_neg (by simp [later]), if_pos (by simp [hk]), hk, show a + k - a + b = b + k by omega, cellGet_cellSet _ _ hm]
    · rw [if_neg hk, cellGet_cellSet_other _ _ _ (by omega)]
      simp [hk]

/-- A copied page reads in its spare as it did before (R253). -/
theorem cells_copyPage {c page spare k : Nat} {s : State} (h : cellsWf 0 s.mem.cells = true) (hk : k < 65536) :
    cellGet 0 (copyPage c page spare s).mem.cells (rawKeyOf c (s.pageRaw (spareCode spare)) + k) =
      cellGet 0 s.mem.cells (rawKeyOf c (s.pageRaw page) + k) := by
  set a := rawKeyOf c (s.pageRaw page)
  set b := rawKeyOf c (s.pageRaw (spareCode spare))
  have source := cellGet_filter (fun x => a ≤ x && x < a + 65536) h (a + k)
  rw [if_pos (by simp; omega)] at source
  refine (cellGet_foldl_moved (b := b) (cellsFrom_filter (fun x => a ≤ x.1 && x.1 < a + 65536) h) (fun x hx => ?_)
    (cellsWf_clearRange b 65536 h) k).trans ?_
  · have := (List.mem_filter.mp hx).2
    simp only [Bool.and_eq_true, decide_eq_true_eq] at this
    exact this.1
  · split
    · exact source
    · next hn =>
      refine ((cellGet_filter (fun x => x < b || b + 65536 ≤ x) h (b + k)).trans (if_neg ?_)).trans
        ((cellGet_of_not_any (eq_false_of_ne_true hn)).symm.trans source)
      simp
      omega

/-! ### What serving requests leaves of a channel -/

/-- What a retirement sets in its channel. -/
def Chan.lasting (ch : Chan) : List Retiring × List (Nat × Nat) × Nat × Bool := (ch.retiring, ch.map, ch.retiredPages, ch.stRetired)

/-- Requests are served: tasks, memory, combines and parcels change, no SRAM byte and nothing that a retirement sets. -/
structure Serving (s u : State) : Prop where
  frame : u = { s with tiles := u.tiles, sync := u.sync, mem := u.mem, part := u.part }
  sram : u.tiles.sram = s.tiles.sram
  retTable : u.mem.retTable = s.mem.retTable
  lasting : ∀ n, (u.chan n).lasting = (s.chan n).lasting

theorem Serving.refl (s : State) : Serving s s := ⟨rfl, rfl, rfl, fun _ => rfl⟩

theorem Serving.trans {a b c : State} (h : Serving a b) (k : Serving b c) : Serving a c :=
  ⟨by rw [k.frame, h.frame], k.sram.trans h.sram, k.retTable.trans h.retTable, fun n => (k.lasting n).trans (h.lasting n)⟩

theorem Serving.ite {s a b : State} {c : Prop} [Decidable c] (ha : Serving s a) (hb : Serving s b) : Serving s (if c then a else b) := by
  split
  · exact ha
  · exact hb

theorem Serving.foldl {α : Type} {f : State → α → State} (hf : ∀ s x, Serving s (f s x)) (l : List α) (s : State) :
    Serving s (l.foldl f s) :=
  List.foldlRecOn l f (.refl s) fun u h x _ => h.trans (hf u x)

theorem updChan_serving (c : Nat) (f : Chan → Chan) (s : State) (hf : ∀ ch, (f ch).lasting = ch.lasting) :
    Serving s (s.updChan c f) := by
  refine ⟨rfl, rfl, rfl, fun n => ?_⟩
  by_cases h : n = c
  · rw [h, State.chan_updChan_same, hf]
  · rw [State.chan_updChan_other f s h]

theorem takeSlot_serving (c : Nat) (x : Slot) (s : State) : Serving s (takeSlot c x s) := updChan_serving c _ s fun _ => rfl

theorem reservedRead_serving (c off n : Nat) (s : State) : Serving s (reservedRead c off n s) := takeSlot_serving c _ s

theorem setPoison_serving (k : Nat) (p : Bool) (s : State) : Serving s (s.setPoison k p) := ⟨rfl, rfl, rfl, fun _ => rfl⟩

theorem putByte_serving (c off : Nat) (b : Byte) (s : State) : Serving s (s.putByte c off b) := ⟨rfl, rfl, rfl, fun _ => rfl⟩

theorem writeEntry_serving (c : Nat) (w : Wcb) (s : State) : Serving s (writeEntry c w s) := by
  unfold writeEntry
  dsimp only
  exact ((Serving.foldl (fun u _ => setPoison_serving _ _ u) _ s).trans (.foldl (fun u _ => putByte_serving _ _ _ u) _ _)).trans
    (updChan_serving c _ _ fun _ => rfl)

theorem evictRead_serving (c : Nat) (w : Wcb) (s : State) : Serving s (evictRead c w s) :=
  .ite (.refl s) (.ite (reservedRead_serving _ _ _ s) (reservedRead_serving _ _ _ s))

theorem evictEntry_serving (c : Nat) (w : Wcb) (s : State) : Serving s (evictEntry c w s) := by
  have left := updChan_serving c (fun ch => { ch with wcb := ch.wcb.filter fun x => x.line ≠ w.line }) s fun _ => rfl
  exact (left.trans (evictRead_serving c w _)).trans (writeEntry_serving c w _)

theorem evictLine_serving (c line : Nat) (s : State) : Serving s (evictLine c line s) := by
  unfold evictLine
  split
  · exact .refl s
  · exact .ite (evictEntry_serving _ _ s) (.refl s)

theorem makeRoom_serving (c : Nat) (s : State) : Serving s (makeRoom c s) := by
  unfold makeRoom
  split
  · exact .refl s
  · split
    · exact evictEntry_serving _ _ s
    · exact .refl s

theorem wcbWrite_serving (c off : Nat) (bs : List Byte) (poison : Bool) (s : State) : Serving s (wcbWrite c off bs poison s) := by
  have room : Serving s (if ((s.chan c).wcbAt (off / 64)).isNone then makeRoom c s else s) := .ite (makeRoom_serving c s) (.refl s)
  have written := room.trans (updChan_serving c (fun ch =>
    match ch.wcbAt (off / 64) with
    | some w => { ch with
        wcb := ch.wcb.map fun x => if x.line = off / 64 then
          w.merge (off % 64) bs poison (if ((s.chan c).wcbAt (off / 64)).isNone then makeRoom c s else s).now else x }
    | none => { ch with wcb := ch.wcb ++ [(Wcb.mk (off / 64) [] []
        (if ((s.chan c).wcbAt (off / 64)).isNone then makeRoom c s else s).now).merge (off % 64) bs poison
          (if ((s.chan c).wcbAt (off / 64)).isNone then makeRoom c s else s).now] }) _ fun ch => by
      cases ch.wcbAt (off / 64) <;> rfl)
  exact .ite (written.trans (evictLine_serving _ _ _)) written

theorem devWriteLines_serving (n d : Nat) (bs : List Byte) (poison : Bool) (s : State) :
    Serving s (devWriteLines n d bs poison s) := by
  induction n generalizing d bs s with
  | zero => exact .refl s
  | succ n ih => exact .ite (.refl s) (Serving.trans (.ite (wcbWrite_serving _ _ _ _ s) (.refl s)) (ih _ _ _))

theorem devWrite_serving (d : Nat) (bs : List Byte) (poison : Bool) (s : State) : Serving s (devWrite d bs poison s) :=
  devWriteLines_serving _ d bs poison s

theorem memAdd_serving (fp wide poison : Bool) (d e : Nat) (s : State) : Serving s (memAdd fp wide poison d e s).2 := by
  unfold memAdd
  dsimp only
  split
  · exact .refl s
  · exact (devWrite_serving _ _ _ s).trans (updChan_serving _ _ _ fun _ => rfl)

theorem memAdds_serving (fp wide poison : Bool) (d : Nat) (es : List Nat) (s : State) : Serving s (memAdds fp wide poison d es s).2 := by
  induction es generalizing d s with
  | nil => exact .refl s
  | cons e r ih => exact (memAdd_serving _ _ _ _ _ s).trans (ih _ _)

theorem updTask_serving (t k : Nat) (f : Task → Task) (s : State) : Serving s (s.updTask t k f) := ⟨rfl, rfl, rfl, fun _ => rfl⟩

theorem storeDone_serving (r : Req) (w : Nat) (s : State) : Serving s (storeDone r w s) := by
  have done := updTask_serving r.tile r.slot (fun x => x.updCmd r.cmd fun c => { c with stores := c.stores - 1 }) s
  exact .ite (done.trans (.ite (.refl _) (updTask_serving _ _ _ _))) done

theorem ackWrite_serving (r : Req) (w : Nat) (s : State) : Serving s (ackWrite r w s) := by
  unfold ackWrite
  split
  · exact storeDone_serving r w s
  · exact storeDone_serving r w s
  · exact storeDone_serving r w s
  · exact ⟨rfl, rfl, rfl, fun _ => rfl⟩
  · exact ⟨rfl, rfl, rfl, fun _ => rfl⟩
  all_goals exact .refl s

theorem serveNow_serving (c : Nat) (r : Req) (d : Nat) (s : State) : Serving s (serveNow c r d s).2 := by
  unfold serveNow
  split
  case h_5 => exact (devWrite_serving _ _ _ s).trans (ackWrite_serving _ _ _)
  case h_6 => exact ackWrite_serving _ _ s
  case h_7 => exact (devWrite_serving _ _ _ s).trans (ackWrite_serving _ _ _)
  case h_8 => exact ((reservedRead_serving _ _ _ s).trans (memAdds_serving _ _ _ _ _ _)).trans (ackWrite_serving _ _ _)
  all_goals exact .refl s

theorem resumeHeld_serving (c : Nat) (s : State) : Serving s (resumeHeld c s) := by
  refine .foldl (fun u i => ?_) _ s
  unfold resumeSlot
  split
  · exact .refl u
  · dsimp only
    split
    · split
      · exact .refl u
      · exact (serveNow_serving _ _ _ u).trans (updChan_serving _ _ _ fun _ => rfl)
    · exact .refl u

/-! ### Entries that leave the write-combining buffer -/

/-- At most one reserved slot more is taken at channel `c`; no request there is held, and nothing is retired. -/
structure Evicting (c : Nat) (s u : State) : Prop where
  frame : u = { s with mem := { s.mem with cells := u.mem.cells, poison := u.mem.poison, chans := u.mem.chans } }
  others : ∀ n, n ≠ c → u.chan n = s.chan n
  retiring : (u.chan c).retiring = (s.chan c).retiring
  held : (∀ x ∈ (s.chan c).slots, x.held = false) → ∀ x ∈ (u.chan c).slots, x.held = false

theorem Evicting.refl (c : Nat) (s : State) : Evicting c s s := ⟨rfl, fun _ _ => rfl, rfl, id⟩

theorem Evicting.trans {c : Nat} {a b d : State} (h : Evicting c a b) (k : Evicting c b d) : Evicting c a d :=
  ⟨by rw [k.frame, h.frame], fun n hn => (k.others n hn).trans (h.others n hn), k.retiring.trans h.retiring, k.held ∘ h.held⟩

theorem updChan_evicting (c : Nat) (f : Chan → Chan) (s : State) (hr : (f (s.chan c)).retiring = (s.chan c).retiring)
    (hh : (∀ x ∈ (s.chan c).slots, x.held = false) → ∀ x ∈ (f (s.chan c)).slots, x.held = false) :
    Evicting c s (s.updChan c f) := by
  refine ⟨rfl, fun n hn => State.chan_updChan_other f s hn, ?_, ?_⟩
  all_goals rw [State.chan_updChan_same]
  · exact hr
  · exact hh

theorem Slot.overwritten_flags (x : Slot) (ws : List Nat) :
    (x.overwritten ws).held = x.held ∧ (x.overwritten ws).reserved = x.reserved := by
  unfold Slot.overwritten
  split <;> exact ⟨rfl, rfl⟩

/-- The write of an entry: its bytes and their poison, and the reads under way that it overwrites. -/
theorem writeEntry_spec (c : Nat) (w : Wcb) (s : State) :
    Evicting c s (writeEntry c w s) ∧ ((writeEntry c w s).chan c).wcb = (s.chan c).wcb ∧
      ((writeEntry c w s).chan c).reservedUsed = (s.chan c).reservedUsed := by
  unfold writeEntry
  extract_lets touched poisoned written
  have hwritten : ∃ m p, written = { s with mem := { s.mem with cells := m, poison := p } } := by
    refine List.foldlRecOn (motive := fun u : State => ∃ m p, u = { s with mem := { s.mem with cells := m, poison := p } }) _ _ ?_
      fun u hu x _ => ?_
    · exact List.foldlRecOn (motive := fun u : State => ∃ m p, u = { s with mem := { s.mem with cells := m, poison := p } }) _ _
        ⟨s.mem.cells, s.mem.poison, rfl⟩ fun u hu x _ => by
          obtain ⟨_, _, rfl⟩ := hu
          exact ⟨_, _, rfl⟩
    · obtain ⟨_, _, rfl⟩ := hu
      exact ⟨_, _, rfl⟩
  obtain ⟨m, p, hwritten⟩ := hwritten
  have same (n : Nat) : written.chan n = s.chan n := by rw [hwritten]; rfl
  refine ⟨.trans (b := written) ?_ (updChan_evicting c _ _ rfl ?_), ?_, ?_⟩
  · exact ⟨by rw [hwritten], fun n _ => same n, by rw [same], fun h => by rwa [same]⟩
  · intro h x hx
    obtain ⟨y, hy, rfl⟩ := List.mem_map.mp hx
    exact (y.overwritten_flags _).1.trans (h y hy)
  all_goals rw [State.chan_updChan_same, same]
  simp only [Chan.reservedUsed, List.filter_map, List.length_map]
  congr 2
  exact List.filter_congr fun x _ => (x.overwritten_flags _).2

theorem reservedRead_spec (c off n : Nat) (s : State) :
    Evicting c s (reservedRead c off n s) ∧ ((reservedRead c off n s).chan c).wcb = (s.chan c).wcb ∧
      ((reservedRead c off n s).chan c).reservedUsed ≤ (s.chan c).reservedUsed + 1 := by
  unfold reservedRead takeSlot
  refine ⟨updChan_evicting c _ s rfl fun h x hx => ?_, ?_, ?_⟩
  · obtain hx | hx := List.mem_append.mp hx
    · exact h x hx
    · rw [List.mem_singleton.mp hx]
  all_goals rw [State.chan_updChan_same]
  · rfl
  · simp only [Chan.noteHigh, Chan.reservedUsed, List.filter_append, List.length_append]
    have : (List.filter Slot.reserved [{ req := seenReq 32 (devAt c off) n, reserved := true }]).length = 1 := rfl
    omega

theorem evictRead_spec (c : Nat) (w : Wcb) (s : State) :
    Evicting c s (evictRead c w s) ∧ ((evictRead c w s).chan c).wcb = (s.chan c).wcb ∧
      ((evictRead c w s).chan c).reservedUsed ≤ (s.chan c).reservedUsed + 1 := by
  unfold evictRead
  split
  · exact ⟨.refl c s, rfl, Nat.le_succ _⟩
  · split
    · exact reservedRead_spec _ _ _ s
    · exact reservedRead_spec _ _ _ s

/-- A line whose page is not under retirement leaves the buffer while a reserved slot is free (R249). -/
theorem evictLine_spec (c line : Nat) {s : State} (hr : (s.chan c).retiring = []) (hu : (s.chan c).reservedUsed < 16) :
    Evicting c s (evictLine c line s) ∧ ((evictLine c line s).chan c).wcb = (s.chan c).wcb.filter (fun w => w.line ≠ line) ∧
      ((evictLine c line s).chan c).reservedUsed ≤ (s.chan c).reservedUsed + 1 := by
  unfold evictLine
  split
  · next hnone =>
    refine ⟨.refl c s, (List.filter_eq_self.mpr fun w hw => ?_).symm, Nat.le_succ _⟩
    simpa using List.find?_eq_none.mp hnone w hw
  · next w hw =>
    have hline : w.line = line := by simpa using List.find?_some hw
    rw [if_pos (by simp [Chan.canEvict, Chan.holding, hr, Chan.reservedFree, hu])]
    unfold evictEntry
    set left := s.updChan c fun ch => { ch with wcb := ch.wcb.filter fun x => x.line ≠ w.line } with hleft
    have gone : Evicting c s left := updChan_evicting c _ s rfl id
    have hchan : left.chan c = { s.chan c with wcb := (s.chan c).wcb.filter fun x => x.line ≠ w.line } := State.chan_updChan_same ..
    obtain ⟨read, rwcb, rused⟩ := evictRead_spec c w left
    obtain ⟨written, wwcb, wused⟩ := writeEntry_spec c w (evictRead c w left)
    refine ⟨gone.trans (read.trans written), ?_, ?_⟩
    · rw [wwcb, rwcb, hchan, hline]
    · rw [wused]
      refine rused.trans ?_
      rw [hchan]
      exact le_rfl

theorem foldl_evictLine (c : Nat) (ws : List Wcb) {s : State} (hr : (s.chan c).retiring = [])
    (hu : (s.chan c).reservedUsed + ws.length ≤ 16) :
    let u := ws.foldl (fun s w => evictLine c w.line s) s
    Evicting c s u ∧ (u.chan c).wcb = (s.chan c).wcb.filter (fun w => !(ws.any fun x => x.line = w.line)) := by
  induction ws generalizing s with
  | nil => exact ⟨.refl c s, by simp⟩
  | cons w r ih =>
    rw [List.length_cons] at hu
    obtain ⟨first, hwcb, hused⟩ := evictLine_spec c w.line hr (by omega)
    obtain ⟨rest, hrest⟩ := ih (s := evictLine c w.line s) (first.retiring.trans hr) (by omega)
    refine ⟨first.trans rest, hrest.trans ?_⟩
    rw [hwcb, List.filter_filter]
    refine List.filter_congr fun x _ => ?_
    simp [List.any_cons, Bool.and_comm, eq_comm]

/-- Where no request is held, none is served now. -/
theorem resumeHeld_of_none {c : Nat} {s : State} (h : ∀ x ∈ (s.chan c).slots, x.held = false) : resumeHeld c s = s := by
  refine List.foldlRecOn (motive := fun u => u = s) _ _ rfl fun u hu i _ => ?_
  subst hu
  unfold resumeSlot
  split
  · rfl
  · next x hx =>
    have := h x (List.mem_of_getElem? hx)
    dsimp only
    simp only [this]

/-! ### Scrubbing -/

/-- Beside channel `c` at most the event log changes, and the counts of its findings and its scrubbing stay. -/
structure Retiring.Begins (c : Nat) (s u : State) : Prop where
  frame : u = { s with mem := { s.mem with chans := u.mem.chans }, flt := u.flt }
  counts : (u.chan c).ce = (s.chan c).ce ∧ (u.chan c).ue = (s.chan c).ue ∧ (u.chan c).stUe = (s.chan c).stUe ∧
    (u.chan c).scrubAt = (s.chan c).scrubAt

/-- A retirement that begins changes its channel alone, and may tell that no spare is left (R253). -/
theorem beginRetire_begins (c page cause : Nat) (s : State) : Retiring.Begins c s (beginRetire c page cause s) := by
  unfold beginRetire
  dsimp only
  split
  · exact ⟨rfl, rfl, rfl, rfl, rfl⟩
  · split
    · refine ⟨rfl, ?_⟩
      rw [State.chan_updChan_same]
      exact ⟨rfl, rfl, rfl, rfl⟩
    · split
      · exact ⟨rfl, rfl, rfl, rfl, rfl⟩
      · refine ⟨rfl, ?_⟩
        have : (raise 0x6004 c (s.updChan c fun ch => { ch with exhaustedRaised := true, stExhausted := true })).chan c =
            { s.chan c with exhaustedRaised := true, stExhausted := true } := State.chan_updChan_same ..
        rw [this]
        exact ⟨rfl, rfl, rfl, rfl⟩

/-- A corrected sector is counted (R252). -/
theorem foundCe_spec (c raw page : Nat) (s : State) :
    foundCe c raw page s = { s with mem := { s.mem with chans := (foundCe c raw page s).mem.chans }, flt := (foundCe c raw page s).flt } ∧
      ((foundCe c raw page s).chan c).ce = min ((s.chan c).ce + 1) 4294967295 ∧
      ((foundCe c raw page s).chan c).scrubAt = (s.chan c).scrubAt := by
  unfold foundCe
  extract_lets counted base n
  have hchan : counted.chan c = { s.chan c with ce := bump (s.chan c).ce, ceSectors := addOnce (s.chan c).ceSectors (raw / 32) } :=
    State.chan_updChan_same ..
  split
  · obtain ⟨frame, hce, -, -, hscrub⟩ := beginRetire_begins c page 2 counted
    rw [hce, hscrub, hchan]
    exact ⟨by rw [frame]; rfl, rfl, rfl⟩
  · rw [hchan]
    exact ⟨rfl, rfl, rfl⟩

theorem contains_addOnce (l : List Nat) (x : Nat) : (addOnce l x).contains x = true := by
  unfold addOnce
  split
  · assumption
  · simp

/-- An uncorrectable sector that has not been written meanwhile is counted and poisoned (R252). -/
theorem foundUe_spec (c raw page : Nat) (s : State) :
    ∃ u ch l, foundUe c raw page false true s = u ∧
      u = { s with mem := { s.mem with poison := addOnce s.mem.poison (rawKeyOf c raw / 32), chans := ch }, flt := l } ∧
      (u.chan c).ue = min ((s.chan c).ue + 1) 4294967295 ∧ (u.chan c).stUe = true := by
  unfold foundUe
  extract_lets poisoned again counted raised
  have hchan : counted.chan c = { s.chan c with ue := bump (s.chan c).ue, stUe := true
                                                ueRaised := addOnce (s.chan c).ueRaised page } := State.chan_updChan_same ..
  have told : raised = counted ∨ raised = raiseFull 0x6001 c none page counted := by
    unfold raised
    split
    · exact .inl rfl
    · exact .inr rfl
  have rchan : raised.chan c = counted.chan c := by obtain h | h := told <;> rw [h]; rfl
  obtain ⟨frame, -, hue, hst, -⟩ := beginRetire_begins c page 1 raised
  generalize (beginRetire c page 1 raised).mem.chans = x, (beginRetire c page 1 raised).flt = y at frame
  refine ⟨_, x, y, if_pos rfl, frame.trans ?_, hue.trans (by rw [rchan, hchan]; rfl), hst.trans (by rw [rchan, hchan])⟩
  obtain h | h := told <;> rw [h] <;> rfl

theorem updChan_congr {c : Nat} {f g : Chan → Chan} {s : State} (h : f (s.chan c) = g (s.chan c)) : s.updChan c f = s.updChan c g :=
  congrArg (fun x => { s with mem := { s.mem with chans := tset s.mem.chans c x } }) h

/-- The state as a scrub read leaves it before its findings. -/
def scrubbed (c : Nat) (s : State) : State := s.updChan c fun x => Chan.noteHigh 1 { x with
  scrubAt := (x.scrubAt + 1) % s.scrubSectors, sr := false, idleSince := s.now
  rdBytes := satAdd 64 x.rdBytes 32 }

theorem doScrubRead_of_serving {c : Nat} {s : State} (hs : s.inService c = true) (hf : (s.chan c).reservedFree = true) :
    ∃ raw page, ((s.chan c).scrubAt < s.im.dataBytes / 32 → raw = 32 * (s.chan c).scrubAt) ∧
      doScrubRead c .clean s = scrubbed c s ∧ doScrubRead c .linkCorrected s = foundLink c (scrubbed c s) ∧
      doScrubRead c .corrected s = foundCe c raw page (scrubbed c s) ∧
      doScrubRead c .uncorrectable s = foundUe c raw page false true (scrubbed c s) := by
  have moved : s.updChan c (fun ch => Chan.noteHigh 1 { ch with
      scrubAt := ((s.chan c).scrubAt + 1) % s.scrubSectors, sr := false, idleSince := s.now
      rdBytes := satAdd 64 ch.rdBytes 32 }) = scrubbed c s := updChan_congr rfl
  refine ⟨if (s.chan c).scrubAt < s.im.dataBytes / 32 then 32 * (s.chan c).scrubAt
      else s.spareBase + 32 * ((s.chan c).scrubAt - s.im.dataBytes / 32),
    if (s.chan c).scrubAt < s.im.dataBytes / 32 then 32 * (s.chan c).scrubAt / 65536
      else spareCode (((s.chan c).scrubAt - s.im.dataBytes / 32) / 2048), fun h => if_pos h, ?_, ?_, ?_, ?_⟩ <;>
  · rw [← moved]
    exact if_neg (by simp [hs, hf])

theorem scrubbed_chan (c : Nat) (s : State) : (scrubbed c s).chan c = Chan.noteHigh 1 { s.chan c with
    scrubAt := ((s.chan c).scrubAt + 1) % s.scrubSectors, sr := false, idleSince := s.now
    rdBytes := satAdd 64 (s.chan c).rdBytes 32 } :=
  State.chan_updChan_same ..

/-! ### The end of a retirement's copy -/

/-- The log of a retirement changes flash, the notes of a full log and the event log. -/
theorem logRetirement_spec (c spare cause page : Nat) (s : State) :
    ∃ u, logRetirement c spare cause page s = u ∧
      u = { s with nv := u.nv, start := u.start, flt := u.flt, mem := { s.mem with stUnlogged := u.mem.stUnlogged } } ∧
      u.nv.fuses = s.nv.fuses := by
  unfold logRetirement
  extract_lets body r
  have logged : ProgramFrame s r.2 := appendLog_frame 1 body s
  have fuses : r.2.nv.fuses = s.nv.fuses := appendLog_fuses 1 body s
  clear_value r
  obtain ⟨o, v⟩ := r
  obtain ⟨n, st, l, rfl⟩ : ∃ n st l, v = { s with nv := n, start := st, flt := l } := ⟨_, _, _, logged.frame⟩
  cases o with
  | some i => exact ⟨_, rfl, rfl, fuses⟩
  | none =>
    dsimp only
    split
    · exact ⟨_, rfl, rfl, fuses⟩
    · exact ⟨_, rfl, rfl, fuses⟩

theorem evictPage_serving (c code : Nat) (s : State) : Serving s (evictPage c code s) :=
  .foldl (fun u _ => evictLine_serving c _ u) _ s

theorem evictPage_of_nil {c : Nat} (code : Nat) {s : State} (h : (s.chan c).wcb = []) : evictPage c code s = s := by
  rw [evictPage, h]
  rfl

theorem resumeHeld_of_nil {c : Nat} {s : State} (h : (s.chan c).slots = []) : resumeHeld c s = s :=
  resumeHeld_of_none (by simp [h])

/-- The state after the copy of the oldest page under retirement: its entry in the map and in the table, before what waited for it
goes on (R253). -/
structure Copied (c : Nat) (r : Retiring) (rest : List Retiring) (s w : State) : Prop where
  frame : w = { s with mem := w.mem }
  cells : w.mem.cells = (copyPage c r.page r.spare s).mem.cells
  retTable : w.mem.retTable = s.mem.retTable ++ [⟨c, r.spare, r.cause, r.page⟩]
  lasting : (w.chan c).lasting = (rest, (s.chan c).map ++ [(r.page, r.spare)], min ((s.chan c).retiredPages + 1) 127, true)
  nils : (s.chan c).slots = [] → (s.chan c).wcb = [] → (w.chan c).slots = [] ∧ (w.chan c).wcb = []

/-- What a copy without findings does, in its order. -/
theorem doRetirementCopyDone_spec {c : Nat} {r : Retiring} {rest : List Retiring} {s : State} (hr : (s.chan c).retiring = r :: rest) :
    ∃ w, Copied c r rest s w ∧ doRetirementCopyDone c [] s = resumeHeld c (logRetirement c r.spare r.cause r.page
      (raiseFull 0x6002 c none r.page (evictPage c (spareCode r.spare) w))) := by
  unfold doRetirementCopyDone
  split
  · next h => cases hr.symm.trans h
  next r' rest' h =>
  obtain ⟨rfl, rfl⟩ := List.cons.inj (hr.symm.trans h)
  extract_lets copied found bad marked mapped memory tabled
  have hmarked : marked.chan c = _ := State.chan_updChan_same c _ found
  have hmapped : mapped.chan c = _ := State.chan_updChan_same c _ marked
  rw [hmarked] at hmapped
  have htabled : tabled.chan c = mapped.chan c := rfl
  rw [hmapped] at htabled
  refine ⟨tabled, ⟨rfl, rfl, rfl, ?_, fun hslots hwcb => ?_⟩, rfl⟩
  · rw [htabled]
    rfl
  · rw [htabled]
    exact ⟨List.map_eq_nil_iff.mpr hslots, hwcb⟩

/-- Settles O46. -/
theorem memoryUpkeep : Obligations.MemoryUpkeep := by
  unfold Obligations.MemoryUpkeep
  intro t c s a ch
  have schan (n : Nat) : s.chan n = a.chan n := (State.advance_chan ..).symm
  refine ⟨fun r rest hr => ?copied, fun hr => ⟨?none, fun hheld hused => ?idle⟩, fun bank => ?refresh, fun hs hf => ?scrub,
    fun hn e => ?noScrub, fun hs hms hq hidle hslots hqueues => ?enters, fun hq => ?stays⟩
  case copied =>
    obtain ⟨w, copied, hrun⟩ := doRetirementCopyDone_spec (s := a) (c := c) hr
    have evicted := evictPage_serving c (spareCode r.spare) w
    obtain ⟨l, hl, lframe, lfuses⟩ := logRetirement_spec c r.spare r.cause r.page
      (raiseFull 0x6002 c none r.page (evictPage c (spareCode r.spare) w))
    rw [hl] at hrun
    have resumed := resumeHeld_serving c l
    have lchan (n : Nat) : l.chan n = (evictPage c (spareCode r.spare) w).chan n := by rw [lframe]; rfl
    have lasting : ((resumeHeld c l).chan c).lasting = (rest, ch.map ++ [(r.page, r.spare)], min (ch.retiredPages + 1) 127, true) := by
      rw [resumed.lasting, lchan, evicted.lasting, copied.lasting]
    simp only [Chan.lasting, Prod.mk.injEq] at lasting
    obtain ⟨hretiring, hmap, hpages, hst⟩ := lasting
    obtain ⟨m, hw⟩ : ∃ m, w = { a with mem := m } := ⟨_, copied.frame⟩
    have frame : resumeHeld c l = { a with nv := l.nv, start := l.start, flt := l.flt, sync := (resumeHeld c l).sync
                                           tiles := (resumeHeld c l).tiles, part := (resumeHeld c l).part
                                           mem := (resumeHeld c l).mem } := by
      refine resumed.frame.trans ?_
      rw [lframe, evicted.frame, hw]
      rfl
    refine ⟨_, congrArg (fun u => Host.Outcome.next (settleTiles u)) hrun, hretiring, hmap, hpages, hst, ?_, ?_, ?_, ?_, ?_, ?_,
      fun hslots hwcb hwf k hk => ?_⟩
    · rw [resumed.retTable, lframe]
      exact (evicted.retTable.trans copied.retTable).trans (congrArg (· ++ _) (State.advance_mem_retTable ..))
    · rw [resumed.sram, lframe]
      refine evicted.sram.trans ?_
      rw [hw]
      exact congrArg TilesSt.sram (State.advance_tiles ..)
    · rw [frame]
      have before : (evictPage c (spareCode r.spare) w).nv = a.nv := by rw [evicted.frame, hw]
      exact lfuses.trans (congrArg NonVol.fuses (before.trans (State.advance_nv ..)))
    · rw [frame]
      exact State.advance_pins ..
    · rw [frame]
      exact State.advance_img ..
    · rw [frame]
      exact State.advance_round ..
    · obtain ⟨wslots, wwcb⟩ := copied.nils hslots hwcb
      rw [evictPage_of_nil _ wwcb] at lchan lframe
      have cells : s.mem.cells = a.mem.cells := (State.advance_mem_cells ..).symm
      obtain ⟨⟨hwf, -⟩, -⟩ : (_ ∧ _) ∧ _ := by simpa only [Memory.wf, Bool.and_eq_true] using hwf
      have lcells : l.mem.cells = (copyPage c r.page r.spare a).mem.cells := by
        rw [lframe]
        exact copied.cells
      rw [resumeHeld_of_nil (by rw [lchan, wslots]), lcells, cells]
      exact cells_copyPage (cells ▸ hwf) hk
  case none =>
    refine congrArg (fun u => Host.Outcome.next (settleTiles u)) (?_ : doRetirementCopyDone c [] a = a)
    unfold doRetirementCopyDone
    rw [hr]
  case idle =>
    have retiring : (a.chan c).retiring = [] := hr
    obtain ⟨evicted, hwcb⟩ := foldl_evictLine c (ch.wcb.filter fun w => w.last + 2000 ≤ a.now) retiring hused
    refine ⟨_, congrArg (fun u => Host.Outcome.next (settleTiles u)) (resumeHeld_of_none (evicted.held hheld)), evicted.frame, ?_,
      fun n hn => (evicted.others n hn).trans (schan n).symm⟩
    refine hwcb.trans (List.filter_congr fun w _ => ?_)
    rw [List.any_filter]
    simp [Bool.and_comm]
  case refresh =>
    refine congrArg Host.Outcome.next ?_
    by_cases hb : bank < 32
    · by_cases hs : ch.state = 1
      · rw [if_pos hb, if_pos ⟨hb, hs⟩]
        exact if_pos (decide_eq_true hs)
      · rw [if_pos hb, if_neg fun h => hs h.2]
        exact if_neg fun h => hs (of_decide_eq_true h)
    · rw [if_neg hb, if_neg fun h => hb h.1]
  case scrub =>
    obtain ⟨raw, page, hraw, clean, link, corrected, uncorrectable⟩ := doScrubRead_of_serving (s := a) (c := c) (decide_eq_true hs) hf
    have run (e : Ecc) {v : State} (h : doScrubRead c e a = v) : exec (.scrubRead t c e) s = .next v := congrArg Host.Outcome.next h
    have bytes (x : Nat) : satAdd 64 x 32 = min (x + 32) 18446744073709551615 := satAdd_64 x 32
    refine ⟨run _ (clean.trans ?_), ⟨_, run _ link, rfl, ?_⟩, ⟨_, run _ corrected, ?_⟩, ?_⟩
    · unfold scrubbed
      simp only [bytes]
    · unfold foundLink
      rw [State.chan_updChan_same, scrubbed_chan]
      exact ⟨rfl, rfl⟩
    · obtain ⟨frame, hce, hscrub⟩ := foundCe_spec c raw page (scrubbed c a)
      rw [hce, hscrub, scrubbed_chan]
      exact ⟨frame, rfl, rfl⟩
    · obtain ⟨u, x, l, hu, frame, hue, hst⟩ := foundUe_spec c raw page (scrubbed c a)
      rw [scrubbed_chan] at hue
      refine ⟨u, run _ (uncorrectable.trans hu), ?_, hue, hst, fun hlt => ?_⟩
      · rw [frame]
        rfl
      · have key : rawKeyOf c raw = rawKeyOf c (32 * ch.scrubAt) := congrArg (rawKeyOf c) (hraw hlt)
        rw [frame, ← key]
        exact contains_addOnce _ _
  case noScrub =>
    refine congrArg Host.Outcome.next (?_ : doScrubRead c e a = a)
    refine if_pos (Bool.or_eq_true_iff.mpr (hn.imp (fun h => ?_) fun h => ?_))
    · rw [State.inService, decide_eq_false h]
      rfl
    · rw [h]
      rfl
  case enters =>
    have im : s.im = a.im := (State.advance_im ..).symm
    have part : s.part = a.part := (State.advance_part ..).symm
    rw [im, part] at hidle
    rw [im] at hms
    refine congrArg Host.Outcome.next (?_ : doSelfRefreshEntry c a = _)
    refine if_pos ?_
    simp only [Bool.and_eq_true, decide_eq_true_eq]
    refine ⟨⟨⟨⟨⟨decide_eq_true hs, hms⟩, hq⟩, hidle⟩, ?_⟩, ?_⟩
    · exact List.isEmpty_iff.mpr hslots
    · exact hqueues ▸ rfl
  case stays =>
    refine congrArg Host.Outcome.next (?_ : doSelfRefreshEntry c a = a)
    exact if_neg (by simp [hq])

end Sys2Proof.Machine

/-! PROOFS. The traffic generator of a channel held out of service. -/

namespace Sys2Proof.Machine

theorem bit_zero (n : Nat) : bit n 0 = (n % 2 = 1 : Bool) := by
  simp [bit]

/-- A control word that starts a run: it takes the settings in force (R260). -/
theorem tgControl_of_go {c w : Nat} {s : State} (hgo : w % 2 = 1) (hb : (s.chan c).tg.busy = false) :
    tgControl c w s = s.updChan c fun y => { y with tg := { (s.chan c).tg with
      go := true, busy := true, mode := w / 2 % 4, pattern := w / 8 % 4, passesDone := 0, errors := 0, firstErr := 0, ce := 0
      run := { mode := w / 2 % 4, pattern := w / 8 % 4, seed := (s.chan c).tg.seed, base := (s.chan c).tg.base
               len := (s.chan c).tg.len, passes := (s.chan c).tg.passes } } } := by
  refine updChan_congr ?_
  dsimp only
  simp [bit_zero, hgo, hb, bits]

theorem tgControl_of_stop {c w : Nat} {s : State} (hgo : w % 2 = 0) :
    tgControl c w s = s.updChan c fun y => { y with tg := { (s.chan c).tg with
      go := false, mode := w / 2 % 4, pattern := w / 8 % 4 } } := by
  refine updChan_congr ?_
  dsimp only
  simp [bit_zero, hgo, bits]

theorem Tg.ended_firstErr_of_none {g : Tg} {x : TgResult} (h : (g.ended x).errors = 0) : (g.ended x).firstErr = 0 :=
  if_pos h

/-- A first mismatch that is told lies in the bytes that the run covers (R260). -/
theorem Tg.ended_firstErr_of_some {g : Tg} {x : TgResult} (h : (g.ended x).errors ≠ 0) :
    g.run.base ≤ (g.ended x).firstErr ∧ (g.ended x).firstErr < g.run.base + 65536 * g.run.len := by
  have hlen : g.run.len ≠ 0 := fun h0 => h (if_pos h0)
  have hfirst : (g.ended x).firstErr =
      if g.run.base ≤ x.firstErr && x.firstErr < g.run.base + g.run.bytes then x.firstErr else g.run.base := if_neg h
  rw [hfirst, TgRun.bytes]
  split
  · next hin => simpa using hin
  · omega

/-- Settles O47. -/
theorem trafficGenerator : Obligations.TrafficGenerator := by
  unfold Obligations.TrafficGenerator
  intro t c r w x s a g hup
  have up : a.start.pcieUp = true := (congrArg (·.pcieUp) (State.advance_start ..)).trans hup
  have start {v : State} (h : doTgStart r c w a = v) : exec (.tgStart t r c w) s = .next v := congrArg Host.Outcome.next h
  have stop {v : State} (h : doTgStop r c w a = v) : exec (.tgStop t r c w) s = .next v := congrArg Host.Outcome.next h
  refine ⟨fun hr hc hs => ⟨fun hgo hb => start ?_, fun hgo => stop ?_⟩, fun hno => ?_, fun hb => ?_, fun hb => ?_⟩
  · have held : a.heldOut c = true := by simp [State.heldOut, hc, hs]
    unfold doTgStart
    rw [if_neg (by simp [up]), if_pos (by simp [hr, held, bit_zero, hgo])]
    exact tgControl_of_go hgo hb
  · have held : a.heldOut c = true := by simp [State.heldOut, hc, hs]
    unfold doTgStop
    rw [if_neg (by simp [up]), if_pos (by simp [hr, held, bit_zero, hgo])]
    exact tgControl_of_stop hgo
  · have refused : (decide (r = 0) && a.heldOut c) = false := by
      simp only [State.heldOut, Bool.and_eq_false_iff, decide_eq_false_iff_not]
      omega
    refine ⟨start ?_, stop ?_⟩
    · unfold doTgStart
      rw [if_neg (by simp [up]), refused]
      rfl
    · unfold doTgStop
      rw [if_neg (by simp [up]), refused]
      rfl
  · refine ⟨g.ended x, congrArg Host.Outcome.next ((if_neg (show ¬(!g.busy) = true by rw [hb]; decide)).trans (updChan_congr rfl)),
      rfl, rfl,
      rfl,
      Tg.ended_firstErr_of_none, Tg.ended_firstErr_of_some, ?_⟩
    simp [Tg.ended]
  · exact congrArg Host.Outcome.next (if_pos (show (!g.busy) = true by rw [hb]; rfl))

end Sys2Proof.Machine

/-! PROOFS. The Lens engines serve requests. -/

namespace Sys2Proof.Machine

theorem State.engine_updEngine_same (n : Nat) (f : Engine → Engine) (s : State) : (s.updEngine n f).engine n = f (s.engine n) :=
  tget_tupd_same ..

theorem State.engine_updEngine_other {n k : Nat} (f : Engine → Engine) (s : State) (h : k ≠ n) :
    (s.updEngine n f).engine k = s.engine k :=
  tget_tupd_other _ _ _ h

/-- Two changes of an engine make one. -/
theorem updEngine_updEngine (n : Nat) (f g : Engine → Engine) (s : State) :
    (s.updEngine n f).updEngine n g = s.updEngine n fun e => g (f e) := by
  simp only [State.updEngine, tupd, tget_tset_same, tset_tset_same]

theorem updEngine_congr {n : Nat} {f g : Engine → Engine} {s : State} (h : f (s.engine n) = g (s.engine n)) :
    s.updEngine n f = s.updEngine n g :=
  congrArg (fun x => { s with lens := { s.lens with engines := tset s.lens.engines n x } }) h

theorem nextMatrix_of_not_serving {n : Nat} {s : State} (h : (s.engine n).state ≠ .serving) : nextMatrix n s = s :=
  if_pos (by simp [h])

theorem nextMatrix_of_nil {n : Nat} {s : State} (hs : (s.engine n).state = .serving) (hc : s.clocked = true)
    (hq : (s.engine n).queue = []) : nextMatrix n s = s.updEngine n fun e => { e with drain := none } := by
  unfold nextMatrix
  dsimp only
  rw [if_neg (by simp [hs, hc]), hq]

/-- An engine without a matrix loads the one that its oldest request names (R271). -/
theorem nextMatrix_of_none {n : Nat} {q : LensReq} {r : List LensReq} {s : State} (hs : (s.engine n).state = .serving)
    (hc : s.clocked = true) (hq : (s.engine n).queue = q :: r) (hm : (s.engine n).matrix = none) :
    nextMatrix n s = startLoad n q s := by
  have ready (x : LensReq) : (s.engine n).ready x = false := by simp [Engine.ready, hm]
  unfold nextMatrix
  dsimp only
  rw [if_neg (by simp [hs, hc]), hq]
  simp [ready]

/-! ### A window without marks -/

theorem getD_map_saturates {l : List Int} (h : ∀ x ∈ l, -512 ≤ x ∧ x ≤ 511) (j : Nat) :
    (l.map saturates).getD j false = false := by
  rw [List.getD_eq_getElem?_getD, List.getElem?_map]
  cases hj : l[j]? with
  | none => rfl
  | some x =>
    have := h x (List.mem_of_getElem? hj)
    simp only [Option.map_some, Option.getD_some, saturates, Bool.or_eq_false_iff, decide_eq_false_iff_not]
    omega

/-- Codes within the range mark no lane (R275). -/
theorem Engine.marked_of_range {e : Engine} {l : List Int} (h : ∀ x ∈ l, -512 ≤ x ∧ x ≤ 511) : e.marked l = e := by
  have sat := getD_map_saturates h
  have near (j : Nat) : nearSat (l.map saturates) j = false := by simp only [nearSat, sat]; simp
  have keeps {α : Type} (m : Tab α) (js : List Nat) (f : Tab α → Nat → Tab α) (p : Nat → Bool) (hp : ∀ j, p j = false) :
      js.foldl (fun m j => if p j then f m j else m) m = m :=
    List.foldlRecOn (motive := fun u => u = m) _ _ rfl fun u hu j _ => by rw [hp j]; exact hu
  unfold Engine.marked
  dsimp only
  rw [keeps (p := fun j => (l.map saturates).getD j false) _ _ _ sat, keeps (p := fun j => nearSat (l.map saturates) j) _ _ _ near]

theorem Engine.windowEnd_of_clean {e : Engine} (now : Nat) (ho : e.ovrLeft = []) (hs : e.shadowLeft = []) (hf : e.frozen = false) :
    e.windowEnd now = { e with ovrCount := satAdd 32 e.ovrCount 0, shadowCount := satAdd 32 e.shadowCount 0, cleanWindows := 0 } := by
  cases e
  simp only at ho hs hf
  subst ho hs hf
  rfl

/-- The codes of a window without marks: the ideal ones with the free errors, within the codes' range (R274). -/
def cleanCodes (limit : Option Nat) (free : Nat) (ideal : List Int) : List Int :=
  (List.range 64).map fun j => max (-512) (min 511 (ideal.getD j 0 + (laneErrors limit (fun _ => false) false free).getD j 0))

/-- The only request of an engine that holds its matrix takes the window, and its codes go to the tile (R271, R277). -/
theorem doIntegrationWindow_of_clean {n : Nat} {q : LensReq} {m : Matrix} {s : State} (hc : s.clocked = true)
    (hs : (s.engine n).state = .serving) (hm : (s.engine n).matrix = some m) (hq : (s.engine n).queue = [q])
    (hserves : m.serves q = true) (hd : (s.engine n).drain = none) (hus : (s.engine n).thisUs < (s.engine n).limit)
    (hov : (s.engine n).ovrLeft = []) (hsh : (s.engine n).shadowLeft = []) (hfr : (s.engine n).frozen = false)
    (hin : ∀ x ∈ idealCodes m q.levels, -512 ≤ x ∧ x ≤ 511) :
    doIntegrationWindow n s = landCodes (s.engine n) m q (cleanCodes (s.codeLimit n (s.engine n)) s.free (idealCodes m q.levels))
      { s with
        free := s.free + 1
        lens := { s.lens with engines := tset s.lens.engines n { s.engine n with
          queue := [], vectors := min ((s.engine n).vectors + 1) 18446744073709551615, thisUs := (s.engine n).thisUs + 1
          cleanWindows := 0, ovrCount := min (s.engine n).ovrCount 4294967295
          shadowCount := min (s.engine n).shadowCount 4294967295 } } } := by
  have marked := Engine.marked_of_range (e := s.engine n) hin
  have nomarks : (s.engine n).hasMarks = false := by simp [Engine.hasMarks, hov, hsh]
  have nofreeze (now : Nat) : (s.engine n).freeze now = s.engine n := if_neg (by simp [nomarks])
  have chosen : (s.engine n).serving = some (0, q, m) := by
    unfold Engine.serving
    rw [if_neg (by simp [hs]; omega), hm, hq, hd]
    simp [hserves]
  unfold doIntegrationWindow
  dsimp only
  rw [if_neg (by rw [hc, hs]; decide), chosen]
  dsimp only
  unfold serveWindow
  dsimp only
  rw [marked, nofreeze, nomarks]
  have codes : ((List.range 64).map fun j => (s.engine n).code j ((idealCodes m q.levels).getD j 0)
      ((laneErrors (s.codeLimit n (s.engine n)) (thas (s.engine n).shadowLeft) false s.free).getD j 0)) =
      cleanCodes (s.codeLimit n (s.engine n)) s.free (idealCodes m q.levels) := by
    simp only [Engine.code, hov, hsh]
    rfl
  rw [codes, hq, hd]
  set w : Engine := { s.engine n with
    queue := dropAt [q] 0, drain := Option.map (fun k => k - 1) none, vectors := satAdd 64 (s.engine n).vectors 1
    thisUs := (s.engine n).thisUs + 1 }
  set u : State := { s with free := s.free + 1 }
  have hw : (u.updEngine n fun _ => w).engine n = w := State.engine_updEngine_same ..
  have quiet : noteOvr n (u.updEngine n fun _ => w) = u.updEngine n fun _ => w := by
    refine if_pos ?_
    rw [hw]
    simp [w, hov]
  have ended : w.windowEnd u.now = { w with
      ovrCount := satAdd 32 w.ovrCount 0, shadowCount := satAdd 32 w.shadowCount 0, cleanWindows := 0 } :=
    Engine.windowEnd_of_clean _ hov hsh hfr
  have hend : ((u.updEngine n fun _ => w).updEngine n (Engine.windowEnd u.now)).engine n = w.windowEnd u.now := by
    rw [State.engine_updEngine_same, hw]
  have idle : nextMatrix n ((u.updEngine n fun _ => w).updEngine n (Engine.windowEnd u.now)) = _ :=
    nextMatrix_of_nil (by rw [hend, ended]; exact hs) hc (by rw [hend, ended]; rfl)
  rw [quiet]
  refine congrArg (landCodes _ _ _ _) (idle.trans ?_)
  rw [updEngine_updEngine, updEngine_updEngine]
  simp only [State.updEngine, tupd]
  rw [ended]
  simp only [satAdd_32, satAdd_64, w, Nat.add_zero]
  rfl

/-- Settles O48. -/
theorem lensServes : Obligations.LensServes := by
  unfold Obligations.LensServes
  intro t i n s a e hc
  have lens : s.lens.flight = a.lens.flight := by simp [a]
  have parcel (id : Nat) : s.parcel id = a.parcel id := by simp [a, State.parcel]
  have free : s.free = a.free := (State.advance_free ..).symm
  rw [lens, free]
  refine ⟨fun q hq hany => ?early, fun q hq hany hn => ?request, fun hs hq => ?load, fun hs => ?notLoading, fun hn => ?micro,
    fun q m r hs hm hq hserves hd hus hov hsh hfr hin hr => ?window, fun hs => ?dark⟩
  case early =>
    refine congrArg Host.Outcome.next (?_ : doLensRequest i a = a)
    unfold doLensRequest
    simp only [hq]
    exact if_pos (by simp [hany])
  case request =>
    intro b
    have run : exec (.lensRequest t i) s = .next (nextMatrix n b) := by
      refine congrArg Host.Outcome.next (?_ : doLensRequest i a = _)
      unfold doLensRequest
      simp only [hq]
      rw [if_neg (by simp [hany, hc]), hn]
      rfl
    have hb : b.engine n = { e with queue := e.queue ++ [q] } := tget_tset_same ..
    refine ⟨run, fun hs => ?_, fun hs hnil hm p hp => ?_⟩
    · rw [run, nextMatrix_of_not_serving (s := b) (by rw [hb]; exact hs)]
    · rw [run, nextMatrix_of_none (s := b) (n := n) (q := q) (r := [])
        (by rw [hb]; exact hs) hc (by rw [hb, hnil]; rfl) (by rw [hb]; exact hm)]
      have hbp : b.parcel q.parcel = some p := (parcel _).symm.trans hp
      unfold startLoad
      simp only [hbp]
      refine congrArg (fun x => Host.Outcome.next (seeDev n _ 4112 x)) ?_
      simp only [State.updEngine, tupd, b, tget_tset_same, tset_tset_same, hnil, List.nil_append]
  case load =>
    refine congrArg Host.Outcome.next (?_ : doMatrixLoadDone n a = _)
    unfold doMatrixLoadDone
    refine (if_neg (by simpa [hc] using hs)).trans ?_
    set f : Engine → Engine := fun y => { y.quieted with
      state := if (a.engine n).calPending then .calibrating else .serving
      matrix := (a.engine n).loading, loading := none, loads := bump (a.engine n).loads, calPending := false }
    have hf : (a.updEngine n f).engine n = f e := State.engine_updEngine_same ..
    by_cases hp : e.calPending = true
    · refine (nextMatrix_of_not_serving (s := a.updEngine n f) ?_).trans ?_
      · rw [hf]
        simp only [f]
        rw [show (a.engine n).calPending = true from hp]
        decide
      · rw [if_pos hp, if_pos hp]
        simp only [State.updEngine, tupd, f, bump_eq]
        rw [show (a.engine n).calPending = true from hp]
        rfl
    · refine (nextMatrix_of_nil (s := a.updEngine n f) ?_ hc ?_).trans ?_
      · rw [hf]
        simp only [f]
        rw [show (a.engine n).calPending = false from eq_false_of_ne_true hp]
        rfl
      · rw [hf]
        exact hq
      · rw [if_neg hp, if_neg hp, updEngine_updEngine]
        simp only [State.updEngine, tupd, f, bump_eq]
        rw [show (a.engine n).calPending = false from eq_false_of_ne_true hp]
        rfl
  case notLoading => 
    refine congrArg Host.Outcome.next (?_ : doMatrixLoadDone n a = a)
    exact if_pos (Bool.or_eq_true_iff.mpr (.inl (decide_eq_true hs)))
  case micro =>
    refine congrArg Host.Outcome.next (?_ : doActivityMicrosecond n a = _)
    exact if_neg (by simp [hc, hn])
  case window =>
    refine congrArg Host.Outcome.next (?_ : doIntegrationWindow n a = _)
    exact doIntegrationWindow_of_clean hc hs hm (hr ▸ hq) hserves hd hus hov hsh hfr hin
  case dark =>
    refine congrArg Host.Outcome.next (?_ : doIntegrationWindow n a = a)
    refine if_pos (Bool.or_eq_true_iff.mpr (.inr ?_))
    obtain h | h := hs <;> rw [show (a.engine n).state = _ from h] <;> rfl

end Sys2Proof.Machine

/-! PROOFS. What follows the failure of a port, and what a lost light source and the LIGHT stage do. -/

namespace Sys2Proof.Machine

/-! ### A port that fails -/

/-- What follows the loss of a port: the fabric, the feature store's replicas and the event log change, and what training settled of
the ports, the part's role and its light stay. -/
structure Losing (s u : State) : Prop where
  frame : u = { s with fs := u.fs, fab := u.fab, flt := u.flt }
  core : ∀ k, (u.port k).core = (s.port k).core
  marked : u.fab.stPort = s.fab.stPort

theorem Losing.refl (s : State) : Losing s s := ⟨rfl, fun _ => rfl, rfl⟩

theorem Losing.trans {a b c : State} (h : Losing a b) (k : Losing b c) : Losing a c :=
  ⟨by rw [k.frame, h.frame], fun n => (k.core n).trans (h.core n), k.marked.trans h.marked⟩

theorem Losing.ite {s a b : State} {c : Prop} [Decidable c] (ha : Losing s a) (hb : Losing s b) : Losing s (if c then a else b) := by
  split
  · exact ha
  · exact hb

theorem Losing.foldl {α : Type} {f : State → α → State} (hf : ∀ s x, Losing s (f s x)) (l : List α) (s : State) :
    Losing s (l.foldl f s) :=
  List.foldlRecOn l f (.refl s) fun u h x _ => h.trans (hf u x)

theorem SameCore.losing {s u : State} (h : SameCore s u) (hp : PortsOnly s u) : Losing s u := by
  obtain ⟨_, rfl⟩ := hp
  exact ⟨rfl, h.core, rfl⟩

theorem leaveBuffer_losing (f : Flit) (s : State) : Losing s (leaveBuffer f s) :=
  (leaveBuffer_sameCore f s).losing (leaveBuffer_portsOnly f s)

theorem queueFlit_losing (n : Nat) (f : Flit) (s : State) : Losing s (queueFlit n f s) :=
  (queueFlit_sameCore n f s).losing (queueFlit_portsOnly n f s)

theorem reroute_losing (n : Nat) (fs : List Flit) (s : State) : Losing s (reroute n fs s) :=
  .foldl (fun u f => .ite (leaveBuffer_losing f u) (queueFlit_losing _ f u)) fs s

theorem sendSyncOn_losing (n type : Nat) (bs : List Byte) (s : State) : Losing s (sendSyncOn n type bs s) := queueFlit_losing _ _ s

theorem toChildren_losing (type : Nat) (bs : List Byte) (s : State) : Losing s (toChildren type bs s) := by
  unfold toChildren
  exact .foldl (fun u _ => sendSyncOn_losing _ _ _ u) _ s

theorem dropRow_losing (table row : Nat) (s : State) : Losing s (dropRow table row s) := by
  obtain ⟨z, hz⟩ := dropRow_spec table row s
  rw [hz]
  exact ⟨rfl, fun _ => rfl, rfl⟩

theorem dropReplicasOf_losing (d : Nat) (s : State) : Losing s (dropReplicasOf d s) :=
  .foldl (fun u _ => dropRow_losing _ _ u) _ s

theorem sendJoin_losing (r : JoinReq) (s : State) : Losing s (sendJoin r s) := queueFlit_losing _ _ s

theorem dropMember_losing (d : Nat) (s : State) : Losing s (dropMember d s) :=
  Losing.trans (b := { s with fab := { s.fab with memberMap := clearBit s.fab.memberMap d } }) ⟨rfl, fun _ => rfl, rfl⟩
    (dropReplicasOf_losing d _)

theorem removeMember_losing (d : Nat) (s : State) : Losing s (removeMember d s) := by
  unfold removeMember
  refine .ite (.refl s) ?_
  extract_lets serial dropped fab counted
  exact (dropMember_losing d s).trans (.trans (b := counted) ⟨rfl, fun _ => rfl, rfl⟩ (toChildren_losing _ _ _))

theorem loseChild_losing (n : Nat) (s : State) : Losing s (loseChild n s) :=
  .foldl (fun u _ => .ite (removeMember_losing _ u) (sendSyncOn_losing _ _ _ u)) _ s

theorem tryAlternate_losing (s : State) : Losing s (tryAlternate s).2 := by
  unfold tryAlternate
  dsimp only
  split
  · exact .refl s
  · set v : State := { s with fab := { s.fab with parentActive := s.im.fab.altParent, altTried := true, lastBeacon := s.now } }
    exact Losing.trans (b := v) ⟨rfl, fun _ => rfl, rfl⟩ ((sendJoin_losing _ v).trans (.foldl (fun u _ => sendJoin_losing _ u) _ _))

/-- A port that fails is FAILED with its cause, and the others keep what training settled of them (R303). -/
theorem failPort_spec (n cause : Nat) (s : State) :
    failPort n cause s = { s with
      fs := (failPort n cause s).fs, fab := (failPort n cause s).fab, flt := (failPort n cause s).flt } ∧
      ((failPort n cause s).port n).core = { (s.port n).core with state := .failed, failCause := cause } ∧
      (∀ k, k ≠ n → ((failPort n cause s).port k).core = (s.port k).core) ∧ (failPort n cause s).fab.stPort = true := by
  set v := s.updPort n fun p => { dropReplay p with
    state := .failed, failCause := cause, probing := false, pendingMode := none, queues := [] } with hv
  set w := raise 0x9006 n { v with fab := { v.fab with stPort := true } } with hw
  have rest : Losing w (failPort n cause s) := by
    unfold failPort
    dsimp only
    refine Losing.trans ?_ (reroute_losing _ _ _)
    exact .ite (.refl w) (.ite (tryAlternate_losing w) (.ite (loseChild_losing n w) (.refl w)))
  have wcore (k : Nat) : w.port k = v.port k := rfl
  refine ⟨rest.frame.trans ?_, (rest.core n).trans ?_, fun k hk => (rest.core k).trans ?_, rest.marked.trans rfl⟩
  · rw [hw, hv]
    rfl
  · rw [wcore, hv, updPort_port_same]
    rfl
  · rw [wcore, hv, updPort_port_other hk]

/-! ### Engines of a part without tasks -/

/-- No tile holds a task, and no request is on its way to an engine. -/
def Bare (s : State) : Prop := s.tiles.tiles = [] ∧ s.lens.flight = []

/-- An engine that becomes DEGRADED. -/
def Engine.lostTo (cause : Nat) (e : Engine) : Engine :=
  { e.quieted with state := .degraded, cause := cause, matrix := none, loading := none, drain := none, queue := [], calPending := false }

theorem pumpTiles_of_no_tiles {s : State} (h : s.tiles.tiles = []) : pumpTiles [] s = s := by
  have moved : moveTiles [] s = s := by simp [moveTiles, reap, h]
  unfold pumpTiles
  split
  · rw [moved, moved]
  · rfl

theorem degradeEngine_of_bare (n cause : Nat) {s : State} (h : Bare s) :
    degradeEngine n cause s = s.updEngine n (Engine.lostTo cause) := by
  obtain ⟨ht, hf⟩ := h
  unfold degradeEngine
  extract_lets waiting lost lens left tasks released
  have hleft : left = s.updEngine n (Engine.lostTo cause) := by
    have flight : s.lens.flight.filter (fun q => lost.engineOf q.tile ≠ n) = s.lens.flight := by rw [hf]; rfl
    have : left = { lost with lens := { lost.lens with flight := s.lens.flight.filter fun q => lost.engineOf q.tile ≠ n } } := rfl
    rw [this, flight]
    rfl
  have htasks : tasks = [] := by simp [tasks, State.liveTasks, hleft, ht]
  have hreleased : released = left := by
    unfold released
    rw [htasks]
    rfl
  rw [hreleased, htasks, hleft]
  exact pumpTiles_of_no_tiles (s := s.updEngine n (Engine.lostTo cause)) ht

/-- The engines, the losses of light, the fabric, the replicas and the event log change. -/
structure Lighting (s u : State) : Prop where
  frame : u = { s with
    lens := { s.lens with engines := u.lens.engines, combLost := u.lens.combLost, bankLost := u.lens.bankLost, stLight := u.lens.stLight }
    fs := u.fs, fab := u.fab, flt := u.flt }
  idle : (∀ k, (s.port k).carries = false) → u.fs = s.fs ∧ ∀ k, (u.port k).carries = false
  degraded : ∀ k, (s.engine k).state = .degraded → (u.engine k).state = .degraded ∧ (u.engine k).cause = (s.engine k).cause
  done : ∀ k, (s.engine k).state = .serving → (u.engine k).state = .serving ∨ (u.engine k).state = .degraded
  waits : ∀ k, (s.engine k).state = .startCal →
    (u.engine k).state = .startCal ∨ (u.engine k).state = .serving ∨ (u.engine k).state = .degraded

theorem Lighting.refl (s : State) : Lighting s s :=
  ⟨rfl, fun h => ⟨rfl, h⟩, fun _ h => ⟨h, rfl⟩, fun _ h => .inl h, fun _ h => .inl h⟩

theorem Lighting.trans {a b c : State} (h : Lighting a b) (k : Lighting b c) : Lighting a c := by
  refine ⟨by rw [k.frame, h.frame], fun hp => ?_, fun n hn => ?_, fun n hn => ?_, fun n hn => ?_⟩
  · obtain ⟨hfs, hp⟩ := h.idle hp
    obtain ⟨kfs, kp⟩ := k.idle hp
    exact ⟨kfs.trans hfs, kp⟩
  · obtain ⟨hs, hc⟩ := h.degraded n hn
    obtain ⟨ks, kc⟩ := k.degraded n hs
    exact ⟨ks, kc.trans hc⟩
  · obtain hs | hs := h.done n hn
    · exact k.done n hs
    · exact .inr (k.degraded n hs).1
  · obtain hs | hs | hs := h.waits n hn
    · exact k.waits n hs
    · exact .inr (k.done n hs)
    · exact .inr (.inr (k.degraded n hs).1)

theorem Lighting.ite {s a b : State} {c : Prop} [Decidable c] (ha : c → Lighting s a) (hb : ¬c → Lighting s b) :
    Lighting s (if c then a else b) := by
  split
  · exact ha ‹_›
  · exact hb ‹_›

theorem Lighting.bare {s u : State} (h : Lighting s u) (hs : Bare s) : Bare u := by
  rw [h.frame]
  exact hs

theorem Lighting.foldl {α : Type} {f : State → α → State} (hf : ∀ s x, Bare s → Lighting s (f s x)) (l : List α) {s : State}
    (hs : Bare s) : Lighting s (l.foldl f s) :=
  List.foldlRecOn l f (.refl s) fun u h x _ => h.trans (hf u x (h.bare hs))

/-- A change of an engine that is neither serving nor DEGRADED, to a state after it. -/
theorem updEngine_lighting (n : Nat) (f : Engine → Engine) (s : State)
    (hd : (s.engine n).state = .degraded → (f (s.engine n)).state = .degraded ∧ (f (s.engine n)).cause = (s.engine n).cause)
    (hs : (s.engine n).state = .serving → (f (s.engine n)).state = .serving ∨ (f (s.engine n)).state = .degraded)
    (hw : (s.engine n).state = .startCal →
      (f (s.engine n)).state = .startCal ∨ (f (s.engine n)).state = .serving ∨ (f (s.engine n)).state = .degraded) :
    Lighting s (s.updEngine n f) := by
  refine ⟨rfl, fun h => ⟨rfl, h⟩, fun k hk => ?_, fun k hk => ?_, fun k hk => ?_⟩ <;> by_cases h : k = n
  · subst h
    rw [State.engine_updEngine_same]
    exact hd hk
  · rw [State.engine_updEngine_other f s h]
    exact ⟨hk, rfl⟩
  · subst h
    rw [State.engine_updEngine_same]
    exact hs hk
  · rw [State.engine_updEngine_other f s h]
    exact .inl hk
  · subst h
    rw [State.engine_updEngine_same]
    exact hw hk
  · rw [State.engine_updEngine_other f s h]
    exact .inl hk

/-- A change of an engine that leaves its state and cause. -/
theorem updEngine_lighting_of_state (n : Nat) (f : Engine → Engine) (s : State)
    (hf : (f (s.engine n)).state = (s.engine n).state ∧ (f (s.engine n)).cause = (s.engine n).cause) : Lighting s (s.updEngine n f) :=
  updEngine_lighting n f s (fun h => ⟨hf.1.trans h, hf.2⟩) (fun h => .inl (hf.1.trans h)) (fun h => .inl (hf.1.trans h))

theorem raise_lighting (c n : Nat) (s : State) : Lighting s (raise c n s) :=
  ⟨rfl, fun h => ⟨rfl, h⟩, fun _ h => ⟨h, rfl⟩, fun _ h => .inl h, fun _ h => .inl h⟩

theorem degradeEngine_lighting (n cause : Nat) {s : State} (hb : Bare s) (hn : (s.engine n).state ≠ .degraded) :
    Lighting s (degradeEngine n cause s) := by
  rw [degradeEngine_of_bare n cause hb]
  exact updEngine_lighting n _ s (fun h => absurd h hn) (fun _ => .inr rfl) (fun _ => .inr (.inr rfl))

theorem Port.carries_of_core {p q : Port} (h : p.core = q.core) : p.carries = q.carries := by
  have : p.state = q.state := congrArg PortCore.state h
  rw [Port.carries, Port.carries, this]

theorem failPort_lighting (n cause : Nat) (s : State) : Lighting s (failPort n cause s) := by
  obtain ⟨frame, -, -, -⟩ := failPort_spec n cause s
  refine ⟨?_, fun hp => ?_, fun k hk => ?_, fun k hk => ?_, fun k hk => ?_⟩
  · rw [frame]
  · obtain ⟨⟨⟨_, _, _, hu⟩, other⟩, own⟩ := failPort_of_idle cause (hp n)
    refine ⟨by rw [hu], fun k => ?_⟩
    by_cases hk : k = n
    · have failed : ((failPort n cause s).port n).state = .failed := congrArg PortCore.state own
      rw [hk, Port.carries, failed]
    · rw [Port.carries_of_core (other k hk), hp k]
  all_goals rw [frame]
  · exact ⟨hk, rfl⟩
  · exact .inl hk
  · exact .inl hk

/-- A lost source degrades the engines that it lights and fails its ports (R279, R293). -/
theorem loseSource_lighting (k : Nat) {s : State} (hb : Bare s) : Lighting s (loseSource k s) := by
  unfold loseSource
  extract_lets lens begun dark told
  have hbegun : Lighting s begun := by
    unfold begun
    split
    · exact ⟨rfl, fun h => ⟨rfl, h⟩, fun _ h => ⟨h, rfl⟩, fun _ h => .inl h, fun _ h => .inl h⟩
    · exact ⟨rfl, fun h => ⟨rfl, h⟩, fun _ h => ⟨h, rfl⟩, fun _ h => .inl h, fun _ h => .inl h⟩
  have hdark : Lighting begun dark := .foldl
    (fun u n hu => .ite (fun _ => .refl u) fun hn => degradeEngine_lighting n 2 hu fun h => hn (by simp [h])) _ (hbegun.bare hb)
  have htold : Lighting s told := (hbegun.trans hdark).trans (raise_lighting _ _ _)
  exact .ite (fun _ => htold) fun _ => htold.trans
    (.foldl (fun u n _ => .ite (fun _ => .refl u) fun _ => failPort_lighting n 3 u) _ (htold.bare hb))

theorem abortCal_lighting (n : Nat) {s : State} (hb : Bare s) (hn : (s.engine n).state ≠ .degraded) : Lighting s (abortCal n s) := by
  unfold abortCal
  extract_lets aborted
  have haborted : Lighting s aborted := (updEngine_lighting_of_state n (fun e => { e with
    stCalAbort := true, calAborted := bump e.calAborted, aborts := e.aborts + 1 }) s ⟨rfl, rfl⟩).trans (raise_lighting _ _ _)
  have same : aborted.engine n = _ := State.engine_updEngine_same ..
  refine .ite (fun _ => ?_) fun _ => haborted
  have hmarked := haborted.trans (updEngine_lighting_of_state n (fun e => { e with stDegraded := true }) aborted ⟨rfl, rfl⟩)
  refine (hmarked.trans (degradeEngine_lighting n 1 (hmarked.bare hb) ?_)).trans (raise_lighting _ _ _)
  rw [State.engine_updEngine_same, same]
  exact hn

theorem calRun_lighting (n dark : Nat) (fit : Bool) {s : State} (hb : Bare s) (hn : (s.engine n).state ≠ .degraded) :
    Lighting s (calRun n dark fit s) := by
  unfold calRun
  extract_lets noted
  have hnoted : Lighting s noted := updEngine_lighting_of_state n _ s ⟨rfl, rfl⟩
  refine .ite (fun _ => hnoted.trans (abortCal_lighting n (hnoted.bare hb) ?_)) fun _ =>
    hnoted.trans (updEngine_lighting_of_state n _ noted ⟨rfl, rfl⟩)
  rw [show noted.engine n = _ from State.engine_updEngine_same ..]
  exact hn

/-- An engine that waits, serves or is DEGRADED stays among these. -/
theorem Lighting.known {s u : State} (h : Lighting s u) {n : Nat}
    (hn : (s.engine n).state = .startCal ∨ (s.engine n).state = .serving ∨ (s.engine n).state = .degraded) :
    (u.engine n).state = .startCal ∨ (u.engine n).state = .serving ∨ (u.engine n).state = .degraded := by
  obtain hn | hn | hn := hn
  · exact h.waits n hn
  · exact .inr (h.done n hn)
  · exact .inr (.inr (h.degraded n hn).1)

/-- One run at the LIGHT stage of an engine that waits for it. -/
def startRun (n : Nat) (s : State) (r : CalRun) : State :=
  if (s.engine n).state = .startCal then
    let u := calRun n r.dark r.fitOk s
    if (u.engine n).state = .startCal && (u.engine n).aborts = 0 then u.updEngine n fun e => { e with state := .serving } else u
  else s

theorem startRuns_eq (n : Nat) (runs : List CalRun) (s : State) : startRuns n runs s = runs.foldl (startRun n) s := rfl

theorem startRun_lighting (n : Nat) (r : CalRun) {s : State} (hb : Bare s) : Lighting s (startRun n s r) := by
  refine .ite (fun hn => ?_) fun _ => .refl s
  have run := calRun_lighting n r.dark r.fitOk hb (s := s) (by rw [hn]; decide)
  refine .ite (fun h => run.trans (updEngine_lighting n _ _ (fun hd => ?_) (fun _ => .inl rfl) fun _ => .inr (.inl rfl))) fun _ => run
  simp [hd] at h

/-- An engine that waits serves after a run that passes (R291). -/
theorem startRun_of_pass {n : Nat} {s : State} (hn : (s.engine n).state = .startCal) :
    ((startRun n s ⟨n, 0, true⟩).engine n).state = .serving := by
  have passed : (calRun n 0 true s).engine n = { s.engine n with
      dark := 0, aborts := 0, calDone := bump (s.engine n).calDone, calDevtime := s.devCount
      adopted := (s.engine n).adopted + 1, drift := 0 } := by
    unfold calRun
    extract_lets noted
    rw [if_neg (by simp), passCal, State.engine_updEngine_same, show noted.engine n = _ from State.engine_updEngine_same ..]
    rfl
  unfold startRun
  rw [if_pos hn]
  dsimp only
  rw [if_pos (by rw [passed]; simp [hn]), State.engine_updEngine_same]

/-- A run that passes is among those of the engine, so it no longer waits. -/
theorem startRuns_done {n : Nat} {runs : List CalRun} {s : State} (hb : Bare s) (hr : ⟨n, 0, true⟩ ∈ runs)
    (hn : (s.engine n).state = .startCal ∨ (s.engine n).state = .serving ∨ (s.engine n).state = .degraded) :
    ((startRuns n runs s).engine n).state = .serving ∨ ((startRuns n runs s).engine n).state = .degraded := by
  obtain ⟨first, later, rfl⟩ := List.append_of_mem hr
  rw [startRuns_eq, List.foldl_append, List.foldl_cons]
  have before : Lighting s (first.foldl (startRun n) s) := .foldl (fun u r hu => startRun_lighting n r hu) _ hb
  have hb' := before.bare hb
  have now := startRun_lighting n ⟨n, 0, true⟩ hb'
  have after : Lighting (startRun n (first.foldl (startRun n) s) ⟨n, 0, true⟩) _ :=
    .foldl (fun u r hu => startRun_lighting n r hu) later (now.bare hb')
  have served : ((startRun n (first.foldl (startRun n) s) ⟨n, 0, true⟩).engine n).state = .serving ∨
      ((startRun n (first.foldl (startRun n) s) ⟨n, 0, true⟩).engine n).state = .degraded := by
    obtain h | h | h := before.known hn
    · exact .inl (startRun_of_pass h)
    · exact now.done n h
    · exact .inr (now.degraded n h).1
  obtain h | h := served
  · exact after.done n h
  · exact .inr (after.degraded n h).1

/-! ### The LIGHT stage -/

/-- What the mask makes of an engine: it waits for its calibration, or is held dark (R291). -/
def Engine.masked (on : Bool) (e : Engine) : Prop := if on then e.state = .startCal else e.state = .degraded ∧ e.cause = 3

/-- One engine at the start of the LIGHT stage. -/
def maskEngine (s : State) (n : Nat) : State :=
  if bit s.im.lens.engineMask n then s.updEngine n fun e => { e with state := .startCal }
  else s.updEngine n fun e => { e with state := .degraded, cause := 3 }

theorem maskEngine_spec (s : State) (n : Nat) :
    (∃ es, maskEngine s n = { s with lens := { s.lens with engines := es } }) ∧
      ((maskEngine s n).engine n).masked (bit s.im.lens.engineMask n) ∧ ∀ k, k ≠ n → (maskEngine s n).engine k = s.engine k := by
  unfold maskEngine
  split
  · next h =>
    refine ⟨⟨_, rfl⟩, ?_, fun k hk => State.engine_updEngine_other _ s hk⟩
    rw [State.engine_updEngine_same, Engine.masked, if_pos h]
  · next h =>
    refine ⟨⟨_, rfl⟩, ?_, fun k hk => State.engine_updEngine_other _ s hk⟩
    rw [State.engine_updEngine_same, Engine.masked, if_neg h]
    exact ⟨rfl, rfl⟩

/-- The mask is applied to each engine of a list, and to no other. -/
theorem foldl_maskEngine (l : List Nat) (s : State) :
    (∃ es, l.foldl maskEngine s = { s with lens := { s.lens with engines := es } }) ∧
      ∀ n, n ∈ l ∨ (s.engine n).masked (bit s.im.lens.engineMask n) →
        ((l.foldl maskEngine s).engine n).masked (bit s.im.lens.engineMask n) := by
  induction l generalizing s with
  | nil => exact ⟨⟨_, rfl⟩, fun n hn => hn.resolve_left (by simp)⟩
  | cons m r ih =>
    obtain ⟨⟨es, hm⟩, own, other⟩ := maskEngine_spec s m
    obtain ⟨⟨es', hr⟩, rest⟩ := ih (maskEngine s m)
    have im : (maskEngine s m).im = s.im := by rw [hm]; rfl
    rw [im] at rest
    refine ⟨⟨es', hr.trans (by rw [hm])⟩, fun n hn => rest n ?_⟩
    by_cases h : n = m
    · rw [h]
      exact .inr own
    · rw [other n h]
      exact hn.imp_left fun hin => (List.mem_cons.mp hin).resolve_left h

theorem startRuns_lighting (n : Nat) (runs : List CalRun) {s : State} (hb : Bare s) : Lighting s (startRuns n runs s) :=
  .foldl (fun _ r hu => startRun_lighting n r hu) runs hb

/-- Every engine of a list that waits, serves or is DEGRADED has its runs, the last of which passes. -/
theorem foldl_startRuns_done (l : List Nat) {runs : List CalRun} {s : State} (hb : Bare s) {n : Nat} (hn : n ∈ l)
    (hr : ⟨n, 0, true⟩ ∈ runs)
    (hs : (s.engine n).state = .startCal ∨ (s.engine n).state = .serving ∨ (s.engine n).state = .degraded) :
    ((l.foldl (fun u n => startRuns n (runs.filter fun r => r.engine = n) u) s).engine n).state = .serving ∨
      ((l.foldl (fun u n => startRuns n (runs.filter fun r => r.engine = n) u) s).engine n).state = .degraded := by
  obtain ⟨first, later, rfl⟩ := List.append_of_mem hn
  rw [List.foldl_append, List.foldl_cons]
  have before : Lighting s (first.foldl (fun u n => startRuns n (runs.filter fun r => r.engine = n) u) s) :=
    .foldl (fun u k hu => startRuns_lighting k _ hu) _ hb
  set b := first.foldl (fun u n => startRuns n (runs.filter fun r => r.engine = n) u) s
  have now : Lighting b (startRuns n (runs.filter fun r => r.engine = n) b) := startRuns_lighting n _ (before.bare hb)
  have after := Lighting.foldl (f := fun u n => startRuns n (runs.filter fun r => r.engine = n) u)
    (fun u k hu => startRuns_lighting k _ hu) later (now.bare (before.bare hb))
  have served := startRuns_done (runs := runs.filter fun r => r.engine = n) (before.bare hb)
    (List.mem_filter.mpr ⟨hr, by simp⟩) (before.known hs)
  obtain h | h := served
  · exact after.done n h
  · exact .inr (after.degraded n h).1

/-- The light is on, and each engine waits for its calibration or is held dark. -/
def lightMasked (s : State) : State :=
  (List.range 32).foldl maskEngine { s with lens := { s.lens with comb := s.im.lens.comb, lit := true, calTurn := 0 } }

/-- The sources found lost at the LIGHT stage. -/
def lightLost (lost : List Nat) (s : State) : State :=
  lost.foldl (fun u k => if (if u.lens.comb then 2 else 4) ≤ k || u.sourceLost k then u else loseSource k u) s

/-- The calibrations of the LIGHT stage. -/
def lightRuns (runs : List CalRun) (s : State) : State :=
  (List.range 32).foldl (fun u n => startRuns n (runs.filter fun r => r.engine = n) u) s

theorem lightEngines_eq (lost : List Nat) (runs : List CalRun) (s : State) :
    lightEngines lost runs s = lightRuns runs (lightLost lost (lightMasked s)) := rfl

theorem lightMasked_spec (s : State) :
    (∃ es, lightMasked s = { s with lens := { s.lens with comb := s.im.lens.comb, lit := true, calTurn := 0, engines := es } }) ∧
      ∀ n, n < 32 → ((lightMasked s).engine n).masked (bit s.im.lens.engineMask n) := by
  obtain ⟨⟨es, hmask⟩, masked⟩ := foldl_maskEngine (List.range 32)
    { s with lens := { s.lens with comb := s.im.lens.comb, lit := true, calTurn := 0 } }
  exact ⟨⟨es, hmask⟩, fun n hn => masked n (.inl (List.mem_range.mpr hn))⟩

theorem lightLost_lighting (lost : List Nat) {s : State} (hb : Bare s) : Lighting s (lightLost lost s) :=
  .foldl (fun u k hu => .ite (fun _ => .refl u) fun _ => loseSource_lighting k hu) lost hb

theorem lightRuns_lighting (runs : List CalRun) {s : State} (hb : Bare s) : Lighting s (lightRuns runs s) :=
  .foldl (fun _ n hu => startRuns_lighting n _ hu) (List.range 32) hb

/-- The work of the LIGHT stage with no task resident: the masked engines are held dark, the others serve or are DEGRADED (R291). -/
theorem lightEngines_spec (lost : List Nat) (runs : List CalRun) {s : State} (hb : Bare s)
    (hr : ∀ n, n < 32 → ⟨n, 0, true⟩ ∈ runs) :
    ∃ v, lightEngines lost runs s = v ∧ v = { s with lens := v.lens, fs := v.fs, fab := v.fab, flt := v.flt } ∧
      v.lens.lit = true ∧ v.lens.calTurn = 0 ∧ v.lens.comb = s.im.lens.comb ∧ v.lightDone = true ∧
      (∀ n, n < 32 → bit s.im.lens.engineMask n = false → (v.engine n).state = .degraded ∧ (v.engine n).cause = 3) ∧
      (s.fab.ports = [] → v.fs = s.fs) := by
  obtain ⟨⟨es, hmask⟩, masked⟩ := lightMasked_spec s
  have bare : Bare (lightMasked s) := by
    rw [hmask]
    exact hb
  have dark := lightLost_lighting lost bare
  have whole := dark.trans (lightRuns_lighting runs (dark.bare bare))
  have known (n : Nat) (hn : n < 32) : ((lightMasked s).engine n).state = .startCal ∨ ((lightMasked s).engine n).state = .serving ∨
      ((lightMasked s).engine n).state = .degraded := by
    have := masked n hn
    unfold Engine.masked at this
    split at this
    · exact .inl this
    · exact .inr (.inr this.1)
  have done (n : Nat) (hn : n < 32) := foldl_startRuns_done (List.range 32) (dark.bare bare) (List.mem_range.mpr hn) (hr n hn)
    (dark.known (known n hn))
  rw [lightEngines_eq]
  change ∀ n, n < 32 → ((lightRuns runs (lightLost lost (lightMasked s))).engine n).state = _ ∨
    ((lightRuns runs (lightLost lost (lightMasked s))).engine n).state = _ at done
  generalize lightRuns runs (lightLost lost (lightMasked s)) = v at whole done
  obtain ⟨frame, idle, degraded, -, -⟩ := whole
  rw [hmask] at frame
  have lit : v.lens.lit = true := by rw [frame]
  refine ⟨v, rfl, ?_, lit, by rw [frame], by rw [frame], ?_, fun n hn hbit => ?_, fun hp => ?_⟩
  · rw [frame]
  · simp only [State.lightDone, lit, Bool.true_and, List.all_eq_true, List.mem_range, Bool.or_eq_true, decide_eq_true_eq]
    exact done
  · have held := masked n hn
    rw [hbit, Engine.masked, if_neg (by decide)] at held
    obtain ⟨hs, hcause⟩ := degraded n held.1
    exact ⟨hs, hcause.trans held.2⟩
  · have none (k : Nat) : ((lightMasked s).port k).carries = false := by
      rw [hmask, State.port, hp]
      rfl
    rw [(idle none).1, hmask]

/-- Settles O8. -/
theorem lightStageBegins : Obligations.LightStageBegins := by
  unfold Obligations.LightStageBegins
  intro t lost runs s hc hs
  set a := s.advance t
  have start : a.start = s.start := State.advance_start ..
  set all := runs ++ (List.range 32).map fun n => (⟨n, 0, true⟩ : CalRun)
  have run : exec (.lightStage t lost runs) s = .next (lightEngines lost all (setStage 4 a)) := by
    refine congrArg Host.Outcome.next (?_ : doLightStage lost runs a = _)
    refine if_neg ?_
    have clocked : a.clocked = true := (State.advance_clocked ..).trans hc
    simp [clocked, start, hs]
  have keeps := lightEngines_keeps (lost := lost) (runs := all) (.refl (setStage 4 a))
  refine ⟨_, run, ?_, keeps.now, ?_, ?_, ?_, ?_, ?_, fun htiles hflight => ?_⟩
  · rw [keeps.start, setStage, start]
  · exact keeps.nv.trans (State.advance_nv ..)
  · exact keeps.img.trans (State.advance_img ..)
  · exact keeps.pins.trans (State.advance_pins ..)
  · exact keeps.acc.trans (State.advance_acc ..)
  · exact keeps.jtag.trans (State.advance_jtag ..)
  have bare : Bare (setStage 4 a) :=
    ⟨(congrArg TilesSt.tiles (State.advance_tiles ..)).trans htiles, (State.advance_lens_flight ..).trans hflight⟩
  obtain ⟨v, hv, frame, hlit, hturn, hcomb, hdone, hmasked, hfs⟩ := lightEngines_spec lost all bare fun n hn =>
    List.mem_append_right _ (List.mem_map.mpr ⟨n, List.mem_range.mpr hn, rfl⟩)
  have im : (setStage 4 a).im = s.im := State.advance_im ..
  rw [hv]
  rw [im] at hcomb hmasked
  refine ⟨hlit, hturn, hcomb, hdone, hmasked, fun hp => frame.trans ?_⟩
  have ports : (setStage 4 a).fab.ports = [] := (congrArg FabSt.ports (State.advance_fab ..)).trans hp
  have stage : v.start = (setStage 4 a).start := by rw [frame]
  rw [hfs ports, stage]
  rfl

end Sys2Proof.Machine

/-! PROOFS. The link layer: flits, acknowledgements, credits, replay and retraining. -/

namespace Sys2Proof.Machine

theorem fabricTime_keeps (t : Nat) (s : State) : Keeps (s.advance t) (s.fabricTime t) := 
  (dueSwitch_keeps (.refl _)).trans (finishReconf_keeps _)

theorem fabricTime_running (t : Nat) (s : State) : (s.fabricTime t).running = s.running := by
  rw [State.running, State.running, (fabricTime_keeps t s).pins, State.advance_pins]

/-! ### What the handling of acknowledgements, credits and held requests leaves -/

/-- The number that each port expects next stays. -/
def SameExpect (s u : State) : Prop := ∀ k, (u.port k).expectSeq = (s.port k).expectSeq

theorem SameExpect.trans {a b c : State} (h : SameExpect a b) (k : SameExpect b c) : SameExpect a c := fun n => (k n).trans (h n)

theorem updPort_sameExpect (n : Nat) (f : Port → Port) (s : State) (hf : ∀ p, (f p).expectSeq = p.expectSeq) :
    SameExpect s (s.updPort n f) := by
  intro k
  by_cases hk : k = n
  · rw [hk, updPort_port_same, hf]
  · rw [updPort_port_other hk]

theorem takeAck_sameExpect (n ack : Nat) (s : State) : SameExpect s (takeAck n ack s) := by
  unfold takeAck
  split
  · exact updPort_sameExpect _ _ s fun _ => rfl
  · exact fun _ => rfl

theorem takeCredits_sameExpect (n vc k : Nat) (s : State) : SameExpect s (takeCredits n vc k s) :=
  updPort_sameExpect n (fun p => { p with credits := tupd p.credits vc 0 fun u => u - k }) s fun _ => rfl

theorem receiveEntry_sameExpect (f : Flit) (hold : Option Nat) (s : State) : SameExpect s (receiveEntry f hold s) := by
  unfold receiveEntry
  dsimp only
  split <;> exact fun _ => rfl

theorem takeHeld_sameExpect (n k : Nat) (s : State) : SameExpect s (takeHeld n k s) := by
  induction k generalizing s with
  | zero => exact fun _ => rfl
  | succ k ih =>
    unfold takeHeld
    split
    · exact fun _ => rfl
    · next f r hr =>
      extract_lets out need gone q owed held hold
      have hfreed : SameExpect s owed :=
        (updPort_sameExpect n (fun p => { p with held := r }) s fun _ => rfl).trans (updPort_sameExpect n _ _ fun _ => rfl)
      have hkept : SameExpect s held := hfreed.trans (updPort_sameExpect out _ _ fun _ => rfl)
      split
      · exact fun _ => rfl
      · split
        · exact hfreed.trans (ih _)
        · refine hkept.trans (.trans ?_ (ih _))
          split
          · exact fun _ => rfl
          · exact receiveEntry_sameExpect f hold held

theorem takeAllHeld_sameExpect (s : State) : SameExpect s (takeAllHeld s) :=
  List.foldlRecOn (motive := SameExpect s) _ _ (fun _ => rfl) fun _ h n _ => h.trans (takeHeld_sameExpect n _ _)

theorem replayPort_sameExpect (n : Nat) (s : State) : SameExpect s (replayPort n s) := by
  unfold replayPort
  split
  · exact fun _ => rfl
  · exact updPort_sameExpect _ _ s fun _ => rfl

/-! ### Sending -/

/-- What a port sends next depends on its state, its queues, its replay buffer and its credits. -/
theorem nextFlit_updPort {n : Nat} {f : Port → Port} (q : Nat) (s : State)
    (hf : ∀ p, (f p).state = p.state ∧ (f p).queues = p.queues ∧ (f p).replay = p.replay ∧ (f p).credits = p.credits ∧
      (f p).reserved = p.reserved ∧ (f p).child = p.child ∧ (f p).parentClaimed = p.parentClaimed) :
    (s.updPort n f).nextFlit n q = s.nextFlit n q := by
  obtain ⟨hs, hq, hr, hc, hres, hchild, hclaim⟩ := hf (s.port n)
  have may : (s.updPort n f).maySend n q = s.maySend n q := by
    simp only [State.maySend, State.isSpine, updPort_port_same, hs, hchild, hclaim]
    rfl
  simp only [State.nextFlit, updPort_port_same, hq, hr, may, Port.taken, hc, hres]
  rfl

/-- What a flit that goes out takes from its port: its NAK, and the credits that it returns. -/
def sendOff (n : Nat) (s : State) : State :=
  s.updPort n fun p => { p with
    nakDue := false, returned := tupd p.returned (s.port n).owed.1 0 fun k => k - (s.port n).owed.2 }

theorem nextFlit_sendOff (n q : Nat) (s : State) : (sendOff n s).nextFlit n q = s.nextFlit n q :=
  nextFlit_updPort q s fun _ => ⟨rfl, rfl, rfl, rfl, rfl, rfl, rfl⟩

section
variable {n vc : Nat} {s : State} (hn : n < 16) (hrun : s.running = true) (hr : (s.port n).receives = true)
  (hs : (s.port n).state ≠ .retraining)
include hn hrun hr hs

theorem sends : ¬(16 ≤ n || !s.running || !(s.port n).receives || (s.port n).state = .retraining) = true := by
  simp [hrun, hr, hs]
  omega

/-- A flit of a replayed buffer goes out again. -/
theorem doFlitSend_of_again {j : Nat} {x : Sent} (h : (s.port n).again = some (j, x)) :
    doFlitSend n vc s = { sendAgain n j x (sendOff n s) with
      answer := wireWords (flitBytes ((s.idleHead (s.port n)).for x.seq x.flit) x.flit.payload) } := by
  unfold doFlitSend
  dsimp only
  rw [if_neg (sends hn hrun hr hs), h]
  rfl

/-- A new flit goes out of its queue. -/
theorem doFlitSend_of_next {f : Flit} (h : (s.port n).again = none) (hf : s.nextFlit n vc = some f) :
    doFlitSend n vc s = { sendNew n vc f (sendOff n s) with
      answer := wireWords (flitBytes ((s.idleHead (s.port n)).for (s.port n).nextSeq f) f.payload) } := by
  have hf' := (nextFlit_sendOff n vc s).trans hf
  unfold sendOff at hf'
  unfold doFlitSend
  dsimp only [State.idleHead]
  rw [if_neg (sends hn hrun hr hs), h]
  dsimp only
  rw [hf']
  rfl

/-- An idle flit goes out where nothing else does. -/
theorem doFlitSend_of_idle (h : (s.port n).again = none) (hf : s.nextFlit n vc = none) :
    doFlitSend n vc s = { sendOff n s with answer := wireWords (flitBytes (s.idleHead (s.port n)) []) } := by
  have hf' := (nextFlit_sendOff n vc s).trans hf
  unfold sendOff at hf'
  unfold doFlitSend
  dsimp only [State.idleHead]
  rw [if_neg (sends hn hrun hr hs), h]
  dsimp only
  rw [hf']
  rfl

end

/-- The header of a port's next flit is taken, and the flit waits in the replay buffer. -/
theorem sendNew_of_own {n q : Nat} {f : Flit} (hh : f.hold = none) (ho : f.origin = none) (s : State) :
    sendNew n q f s = s.updPort n fun p => { p with
      nextSeq := (p.nextSeq + 1) % 4096, replay := p.replay ++ [{ seq := p.nextSeq, flit := f }]
      txFlits := satAdd 64 p.txFlits 1, queues := tupd p.queues q [] fun l => l.drop 1
      credits := if q = 4 then p.credits else tupd p.credits q 0 fun u => u + vcCost q f.count } := by
  simp only [sendNew, useHold, hh, leaveBuffer, ho]

theorem updPort_updPort (n : Nat) (f g : Port → Port) (s : State) : (s.updPort n f).updPort n g = s.updPort n fun p => g (f p) := by
  simp only [State.updPort, tupd, tget_tset_same, tset_tset_same]

/-- A retrain is told and counted, and the flits of the replay buffer count their replays afresh (R303). -/
def toldRetrain (n : Nat) (s : State) : State :=
  raise 0x900A n (s.updPort n fun p => { p with
    retrains := bump p.retrains, replay := p.replay.map fun x => { x with times := 0 }, resend := none })

theorem toldRetrain_retrains (n : Nat) (s : State) : ((toldRetrain n s).port n).retrains = bump (s.port n).retrains := by
  unfold toldRetrain
  rw [show ∀ x : State, (raise 0x900A n x).port n = x.port n from fun _ => rfl, updPort_port_same]

/-- A port that is up retrains; the fifth time fails it (R303). -/
theorem retrainPort_of_up {n : Nat} {s : State} (h : (s.port n).state = .up) :
    retrainPort n s = if 5 ≤ bump (s.port n).retrains then failPort n 2 (toldRetrain n s)
      else (toldRetrain n s).updPort n fun p => { p with state := .retraining } := by
  rw [← toldRetrain_retrains]
  exact if_neg (not_not.mpr h)

theorem updPort_congr {n : Nat} {f g : Port → Port} {s : State} (h : f (s.port n) = g (s.port n)) : s.updPort n f = s.updPort n g :=
  congrArg (fun x => { s with fab := { s.fab with ports := tset s.fab.ports n x } }) h

theorem toldRetrain_of_few {n : Nat} {s : State} (h : (s.port n).retrains < 4) :
    toldRetrain n s = raise 0x900A n (s.updPort n fun p => { p with
      retrains := p.retrains + 1, replay := p.replay.map fun x => { x with times := 0 }, resend := none }) := by
  have few : bump (s.port n).retrains = (s.port n).retrains + 1 := by
    rw [bump_eq]
    omega
  unfold toldRetrain
  refine congrArg (raise 0x900A n) (updPort_congr ?_)
  rw [few]

theorem retrainPort_of_few {n : Nat} {s : State} (h : (s.port n).state = .up) (hr : (s.port n).retrains < 4) :
    retrainPort n s = State.updPort n (fun p => { p with state := .retraining })
      (raise 0x900A n (s.updPort n fun p => { p with
        retrains := p.retrains + 1, replay := p.replay.map fun x => { x with times := 0 }, resend := none })) := by
  rw [retrainPort_of_up h, toldRetrain_of_few hr]
  refine if_neg ?_
  rw [bump_eq]
  omega

/-- The fifth retrain fails the port with cause 2 (R303). -/
theorem retrainPort_of_fifth {n : Nat} {s : State} (h : (s.port n).state = .up) (hr : (s.port n).retrains = 4) :
    ∃ u, retrainPort n s = u ∧ (u.port n).state = .failed ∧ (u.port n).failCause = 2 ∧ u.fab.stPort = true ∧
      u = { s with fs := u.fs, fab := u.fab, flt := u.flt } := by
  have whole : retrainPort n s = failPort n 2 (toldRetrain n s) := by
    rw [retrainPort_of_up h, hr]
    exact if_pos (by decide)
  obtain ⟨frame, core, -, marked⟩ := failPort_spec n 2 (toldRetrain n s)
  refine ⟨_, whole, congrArg PortCore.state core, congrArg PortCore.failCause core, marked, ?_⟩
  generalize failPort n 2 (toldRetrain n s) = u at frame
  obtain ⟨fab, flt, told⟩ : ∃ b l, toldRetrain n s = { s with fab := b, flt := l } := ⟨_, _, rfl⟩
  rw [frame, told]

/-- The state after the acknowledgement, the credits and the NAK of a flit with a good CRC. -/
def afterHead (n : Nat) (h : Header) (s : State) : State :=
  let b := takeAllHeld (takeCredits n h.crVc h.credits (takeAck n h.ack s))
  if h.nak then replayPort n b else b

theorem afterHead_sameExpect (n : Nat) (h : Header) (s : State) : SameExpect s (afterHead n h s) := by
  have taken : SameExpect s (takeAllHeld (takeCredits n h.crVc h.credits (takeAck n h.ack s))) :=
    ((takeAck_sameExpect n _ s).trans (takeCredits_sameExpect n _ _ _)).trans (takeAllHeld_sameExpect _)
  unfold afterHead
  dsimp only
  split
  · exact taken.trans (replayPort_sameExpect n _)
  · exact taken

/-- What a flit with a good CRC does (R297). -/
theorem receiveFlit_of_ok {n : Nat} {bs : List Byte} {s : State} (hn : n < 16) (hrun : s.running = true)
    (hr : (s.port n).receives = true) (hok : flitOk bs = true) :
    receiveFlit n bs s =
      if (headerOf bs).type = 0 || 3 < (headerOf bs).type then afterHead n (headerOf bs) s
      else if (headerOf bs).seq ≠ (s.port n).expectSeq then rejectFlit n (afterHead n (headerOf bs) s)
      else deliverFlit n ((headerOf bs).flit (bs.drop 16)) (acceptFlit n (headerOf bs) (afterHead n (headerOf bs) s)) := by
  rw [← afterHead_sameExpect n (headerOf bs) s n]
  unfold receiveFlit
  rw [if_neg (by simp [hrun, hr]; omega), if_neg (by simp [hok])]
  rfl

/-- Settles O50. -/
theorem linkLayer : Obligations.LinkLayer := by
  unfold Obligations.LinkLayer
  intro t n s a p hrun
  have running : a.running = true := (fabricTime_running t s).trans hrun
  have acked (hne : p.replay ≠ []) : doAckTimeout n a = retrainPort n a :=
    if_pos (by simp [running, show (a.port n).replay ≠ [] from hne])
  refine ⟨fun bs hn hr => ?receive, fun vc hn hr hs => ?send, fun hs hne => ?replay, fun hs hne hlt => ?retrain,
    fun hs hne heq => ?fails, fun hnil => ?idle⟩
  case receive =>
    intro h b c
    have run {v : State} (h : receiveFlit n bs a = v) : exec (.flitReceive t n bs) s = .next (settleSwitch v) :=
      congrArg (fun u => Host.Outcome.next (settleSwitch u)) h
    refine ⟨fun hbad => run ?_, fun hok => ?_⟩
    · unfold receiveFlit
      rw [if_neg (by simp [running, show (a.port n).receives = true from hr]; omega), if_pos (by simp [hbad])]
      rfl
    · have whole := receiveFlit_of_ok hn running hr hok
      have known (h1 : 1 ≤ h.type) (h3 : h.type ≤ 3) : ¬(decide (h.type = 0) || decide (3 < h.type)) = true := by
        simp only [Bool.or_eq_true, decide_eq_true_eq]
        omega
      refine ⟨fun ht => run (whole.trans (if_pos (by simpa [h] using ht))),
        fun h1 h3 hseq => run (whole.trans ((if_neg (known h1 h3)).trans (if_pos hseq))),
        fun h1 h2 hseq => run (whole.trans ((if_neg (known h1 (by omega))).trans (if_neg (not_not.mpr hseq)))),
        fun ht hseq => run (whole.trans ((if_neg (known (by omega) (by omega))).trans
          ((if_neg (not_not.mpr hseq)).trans (if_pos ht))))⟩
  case send =>
    intro c ack out q
    have off : sendOff n a = { a with fab := { a.fab with ports := tset a.fab.ports n q } } := rfl
    have run {v : State} (h : doFlitSend n vc a = v) : exec (.flitSend t n vc) s = .next v := congrArg Host.Outcome.next h
    refine ⟨fun f hagain hf hhold horigin => run ((doFlitSend_of_next hn running hr hs hagain hf).trans ?_),
      fun j x hagain => ?_, fun hagain hf => run (doFlitSend_of_idle hn running hr hs hagain hf)⟩
    · rw [sendNew_of_own hhold horigin]
      unfold sendOff
      rw [updPort_updPort]
      simp only [satAdd_64]
      rfl
    · intro b
      have again : sendAgain n j x (sendOff n a) = if 8 ≤ x.times + 1 then retrainPort n b else b := by
        unfold sendAgain sendOff
        rw [updPort_updPort]
        rfl
      have whole := doFlitSend_of_again (vc := vc) hn running hr hs hagain
      rw [again] at whole
      refine ⟨fun hlt => run (whole.trans ?_), fun hge => run (whole.trans ?_)⟩
      · rw [if_neg (by omega)]
        rfl
      · rw [if_pos (by omega)]
        rfl
  case replay =>
    refine congrArg Host.Outcome.next (?_ : doReplayTimeout n a = _)
    unfold doReplayTimeout replayPort
    rw [if_pos (by simp [running, show (a.port n).state = .up from hs]), if_neg (by simpa using hne)]
    rfl
  case retrain =>
    exact congrArg Host.Outcome.next ((acked hne).trans (retrainPort_of_few hs hlt))
  case fails =>
    obtain ⟨u, hu, hstate, hcause, hmarked, frame⟩ := retrainPort_of_fifth hs heq
    have keeps := fabricTime_keeps t s
    refine ⟨u, congrArg Host.Outcome.next ((acked hne).trans hu), hstate, hcause, hmarked, ?_, ?_, ?_⟩ <;> rw [frame]
    · exact keeps.nv.trans (State.advance_nv ..)
    · exact keeps.pins.trans (State.advance_pins ..)
    · exact keeps.start.trans (State.advance_start ..)
  case idle =>
    refine ⟨congrArg Host.Outcome.next (?_ : doReplayTimeout n a = _), congrArg Host.Outcome.next (?_ : doAckTimeout n a = _)⟩
    · unfold doReplayTimeout replayPort
      rw [show (a.port n).replay = [] from hnil]
      exact ite_self _
    · exact if_neg (by simp [show (a.port n).replay = [] from hnil])

end Sys2Proof.Machine

/-! PROOFS. Retraining, probes, circuits and plan changes. -/

namespace Sys2Proof.Machine

/-! ### As time passes -/

theorem finishReconf_of_nil {s : State} (h : s.fab.reconfs = []) : finishReconf s = s := by
  unfold finishReconf
  rw [h]
  rfl

theorem dueSwitch_of_none {s : State} (h : s.fab.switching = none) : dueSwitch s = s := by
  unfold dueSwitch
  rw [h]

/-- Where no switch waits and no RECONF is withheld, only time passes. -/
theorem fabricTime_of_still {s : State} (t : Nat) (hs : s.fab.switching = none) (hr : s.fab.reconfs = []) :
    s.fabricTime t = s.advance t := by
  have hs' : (s.advance t).fab.switching = none := by rw [State.advance_fab, hs]
  have hr' : (s.advance t).fab.reconfs = [] := by rw [State.advance_fab, hr]
  show finishReconf (dueSwitch (s.advance t)) = _
  rw [dueSwitch_of_none hs', finishReconf_of_nil hr']

theorem fabricTime_im (t : Nat) (s : State) : (s.fabricTime t).im = s.im := by
  rw [State.im, State.im, (fabricTime_keeps t s).img, State.advance_img]

theorem fabricTime_start (t : Nat) (s : State) : (s.fabricTime t).start = s.start := by
  rw [(fabricTime_keeps t s).start, State.advance_start]

theorem tooNarrow_congr {s u : State} (h : u.im = s.im) (rx tx : Nat) : u.tooNarrow rx tx = s.tooNarrow rx tx := by
  rw [State.tooNarrow, State.tooNarrow, h]

/-! ### The end of a retraining -/

theorem replayPort_portsOnly (n : Nat) (s : State) : PortsOnly s (replayPort n s) :=
  .ite (.refl s) (updPort_portsOnly n _ s)

theorem noteNarrow_plan (n : Nat) (s : State) : (noteNarrow n s).fab.plan = s.fab.plan := by
  have told (u : State) (f : Port → Port) (c : Bool) :
      (if c = true then raise 0x9009 n (u.updPort n f) else u).fab.plan = u.fab.plan := by
    cases c <;> rfl
  exact (told _ _ _).trans (told s _ _)

theorem replayPort_plan (n : Nat) (s : State) : (replayPort n s).fab.plan = s.fab.plan := by
  obtain ⟨p, h⟩ := replayPort_portsOnly n s
  rw [h]

/-- A port retrained on enough lanes is up and replays what was not acknowledged. -/
def upAgain (n : Nat) (s : State) : State :=
  replayPort n (noteNarrow n (s.updPort n fun p => { p with state := .up, pendingMode := none }))

theorem upAgain_plan (n : Nat) (s : State) : (upAgain n s).fab.plan = s.fab.plan :=
  (replayPort_plan n _).trans (noteNarrow_plan n _)

theorem endRetrain_of_narrow {n rx tx : Nat} {s : State} (h : s.tooNarrow rx tx = true) :
    endRetrain n rx tx s = failPort n 2 (s.updPort n (Port.trained s.im.fab.portLanes rx tx)) :=
  if_pos h

theorem endRetrain_of_wide {n rx tx : Nat} {s : State} (h : s.tooNarrow rx tx = false) :
    ((s.port n).pendingMode = none →
      endRetrain n rx tx s = upAgain n (s.updPort n (Port.trained s.im.fab.portLanes rx tx))) ∧
    ((s.port n).pendingMode ≠ none → endRetrain n rx tx s =
      setPort s.fab.plan (upAgain n (s.updPort n (Port.trained s.im.fab.portLanes rx tx))) n) := by
  have wide : ¬(s.updPort n (Port.trained s.im.fab.portLanes rx tx)).tooNarrow rx tx = true := by
    exact ne_true_of_eq_false h
  have mode : ((s.updPort n (Port.trained s.im.fab.portLanes rx tx)).port n).pendingMode = (s.port n).pendingMode := by
    rw [updPort_port_same]
    rfl
  constructor
  · intro hm
    rw [hm] at mode
    unfold endRetrain
    rw [if_neg wide]
    dsimp only
    rw [mode]
    rfl
  · intro hm
    obtain ⟨m, hm⟩ := Option.ne_none_iff_exists'.mp hm
    rw [hm] at mode
    unfold endRetrain
    rw [if_neg wide]
    dsimp only
    rw [mode]
    exact congrArg (fun plan => setPort plan (upAgain n (s.updPort n (Port.trained s.im.fab.portLanes rx tx))) n)
      (upAgain_plan n _)

/-! ### Control flits -/

/-- What an IDENTITY says of the far end (R297): its device and its port. -/
def Port.farEnd (d f : Nat) (p : Port) : Port := { p with farDevice := d % 2048, farPort := f % 16 }

/-- What an IDENTITY says is taken at its port (R297, R300). -/
def takeIdentity (n dom d f : Nat) (claim : Bool) (s : State) : State :=
  if dom = s.im.fab.domainId then s.updPort n fun p => { p.farEnd d f with child := p.child || claim }
  else if (s.port n).state = .foreign then s.updPort n (Port.farEnd d f)
  else raise 0x9008 n (s.updPort n fun p => { p.farEnd d f with state := .foreign })

theorem takeIdentity_eq (n dom d f : Nat) (claim : Bool) (s : State) :
    (if dom ≠ (s.updPort n (Port.farEnd d f)).im.fab.domainId then foreignPort n (s.updPort n (Port.farEnd d f))
      else (s.updPort n (Port.farEnd d f)).updPort n fun p => { p with child := p.child || claim }) =
      takeIdentity n dom d f claim s := by
  have same : (s.updPort n (Port.farEnd d f)).im = s.im := rfl
  have state : ((s.updPort n (Port.farEnd d f)).port n).state = (s.port n).state := by
    rw [updPort_port_same]
    rfl
  unfold takeIdentity foreignPort
  rw [same, state, updPort_updPort, updPort_updPort, ite_not]
  rfl

theorem takeIdentity_start (n dom d f : Nat) (claim : Bool) (s : State) : (takeIdentity n dom d f claim s).start = s.start := by
  unfold takeIdentity
  split
  · rfl
  · split <;> rfl

theorem doControlFlit_identity {n dom d f : Nat} {claim : Bool} {s : State} (hn : n < 16) (hr : s.running = true)
    (hp : (s.port n).receives = true) :
    doControlFlit n (.identity dom d f claim) s = if 5 < s.start.stage then
      queueFlit n (identityFlit n (takeIdentity n dom d f claim s)) (takeIdentity n dom d f claim s)
      else takeIdentity n dom d f claim s := by
  unfold doControlFlit
  rw [if_neg (by simp [hr, hp]; omega), ← takeIdentity_start n dom d f claim s]
  simp only [← takeIdentity_eq]
  rfl

theorem circuitUp_of_down {n : Nat} {s : State} (h : (s.port n).probing = true ∨ (s.port n).state = .circuitDown)
    (hr : s.fab.reconfs = []) : circuitUp n s = s.updPort n fun p => { p with state := .up, probing := false } := by
  unfold circuitUp
  rw [if_pos (by simpa using h)]
  exact finishReconf_of_nil hr

/-! ### RECONF -/

theorem doReconf_of_child {n : Nat} {m : ReconfMsg} {s : State} (hm : s.isMaster = false) (hq : s.quarantined = false)
    (hc : s.clocked = true) (hn : n = s.fab.parentActive) (hp : (s.port n).carries = true) :
    ((armReconf m.plan m.angle m.rev (toChildren 1 (reconfBytes m) s)).1 = .refused → doReconf n m s =
      let b := (armReconf m.plan m.angle m.rev (toChildren 1 (reconfBytes m) s)).2
      beginSwitch m.plan { b with fab := { b.fab with reconfLate := min (b.fab.reconfLate + 1) 4294967295 } }) ∧
    (∀ k, (armReconf m.plan m.angle m.rev (toChildren 1 (reconfBytes m) s)).1 = .slot k → doReconf n m s =
      (armReconf m.plan m.angle m.rev (toChildren 1 (reconfBytes m) s)).2) := by
  unfold doReconf
  rw [if_neg (by simp [hm, hq, hc, hp, ← hn])]
  obtain ⟨r, u⟩ := armReconf m.plan m.angle m.rev (toChildren 1 (reconfBytes m) s)
  refine ⟨fun h => ?_, fun k h => ?_⟩
  · obtain rfl : r = .refused := h
    rfl
  · obtain rfl : r = .slot k := h
    rfl

/-- The arm request of a plan change (R308). -/
def planRequest (m : ReconfMsg) : ArmReq := { owner := 2, angle := m.angle, offset := 0, rev := m.rev, next := false, tag := m.plan }

/-- A plan change asks for its slot as it comes, where no jump holds requests back. -/
theorem armReconf_of_calm {s : State} (m : ReconfMsg) (h : s.round.jumping = false) :
    armReconf m.plan m.angle m.rev s = takeRequest (planRequest m) s :=
  if_neg (by simp [h])

theorem takeRequest_of_invalid {q : ArmReq} {s : State} (h : s.angleValid = false) : takeRequest q s = (.refused, s) :=
  if_pos (by simp [h])

theorem takeRequest_of_reached {q : ArmReq} {s : State} (hv : s.angleValid = true) (hq : q.next = false)
    (hr : s.reached q.rev q.angle = true) : takeRequest q s =
      (.refused, { s with round := { s.round with armRefused := min (s.round.armRefused + 1) 4294967295 } }) := by
  unfold takeRequest
  rw [if_neg (by simp [hv]), if_pos (by simp [hq, hr])]
  simp only [bump_eq]

theorem takeRequest_of_full {q : ArmReq} {s : State} (hv : s.angleValid = true) (hr : s.reached q.rev q.angle = false)
    (hf : s.freeSlot q.owner = none) (h1 : q.owner ≠ 1) (h4 : q.owner ≠ 4) : takeRequest q s = (.refused, s) := by
  unfold takeRequest
  rw [if_neg (by simp [hv]), if_neg (by simp [hr]), hf]
  exact if_neg (by simp [h1, h4])

theorem takeRequest_of_free {q : ArmReq} {s : State} {k : Nat} (hv : s.angleValid = true) (hr : s.reached q.rev q.angle = false)
    (hf : s.freeSlot q.owner = some k) : takeRequest q s = (.slot k, armIn k q s) := by
  unfold takeRequest
  rw [if_neg (by simp [hv]), if_neg (by simp [hr]), hf]

/-- Settles O51. -/
theorem circuitsChange : Obligations.CircuitsChange := by
  unfold Obligations.CircuitsChange
  intro t n s a p hrun
  have running : a.running = true := (fabricTime_running t s).trans hrun
  have im : s.im = a.im := (fabricTime_im t s).symm
  have narrow (rx tx : Nat) : s.tooNarrow rx tx = a.tooNarrow rx tx := tooNarrow_congr im rx tx
  have start : s.start = a.start := (fabricTime_start t s).symm
  have master : s.isMaster = a.isMaster := by rw [State.isMaster, State.isMaster, im]
  refine ⟨fabricTime_of_still t, fun rx tx => ?retrain, fun hn hr => ?control, fun hp hc hr => ?timeout, fun hp => ?answered,
    fun hs => ?probe, fun hs => ?quiet, fun m hm hq hc hn hp hj => ?reconf⟩
  case retrain =>
    intro b
    have trained : b = a.updPort n (Port.trained a.im.fab.portLanes rx tx) := by
      show a.updPort n _ = _
      rw [im]
      rfl
    have run {v : State} (h : doPortRetrainDone n rx tx a = v) : exec (.portRetrainDone t n rx tx) s = .next v :=
      congrArg Host.Outcome.next h
    have ends (hs : p.state = .retraining) : doPortRetrainDone n rx tx a = endRetrain n rx tx a := by
      unfold doPortRetrainDone
      rw [if_neg (by simp [running]), if_pos hs]
    have relocks (hs : p.state = .training) (hp : p.probing = true) : doPortRetrainDone n rx tx a = relockPort n rx tx a := by
      unfold doPortRetrainDone
      rw [if_neg (by simp [running]), if_neg (by simp [show (a.port n).state = .training from hs]),
        if_pos (by simp [show (a.port n).state = .training from hs, show (a.port n).probing = true from hp])]
    rw [narrow, trained]
    refine ⟨fun hs hw => ?_, fun hs hw => run ((ends hs).trans (endRetrain_of_narrow hw)),
      fun hs hp => ⟨fun hw => run ((relocks hs hp).trans (if_neg ?_)), fun hw => run ((relocks hs hp).trans (if_pos hw))⟩,
      fun hs hp => run ?_⟩
    · obtain ⟨still, sets⟩ := endRetrain_of_wide hw (n := n)
      exact ⟨fun hm => run ((ends hs).trans (still hm)), fun hm => run ((ends hs).trans (sets hm))⟩
    · exact ne_true_of_eq_false hw
    · unfold doPortRetrainDone
      rw [if_neg (by simp [running]), if_neg hs, if_neg (by simp [show (a.port n).probing = false from hp])]
  case control =>
    have run {m : CtlMsg} {v : State} (h : doControlFlit n m a = v) : exec (.controlFlit t n m) s = .next v :=
      congrArg Host.Outcome.next h
    have heard : ¬(decide (16 ≤ n) || !a.running || !(a.port n).receives) = true := by
      simp [running, show (a.port n).receives = true from hr]
      omega
    refine ⟨run (if_neg heard), fun rt ta => run (if_neg heard), run (if_neg heard),
      fun hp hw => run ((if_neg heard).trans (circuitUp_of_down hp hw)), fun dom d f claim => ?_⟩
    intro far b
    have taken : b = takeIdentity n dom d f claim a := by
      show (if dom = s.im.fab.domainId then _ else _) = _
      rw [im]
      rfl
    rw [start, taken]
    have whole := doControlFlit_identity hn running hr (dom := dom) (d := d) (f := f) (claim := claim)
    exact ⟨fun hs => run (whole.trans (if_neg (by omega))), fun hs => run (whole.trans (if_pos hs))⟩
  case timeout =>
    refine congrArg Host.Outcome.next (?_ : doProbeTimeout n a = _)
    unfold doProbeTimeout
    rw [if_neg (by simp [running, show (a.port n).probing = true from hp])]
    simp only [show (a.port n).circuitRaised = false from hc]
    exact finishReconf_of_nil hr
  case answered =>
    exact congrArg Host.Outcome.next (if_pos (by simp [show (a.port n).probing = false from hp]) : doProbeTimeout n a = _)
  case probe =>
    exact congrArg Host.Outcome.next
      (if_pos (by simp [running, show (a.port n).state = .circuitDown from hs]) : doProbeRepeat n a = _)
  case quiet =>
    exact congrArg Host.Outcome.next (if_neg (by simp [show (a.port n).state ≠ .circuitDown from hs]) : doProbeRepeat n a = _)
  case reconf =>
    intro b late
    have run {v : State} (h : doReconf n m a = v) : exec (.reconf t n m) s = .next v := congrArg Host.Outcome.next h
    obtain ⟨ports, hb⟩ : PortsOnly a b := toChildren_portsOnly 1 (reconfBytes m) a
    have calm : b.round.jumping = false := by rw [hb]; exact hj
    have asks := armReconf_of_calm m calm
    have valid : b.angleValid = a.angleValid := by rw [hb]; rfl
    have reached : b.reached m.rev m.angle = a.reached m.rev m.angle := by rw [hb]; rfl
    have slot : b.freeSlot 2 = a.freeSlot 2 := by rw [hb]; rfl
    obtain ⟨refused, armed⟩ := doReconf_of_child (n := n) (m := m) (master ▸ hm) hq hc hn hp
    rw [show toChildren 1 (reconfBytes m) a = b from rfl] at refused armed
    clear_value b
    rw [asks] at refused
    rw [asks] at armed
    rw [← valid, ← reached, ← slot]
    refine ⟨fun hv => ?_, fun hv hr => ?_, fun hv hr hf => ?_, fun k hv hr hf => ?_⟩
    · rw [takeRequest_of_invalid hv] at refused
      exact run (refused rfl)
    · rw [takeRequest_of_reached (q := (planRequest m)) hv rfl hr] at refused
      exact run (refused rfl)
    · rw [takeRequest_of_full (q := (planRequest m)) hv hr hf (show 2 ≠ 1 by decide) (show 2 ≠ 4 by decide)] at refused
      exact run (refused rfl)
    · rw [takeRequest_of_free (q := (planRequest m)) hv hr hf] at armed
      exact run (armed k rfl)

end Sys2Proof.Machine

/-! PROOFS. Joining a domain: requests, answers and quarantine. -/

namespace Sys2Proof.Machine

/-! ### Quarantine -/

/-- Queues and modes of the ports change and the log grows: neither the part's role nor the cause of its quarantine. -/
def Emptied (s u : State) : Prop :=
  ∃ b f, u = { s with fab := b, flt := f } ∧ b.role = s.fab.role ∧ b.quarCause = s.fab.quarCause

theorem FabricWork.emptied {s u : State} (h : FabricWork s u) : Emptied s u := by
  obtain ⟨_, _, _, rfl⟩ := h
  exact ⟨_, _, rfl, rfl, rfl⟩

theorem PortsOnly.fabricWork {s u : State} (h : PortsOnly s u) : FabricWork s u := by
  obtain ⟨_, rfl⟩ := h
  exact ⟨_, _, _, rfl⟩

theorem dropQueues_fabricWork (s : State) : FabricWork s (dropQueues s) := by
  unfold dropQueues
  extract_lets fs
  generalize (s.fab.ports.map _) = ports
  refine FabricWork.trans (b := { s with fab := { s.fab with ports := ports } }) ⟨_, _, _, rfl⟩ (PortsOnly.fabricWork ?_)
  exact .foldl (fun u f => leaveBuffer_portsOnly f u) _ _

theorem planZero_emptied {s u : State} (h : FabricWork s u) : Emptied s (planZero u) := by
  have set : FabricWork s ((List.range 16).foldl (setPort 0) u) :=
    List.foldlRecOn _ _ h fun v hv n _ => hv.trans (setPort_restated n v).1.work
  unfold planZero
  split
  · exact h.emptied
  · obtain ⟨_, _, _, hu⟩ := set
    rw [hu]
    exact ⟨_, _, rfl, rfl, rfl⟩

theorem quarantineLehr_frame (s : State) : ∃ l, quarantineLehr s = s.setLehr l := by
  unfold quarantineLehr
  split
  · exact ⟨s.lehr, rfl⟩
  · exact ⟨_, rfl⟩

/-- A part in quarantine is QUARANTINED with its cause, its doors closed and its light out; fuses, memory and tiles stay (R307). -/
theorem quarantine_spec (cause code : Nat) (s : State) :
    (quarantine cause code s).fab.role = 3 ∧ (quarantine cause code s).fab.quarCause = cause ∧
      (quarantine cause code s).start.stage = 12 ∧ (quarantine cause code s).part = { s.part with doorsOpen := false } ∧
      (quarantine cause code s).lens.lit = false ∧ (quarantine cause code s).nv = s.nv ∧ (quarantine cause code s).mem = s.mem ∧
      (quarantine cause code s).tiles = s.tiles := by
  set v := raise0 code { s with fab := { s.fab with role := 3, quarCause := cause, joining := false, waitAdopt := false } } with hv
  obtain ⟨b, f, hz, hrole, hcause⟩ := planZero_emptied (dropQueues_fabricWork v)
  obtain ⟨l, hl⟩ := quarantineLehr_frame (setStage 12 (planZero (dropQueues v)))
  have whole : quarantine cause code s = { darkenLens (quarantineLehr (setStage 12 (planZero (dropQueues v)))) with
      part := { s.part with doorsOpen := false } } := by
    have kept : (darkenLens (quarantineLehr (setStage 12 (planZero (dropQueues v))))).part = s.part := by
      rw [hl, hz, hv]
      rfl
    rw [← kept]
    rfl
  rw [whole, hl, hz]
  exact ⟨hrole, hcause, rfl, rfl, rfl, rfl, rfl, rfl⟩

/-! ### Join requests at the master -/

theorem noteRequest_joinCode (n : Nat) (m : JoinReq) (s : State) : (noteRequest n m s).joinCode m = s.joinCode m := rfl

theorem joinCode_of_digest {s : State} {m : JoinReq} (h : m.digest ≠ s.fab.digest) : s.joinCode m = 1 := if_pos h

theorem joinCode_of_size {s : State} {m : JoinReq} (h : m.digest = s.fab.digest) (hd : s.im.fab.domainSize ≤ m.device) :
    s.joinCode m = 2 := by
  unfold State.joinCode
  dsimp only
  rw [if_neg (not_not.mpr h), if_pos hd]

theorem joinCode_of_held {s : State} {m : JoinReq} (h : m.digest = s.fab.digest) (hd : m.device < s.im.fab.domainSize) :
    s.joinCode m = if (if m.device = s.deviceId then some s.nv.serial
        else (s.fab.members.find? fun x => x.device = m.device).map Member.serial).isSome ∧
      (if m.device = s.deviceId then some s.nv.serial
        else (s.fab.members.find? fun x => x.device = m.device).map Member.serial) ≠ some m.serial then 3 else 0 := by
  unfold State.joinCode
  dsimp only
  rw [if_neg (not_not.mpr h), if_neg (by omega)]
  simp only [Bool.and_eq_true, decide_eq_true_eq]

theorem joinCode_of_other {s : State} {m : JoinReq} {x : Member} (h : m.digest = s.fab.digest)
    (hd : m.device < s.im.fab.domainSize) (ho : m.device ≠ s.deviceId)
    (hx : s.fab.members.find? (fun y => y.device = m.device) = some x) (hs : x.serial ≠ m.serial) : s.joinCode m = 3 := by
  rw [joinCode_of_held h hd, if_neg ho, hx, if_pos]
  exact ⟨rfl, fun e => hs (Option.some.inj e)⟩

theorem joinCode_of_own {s : State} {m : JoinReq} (h : m.digest = s.fab.digest)
    (hd : m.device < s.im.fab.domainSize) (ho : m.device = s.deviceId) (hs : m.serial ≠ s.nv.serial) : s.joinCode m = 3 := by
  rw [joinCode_of_held h hd, if_pos ho, if_pos]
  exact ⟨rfl, fun e => hs (Option.some.inj e).symm⟩

theorem joinCode_of_known {s : State} {m : JoinReq} (h : m.digest = s.fab.digest)
    (hd : m.device < s.im.fab.domainSize) (ho : m.device ≠ s.deviceId)
    (hx : ∀ x ∈ s.fab.members, x.device = m.device → x.serial = m.serial) : s.joinCode m = 0 := by
  rw [joinCode_of_held h hd, if_neg ho, if_neg]
  rintro ⟨he, hne⟩
  cases hf : s.fab.members.find? fun x => x.device = m.device with
  | none =>
    rw [hf] at he
    exact absurd he (by decide)
  | some x =>
    have := hx x (List.mem_of_find?_eq_some hf) (by simpa using List.find?_some hf)
    rw [hf] at hne
    exact hne (congrArg some this)

theorem sendAnswer_portsOnly (device tag code : Nat) (s : State) : PortsOnly s (sendAnswer device tag code s) := by
  unfold sendAnswer
  exact (queueFlit_portsOnly _ _ _).trans ((queueFlit_portsOnly _ _ _).trans (queueFlit_portsOnly _ _ _))

/-- A part that is taken in is in the bitmap of the next generation, and its answer goes out. -/
theorem welcome_spec (n : Nat) (m : JoinReq) (s : State) :
    let u := sendAnswer m.device m.tag 0 (admitMember m (noteRequest n m s))
    u = { s with fab := u.fab } ∧ u.fab.memberMap = setBit s.fab.memberMap m.device ∧
      u.fab.memberGen = (s.fab.memberGen + 1) % 65536 ∧ tget u.fab.down m.device 16 = n := by
  intro u
  obtain ⟨q, hq⟩ := sendAnswer_portsOnly m.device m.tag 0 (admitMember m (noteRequest n m s))
  set b := noteRequest n m s with hb
  set c : State := { b with fab := { b.fab with
    memberGen := (b.fab.memberGen + 1) % 65536, memberMap := setBit b.fab.memberMap m.device
    members := b.fab.members.filter (fun (x : Member) => x.device ≠ m.device) ++ [⟨m.device, m.serial⟩] } } with hc
  obtain ⟨p, hp⟩ : PortsOnly c (admitMember m b) := toChildren_portsOnly _ _ c
  have hu : u = _ := hq
  rw [hu, hp, hc, hb]
  refine ⟨rfl, rfl, rfl, ?_⟩
  exact tget_tset_same _ _ _ _

theorem doJoinRequest_of_master {n : Nat} {m : JoinReq} {s : State} {code : Nat} (hd : s.inDomain 7 = true)
    (hc : (s.port n).carries = true) (hm : s.isMaster = true) (hj : s.joinCode m = code) :
    doJoinRequest n m s =
      sendAnswer m.device m.tag code (if code = 0 then admitMember m (noteRequest n m s) else noteRequest n m s) := by
  unfold doJoinRequest
  rw [if_neg (by simp [hd, hc]), if_pos hm]
  dsimp only
  rw [noteRequest_joinCode, hj]

/-- Settles O52. -/
theorem partsJoin : Obligations.PartsJoin := by
  unfold Obligations.PartsJoin
  intro t n m ans s a
  have fab : a.fab = s.fab := State.advance_fab ..
  have master : a.isMaster = s.isMaster := State.advance_isMaster ..
  have port : a.port n = s.port n := State.advance_port ..
  have im : a.im = s.im := State.advance_im ..
  have device : a.deviceId = s.deviceId := State.advance_deviceId ..
  have serial : a.nv.serial = s.nv.serial := congrArg (·.serial) (State.advance_nv ..)
  refine ⟨fun hj hd => ?timer, fun hj => ?rest, fun hm hd hc => ?master, fun hm hd hc => ?relay, fun hm ha hdev hd => ?answer⟩
  case timer =>
    exact congrArg Host.Outcome.next (if_pos (by simp [fab, hj, hd]) : doJoinRequestTimer a = _)
  case rest =>
    exact congrArg Host.Outcome.next (if_neg (by simp [fab, hj]) : doJoinRequestTimer a = _)
  case master =>
    intro b
    rw [← master] at hm
    rw [← port] at hc
    rw [← fab, ← im, ← device, ← serial]
    have run {code : Nat} (hj : a.joinCode m = code) (hne : code ≠ 0) :
        exec (.joinRequest t n m) s = .next (sendAnswer m.device m.tag code b) := by
      refine congrArg Host.Outcome.next ((doJoinRequest_of_master hd hc hm hj).trans ?_)
      rw [if_neg hne]
    refine ⟨fun h => run (joinCode_of_digest h) (by decide), fun h hsz => run (joinCode_of_size h hsz) (by decide),
      fun x h hlt ho hx hs => run (joinCode_of_other h hlt ho hx hs) (by decide),
      fun h hlt ho hs => run (joinCode_of_own h hlt ho hs) (by decide), fun h hlt ho hx => ⟨_, ?_, rfl, welcome_spec n m a⟩⟩
    refine congrArg Host.Outcome.next ((doJoinRequest_of_master hd hc hm (joinCode_of_known h hlt ho hx)).trans ?_)
    rw [if_pos rfl]
  case relay =>
    have run {v : State} (h : doJoinRequest n m a = v) : exec (.joinRequest t n m) s = .next v := congrArg Host.Outcome.next h
    rw [← port] at hc
    rw [← master] at hm
    rw [← fab]
    refine ⟨fun hn hh => run ?_, fun hn => run ?_⟩ <;> unfold doJoinRequest <;>
      rw [if_neg (by simp [hd, hc]), if_neg (by simp [hm])]
    · rw [if_neg (by simp [hn]; omega)]
    · rw [if_pos (by simp; omega)]
  case answer =>
    have run {v : State} (h : doJoinAnswer ans a = v) : exec (.joinAnswer t ans) s = .next v := congrArg Host.Outcome.next h
    have heard : ¬(a.isMaster || a.alone || decide (ans.device ≠ a.deviceId) || !a.inDomain 7) = true := by
      simp [master, show a.alone = s.alone from State.advance_alone .., hm, ha, device, hdev, hd]
    refine ⟨fun h0 => run ((if_neg heard).trans ?_), fun h0 => ?_⟩
    · rw [if_pos h0, ← fab, show (4294967296 : Nat) = 2 ^ 32 from rfl]
    · obtain ⟨code, hq⟩ : ∃ code, doJoinAnswer ans a = quarantine ans.code code a := by
        unfold doJoinAnswer
        rw [if_neg heard, if_neg h0]
        split
        next h1 => exact ⟨_, by rw [h1]⟩
        · exact ⟨_, rfl⟩
      obtain ⟨role, cause, stage, part, lit, nv, mem, tiles⟩ := quarantine_spec ans.code code a
      exact ⟨_, run hq, role, cause, stage, part.trans (by rw [State.advance_part]), lit, nv.trans (State.advance_nv ..), mem,
        tiles.trans (State.advance_tiles ..)⟩

end Sys2Proof.Machine

/-! PROOFS. What the end of parcels and letters leaves of the rest of the part. -/

namespace Sys2Proof.Machine

/-! ### Status bits -/

theorem bit_setBit_same (n i : Nat) : bit (setBit n i) i = true := by
  unfold setBit
  split
  · assumption
  next h =>
    simp only [bit, decide_eq_true_eq] at h ⊢
    rw [Nat.add_div_right _ (by positivity)]
    omega

theorem bit_setBit_of_bit {n i : Nat} (j : Nat) (h : bit n i = true) : bit (setBit n j) i = true := by
  unfold setBit
  split
  · exact h
  next hj =>
    simp only [bit, decide_eq_true_eq] at h hj ⊢
    obtain hlt | heq | hgt := Nat.lt_trichotomy i j
    · obtain ⟨k, rfl⟩ := Nat.exists_eq_add_of_lt hlt
      rw [show 2 ^ (i + k + 1) = 2 * 2 ^ k * 2 ^ i by ring, Nat.add_mul_div_right _ _ (by positivity)]
      omega
    · exact absurd (heq ▸ h) hj
    · obtain ⟨k, rfl⟩ := Nat.exists_eq_add_of_lt hgt
      have split (m : Nat) : m / 2 ^ (j + k + 1) = m / 2 ^ j / 2 / 2 ^ k := by
        rw [Nat.div_div_eq_div_mul, Nat.div_div_eq_div_mul]
        congr 1
        ring
      rw [split, Nat.add_div_right _ (by positivity)]
      rw [split] at h
      rwa [show (n / 2 ^ j + 1) / 2 = n / 2 ^ j / 2 by omega]

/-! ### Fewer parcels -/

/-- A parcel whose tasks run or load. -/
def Parcel.started (p : Parcel) : Bool := !p.waiting || p.state = .loading

/-- Parcels and letters may go, none comes and none starts; the doors and the told ends stay. -/
structure Fewer (a b : PartSt) : Prop where
  doors : b.doorsOpen = a.doorsOpen
  ended : a.stEnded = true → b.stEnded = true
  limit : a.stLimit = true → b.stLimit = true
  parcels : ∀ p ∈ b.parcels, ∃ q ∈ a.parcels, q.id = p.id ∧ (p.started = true → q.started = true)
  letters : b.letters ⊆ a.letters

theorem Fewer.refl (a : PartSt) : Fewer a a := ⟨rfl, id, id, fun p h => ⟨p, h, rfl, id⟩, fun _ => id⟩

theorem Fewer.trans {a b c : PartSt} (h : Fewer a b) (k : Fewer b c) : Fewer a c := by
  refine ⟨k.doors.trans h.doors, k.ended ∘ h.ended, k.limit ∘ h.limit, fun p hp => ?_, fun x hx => h.letters (k.letters hx)⟩
  obtain ⟨q, hq, hid, hst⟩ := k.parcels p hp
  obtain ⟨r, hr, hid', hst'⟩ := h.parcels q hq
  exact ⟨r, hr, hid'.trans hid, hst' ∘ hst⟩

/-- A DEGRADED engine stays so, with its cause and the mark that it was told. -/
def Engine.Lost (d e : Engine) : Prop := d.state = .degraded → e.state = .degraded ∧ e.cause = d.cause ∧ e.stDegraded = d.stDegraded

theorem Engine.Lost.refl (e : Engine) : e.Lost e := fun h => ⟨h, rfl, rfl⟩

theorem Engine.Lost.trans {a b c : Engine} (h : a.Lost b) (k : b.Lost c) : a.Lost c := by
  intro ha
  obtain ⟨hb, hcause, htold⟩ := h ha
  obtain ⟨hc, kcause, ktold⟩ := k hb
  exact ⟨hc, kcause.trans hcause, ktold.trans htold⟩

/-- Work on the tiles, memory, engines and queues that lets parcels and letters go and tells faults: what training settled of
the ports stays, and a DEGRADED engine stays so. -/
structure Ends (s u : State) : Prop where
  core : ∀ k, (u.port k).core = (s.port k).core
  engines : ∀ k, (s.engine k).Lost (u.engine k)
  fab : ∃ p, u.fab = { s.fab with ports := p }
  lens : ∃ f e, u.lens = { s.lens with flight := f, engines := e }
  part : Fewer s.part u.part
  sev : ∀ i, bit s.flt.sev i = true → bit u.flt.sev i = true

theorem Ends.of_part {s u : State} (hf : u.fab = s.fab) (hl : u.lens = s.lens) (hp : Fewer s.part u.part) (ht : u.flt = s.flt) :
    Ends s u :=
  ⟨fun k => by rw [State.port, hf]; rfl, fun k => by rw [show u.engine k = s.engine k by rw [State.engine, hl]; rfl]; exact .refl _,
    ⟨_, hf⟩, ⟨_, _, hl⟩, hp, fun _ h => ht ▸ h⟩

theorem Ends.of_rest {s u : State} (hf : u.fab = s.fab) (hl : u.lens = s.lens) (hp : u.part = s.part) (ht : u.flt = s.flt) :
    Ends s u :=
  .of_part hf hl (hp ▸ .refl _) ht

theorem Ends.refl (s : State) : Ends s s := .of_rest rfl rfl rfl rfl

theorem Ends.trans {a b c : State} (h : Ends a b) (k : Ends b c) : Ends a c := by
  obtain ⟨p, hp⟩ := h.fab
  obtain ⟨q, hq⟩ := k.fab
  obtain ⟨f, e, hl⟩ := h.lens
  obtain ⟨g, d, kl⟩ := k.lens
  exact ⟨fun n => (k.core n).trans (h.core n), fun n => (h.engines n).trans (k.engines n), ⟨q, by rw [hq, hp]⟩,
    ⟨g, d, by rw [kl, hl]⟩, h.part.trans k.part, fun i hi => k.sev i (h.sev i hi)⟩

theorem Ends.ite {s a b : State} {c : Prop} [Decidable c] (ha : Ends s a) (hb : Ends s b) : Ends s (if c then a else b) := by
  split
  · exact ha
  · exact hb

theorem Ends.foldl {α : Type} {f : State → α → State} (hf : ∀ s x, Ends s (f s x)) (l : List α) (s : State) :
    Ends s (l.foldl f s) :=
  List.foldlRecOn l f (.refl s) fun u h x _ => h.trans (hf u x)

theorem MemOnly.ends {s u : State} (h : MemOnly s u) : Ends s u := by
  obtain ⟨_, rfl⟩ := h
  exact .of_rest rfl rfl rfl rfl

/-- Work on the queues of ports. -/
theorem PortsOnly.ends {s u : State} (h : PortsOnly s u) (hc : SameCore s u) : Ends s u := by
  have core := hc.core
  obtain ⟨p, rfl⟩ := h
  exact ⟨core, fun _ => .refl _, ⟨p, rfl⟩, ⟨_, _, rfl⟩, .refl _, fun _ => id⟩

theorem queueFlit_ends (n : Nat) (f : Flit) (s : State) : Ends s (queueFlit n f s) :=
  (queueFlit_portsOnly n f s).ends (queueFlit_sameCore n f s)

/-! ### Faults and reports -/

theorem raiseFull_ends (code unit : Nat) (ctx : Option Nat) (detail : Nat) (s : State) : Ends s (raiseFull code unit ctx detail s) := by
  refine ⟨fun _ => rfl, fun _ => .refl _, ⟨_, rfl⟩, ⟨_, _, rfl⟩, .refl _, fun i h => bit_setBit_of_bit _ ?_⟩
  have kept (f : FltSt) (e : LogEntry) (n : Nat) : (f.append e n).sev = f.sev := by
    unfold FltSt.append
    dsimp only
    split <;> rfl
  rwa [kept]

theorem raiseFor_ends (code unit pid : Nat) (s : State) : Ends s (raiseFor code unit pid s) := by
  unfold raiseFor
  split <;> exact raiseFull_ends _ _ _ _ _

theorem updParcel_ends (id : Nat) (f : Parcel → Parcel) (s : State)
    (hf : ∀ p, (f p).id = p.id ∧ ((f p).started = true → p.started = true)) : Ends s (s.updParcel id f) := by
  refine .of_part rfl rfl ⟨rfl, fun h => h, fun h => h, fun p hp => ?_, fun _ h => h⟩ rfl
  obtain ⟨q, hq, rfl⟩ := List.mem_map.mp hp
  refine ⟨q, hq, ?_⟩
  split
  · exact ⟨(hf q).1.symm, (hf q).2⟩
  · exact ⟨rfl, fun h => h⟩

theorem raiseOnce_ends (code unit pid : Nat) (s : State) : Ends s (raiseOnce code unit pid s) := by
  unfold raiseOnce
  split
  · next p _ =>
    exact .ite (.refl s) ((updParcel_ends pid (fun p => { p with raised := p.raised ++ [code] }) s fun _ => ⟨rfl, id⟩).trans
      (raiseFor_ends _ _ _ _))
  · exact .refl s

theorem reportFlags_ends (cluster pid w : Nat) (s : State) : Ends s (reportFlags cluster pid w s) := by
  unfold reportFlags
  extract_lets invalid range counted flagged told
  have hc : Ends s counted := .of_rest rfl rfl rfl rfl
  have hf : Ends counted flagged := updParcel_ends pid (fun p => { p with flags := p.flags ||| w }) _ fun _ => ⟨rfl, id⟩
  have ht : Ends s told := .ite ((hc.trans hf).trans (raiseOnce_ends _ _ _ _)) (hc.trans hf)
  exact .ite (ht.trans (raiseOnce_ends _ _ _ _)) ht

theorem sendReport_ends (r : Report) (s : State) : Ends s (sendReport r s) := by
  unfold sendReport
  split
  · exact .of_part rfl rfl ⟨rfl, id, id, fun p h => ⟨p, h, rfl, id⟩, fun _ => id⟩ rfl
  · extract_lets again _ counted
    have hc : Ends s counted := .of_part rfl rfl ⟨rfl, id, id, fun p h => ⟨p, h, rfl, id⟩, fun _ => id⟩ rfl
    refine .ite hc (hc.trans (Ends.trans ?_ (raiseFull_ends _ _ _ _ _)))
    exact .of_part rfl rfl ⟨rfl, id, id, fun p h => ⟨p, h, rfl, id⟩, fun _ => id⟩ rfl

theorem deadLetter_ends (e : DeadLetter) (s : State) : Ends s (deadLetter e s) :=
  .of_part rfl rfl ⟨rfl, id, id, fun p h => ⟨p, h, rfl, id⟩, fun _ => id⟩ rfl

theorem refuse_ends (p : Post) (serial epoch reason : Nat) (s : State) : Ends s (refuse p serial epoch reason s) := by
  unfold refuse
  extract_lets _ counted dead r
  have hc : Ends s counted := .of_part rfl rfl ⟨rfl, id, id, fun p h => ⟨p, h, rfl, id⟩, fun _ => id⟩ rfl
  have hr : Ends dead r.2 := .of_rest rfl rfl rfl rfl
  exact (hc.trans (deadLetter_ends _ _)).trans (hr.trans (sendReport_ends _ _))

theorem freeArea_ends (base len : Nat) (s : State) : Ends s (freeArea base len s) :=
  .of_part rfl rfl ⟨rfl, id, id, fun p h => ⟨p, h, rfl, id⟩, fun _ => id⟩ rfl

/-! ### Barriers that are given up -/

theorem noteAbort_ends (level index pid : Nat) (s : State) : Ends s (noteAbort level index pid s) :=
  Ends.trans (b := { s with sync := { s.sync with aborted := bump s.sync.aborted, stAborted := true } })
    (.of_rest rfl rfl rfl rfl) (raiseFor_ends _ _ _ _)

theorem releaseBelow_ends (index gen ctx : Nat) (abort : Bool) (s : State) : Ends s (releaseBelow index gen ctx abort s) :=
  .foldl (fun u _ => queueFlit_ends _ _ u) _ s

theorem abortBar_ends (s : State) (k : Nat × Nat × Nat) : Ends s (abortBar s k) :=
  .ite ((noteAbort_ends _ _ _ s).trans (releaseBelow_ends _ _ _ _ _)) (noteAbort_ends _ _ _ s)

theorem sendSync_ends (cluster : Nat) (m : SyncMsg) (s : State) : Ends s (sendSync cluster m s) :=
  .ite (.of_rest rfl rfl rfl rfl) (.ite (.refl s) (queueFlit_ends _ _ s))

theorem abortBarriers_ends (p : Parcel) (x : Pending) (s : State) : Ends s (abortBarriers p x s) := by
  have bars : Ends s (x.bars.foldl abortBar s) := .foldl abortBar_ends _ s
  unfold abortBarriers
  dsimp only
  split
  · exact bars.trans ((noteAbort_ends _ _ _ _).trans (sendSync_ends _ _ _))
  · exact bars

/-! ### Tasks that stop -/

theorem seeDev_memOnly (queue d n : Nat) (s : State) : MemOnly s (seeDev queue d n s) := by
  unfold seeDev
  generalize n / 256 + 2 = k
  induction k generalizing d n s with
  | zero => exact .refl s
  | succ k ih => exact .ite (.refl s) (MemOnly.trans (updChan_memOnly _ _ s) (ih _ _ _))

theorem updEngine_ends {n : Nat} (f : Engine → Engine) {s : State} (h : (s.engine n).Lost (f (s.engine n))) :
    Ends s (s.updEngine n f) := by
  refine ⟨fun _ => rfl, fun k => ?_, ⟨_, rfl⟩, ⟨_, _, rfl⟩, .refl _, fun _ => id⟩
  by_cases hk : k = n
  · rw [hk, State.engine_updEngine_same]
    exact h
  · rw [State.engine_updEngine_other _ _ hk]
    exact .refl _

theorem startLoad_ends {n : Nat} (q : LensReq) {s : State} (h : (s.engine n).state ≠ .degraded) : Ends s (startLoad n q s) := by
  unfold startLoad
  split
  · exact .refl s
  · exact (updEngine_ends _ fun hd => absurd hd h).trans (seeDev_memOnly _ _ _ _).ends

theorem nextMatrix_ends (n : Nat) (s : State) : Ends s (nextMatrix n s) := by
  by_cases hs : (s.engine n).state = .serving
  · have up : (s.engine n).state ≠ .degraded := by rw [hs]; decide
    have drain (d : Option Nat) : Ends s (s.updEngine n fun e => { e with drain := d }) := updEngine_ends _ fun hd => absurd hd up
    unfold nextMatrix
    dsimp only
    split
    · exact .refl s
    · split
      · exact drain _
      · exact .ite (drain _) (.ite (drain _) (startLoad_ends _ up))
  · rw [nextMatrix_of_not_serving hs]
    exact .refl s

theorem fillPipeline_ends (tile : Nat) (s : State) : Ends s (fillPipeline tile s) := by
  unfold fillPipeline
  split
  · exact .refl s
  · split
    · exact .of_rest rfl rfl rfl rfl
    · exact .refl s

theorem dropFlight_ends (tile slot : Nat) (s : State) : Ends s (dropFlight tile slot s) := by
  refine ⟨fun _ => rfl, fun k hd => ?_, ⟨_, rfl⟩, ⟨_, _, rfl⟩, .refl _, fun _ => id⟩
  have purged : (dropFlight tile slot s).engine k = (s.engine k).purge tile slot := tget_map _ s.lens.engines k {}
  rw [purged]
  exact ⟨hd, rfl, rfl⟩

theorem purgeTask_ends (tile slot : Nat) (s : State) : Ends s (purgeTask tile slot s) :=
  (dropFlight_ends tile slot s).trans (nextMatrix_ends _ _)

theorem freeTask_ends (tile slot : Nat) (s : State) : Ends s (freeTask tile slot s) := by
  unfold freeTask
  extract_lets t told
  refine ((reportFlags_ends _ _ _ s).trans (purgeTask_ends tile slot told)).trans (Ends.trans ?_ (fillPipeline_ends _ _))
  exact .of_rest rfl rfl rfl rfl

theorem stopTasks_ends (p : Parcel) (s : State) : Ends s (stopTasks p s) :=
  .foldl (fun u _ => .ite (freeTask_ends _ _ u) (.refl u)) _ s

/-! ### Letters, atomics and the parcel's own records -/

theorem flushLine_memOnly (l : AtomicLine) (s : State) : MemOnly s (flushLine l s).2 := by
  unfold flushLine
  extract_lets _ v
  refine MemOnly.trans (b := v) ⟨_, rfl⟩ ?_
  refine List.foldlRecOn (motive := fun r : Nat × State => MemOnly v r.2) _ _ (.refl v) fun r h o _ => h.trans ?_
  unfold flushAdd
  dsimp only
  split
  · exact .refl _
  · exact (devWrite_memOnly _ _ _ _).trans (updChan_memOnly _ _ _)

theorem flushContext_memOnly (cluster ctx : Nat) (s : State) : MemOnly s (flushContext cluster ctx s).2 :=
  List.foldlRecOn (motive := fun r : Nat × State => MemOnly s r.2) _ _ (.refl s) fun _ h l _ => h.trans (flushLine_memOnly l _)

theorem flushParcel_ends (p : Parcel) (s : State) : Ends s (flushParcel p s) := by
  refine .foldl (fun u c => ?_) _ s
  have flushed := (flushContext_memOnly c p.context u).ends
  exact .ite flushed (flushed.trans
    (updParcel_ends p.id (fun x => { x with flags := x.flags ||| (flushContext c p.context u).1 }) _ fun _ => ⟨rfl, id⟩))

theorem freeParcel_ends (p : Parcel) (s : State) : Ends s (freeParcel p s) := by
  unfold freeParcel
  extract_lets owner words slots cut _ freed
  exact Ends.trans (b := freed) (.of_rest rfl rfl rfl rfl) (freeArea_ends _ _ _)

/-- A port without the flits of a parcel in its queues. -/
def Port.without (pid : Nat) (p : Port) : Port :=
  { p with queues := p.queues.map fun q => (q.1, q.2.filter fun f => f.owner ≠ pid + 1) }

theorem dropParcelFlight_ends (pid : Nat) (s : State) : Ends s (dropParcelFlight pid s) := by
  refine ⟨fun k => ?_, fun _ => .refl _, ⟨_, rfl⟩, ⟨_, _, rfl⟩, .refl _, fun _ => id⟩
  have dropped : (dropParcelFlight pid s).port k = (s.port k).without pid := tget_map (Port.without pid) s.fab.ports k {}
  rw [dropped]
  rfl

/-! ### The end of a parcel -/

/-- The end of a parcel is counted and told, and the parcel is no more. -/
def countEnd (id outcome : Nat) (s : State) : State :=
  { s with part := { s.part with
      parcels := s.part.parcels.filter fun x => x.id ≠ id
      parcelsDone := if outcome = 0 then bump s.part.parcelsDone else s.part.parcelsDone
      parcelsEnded := if outcome = 0 then s.part.parcelsEnded else bump s.part.parcelsEnded
      stEnded := s.part.stEnded || outcome ≠ 0
      stLimit := s.part.stLimit || outcome = 3
      lastBusy := s.now } }

/-- The entry that a parcel ended for reason 16 leaves. -/
def deadEnd (p : Parcel) (fault : Nat) : DeadLetter :=
  { reason := 16, kind := 0, via := p.via.code, context := p.context, tag := p.tag, serial := p.serial, epoch := p.epoch, fault := fault }

theorem countEnd_ends (id outcome : Nat) (s : State) : Ends s (countEnd id outcome s) :=
  .of_part rfl rfl ⟨rfl, fun h => by simp [countEnd, h], fun h => by simp [countEnd, h],
    fun p h => ⟨p, (List.mem_filter.mp h).1, rfl, fun h => h⟩, fun _ h => h⟩ rfl

/-- The revolution that a parcel's report names. -/
def revOf (p : Parcel) (reason : Nat) (s : State) : Nat × State :=
  if p.state = .running || p.state = .loading then (p.releaseRev, s)
  else if reason = 16 then (s.round.rev, s)
  else freeRev s

theorem revOf_ends (p : Parcel) (reason : Nat) (s : State) : Ends s (revOf p reason s).2 := by
  unfold revOf
  split
  · exact .refl s
  · split
    · exact .refl s
    · exact .of_rest rfl rfl rfl rfl

/-- A parcel that ends goes through the count of its end. -/
theorem endCore_through (id outcome fault reason : Nat) {s : State} {p : Parcel} (h : s.parcel id = some p) :
    ∃ v, Ends s v ∧ Ends (countEnd id outcome v) (endCore id outcome fault reason s) := by
  unfold endCore
  rw [h]
  dsimp only
  set a := if outcome = 0 then s else raiseFor 0xA002 0xFFFF id s with ha
  have told : Ends s a := .ite (.refl s) (raiseFor_ends _ _ _ s)
  set b := abortBarriers p (a.pendingBars p) (dropParcelFlight id (stopTasks p a)) with hb
  have stopped : Ends a b := (stopTasks_ends p a).trans ((dropParcelFlight_ends id _).trans (abortBarriers_ends p _ _))
  set c := if outcome = 5 then b else flushParcel p b with hc
  have flushed : Ends b c := .ite (.refl b) (flushParcel_ends p b)
  refine ⟨freeParcel p c, told.trans (stopped.trans (flushed.trans (freeParcel_ends p c))), ?_⟩
  set v := freeParcel p c with hv
  clear_value v c
  have dead : Ends (countEnd id outcome v) (if reason = 16 then deadLetter (deadEnd p fault) (countEnd id outcome v)
      else countEnd id outcome v) := .ite (deadLetter_ends _ _) (.refl _)
  refine Ends.trans (dead.trans (revOf_ends p reason _)) (sendReport_ends _ _)

theorem endCore_ends (id outcome fault reason : Nat) (s : State) : Ends s (endCore id outcome fault reason s) := by
  cases h : s.parcel id with
  | none =>
    unfold endCore
    rw [h]
    exact .refl s
  | some p =>
    obtain ⟨v, before, after⟩ := endCore_through id outcome fault reason h
    exact before.trans ((countEnd_ends id outcome v).trans after)

theorem Ends.gone {s u : State} {id : Nat} (h : Ends s u) (hs : ∀ p ∈ s.part.parcels, p.id ≠ id) :
    ∀ p ∈ u.part.parcels, p.id ≠ id := by
  intro p hp
  obtain ⟨q, hq, hid, -⟩ := h.part.parcels p hp
  exact hid ▸ hs q hq

/-- No parcel of that number is left. -/
theorem endCore_gone (id outcome fault reason : Nat) (s : State) :
    ∀ p ∈ (endCore id outcome fault reason s).part.parcels, p.id ≠ id := by
  cases h : s.parcel id with
  | none =>
    unfold endCore
    rw [h]
    intro p hp hid
    exact absurd (List.find?_eq_none.mp h p hp) (by simp [hid])
  | some p =>
    obtain ⟨v, -, after⟩ := endCore_through id outcome fault reason h
    refine after.gone fun q hq => ?_
    simpa using (List.mem_filter.mp hq).2

/-- The end of a parcel that did not complete is told, and one at its limit as such. -/
theorem endCore_told (id fault reason : Nat) {outcome : Nat} {s : State} {p : Parcel} (h : s.parcel id = some p) (ho : outcome ≠ 0) :
    (endCore id outcome fault reason s).part.stEnded = true ∧
      (outcome = 3 → (endCore id outcome fault reason s).part.stLimit = true) := by
  obtain ⟨v, -, after⟩ := endCore_through id outcome fault reason h
  exact ⟨after.part.ended (by simp [countEnd, ho]), fun h3 => after.part.limit (by simp [countEnd, h3])⟩

/-! ### Refusing what waits -/

theorem endLetter_ends (l : Letter) (s : State) : Ends s (endLetter l s) := by
  refine Ends.trans (b := { s with part := { s.part with letters := s.part.letters.filter fun x => x.id ≠ l.id, lastBusy := s.now } })
    (.of_part rfl rfl ⟨rfl, id, id, fun p h => ⟨p, h, rfl, id⟩, fun _ h => (List.mem_filter.mp h).1⟩ rfl) (freeArea_ends _ _ _)

/-- A parcel that waits is refused. -/
def refuseParcel (reason : Nat) (s : State) (p : Parcel) : State :=
  freeArea p.base p.len (refuse p.post p.serial p.epoch reason
    { s with part := { s.part with parcels := s.part.parcels.filter fun x => x.id ≠ p.id } })

theorem refuseParcel_ends (reason : Nat) (s : State) (p : Parcel) : Ends s (refuseParcel reason s p) := by
  refine Ends.trans (b := { s with part := { s.part with parcels := s.part.parcels.filter fun x => x.id ≠ p.id } })
    (.of_part rfl rfl ⟨rfl, id, id, fun q h => ⟨q, (List.mem_filter.mp h).1, rfl, id⟩, fun _ => id⟩ rfl)
    ((refuse_ends _ _ _ _ _).trans (freeArea_ends _ _ _))

theorem refuseParcel_gone (reason : Nat) (s : State) (p : Parcel) : ∀ q ∈ (refuseParcel reason s p).part.parcels, q.id ≠ p.id := by
  refine Ends.gone (s := { s with part := { s.part with parcels := s.part.parcels.filter fun x => x.id ≠ p.id } })
    ((refuse_ends _ _ _ _ _).trans (freeArea_ends _ _ _)) fun q hq => ?_
  simpa using (List.mem_filter.mp hq).2

/-- A letter that waits is refused. -/
def refuseLetter (reason : Nat) (s : State) (l : Letter) : State := endLetter l (refuse l.post l.serial l.epoch reason s)

theorem refuseLetter_ends (reason : Nat) (s : State) (l : Letter) : Ends s (refuseLetter reason s l) :=
  (refuse_ends _ _ _ _ s).trans (endLetter_ends _ _)

/-- A fold that lets go of each of its items leaves none of them. -/
theorem Ends.foldl_gone {α : Type} {f : State → α → State} {P : α → State → Prop} (hf : ∀ s x, Ends s (f s x))
    (hkeep : ∀ s u x, Ends s u → P x s → P x u) (hgone : ∀ s x, P x (f s x)) (l : List α) (s : State) :
    ∀ x ∈ l, P x (l.foldl f s) := by
  induction l generalizing s with
  | nil => exact fun _ h => absurd h List.not_mem_nil
  | cons y l ih =>
    intro x hx
    obtain rfl | hx := List.mem_cons.mp hx
    · exact hkeep _ _ x (.foldl hf l _) (hgone s x)
    · exact ih _ x hx

/-- The parcels that wait for their release. -/
def State.waitingParcels (s : State) : List Parcel := s.part.parcels.filter fun p => p.waiting && p.state ≠ .loading

/-- What waits is refused: parcels, then letters, then the entries of letters. -/
def refuseWaiting (reason : Nat) (s : State) : State :=
  let v := s.part.letters.foldl (refuseLetter reason) (s.waitingParcels.foldl (refuseParcel reason) s)
  { v with fs := { v.fs with entries := v.fs.entries.filter fun e => e.origin.isSome || e.stage ≠ 0 } }

theorem refuseAll_eq (reason : Nat) (s : State) : refuseAll reason s =
    if s.waitingParcels.isEmpty && s.part.letters.isEmpty then refuseWaiting reason s else raise0 0xA001 (refuseWaiting reason s) := rfl

theorem refuseWaiting_ends (reason : Nat) (s : State) : Ends s (refuseWaiting reason s) :=
  ((Ends.foldl (refuseParcel_ends reason) _ s).trans (.foldl (refuseLetter_ends reason) _ _)).trans (.of_rest rfl rfl rfl rfl)

theorem refuseAll_after (reason : Nat) (s : State) : Ends (refuseWaiting reason s) (refuseAll reason s) := by
  rw [refuseAll_eq]
  exact .ite (.refl _) (raiseFull_ends _ _ _ _ _)

theorem refuseAll_ends (reason : Nat) (s : State) : Ends s (refuseAll reason s) :=
  (refuseWaiting_ends reason s).trans (refuseAll_after reason s)

end Sys2Proof.Machine

/-! PROOFS. The thermal trip. -/

namespace Sys2Proof.Machine

/-! ### The entry to READY, stopped -/

/-- A change that is under way completes, and none follows it (R109). -/
theorem stopEntry_spec (s : State) : ProgramFrame s (stopEntry s) ∧ (stopEntry s).start.entry.cur = none ∧
    (stopEntry s).start.entry.todo = [] ∧ (s.start.entry.cur = none → (stopEntry s).nv = s.nv) := by
  unfold stopEntry
  dsimp only
  split
  next r hc =>
    exact ⟨(setFuse_frame r s).trans ((endChange_frame r _).trans (setEntry_frame _ _)), rfl, rfl, fun h => by simp [hc] at h⟩
  next r _ _ hc => exact ⟨(endChange_frame r _).trans (setEntry_frame _ _), rfl, rfl, fun h => by simp [hc] at h⟩
  next hc => exact ⟨setEntry_frame _ s, hc, rfl, fun _ => rfl⟩

/-! ### The work that is dropped -/

/-- No parcel bears the number of this one. -/
def NoParcel (p : Parcel) (s : State) : Prop := ∀ q ∈ s.part.parcels, q.id ≠ p.id

/-- No letter bears the number of this one. -/
def NoLetter (l : Letter) (s : State) : Prop := ∀ x ∈ s.part.letters, x.id ≠ l.id

/-- A parcel ends with this outcome and fault. -/
def endOne (outcome fault : Nat) (s : State) (p : Parcel) : State := endCore p.id outcome fault 0 s

theorem endOne_ends (outcome fault : Nat) (s : State) (p : Parcel) : Ends s (endOne outcome fault s p) := endCore_ends _ _ _ _ s

/-- The parcels whose tasks run or load end. -/
def endStarted (outcome fault : Nat) (s : State) : State :=
  (s.part.parcels.filter Parcel.started).foldl (endOne outcome fault) s

theorem endStarted_ends (outcome fault : Nat) (s : State) : Ends s (endStarted outcome fault s) :=
  .foldl (endOne_ends outcome fault) _ s

theorem endStarted_keeps (outcome fault : Nat) (s : State) : Keeps s (endStarted outcome fault s) :=
  .foldl (fun _ _ h => endCore_keeps h) (.refl s)

theorem endStarted_gone (outcome fault : Nat) (s : State) (p : Parcel) (hp : p ∈ s.part.parcels) (hst : p.started = true) :
    NoParcel p (endStarted outcome fault s) :=
  Ends.foldl_gone (P := NoParcel) (endOne_ends outcome fault) (fun _ _ _ h => h.gone) (fun u p => endCore_gone p.id _ _ _ u)
    _ s p (List.mem_filter.mpr ⟨hp, hst⟩)

/-- What started is gone, so what is left waits. -/
theorem endStarted_waits (outcome fault : Nat) (s : State) : ∀ p ∈ (endStarted outcome fault s).part.parcels, p.started = false := by
  intro p hp
  obtain ⟨q, hq, hid, hst⟩ := (endStarted_ends outcome fault s).part.parcels p hp
  by_contra h
  exact endStarted_gone outcome fault s q hq (hst (by simpa using h)) p hp hid.symm

/-- Where every parcel waits, refusing leaves none. -/
theorem refuseAll_no_parcels (reason : Nat) {s : State} (h : ∀ p ∈ s.part.parcels, p.started = false) :
    (refuseAll reason s).part.parcels = [] := by
  set v := s.waitingParcels.foldl (refuseParcel reason) s with hv
  have first : Ends s v := .foldl (refuseParcel_ends reason) _ s
  have rest : Ends v (refuseAll reason s) :=
    (Ends.foldl (refuseLetter_ends reason) _ v).trans (.trans (b := refuseWaiting reason s) (.of_rest rfl rfl rfl rfl)
      (refuseAll_after reason s))
  refine List.eq_nil_iff_forall_not_mem.mpr fun p hp => ?_
  obtain ⟨q, hq, -, -⟩ := rest.part.parcels p hp
  obtain ⟨r, hr, hid, -⟩ := first.part.parcels q hq
  have waits : r ∈ s.waitingParcels := List.mem_filter.mpr ⟨hr, by simpa [Parcel.started] using h r hr⟩
  exact Ends.foldl_gone (P := NoParcel) (refuseParcel_ends reason) (fun _ _ _ h => h.gone)
    (refuseParcel_gone reason) _ s r waits q hq hid.symm

/-- Refusing leaves no letter. -/
theorem refuseAll_no_letters (reason : Nat) (s : State) : (refuseAll reason s).part.letters = [] := by
  set v := s.waitingParcels.foldl (refuseParcel reason) s with hv
  have first : Ends s v := .foldl (refuseParcel_ends reason) _ s
  set w := s.part.letters.foldl (refuseLetter reason) v with hw
  have rest : Ends w (refuseAll reason s) := .trans (b := refuseWaiting reason s) (.of_rest rfl rfl rfl rfl) (refuseAll_after reason s)
  refine List.eq_nil_iff_forall_not_mem.mpr fun l hl => ?_
  have hl' := rest.part.letters hl
  have second : Ends v w := .foldl (refuseLetter_ends reason) _ v
  have gone : NoLetter l w :=
    Ends.foldl_gone (P := NoLetter) (refuseLetter_ends reason) (fun _ _ _ h k x hx => k x (h.part.letters hx))
      (fun u l x hx => by simpa using (List.mem_filter.mp hx).2) _ v l (first.part.letters (second.part.letters hl'))
  exact gone l hl' rfl

/-! ### The trip -/

theorem stopLight_frame (s : State) : ∃ b, stopLight s = { s with lens := { s.lens with lit := false }, fab := b } := by
  unfold stopLight darkenPorts
  split <;> exact ⟨_, rfl⟩

/-- The governor's registers as it trips (R80). -/
def trippedLehr (s : State) : LehrSt := { s.lehr with
  state := .tripped, motion := .still, target := if s.img.isSome then s.deviceTarget else 0, ballast := 0
  holdPending := false, shortfall := false }

/-- The governor is TRIPPED, the fault told, the light out and the doors closed (R80). -/
def tripped (die : Nat) (s : State) : State :=
  let v := raise 0x2002 die (s.setLehr (trippedLehr s))
  stopLight { v with part := { v.part with doorsOpen := false } }

theorem tripped_frame (die : Nat) (s : State) : ∃ b f, tripped die s = { s with
    lehr := trippedLehr s, part := { s.part with doorsOpen := false }, lens := { s.lens with lit := false }, fab := b, flt := f } ∧
      bit f.sev 3 = true := by
  unfold tripped
  extract_lets v _
  have told : bit v.flt.sev 3 = true := bit_setBit_same _ 3
  obtain ⟨b, h⟩ := stopLight_frame { v with part := { v.part with doorsOpen := false } }
  exact ⟨b, v.flt, h, told⟩

theorem doThermalTrip_eq {die : Nat} {s : State} (hr : s.running = true) (ht : s.lehr.state ≠ .tripped) :
    doThermalTrip die s = refuseAll 11 (endStarted 5 0x2002 (tripped die (if s.start.stage = 8 then stopEntry s else s))) := by
  unfold doThermalTrip
  rw [if_neg (by simp [hr, ht])]
  rfl

/-- Settles O28. -/
theorem thermalTrip : Obligations.ThermalTrip := by
  unfold Obligations.ThermalTrip
  intro t die s hrun ht
  set a := s.advance t with ha
  have running : a.running = true := (State.advance_running ..).trans hrun
  have untripped : a.lehr.state ≠ .tripped := fun h => ht ((State.advance_tripped s t).mp h)
  refine ⟨doThermalTrip die a, rfl, ?_⟩
  rw [doThermalTrip_eq running untripped]
  set b := if a.start.stage = 8 then stopEntry a else a with hb
  obtain ⟨entry, cur, todo, still⟩ := stopEntry_spec a
  have before : ProgramFrame a b := by
    rw [hb]
    split
    · exact entry
    · exact .refl a
  obtain ⟨p, f, frame, told⟩ := tripped_frame die b
  set c := tripped die b with hc
  set d := endStarted 5 0x2002 c with hd
  have ends : Ends c (refuseAll 11 d) := (endStarted_ends _ _ c).trans (refuseAll_ends _ _)
  have keeps : Keeps c (refuseAll 11 d) := refuseAll_keeps (endStarted_keeps _ _ c)
  have parcels : (refuseAll 11 d).part.parcels = [] := refuseAll_no_parcels 11 (endStarted_waits _ _ c)
  have letters : (refuseAll 11 d).part.letters = [] := refuseAll_no_letters 11 d
  have grows : FusesGrow a.nv.fuses (refuseAll 11 d).nv.fuses := by
    have := (doThermalTrip_holds (die := die) (.refl a)).fuses
    rwa [doThermalTrip_eq running untripped] at this
  set u := refuseAll 11 d with hu
  clear_value u d
  obtain ⟨lens, engines, hlens⟩ := ends.lens
  have lehr := keeps.lehr
  have nv : c.nv = b.nv := by rw [frame]
  have start : c.start = b.start := by rw [frame]
  have img : c.img = b.img := by rw [frame]
  have pins : c.pins = b.pins := by rw [frame]
  have high : u.lpResetPin = .high := by
    have up : u.running = true := by
      rw [State.running, keeps.pins, pins, before.frame]
      exact running
    have trip : u.lehr.state = .tripped := by rw [lehr, frame, trippedLehr]
    unfold State.lpResetPin
    rw [if_neg (by simp [up]), if_pos trip]
  have stage : a.start.stage = s.start.stage := by rw [State.advance_start]
  have moved : u.start = b.start ∧ u.nv = b.nv := ⟨keeps.start.trans start, keeps.nv.trans nv⟩
  refine ⟨by rw [lehr, frame, trippedLehr], by rw [lehr, frame, trippedLehr, before.frame], by rw [lehr, frame, trippedLehr],
    by rw [hlens, frame], high,
    ends.part.doors.trans (by rw [frame]), parcels, letters, ?_, ?_, ends.sev 3 (by rw [frame]; exact told), ?_,
    by rwa [State.advance_nv] at grows, fun h8 => ?_, fun h8 => ?_⟩
  · rw [keeps.img, img, before.frame, State.advance_img]
  · rw [keeps.pins, pins, before.frame, State.advance_pins]
  · rw [moved.1, before.stage, stage]
  · have same : b = a := if_neg (stage ▸ h8)
    rw [moved.1, moved.2, same]
    exact ⟨State.advance_nv .., State.advance_start ..⟩
  · have stopped : b = stopEntry a := if_pos (stage ▸ h8)
    rw [moved.1, moved.2, stopped]
    exact ⟨cur, todo, fun h => (still (by rwa [State.advance_start])).trans (State.advance_nv ..)⟩

end Sys2Proof.Machine

/-! PROOFS. Beacons, membership, the loss of the master, and send data. -/

namespace Sys2Proof.Machine

/-! ### Replicas of rows of other homes -/

theorem foldl_dropRow (l : List Replica) (s : State) :
    ∃ rs ss, l.foldl (fun s r => dropRow r.table r.row s) s = { s with fs := { s.fs with replicas := rs, settles := ss } } ∧
      ∀ x ∈ rs, x ∈ s.fs.replicas ∧ ∀ r ∈ l, ¬(x.table = r.table ∧ x.row = r.row) := by
  induction l generalizing s with
  | nil => exact ⟨_, _, rfl, fun x h => ⟨h, by simp⟩⟩
  | cons r l ih =>
    obtain ⟨z, hz⟩ := dropRow_spec r.table r.row s
    obtain ⟨rs, ss, h, left⟩ := ih (dropRow r.table r.row s)
    refine ⟨rs, ss, by rw [List.foldl_cons, h, hz], fun x hx => ?_⟩
    obtain ⟨hin, hout⟩ := left x hx
    rw [hz] at hin
    obtain ⟨hmem, hne⟩ := List.mem_filter.mp hin
    refine ⟨hmem, fun q hq => ?_⟩
    obtain rfl | hq := List.mem_cons.mp hq
    · rintro ⟨ht, hr⟩
      simp [ht, hr] at hne
    · exact hout q hq

/-- No replica is left of a row whose home is another part (R311, R312). -/
theorem dropForeign_spec (s : State) : ∃ f, dropForeign s = { s with fs := f } ∧
    ∀ r ∈ f.replicas, s.homeOf r.table r.row = s.deviceId := by
  unfold dropForeign dropReplicasWhere
  extract_lets gone waits
  obtain ⟨rs, ss, h, left⟩ := foldl_dropRow ((s.fs.replicas ++ waits).filter gone) s
  refine ⟨_, h, fun r hr => ?_⟩
  obtain ⟨hin, hout⟩ := left r hr
  by_contra hne
  exact hout r (List.mem_filter.mpr ⟨List.mem_append_left _ hin, by simp [gone, hne]⟩) ⟨rfl, rfl⟩

theorem dropReplicasOf_fs (d : Nat) (s : State) : ∃ f, dropReplicasOf d s = { s with fs := f } := by
  unfold dropReplicasOf dropReplicasWhere
  extract_lets gone waits
  obtain ⟨rs, ss, h, -⟩ := foldl_dropRow ((s.fs.replicas ++ waits).filter gone) s
  exact ⟨_, h⟩

/-! ### Another epoch -/

theorem sendJoin_portsOnly (r : JoinReq) (s : State) : PortsOnly s (sendJoin r s) := queueFlit_portsOnly _ _ s

/-- The part takes note that the master has restarted. -/
def noteEpoch (s : State) : State :=
  raise0 0x9003 { s with fab := { s.fab with stEpoch := true, rejoin := true, joining := true, joined := false, waitAdopt := false } }

theorem changeEpoch_eq (s : State) :
    changeEpoch s = requestJoin (dropForeign (refuseAll 13 (endStarted 6 0x9003 (noteEpoch s)))) := rfl

theorem changeEpoch_ends (s : State) : Ends (noteEpoch s) (changeEpoch s) := by
  rw [changeEpoch_eq]
  set v := refuseAll 13 (endStarted 6 0x9003 (noteEpoch s)) with hv
  have ended : Ends (noteEpoch s) v := (endStarted_ends _ _ _).trans (refuseAll_ends _ _)
  obtain ⟨f, h, -⟩ := dropForeign_spec v
  have dropped : Ends v (dropForeign v) := by
    rw [h]
    exact .of_rest rfl rfl rfl rfl
  exact ended.trans (dropped.trans (queueFlit_ends _ _ _))

theorem changeEpoch_nv (s : State) : (changeEpoch s).nv = s.nv := by
  set v := refuseAll 13 (endStarted 6 0x9003 (noteEpoch s)) with hv
  have ended : Keeps (noteEpoch s) v := refuseAll_keeps (endStarted_keeps _ _ _)
  obtain ⟨f, h, -⟩ := dropForeign_spec v
  obtain ⟨p, hp⟩ : PortsOnly (dropForeign v) (changeEpoch s) := sendJoin_portsOnly _ _
  rw [hp, h]
  exact ended.nv

/-- The part joins again, and nothing else is known of its domain (R312). -/
theorem changeEpoch_spec (s : State) : (changeEpoch s).fab.stEpoch = true ∧ (changeEpoch s).fab.rejoin = true ∧
    (changeEpoch s).fab.joining = true ∧ (changeEpoch s).fab.joined = false ∧ (changeEpoch s).nv = s.nv := by
  obtain ⟨p, h⟩ := (changeEpoch_ends s).fab
  rw [h]
  exact ⟨rfl, rfl, rfl, rfl, changeEpoch_nv s⟩

/-! ### Beacons -/

theorem toChildren_of_nil {s : State} (count : Nat) (bs : List Byte) (h : s.childPorts = []) : toChildren count bs s = s := by
  unfold toChildren
  rw [h]
  rfl

theorem childPorts_congr {s u : State} (h : u.fab.ports = s.fab.ports) : u.childPorts = s.childPorts := by
  unfold State.childPorts State.port
  rw [h]

/-- Two folds agree whose steps agree while only ports have changed. -/
theorem foldl_eq_of_portsOnly {f g : State → Nat → State} {a : State} (hfg : ∀ u n, PortsOnly a u → f u n = g u n)
    (hf : ∀ u n, PortsOnly u (f u n)) (l : List Nat) {u : State} (hu : PortsOnly a u) : l.foldl f u = l.foldl g u := by
  induction l generalizing u with
  | nil => rfl
  | cons n l ih =>
    rw [List.foldl_cons, List.foldl_cons, ← hfg u n hu]
    exact ih (hu.trans (hf u n))

/-- A beacon's arrival is kept. -/
def heardBeacon (m : BeaconMsg) (s : State) : State :=
  { s with fab := { s.fab with lastBeacon := s.now, beaconEpoch := some m.epoch, altTried := false } }

theorem doBeacon_of_parent {n : Nat} {m : BeaconMsg} {s : State} (hd : s.inDomain 6 = true) (hp : (s.port n).carries = true)
    (hm : s.isMaster = false) (hn : n = s.fab.parentActive) (hc : s.childPorts = []) : doBeacon n m s = takeBeacon m s := by
  unfold doBeacon
  rw [if_neg (by simp [hd, hp]), if_neg (by simp [hm]), if_neg (not_not.mpr hn), toChildren_of_nil _ _ hc]

theorem takeBeacon_of_same {m : BeaconMsg} {s : State} (hr : s.fab.rejoin = false) (hj : s.fab.joined = true)
    (he : m.epoch = s.fab.epoch) (hl : s.fab.lostRaised = false) (hg : m.memberGen = s.fab.memberGen) :
    takeBeacon m s = { s with fab := { s.fab with
      lastBeacon := s.now, beaconEpoch := some m.epoch, altTried := false, masterPresent := true, genMismatch := 0 } } := by
  have known : s.fab.knownEpoch = some m.epoch := by
    unfold FabSt.knownEpoch
    rw [hj, he]
    rfl
  unfold takeBeacon
  dsimp only
  rw [known, if_neg (by simp), if_neg (ne_true_of_eq_false hr)]
  simp only [hl, hj, noteGen, hg, if_true, Bool.false_eq_true, if_false]

theorem takeBeacon_of_other {m : BeaconMsg} {s : State} (hj : s.fab.joined = true ∨ s.fab.waitAdopt = true)
    (he : m.epoch ≠ s.fab.epoch) : takeBeacon m s = changeEpoch (heardBeacon m s) := by
  have known : s.fab.knownEpoch = some s.fab.epoch := by
    unfold FabSt.knownEpoch
    rw [if_pos (by simpa using hj)]
  unfold takeBeacon
  dsimp only
  rw [known, if_pos (by simpa using he.symm)]
  rfl

/-! ### Loss of the master -/

theorem doMasterTimeout_of_lost {s : State} (hm : s.isMaster = false) (hp : s.im.fab.present = true) (hi : s.inDomainTime = true)
    (hl : s.fab.lostRaised = false) (ht : s.fab.lastBeacon + s.im.fab.masterTimeoutMs * 1000000 ≤ s.now)
    (ha : 16 ≤ s.im.fab.altParent) : doMasterTimeout s = loseMaster s := by
  have alone : tryAlternate s = (false, s) := by
    unfold tryAlternate
    exact if_pos (by simp [ha])
  unfold doMasterTimeout
  rw [if_neg (by simp [hm, hp, hi, hl]; omega), alone]

theorem loseMaster_spec (s : State) : ∃ l f g, loseMaster s = { s with
    fab := { s.fab with
      lostRaised := true, masterLostCount := min (s.fab.masterLostCount + 1) 4294967295, stMasterLost := true, masterPresent := false }
    lehr := l, fs := f, flt := g } ∧ ∀ r ∈ f.replicas, s.homeOf r.table r.row = s.deviceId := by
  unfold loseMaster
  extract_lets _ v
  obtain ⟨f, h, left⟩ := dropForeign_spec v
  refine ⟨(masterLost (dropForeign v)).lehr, f, v.flt, ?_, left⟩
  rw [h]
  unfold masterLost
  simp only [v, bump_eq]
  rfl

/-! ### The membership as time passes -/

/-- The members of the domain stay. -/
def SameMembers (s u : State) : Prop := u.fab.memberMap = s.fab.memberMap

theorem SameMembers.trans {a b c : State} (h : SameMembers a b) (k : SameMembers b c) : SameMembers a c := Eq.trans k h

theorem SameMembers.ite {s a b : State} {c : Prop} [Decidable c] (ha : SameMembers s a) (hb : SameMembers s b) :
    SameMembers s (if c then a else b) := by
  split
  · exact ha
  · exact hb

theorem SameMembers.foldl {α : Type} {f : State → α → State} (hf : ∀ s x, SameMembers s (f s x)) (l : List α) (s : State) :
    SameMembers s (l.foldl f s) :=
  List.foldlRecOn (motive := SameMembers s) l f rfl fun u h x _ => h.trans (hf u x)

theorem FabricWork.members {s u : State} (h : FabricWork s u) : SameMembers s u := by
  obtain ⟨_, _, _, rfl⟩ := h
  rfl

theorem PortsOnly.members {s u : State} (h : PortsOnly s u) : SameMembers s u := h.fabricWork.members

theorem setPort_members (plan n : Nat) (s : State) : SameMembers s (setPort plan s n) := by
  have moved (st : PortState) : SameMembers s (moveTo n st s) := (moveTo_ownPort n st s).1.work.members
  unfold setPort
  dsimp only
  exact .ite rfl (.ite (updPort_portsOnly _ _ s).members (.ite (.ite rfl (terminatePort_restated n s).1.work.members)
    (.ite rfl (moved _))))

theorem switchPlan_members (plan : Nat) (s : State) : SameMembers s (switchPlan plan s) := by
  have set : SameMembers s ((List.range 16).foldl (setPort plan) s) := .foldl (fun u n => setPort_members plan n u) _ s
  unfold switchPlan
  generalize (List.range 16).foldl (setPort plan) s = v at set
  exact set

theorem completeSwitch_members (s : State) : SameMembers s (completeSwitch s) := by
  unfold completeSwitch
  split
  · exact switchPlan_members _ s
  · rfl

theorem dueSwitch_members (s : State) : SameMembers s (dueSwitch s) := by
  unfold dueSwitch
  split
  · exact .ite (switchPlan_members _ s) rfl
  · rfl

theorem beginSwitch_members (plan : Nat) (s : State) : SameMembers s (beginSwitch plan s) := by
  unfold beginSwitch
  extract_lets v
  exact ((completeSwitch_members s).trans rfl).trans (dueSwitch_members _)

theorem releaseBar_members (level cluster index : Nat) (s : State) : SameMembers s (releaseBar level cluster index s) := by
  have cast (gen ctx pid : Nat) (v : State) : SameMembers v (broadcastRelease level cluster index gen ctx pid v) := by
    unfold broadcastRelease
    dsimp only
    split
    · rfl
    · split
      · split
        · refine .foldl ?_ _ v
          exact fun _ _ => rfl
        · rfl
      · exact .foldl (fun u n => (sendSyncOn_portsOnly n _ _ u).members) _ _
  unfold releaseBar
  dsimp only
  refine SameMembers.trans ?_ (cast _ _ _ _)
  split <;> split <;> rfl

theorem startReconf_members (index plan : Nat) (s : State) : SameMembers s (startReconf index plan s).2 := by
  unfold startReconf
  split
  · rfl
  · extract_lets ticks angle rev _ held _ noted told
    have ht : SameMembers s told := SameMembers.trans (b := noted) rfl (toChildren_portsOnly _ _ _).members
    have asked : SameMembers s (armReconf plan angle rev told).2 := by
      unfold armReconf
      rw [requestSlot_frame]
      exact ht
    generalize armReconf plan angle rev told = r at asked
    obtain ⟨how, v⟩ := r
    have late (w : State) (hw : w.fab.memberMap = v.fab.memberMap) : SameMembers s (beginSwitch plan w) :=
      (asked.trans (b := v) (c := w) hw).trans (beginSwitch_members plan w)
    have begun := late { v with fab := { v.fab with reconfLate := bump v.fab.reconfLate } } rfl
    cases how
    case refused =>
      dsimp only
      split
      · exact begun.trans rfl
      · exact begun
    all_goals exact asked

theorem settleBar_members (level cluster index n : Nat) (s : State) : SameMembers s (settleBar level cluster index n s) := by
  induction n generalizing s with
  | zero => rfl
  | succ n ih =>
    have released (v : State) : SameMembers v (settleBar level cluster index n (releaseBar level cluster index v)) :=
      (releaseBar_members _ _ _ v).trans (ih _)
    unfold settleBar
    dsimp only
    split
    · rfl
    · split
      · split
        · exact .ite ((startReconf_members _ _ s).trans (released _)) (startReconf_members _ _ s)
        · exact released s
      · exact released s

theorem releaseWithheld_members (s : State) (i : Nat) : SameMembers s (releaseWithheld s i) := by
  unfold releaseWithheld
  dsimp only
  split
  · rfl
  · exact SameMembers.trans (b := s.setBar 2 0 i { s.bar 2 0 i with withheld := false }) rfl
      ((releaseBar_members _ _ _ _).trans (settleBar_members _ _ _ _ _))

theorem finishReconf_members (s : State) : SameMembers s (finishReconf s) := by
  unfold finishReconf
  dsimp only
  refine .ite rfl (SameMembers.trans ?_ (.foldl releaseWithheld_members _ _))
  rfl

theorem fabricTime_members (t : Nat) (s : State) : SameMembers s (s.fabricTime t) := by
  have now : SameMembers s (s.advance t) := congrArg FabSt.memberMap (State.advance_fab ..)
  exact now.trans ((dueSwitch_members _).trans (finishReconf_members _))

/-! ### Send data -/

theorem leaveLanding_portsOnly (n : Nat) (s : State) : PortsOnly s (leaveLanding n s) :=
  .ite (.refl s) ((updPort_portsOnly n _ s).trans (updPort_portsOnly _ _ _))

theorem fabricTime_clocked (t : Nat) (s : State) : (s.fabricTime t).clocked = (s.advance t).clocked := by
  have keeps := fabricTime_keeps t s
  rw [State.clocked, State.clocked, State.running, State.running, keeps.pins, keeps.lehr]

/-- Settles O53. -/
theorem domainLives : Obligations.DomainLives := by
  unfold Obligations.DomainLives
  intro t n s a
  have fab : a.fab = s.fab := State.advance_fab ..
  have master : a.isMaster = s.isMaster := State.advance_isMaster ..
  have alone : a.alone = s.alone := State.advance_alone ..
  have port : a.port n = s.port n := State.advance_port ..
  have im : a.im = s.im := State.advance_im ..
  have start : a.start = s.start := State.advance_start ..
  have device : a.deviceId = s.deviceId := State.advance_deviceId ..
  have running : a.running = s.running := State.advance_running ..
  have children : a.childPorts = s.childPorts := childPorts_congr (by rw [fab])
  have nv : a.nv = s.nv := State.advance_nv ..
  have home (table row : Nat) : s.homeOf table row = a.homeOf table row := by
    rw [State.homeOf, State.homeOf, im, device]
  refine ⟨fun hm ha hd => ?tells, fun hm => ?silent, fun m hd hp => ?beacon, fun m hd hp hm hn hc => ?member,
    fun hm hp hq hr h6 h9 hl => ?lost, fun d h9 hc => ?data⟩
  case tells =>
    refine congrArg Host.Outcome.next (?_ : doBeaconTimer a = _)
    unfold doBeaconTimer
    rw [if_neg (by simp [master, hm, alone, ha, hd])]
    refine foldl_eq_of_portsOnly (a := a) (fun u n hu => ?_) (fun u n => .ite (sendSyncOn_portsOnly _ _ _ u) (.refl u)) _ (.refl a)
    obtain ⟨_, rfl⟩ := hu
    rfl
  case silent =>
    refine congrArg Host.Outcome.next (if_pos ?_ : doBeaconTimer a = _)
    obtain hm | ha := hm
    · simp [master, hm]
    · simp [alone, ha]
  case beacon =>
    have run {v : State} (h : doBeacon n m a = v) : exec (.beacon t n m) s = .next v := congrArg Host.Outcome.next h
    rw [← port] at hp
    rw [← master, ← device, ← fab, ← children, ← nv]
    have heard : ¬(!a.inDomain 6 || !(a.port n).carries) = true := by simp [hd, hp]
    refine ⟨fun hm hd => ?_, fun hm hne => run ?_, fun hm hn => run ?_, fun hm hn hc hr hj he hl hg => run ?_,
      fun hm hn hc hj he => ?_⟩
    · obtain ⟨role, cause, stage, -, -, fuses, -⟩ := quarantine_spec 4 0x900C a
      refine ⟨_, run ?_, role, cause, stage, fuses⟩
      unfold doBeacon
      rw [if_neg heard, if_pos hm, if_pos hd]
    · unfold doBeacon
      rw [if_neg heard, if_pos hm, if_neg hne]
    · unfold doBeacon
      rw [if_neg heard, if_neg (by simp [hm]), if_pos hn]
    · rw [doBeacon_of_parent hd hp hm hn hc]
      exact takeBeacon_of_same hr hj he hl hg
    · exact ⟨_, run ((doBeacon_of_parent hd hp hm hn hc).trans (takeBeacon_of_other hj he)), rfl, changeEpoch_spec (heardBeacon m a)⟩
  case member =>
    have run {v : State} (h : doMember n m a = v) : exec (.member t n m) s = .next v := congrArg Host.Outcome.next h
    rw [← port] at hp
    rw [← children] at hc
    have heard : ¬(!a.inDomain 6 || !(a.port n).carries) = true := by simp [hd, hp]
    have other : ¬(a.isMaster || decide (n ≠ a.fab.parentActive)) = true := by simp [master, hm, fab, hn]
    have passed (gen : Nat) : toChildren 1 (memberBytes m) { a with fab := { a.fab with memberGen := gen } } =
        { a with fab := { a.fab with memberGen := gen } } := toChildren_of_nil _ _ ((childPorts_congr rfl).trans hc)
    refine ⟨fun h1 => run ?_, fun h2 => run ?_⟩ <;> unfold doMember
    · rw [if_neg heard, if_neg (by omega), if_neg other, passed]
      dsimp only
      rw [if_pos h1, fab]
    · rw [if_neg heard, if_neg (by omega), if_neg other, passed]
      dsimp only
      rw [if_neg (by omega), if_pos h2, fab]
      rfl
  case lost =>
    have run {v : State} (h : doMasterTimeout a = v) : exec (.masterTimeout t) s = .next v := congrArg Host.Outcome.next h
    have inTime : a.inDomainTime = true := by
      have calm : a.quarantined = false := by rw [State.quarantined, fab]; exact hq
      unfold State.inDomainTime
      simp [running, hr, calm, start, h6, h9]
    rw [← fab, ← im, ← nv]
    refine ⟨fun ht halt => ?_, fun ht => run (if_pos (by simp [ht]))⟩
    obtain ⟨l, f, g, frame, left⟩ := loseMaster_spec a
    have whole := doMasterTimeout_of_lost (master.trans hm) (im ▸ hp) inTime (fab ▸ hl) ht halt
    refine ⟨_, run whole, rfl, ?_⟩
    rw [frame]
    exact ⟨rfl, rfl, rfl, rfl, rfl, rfl, fun r hr => (home _ _).trans ((left r hr).trans device)⟩
  case data =>
    intro b
    have keeps := fabricTime_keeps t s
    obtain ⟨ports, hb⟩ : PortsOnly (s.fabricTime t) b := leaveLanding_portsOnly d.port _
    have run {v : State} (h : doSendData d (s.fabricTime t) = v) : exec (.sendData t d) s = .next v := congrArg Host.Outcome.next h
    have bim : b.im = s.im := by
      rw [hb]
      exact fabricTime_im t s
    have bdevice : b.deviceId = s.deviceId := by rw [State.deviceId, State.deviceId, bim]
    have members : b.admitted d.src = s.admitted d.src := by
      rw [State.admitted, State.admitted, bdevice, hb]
      exact congrArg (fun m => decide (d.src = s.deviceId) || bit m d.src) (fabricTime_members t s)
    have ready : b.isReady = true := by
      rw [hb]
      show decide ((s.fabricTime t).start.stage = 9) = true
      rw [fabricTime_start, h9]
      rfl
    have clocked : b.clocked = true := by
      rw [hb]
      exact (fabricTime_clocked t s).trans hc
    have bytes : b.rxBytes = s.rxBytes := by rw [State.rxBytes, State.rxBytes, bim]
    have whole : doSendData d (s.fabricTime t) = if !b.isReady || !b.clocked || !b.admitted d.src then b
        else if d.toReservation && b.rxBytes = 0 then refuseSend d b
        else
          let v := if d.toReservation then landReserved (d.cluster % 64 * 64 + d.tile % 64) d.address d.sectors b
            else landMemory d.cluster d.context d.address d.sectors b
          if !d.last then v
          else { v with sync := { v.sync with flight := v.sync.flight ++
            [{ kind := 1, device := v.deviceId, cluster := d.cluster % 64, tile := d.tile % 64, index := d.counter, level := 0
               context := d.context, gen := 0, abort := false, payload := 1 }] } } := rfl
    rw [← members, ← bytes, ← bdevice]
    clear_value b
    refine ⟨fun h => run ?_, fun h hres hz => run ?_, fun h hres hz hl => run ?_, fun h hres hl => run ?_,
      fun h hres hl hnil => run ?_⟩ <;> rw [whole]
    · rw [if_pos (by simp [h])]
    · rw [if_neg (by simp [ready, clocked, h]), if_pos (by simp [hres, hz])]
    · rw [if_neg (by simp [ready, clocked, h]), if_neg (by simp [hz])]
      simp only [hres, hl, if_true, Bool.not_false]
    · rw [if_neg (by simp [ready, clocked, h]), if_neg (by simp [hres])]
      simp [hres, hl]
    · rw [if_neg (by simp [ready, clocked, h]), if_neg (by simp [hres])]
      simp [hres, hl, hnil, landMemory]

end Sys2Proof.Machine

/-! PROOFS. Posts: the doors' words, their descriptors, and what becomes of a post. -/

namespace Sys2Proof.Machine

/-! ### Door words -/

/-- A door with one word more; the time of its first word stays (R327). -/
def stagedDoor (d : Door) (w : BitVec 32) (now : Nat) : Door :=
  { words := d.words ++ [w.toNat], since := if d.words.isEmpty then now else d.since }

theorem doPartDoorWrite_of_few {f : Nat} {w : BitVec 32} {s : State} (hu : s.start.pcieUp = true) (h10 : s.start.stage ≠ 10)
    (hl : (tget s.part.doors f {}).words.length < 5) :
    doPartDoorWrite f w s = { s with part := { s.part with
      doors := tset s.part.doors f (stagedDoor (tget s.part.doors f {}) w s.now) } } := by
  unfold doPartDoorWrite
  rw [if_neg (by simp [hu]), if_neg h10]
  exact if_pos (by rw [List.length_append, List.length_singleton]; omega)

theorem doPartDoorWrite_of_last {f : Nat} {w : BitVec 32} {s : State} (hu : s.start.pcieUp = true) (h10 : s.start.stage ≠ 10)
    (hl : (tget s.part.doors f {}).words.length = 5) :
    doPartDoorWrite f w s = takeDescriptor f ((tget s.part.doors f {}).words ++ [w.toNat])
      { s with part := { s.part with doors := tdel s.part.doors f } } := by
  unfold doPartDoorWrite
  rw [if_neg (by simp [hu]), if_neg h10]
  exact if_neg (by rw [List.length_append, List.length_singleton]; omega)

/-- The post that the six words of a descriptor name (Table 13.2). -/
def postOf (f id since : Nat) (ws : List Nat) (tag : Nat) : Post :=
  { id := id, via := .pcie f, context := f, kind := ws.getD 2 0 / 2 ^ 28 % 16, len := ws.getD 2 0 % 2 ^ 28
    src := ws.getD 0 0 + ws.getD 1 0 * 2 ^ 32, report := ws.getD 3 0 + ws.getD 4 0 * 2 ^ 32, tag := tag, since := since }

theorem takeDescriptor_of_good {f tag : Nat} {ws : List Nat} {s : State} (hl : ws.length = 5) (hd : s.doorReason = 0)
    (h1 : 1 ≤ ws.getD 2 0 / 2 ^ 28 % 16) (h2 : ws.getD 2 0 / 2 ^ 28 % 16 ≤ 2) (hlen : 64 ≤ ws.getD 2 0 % 2 ^ 28)
    (hsrc : ws.getD 0 0 % 8 = 0) (hrep : ws.getD 3 0 % 32 = 0) :
    takeDescriptor f (ws ++ [tag]) s = { s with part := { s.part with
      nextId := s.part.nextId + 1, posts := s.part.posts ++ [postOf f s.part.nextId s.now ws tag] } } := by
  have word (i : Nat) (hi : i < 5) : (ws ++ [tag]).getD i 0 = ws.getD i 0 := by
    rw [List.getD_append _ _ _ _ (by omega)]
  have last : (ws ++ [tag]).getD 5 0 = tag := by
    rw [List.getD_append_right _ _ _ _ (by omega), hl]
    rfl
  have kind : bits ((ws ++ [tag]).getD 2 0) 28 4 = ws.getD 2 0 / 2 ^ 28 % 16 := by rw [word 2 (by omega)]; rfl
  have len : bits ((ws ++ [tag]).getD 2 0) 0 28 = ws.getD 2 0 % 2 ^ 28 := by
    rw [word 2 (by omega), bits, pow_zero, Nat.div_one]
  have src : (ws.getD 0 0 + ws.getD 1 0 * 2 ^ 32) % 8 = 0 := by omega
  have rep : (ws.getD 3 0 + ws.getD 4 0 * 2 ^ 32) % 32 = 0 := by omega
  unfold takeDescriptor
  extract_lets g w p v
  have post : p = postOf f s.part.nextId s.now ws tag := by
    unfold p postOf w
    rw [kind, len, word 0 (by omega), word 1 (by omega), word 3 (by omega), word 4 (by omega), last]
    rfl
  rw [if_neg (show ¬v.doorReason ≠ 0 from not_not.mpr hd), post, if_neg]
  · rfl
  · simp only [Bool.or_eq_true, Bool.and_eq_true, decide_eq_true_eq]
    simp only [postOf, src, rep]
    omega

/-! ### Checking a post -/

theorem checkPost_of_closed {p : Post} {s : State} (h : s.doorReason ≠ 0) (hp : 0 < p.len) :
    checkPost p [] s = refusePost p 0 0 s.doorReason s := by
  unfold checkPost
  dsimp only
  rw [if_pos h, if_neg (by simp; omega), if_neg (by simp; omega)]

theorem checkPost_of_unread {p : Post} {s : State} (h : s.doorReason = 0) (hp : 0 < p.len) :
    checkPost p [] s = refusePost p 0 0 10 s := by
  unfold checkPost
  dsimp only
  rw [if_neg (not_not.mpr h), if_pos (by simp; omega)]

theorem checkPost_of_good {p : Post} {bs : List Byte} {s : State} {base : Nat} (h : s.doorReason = 0) (hl : bs.length = p.len)
    (hr : s.bodyReason p bs = 0) (ha : s.findArea p.context p.len = some base) : checkPost p bs s = acceptPost p bs base s := by
  unfold checkPost
  dsimp only
  rw [if_neg (not_not.mpr h), if_neg (not_not.mpr hl), if_neg (not_not.mpr hr), ha]

theorem checkPost_of_malformed {p : Post} {bs : List Byte} {s : State} (h : s.doorReason = 0) (hl : bs.length = p.len)
    (hr : s.bodyReason p bs = 2) (hh : headerRead p.kind bs = false) : checkPost p bs s = refusePost p 0 0 2 s := by
  unfold checkPost
  dsimp only
  rw [if_neg (not_not.mpr h), if_neg (not_not.mpr hl), if_pos (by rw [hr]; decide), hr, if_neg (by simp [hh]), if_neg (by simp [hh])]

/-- Settles O54. -/
theorem postsTaken : Obligations.PostsTaken := by
  unfold Obligations.PostsTaken
  intro t f w s a d
  have part : s.part = a.part := (State.advance_part ..).symm
  have start : s.start = a.start := (State.advance_start ..).symm
  have acc : s.acc = a.acc := (State.advance_acc ..).symm
  have door : d = tget a.part.doors f {} := by rw [← part]
  have torn : exec (.doorTorn t f) s = .next (doDoorTorn f a) := rfl
  rw [start, part, acc]
  refine ⟨fun hf hu => ⟨fun h10 => ?recovery, fun h10 hl => ?staged, fun h9 ho hd hl h1 h2 hlen hsrc hrep => ?post⟩,
    fun hu => ⟨?deaf, ?unreset⟩, fun hu => ?reset, fun hne ht => ?torn, fun h => ?young, fun p hp => ?received⟩
  case recovery =>
    refine congrArg Host.Outcome.next (?_ : (if f < 128 then doPartDoorWrite f w a else a) = _)
    rw [if_pos hf]
    unfold doPartDoorWrite
    rw [if_neg (by simp [hu]), if_pos h10]
  case staged =>
    rw [door] at hl ⊢
    refine ⟨_, congrArg Host.Outcome.next (?_ : (if f < 128 then doPartDoorWrite f w a else a) = _), rfl⟩
    rw [if_pos hf]
    exact doPartDoorWrite_of_few hu h10 hl
  case post =>
    rw [door] at hl h1 h2 hlen hsrc hrep ⊢
    refine congrArg Host.Outcome.next (?_ : (if f < 128 then doPartDoorWrite f w a else a) = _)
    rw [if_pos hf, doPartDoorWrite_of_last hu (by omega) hl]
    set v : State := { a with part := { a.part with doors := tdel a.part.doors f } }
    exact takeDescriptor_of_good (s := v) hl hd h1 h2 hlen hsrc hrep
  case deaf =>
    refine congrArg Host.Outcome.next (?_ : (if f < 128 then doPartDoorWrite f w a else a) = _)
    split
    · exact if_pos (by simp [hu])
    · rfl
  case unreset =>
    exact congrArg Host.Outcome.next (if_pos (by simp [hu]) : doFunctionLevelReset f a = _)
  case reset =>
    exact congrArg Host.Outcome.next (if_neg (by simp [hu]) : doFunctionLevelReset f a = _)
  case torn =>
    rw [door] at hne ht
    refine torn.trans (congrArg Host.Outcome.next ?_)
    unfold doDoorTorn
    rw [if_neg (by simp [hne]; omega), bump_eq]
  case young =>
    rw [door] at h
    exact torn.trans (congrArg Host.Outcome.next (if_pos (by simpa using h)))
  case received =>
    intro b
    have hp' : a.part.posts.find? (fun p => p.id = f) = some p := hp
    have reason : b.doorReason = a.doorReason := rfl
    have run {body : List Byte} {v : State} (h : checkPost p body b = v) : exec (.postReceived t f body) s = .next v := by
      refine congrArg Host.Outcome.next (?_ : doPostReceived f body a = v)
      unfold doPostReceived
      rw [hp']
      exact h
    have timeout : doPostReadTimeout f a = if a.now < p.since + 100000000 then a else checkPost p [] b := by
      unfold doPostReadTimeout
      rw [hp']
    refine ⟨fun body hd hl => ⟨fun base hr ha => run (checkPost_of_good (reason.trans hd) hl hr ha),
      fun hr hh => run (checkPost_of_malformed (reason.trans hd) hl hr hh)⟩, fun body hd hnil hlen => ?_,
      fun hd hlen ht => congrArg Host.Outcome.next (timeout.trans ?_),
      fun ht => congrArg Host.Outcome.next (timeout.trans (if_pos ht))⟩
    · rw [hnil]
      exact run (checkPost_of_closed hd hlen)
    · rw [if_neg (by omega)]
      exact checkPost_of_unread (reason.trans hd) hlen

end Sys2Proof.Machine

/-! PROOFS. Connections, frames, placement, and the limit of a parcel. -/

namespace Sys2Proof.Machine

/-! ### Connections and frames -/

theorem netUp_of_listed {port : Nat} {s : State} (hu : s.start.ethUp = true) (hn : ∃ n ∈ s.im.nets, n.port = port) :
    s.netUp port = true := by
  obtain ⟨n, hn, hp⟩ := hn
  unfold State.netUp
  simp only [hu, Bool.true_and, List.any_eq_true, decide_eq_true_eq]
  exact ⟨n, hn, hp⟩

theorem doTlsHandshake_of_known {port conn client : Nat} {c : CtxRec} {s : State} (hu : s.netUp port = true)
    (hc : s.im.contexts.find? (fun c => c.net && c.client = client) = some c)
    (hl : (s.part.conns.filter fun x => x.1 = port).length < 32) (hf : ∀ x ∈ s.part.conns, x.1 = port → x.2.1 ≠ conn) :
    doTlsHandshake port conn client s = { s with part := { s.part with conns := s.part.conns ++ [(port, conn, c.id)] } } := by
  have fresh : s.canDeliver (.net port conn) = false := by
    simpa [State.canDeliver] using hf
  unfold doTlsHandshake
  rw [if_neg (by simp [hu]), hc]
  exact if_neg (by simp [fresh]; omega)

theorem doTlsHandshake_of_stranger {port conn client : Nat} {s : State} (hu : s.netUp port = true)
    (hc : s.im.contexts.find? (fun c => c.net && c.client = client) = none) :
    doTlsHandshake port conn client s = { s with part := { s.part with tlsRefused := min (s.part.tlsRefused + 1) 4294967295 } } := by
  unfold doTlsHandshake
  rw [if_neg (by simp [hu]), hc, bump_eq]

theorem doNetworkFrame_of_bad {port conn : Nat} {header body : List Byte} {x : Nat × Nat × Nat} {s : State}
    (hx : s.part.conns.find? (fun x => x.1 = port && x.2.1 = conn) = some x)
    (hb : numAt header 12 4 ≠ 0 ∨ numAt header 8 4 < 64) : doNetworkFrame port conn header body s = doConnectionClose port conn s := by
  unfold doNetworkFrame
  rw [hx]
  refine if_pos ?_
  simp only [Bool.or_eq_true, decide_eq_true_eq]
  tauto

theorem doNetworkFrame_of_good {port conn : Nat} {header body : List Byte} {x : Nat × Nat × Nat} {s : State}
    (hx : s.part.conns.find? (fun x => x.1 = port && x.2.1 = conn) = some x)
    (ht : numAt header 0 4 = 1 ∨ numAt header 0 4 = 2) (hz : numAt header 12 4 = 0) (h64 : 64 ≤ numAt header 8 4)
    (hmax : numAt header 8 4 ≤ 268435455) :
    doNetworkFrame port conn header body s = checkPost
      { id := s.part.nextId, via := .net port conn, context := x.2.2, kind := numAt header 0 4, len := numAt header 8 4, src := 0
        report := 0, tag := numAt header 4 4, since := s.now } body
      { s with part := { s.part with nextId := s.part.nextId + 1 } } := by
  have kind : bits (numAt header 0 4) 0 4 = numAt header 0 4 := by
    obtain h | h := ht <;> rw [h] <;> rfl
  have high : bits (numAt header 0 4) 4 28 = 0 := by
    obtain h | h := ht <;> rw [h] <;> rfl
  unfold doNetworkFrame
  rw [hx]
  dsimp only
  rw [kind, high, if_neg]
  · rfl
  · simp only [Bool.or_eq_true, Bool.and_eq_true, decide_eq_true_eq]
    omega

/-! ### The next parcel of a context -/

theorem requestRelease_ends (p : Parcel) (s : State) : Ends s (requestRelease p s).2 := by
  have set (st : ParcelState) (h : st = .waitSync ∨ st = .requested) (u : State) :
      Ends u (u.updParcel p.id fun x => { x with state := st }) := by
    refine updParcel_ends p.id (fun x => { x with state := st }) u fun q => ⟨rfl, fun hq => ?_⟩
    obtain rfl | rfl := h <;> exact absurd hq Bool.false_ne_true
  have asked (q : ArmReq) : Ends s (requestSlot q s).2 := by
    rw [requestSlot_frame]
    exact .of_rest rfl rfl rfl rfl
  unfold requestRelease
  dsimp only
  split
  · exact set _ (.inl rfl) s
  · generalize hr : requestSlot _ s = r
    have hasked : Ends s r.2 := hr ▸ asked _
    obtain ⟨how, v⟩ := r
    cases how
    case refused => exact hasked
    all_goals exact hasked.trans (set _ (.inr rfl) v)

theorem missRelease_ends (id : Nat) (s : State) : Ends s (missRelease id s) := (raiseFor_ends _ _ _ s).trans (endCore_ends _ _ _ _ _)

theorem armContext_ends (n c : Nat) (s : State) : Ends s (armContext n c s) := by
  induction n generalizing s with
  | zero => exact .refl s
  | succ n ih =>
    unfold armContext
    split
    · exact .refl s
    · next p _ =>
      have asked := requestRelease_ends p s
      generalize requestRelease p s = r at asked
      obtain ⟨missed, v⟩ := r
      cases missed
      · exact asked
      · exact asked.trans ((missRelease_ends _ v).trans (ih _))

/-- The end of a parcel that did not complete: it is no more, its end is told, and the next of its context is armed. -/
theorem endParcel_spec {id fault reason outcome : Nat} {s : State} {p : Parcel} (h : s.parcel id = some p) (ho : outcome ≠ 0) :
    (∀ x ∈ (endParcel id outcome fault reason s).part.parcels, x.id ≠ id) ∧
      (endParcel id outcome fault reason s).part.stEnded = true ∧
      (outcome = 3 → (endParcel id outcome fault reason s).part.stLimit = true) := by
  have next : Ends (endCore id outcome fault reason s) (endParcel id outcome fault reason s) := by
    unfold endParcel
    rw [h]
    exact armContext_ends _ _ _
  obtain ⟨ended, limit⟩ := endCore_told id fault reason h ho
  exact ⟨next.gone (endCore_gone _ _ _ _ _), next.part.ended ended, fun h3 => next.part.limit (limit h3)⟩

theorem raiseFor_parcel (code unit pid id : Nat) (s : State) : (raiseFor code unit pid s).parcel id = s.parcel id := by
  unfold raiseFor
  split <;> rfl

/-! ### The limit -/

theorem doParcelLimit_of_parcel {id : Nat} {p : Parcel} {s : State} (h : s.parcel id = some p) :
    doParcelLimit id s = if (p.state = .running || p.state = .loading) && p.limitRev ≠ 0 && p.limitRev ≤ p.revs then
        if p.state = .running && s.allEnd p && s.clocked then
          p.tasks.foldl (fun s t => if (s.task t.1 t.2).parcel = id then doCommandComplete t.1 t.2 s else s) s
        else endParcel id 3 0xA003 0 (raiseFor 0xA003 0xFFFF id s)
      else s := by
  unfold doParcelLimit
  rw [h]

/-- Settles O55. -/
theorem workFromOutside : Obligations.WorkFromOutside := by
  unfold Obligations.WorkFromOutside
  intro t port conn s a
  have part : s.part = a.part := (State.advance_part ..).symm
  have im : s.im = a.im := (State.advance_im ..).symm
  have start : s.start = a.start := (State.advance_start ..).symm
  rw [start, part, im]
  refine ⟨fun client hu hn => ?tls, rfl, fun header body x hx => ?frame, fun id p hp => ?parcel⟩
  case tls =>
    have up := netUp_of_listed hu hn
    exact ⟨fun c hc hl hf => congrArg Host.Outcome.next (doTlsHandshake_of_known up hc hl hf),
      fun hc => congrArg Host.Outcome.next (doTlsHandshake_of_stranger up hc)⟩
  case frame =>
    exact ⟨fun hb => congrArg Host.Outcome.next (doNetworkFrame_of_bad hx hb),
      fun ht hz h64 hmax => congrArg Host.Outcome.next (doNetworkFrame_of_good hx ht hz h64 hmax)⟩
  case parcel =>
    have limit {v : State} (h : doParcelLimit id a = v) : exec (.parcelLimit t id) s = .next v := congrArg Host.Outcome.next h
    have place {v : State} (h : doTaskPlacement id a = v) : exec (.taskPlacement t id) s = .next v := congrArg Host.Outcome.next h
    have whole := doParcelLimit_of_parcel hp
    refine ⟨fun hs h0 hl he hc => limit (whole.trans ?_), fun hs h0 hl he => ⟨_, limit (whole.trans ?_), rfl, ?_⟩,
      fun hl => limit (whole.trans ?_), fun hs hn hc hf => place ?_, fun hs hn hc hf => place ?_, fun h => place ?_⟩
    · rw [if_pos (by simp [hs, h0, hl]), if_pos (by simp [hs, he, hc])]
    · rw [if_pos (by simp [h0, hl]; exact hs), if_neg]
      obtain he | he := he <;> simp [he]
    · obtain ⟨gone, ended, told⟩ :=
        endParcel_spec (fault := 0xA003) (reason := 0) (outcome := 3) ((raiseFor_parcel 0xA003 0xFFFF id id a).trans hp) (by decide)
      have keeps : Keeps a (endParcel id 3 0xA003 0 (raiseFor 0xA003 0xFFFF id a)) := endParcel_keeps (raiseFor_keeps (.refl a))
      refine ⟨gone, told rfl, ended, keeps.nv.trans (State.advance_nv ..), keeps.pins.trans (State.advance_pins ..), keeps.start, ?_⟩
      rw [keeps.round, State.advance_round]
    · rw [if_neg]
      simp only [Bool.and_eq_true, decide_eq_true_eq]
      omega
    · unfold doTaskPlacement
      rw [hp]
      dsimp only
      rw [if_neg (by simp [hs, hn, hc]), if_neg (by simp [hf])]
    · unfold doTaskPlacement
      rw [hp]
      dsimp only
      rw [if_neg (by simp [hs, hn, hc]), if_pos (by simp [hf])]
    · unfold doTaskPlacement
      rw [hp]
      exact if_pos (by simpa using Or.inl h)

end Sys2Proof.Machine

/-! PROOFS. The status space: its words, their halves, and what a write changes. -/

namespace Sys2Proof.Machine

/-! ### Bits of a word -/

theorem bit_eq_testBit (n i : Nat) : bit n i = n.testBit i := (Nat.testBit_eq_decide_div_mod_eq).symm

theorem bit_mod (n : Nat) {i k : Nat} (h : i < k) : bit (n % 2 ^ k) i = bit n i := by
  rw [bit_eq_testBit, bit_eq_testBit, Nat.testBit_mod_two_pow, decide_eq_true h, Bool.true_and]

theorem bit_succ (n i : Nat) : bit n (i + 1) = bit (n / 2) i := by
  unfold bit
  rw [pow_succ', ← Nat.div_div_eq_div_mul]

/-- What a write of one takes away, bit by bit (R357). -/
theorem bit_w1cBits (n w i : Nat) : bit (w1cBits n w) i = (bit n i && !bit w i) := by
  induction i generalizing n w with
  | zero =>
    have low : (n &&& w) % 2 = 1 ↔ n % 2 = 1 ∧ w % 2 = 1 := Nat.and_mod_two_eq_one
    have le : n &&& w ≤ n := Nat.and_le_left
    rw [bit_zero, bit_zero, bit_zero, w1cBits, Bool.eq_iff_iff]
    simp only [decide_eq_true_eq, Bool.and_eq_true, Bool.not_eq_true', decide_eq_false_iff_not]
    omega
  | succ i ih =>
    have low : (n &&& w) % 2 = 1 ↔ n % 2 = 1 ∧ w % 2 = 1 := Nat.and_mod_two_eq_one
    have le : n &&& w ≤ n := Nat.and_le_left
    have half : w1cBits n w / 2 = w1cBits (n / 2) (w / 2) := by
      rw [w1cBits, w1cBits, ← Nat.and_div_two]
      omega
    rw [bit_succ, bit_succ, bit_succ, half, ih]

theorem bit_flags (l : List Bool) (i : Nat) : bit (flags l) i = l.getD i false := by
  induction l generalizing i with
  | nil => simp [bit, flags]
  | cons b l ih =>
    have cons : flags (b :: l) = flag b + 2 * flags l := rfl
    cases i with
    | zero => cases b <;> simp [bit, cons, flag]
    | succ i =>
      have half : (flag b + 2 * flags l) / 2 = flags l := by
        cases b <;> simp only [flag, if_true, Bool.false_eq_true, if_false] <;> omega
      rw [bit_succ, cons, half, ih]
      rfl

/-! ### The words that hold W1C bits -/

/-- The W1C bits of the Round, the governor and a requester's access status, bit 0 first. -/
def RoundSt.statusBits (x : RoundSt) : List Bool := [x.stLost, x.stStall, x.stCancel, x.stMismatch]

def LehrSt.statusBits (x : LehrSt) : List Bool := [x.stAlert, x.stHoldExpired, x.stOob, x.stShortfall, x.stDerate, x.stAdcClamp]

def Acc.statusBits (x : Acc) : List Bool := [x.stale, x.discarded, x.badSize]

theorem statusWord_of_row {s : State} {r a b v : Nat} {rows : List StatusRow} {off : Nat} (hb : statusBlock s r a = (b, rows))
    (hr : rowAt rows (a - b) = some (row32 off v)) (ho : a - b = off) : s.statusWord r a = v % 2 ^ 32 := by
  unfold State.statusWord
  rw [hb]
  dsimp only
  rw [hr]
  simp [row32, ho]

theorem statusWord_round (r : Nat) (s : State) : s.statusWord r 0x10060 =
    flags s.round.statusBits % 2 ^ 32 := by
  have block : statusBlock s r 0x10060 = (0x10000, roundRows s) := by
    unfold statusBlock
    simp
  refine statusWord_of_row block (off := 96) ?_ rfl
  simp [RoundSt.statusBits, rowAt, roundRows, row32, row64]

theorem statusWord_lehr (r : Nat) (s : State) : s.statusWord r 0x20060 =
    flags s.lehr.statusBits % 2 ^ 32 := by
  have block : statusBlock s r 0x20060 = (0x20000, lehrRows s) := by
    unfold statusBlock
    simp
  refine statusWord_of_row block (off := 96) ?_ rfl
  simp [LehrSt.statusBits, rowAt, lehrRows, row32]

theorem statusWord_own (r : Nat) (s : State) : s.statusWord r 0xD0080 = (s.accOf r).word r % 2 ^ 32 := by
  have block : statusBlock s r 0xD0080 = (0xD0000, logRows s r) := by
    unfold statusBlock
    simp
  refine statusWord_of_row block (off := 0x80) ?_ rfl
  simp [rowAt, logRows, row32]

/-! ### Clearing what was set before this cycle -/

/-- A write clears a bit that it writes as one and that the present cycle has not set (R370). -/
theorem w1c_fresh {n c i w : Nat} {b d : Bool} (hn : bit n i = b) (hc : bit c i = d) :
    w1c b (w1cBits w (w1cBits n c)) i = (b && !(bit w i && d)) := by
  rw [w1c, bit_w1cBits, bit_w1cBits, hn, hc]
  cases b <;> cases d <;> simp

theorem w1c_flags {l m : List Bool} {i w : Nat} (b d : Bool) (hi : i < 32) (hb : l.getD i false = b) (hd : m.getD i false = d) :
    w1c b (w1cBits w (w1cBits (flags l % 2 ^ 32) (flags m % 2 ^ 32))) i = (b && !(bit w i && d)) :=
  w1c_fresh (by rw [bit_mod _ hi, bit_flags, hb]) (by rw [bit_mod _ hi, bit_flags, hd])

/-- The Round's status bits with the bits of `w` cleared that this cycle has not set. -/
def State.clearedRound (s : State) (w : Nat) : RoundSt := { s.round with
  stLost := s.round.stLost && !(bit w 0 && s.cycle.round.stLost), stStall := s.round.stStall && !(bit w 1 && s.cycle.round.stStall)
  stCancel := s.round.stCancel && !(bit w 2 && s.cycle.round.stCancel)
  stMismatch := s.round.stMismatch && !(bit w 3 && s.cycle.round.stMismatch) }

theorem clearWord_round (r w : Nat) (s : State) :
    clearWord r 0x10060 (w1cBits w (s.freshBits r 0x10060)) s = some { s with round := s.clearedRound w } := by
  have cycle : s.atCycle.statusWord r 0x10060 = flags s.cycle.round.statusBits % 2 ^ 32 := statusWord_round r s.atCycle
  have cleared {i : Nat} (b d : Bool) (hi : i < 32) (hb : s.round.statusBits.getD i false = b)
      (hd : s.cycle.round.statusBits.getD i false = d) := w1c_flags (w := w) b d hi hb hd
  unfold clearWord State.freshBits State.clearedRound
  rw [if_pos rfl, statusWord_round, cycle]
  dsimp only
  rw [cleared (i := 0) s.round.stLost s.cycle.round.stLost (by omega) rfl rfl,
    cleared (i := 1) s.round.stStall s.cycle.round.stStall (by omega) rfl rfl,
    cleared (i := 2) s.round.stCancel s.cycle.round.stCancel (by omega) rfl rfl,
    cleared (i := 3) s.round.stMismatch s.cycle.round.stMismatch (by omega) rfl rfl]

/-- The governor's status bits with the bits of `w` cleared that this cycle has not set. -/
def State.clearedLehr (s : State) (w : Nat) : LehrSt := { s.lehr with
  stAlert := s.lehr.stAlert && !(bit w 0 && s.cycle.lehr.stAlert)
  stHoldExpired := s.lehr.stHoldExpired && !(bit w 1 && s.cycle.lehr.stHoldExpired)
  stOob := s.lehr.stOob && !(bit w 2 && s.cycle.lehr.stOob), stShortfall := s.lehr.stShortfall && !(bit w 3 && s.cycle.lehr.stShortfall)
  stDerate := s.lehr.stDerate && !(bit w 4 && s.cycle.lehr.stDerate)
  stAdcClamp := s.lehr.stAdcClamp && !(bit w 5 && s.cycle.lehr.stAdcClamp) }

theorem clearWord_lehr (r w : Nat) (s : State) :
    clearWord r 0x20060 (w1cBits w (s.freshBits r 0x20060)) s = some { s with lehr := s.clearedLehr w } := by
  have cycle : s.atCycle.statusWord r 0x20060 = flags s.cycle.lehr.statusBits % 2 ^ 32 := statusWord_lehr r s.atCycle
  have cleared {i : Nat} (b d : Bool) (hi : i < 32) (hb : s.lehr.statusBits.getD i false = b)
      (hd : s.cycle.lehr.statusBits.getD i false = d) := w1c_flags (w := w) b d hi hb hd
  unfold clearWord State.freshBits State.clearedLehr
  rw [if_neg (by decide), if_pos rfl, statusWord_lehr, cycle]
  dsimp only
  rw [cleared (i := 0) s.lehr.stAlert s.cycle.lehr.stAlert (by omega) rfl rfl,
    cleared (i := 1) s.lehr.stHoldExpired s.cycle.lehr.stHoldExpired (by omega) rfl rfl,
    cleared (i := 2) s.lehr.stOob s.cycle.lehr.stOob (by omega) rfl rfl,
    cleared (i := 3) s.lehr.stShortfall s.cycle.lehr.stShortfall (by omega) rfl rfl,
    cleared (i := 4) s.lehr.stDerate s.cycle.lehr.stDerate (by omega) rfl rfl,
    cleared (i := 5) s.lehr.stAdcClamp s.cycle.lehr.stAdcClamp (by omega) rfl rfl]

/-- A requester's access status with the bits of `w` cleared that this cycle has not set. -/
def State.clearedAcc (s : State) (r w : Nat) : Acc := { s.accOf r with
  stale := (s.accOf r).stale && !(bit w 0 && (tget s.cycle.acc r {}).stale)
  discarded := (s.accOf r).discarded && !(bit w 1 && (tget s.cycle.acc r {}).discarded)
  badSize := (s.accOf r).badSize && !(bit w 2 && (tget s.cycle.acc r {}).badSize) }

theorem bit_accWord (q : Acc) (r : Nat) {i : Nat} (h : i < 3) : bit (q.word r % 2 ^ 32) i = q.statusBits.getD i false := by
  have low : q.word r % 2 ^ 8 = flags q.statusBits % 2 ^ 8 := by
    unfold Acc.word pack Acc.statusBits
    simp only [List.map_cons, List.map_nil, List.sum_cons, List.sum_nil]
    omega
  rw [bit_mod _ (by omega), ← bit_mod (k := 8) (q.word r) (by omega), low, bit_mod _ (by omega), bit_flags]

theorem clearOwn_eq (r w : Nat) (s : State) : clearOwn r w s = s.setAcc r (s.clearedAcc r w) := by
  have cycle : s.atCycle.statusWord r 0xD0080 = (tget s.cycle.acc r {}).word r % 2 ^ 32 := statusWord_own r s.atCycle
  have cleared {i : Nat} (b d : Bool) (hi : i < 3) (hb : (s.accOf r).statusBits.getD i false = b)
      (hd : (tget s.cycle.acc r {}).statusBits.getD i false = d) :
      w1c b (w1cBits w (w1cBits ((s.accOf r).word r % 2 ^ 32) ((tget s.cycle.acc r {}).word r % 2 ^ 32))) i =
        (b && !(bit w i && d)) :=
    w1c_fresh (by rw [bit_accWord _ r hi, hb]) (by rw [bit_accWord _ r hi, hd])
  unfold clearOwn clearAcc State.freshBits State.clearedAcc
  rw [statusWord_own, cycle]
  dsimp only
  rw [cleared (i := 0) (s.accOf r).stale (tget s.cycle.acc r {}).stale (by omega) rfl rfl,
    cleared (i := 1) (s.accOf r).discarded (tget s.cycle.acc r {}).discarded (by omega) rfl rfl,
    cleared (i := 2) (s.accOf r).badSize (tget s.cycle.acc r {}).badSize (by omega) rfl rfl]

theorem clearWord_own (r w : Nat) (s : State) :
    clearWord r 0xD0080 (w1cBits w (s.freshBits r 0xD0080)) s = some (s.setAcc r (s.clearedAcc r w)) := by
  have arm (v : Nat) : clearWord r 0xD0080 v s = some (clearAcc r v s) := by
    unfold clearWord
    simp
  rw [arm, ← clearOwn_eq]
  rfl

/-- No W1C field lies in a space that holds no register. -/
theorem clearWord_of_empty {r o w : Nat} {s : State} (h : 0xE0000 ≤ o) (h' : o < 0x100000) : clearWord r o w s = none := by
  unfold clearWord
  dsimp only
  rw [if_neg (by omega), if_neg (by omega), if_neg (by omega), if_neg (by simp; omega), if_neg (by omega), if_neg (by omega),
    if_neg (by omega), if_neg (by simp; omega), if_neg (by omega), if_neg (by omega), if_neg (by omega), if_neg (by omega),
    if_neg (by omega), if_neg (by simp; omega)]

/-! ### Reads and writes of the physical function -/

/-- A read of one word by the physical function, at a multiple of 4. -/
theorem readSpace_word {o : Nat} {s : State} (hu : s.start.pcieUp = true) (ho : o % 4 = 0) :
    readSpace 0 false o 4 s = { (readWord 0 o s).2 with answer := [(readWord 0 o s).1] } := by
  unfold readSpace
  rw [if_neg (by simp [hu]), if_neg (by simp [ho])]
  rfl

theorem readSpace_badSize {o size : Nat} {s : State} (hu : s.start.pcieUp = true) (h4 : ¬(size = 4 ∧ o % 4 = 0))
    (h8 : ¬(size = 8 ∧ o % 8 = 0)) :
    readSpace 0 false o size s = markBadSize 0 { s with answer := List.replicate ((size + 3) / 4) 0 } := by
  unfold readSpace
  have bad : (!(decide (size = 4) && decide (o % 4 = 0) || decide (size = 8) && decide (o % 8 = 0))) = true := by
    simp only [Bool.not_eq_true', Bool.or_eq_false_iff, Bool.and_eq_false_iff, decide_eq_false_iff_not]
    tauto
  rw [if_neg (by simp [hu]), if_pos bad]
  rfl

theorem readWord_single {r o : Nat} {s : State} (h : s.pairOf r o = none) : readWord r o s = (s.statusWord r o, s) := by
  unfold readWord
  rw [h]

theorem readWord_low {r o : Nat} {s : State} (h : s.pairOf r o = some o) : readWord r o s =
    (s.statusWord r o, s.setAcc r { s.accOf r with shadow := s.statusWord r (o + 4), tag := some o }) := by
  unfold readWord
  rw [h]
  exact if_pos rfl

theorem readWord_high {r o : Nat} {s : State} (h : s.pairOf r (o + 4) = some o) : readWord r (o + 4) s =
    if (s.accOf r).tag = some o then ((s.accOf r).shadow, s.setAcc r { s.accOf r with tag := none })
    else (s.statusWord r (o + 4), s.setAcc r { s.accOf r with stale := true }) := by
  unfold readWord
  rw [h]
  exact if_neg (by omega)

theorem writeSpace_word {o : Nat} {w : BitVec 32} {s : State} (hu : s.start.pcieUp = true) (ho : o % 4 = 0) :
    writeSpace 0 false o 4 w s = writeWord 0 o w s := by
  unfold writeSpace
  rw [if_neg (by simp [hu]), if_neg (by simp [ho])]
  rfl

theorem writeWord_of_clear {o : Nat} {w : BitVec 32} {s u : State}
    (h : clearWord 0 o (w1cBits w.toNat (s.freshBits 0 o)) s = some u) : writeWord 0 o w s = u := by
  unfold writeWord
  rw [h]

theorem writeWord_of_empty {o : Nat} {w : BitVec 32} {s : State} (h : 0xE0000 ≤ o) (h' : o < 0x100000) :
    writeWord 0 o w s = markDiscarded 0 s := by
  unfold writeWord
  rw [clearWord_of_empty h h']
  dsimp only
  rw [if_neg (by omega), if_neg (by simp; omega)]

/-- Settles O56. -/
theorem statusSpace : Obligations.StatusSpace := by
  unfold Obligations.StatusSpace
  intro t o w s a q c hu
  have up : a.start.pcieUp = true := by rw [State.advance_start]; exact hu
  have acc : s.acc = a.acc := (State.advance_acc ..).symm
  have round : s.round = a.round := (State.advance_round ..).symm
  rw [acc, round]
  refine ⟨fun ho => ?reads, fun size h4 h8 => ⟨?badRead, fun hs => ?badWrite⟩, ⟨?clearRound, ?clearLehr, ?clearOwn⟩,
    fun h h' ho => ?discard, ?door⟩
  case reads =>
    have low := readSpace_word up ho
    have high := readSpace_word up (o := o + 4) (by omega)
    refine ⟨fun h => congrArg Host.Outcome.next (low.trans ?_), fun h => congrArg Host.Outcome.next (low.trans ?_),
      fun h ht => congrArg Host.Outcome.next (high.trans ?_), fun h ht => congrArg Host.Outcome.next (high.trans ?_)⟩
    · rw [readWord_single h]
    · rw [readWord_low h]
      rfl
    · rw [readWord_high h, if_pos ht]
      rfl
    · rw [readWord_high h, if_neg ht]
      rfl
  case badRead => exact congrArg Host.Outcome.next (readSpace_badSize up h4 h8)
  case badWrite =>
    refine congrArg Host.Outcome.next (?_ : writeSpace 0 false o size w a = _)
    unfold writeSpace
    rw [if_neg (by simp [up]), if_pos (by simp [hs])]
    rfl
  case clearRound =>
    exact congrArg Host.Outcome.next ((writeSpace_word up (by decide)).trans (writeWord_of_clear (clearWord_round 0 _ a)))
  case clearLehr =>
    exact congrArg Host.Outcome.next ((writeSpace_word up (by decide)).trans (writeWord_of_clear (clearWord_lehr 0 _ a)))
  case clearOwn =>
    exact congrArg Host.Outcome.next ((writeSpace_word up (by decide)).trans (writeWord_of_clear (clearWord_own 0 _ a)))
  case discard =>
    exact congrArg Host.Outcome.next ((writeSpace_word up ho).trans (writeWord_of_empty h h'))
  case door =>
    refine congrArg Host.Outcome.next (?_ : writeSpace 0 true 0 4 w a = _)
    unfold writeSpace
    rw [if_neg (by simp [up]), if_neg (by simp), if_pos rfl, if_pos rfl]

end Sys2Proof.Machine

/-! PROOFS. The SMBus commands and the JTAG instructions. -/

namespace Sys2Proof.Machine

/-! ### SMBus -/

theorem smbusAt_own {s : State} (h : s.running = true) : s.smbusAt (0x58 + s.pins.smbAddr % 4) = true := by
  unfold State.smbusAt State.smbSdaPin
  simp [h]

theorem smbusAt_of_silent {s : State} {addr : Nat} (h : s.running = false ∨ addr ≠ 0x58 + s.pins.smbAddr % 4) :
    s.smbusAt addr = false := by
  unfold State.smbusAt State.smbSdaPin
  obtain h | h := h
  · simp [h]
  · simp [h]

theorem blockAnswer_pec (addr code : Nat) (req : List Byte) (ws : List Nat) : ∃ c < 256, blockAnswer addr code req true ws = ws ++ [c] :=
  ⟨_, BitVec.isLt _, rfl⟩

theorem doSmbusStatusRead_of_asked {addr o n : Nat} {pec : Bool} {s : State} (h : s.smbusAt addr = true) (ho : o % 4 = 0)
    (hlt : o < 16777216) (hn : 0 < n) (hmax : n ≤ 63) : doSmbusStatusRead addr pec o n s = { (readWords 128 n o s).2 with
      answer := blockAnswer addr 0x10 ([4#8] ++ leBytes o 3 ++ leBytes n 1) pec (readWords 128 n o s).1 } := by
  unfold doSmbusStatusRead
  exact if_neg (by simp [h, ho]; omega)

theorem doSmbusPowerSample_of_asked {addr i : Nat} {pec : Bool} {s : State} (h : s.smbusAt addr = true) (hi : i < 16) :
    doSmbusPowerSample addr pec i s = { (readWords 128 8 (0x20400 + 32 * i) s).2 with
      answer := blockAnswer addr (0x20 + i) [] pec (readWords 128 8 (0x20400 + 32 * i) s).1 } := by
  unfold doSmbusPowerSample
  exact if_neg (by simp [h]; omega)

theorem doSmbusAccessClear_eq (addr : Nat) (ok : Bool) (s : State) :
    doSmbusAccessClear addr ok s = if s.smbusAt addr && ok then s.setAcc 128 (s.clearedAcc 128 7) else s := by
  unfold doSmbusAccessClear
  rw [clearOwn_eq]

/-! ### JTAG -/

theorem readWord_frame (r o : Nat) (s : State) : ∃ q, (readWord r o s).2 = { s with acc := q } := by
  unfold readWord
  dsimp only
  split
  · exact ⟨s.acc, rfl⟩
  · split
    · exact ⟨_, rfl⟩
    · split <;> exact ⟨_, rfl⟩

theorem doStatusRead_of_word {o : Nat} {s : State} (ho : o % 4 = 0) (hlt : o < 16777216) :
    doStatusRead o s = { (readWord 129 o (setIr 0x20 s)).2 with
      jtag := { (readWord 129 o (setIr 0x20 s)).2.jtag with offset := o, data := (readWord 129 o (setIr 0x20 s)).1 }
      answer := [(readWord 129 o (setIr 0x20 s)).1] } := by
  unfold doStatusRead
  rw [show o % 2 ^ 24 = o by omega]
  dsimp only
  rw [if_pos ho]

/-- Settles O57. -/
theorem smbusAndJtag : Obligations.SmbusAndJtag := by
  unfold Obligations.SmbusAndJtag
  intro t s a own fresh
  have running : a.running = s.running := State.advance_running ..
  have pins : a.pins = s.pins := State.advance_pins ..
  have acc : s.acc = a.acc := (State.advance_acc ..).symm
  have free : s.free = a.free := (State.advance_free ..).symm
  have addr : own = 0x58 + a.pins.smbAddr % 4 := by rw [pins]
  rw [acc, free]
  refine ⟨fun hr pec => ?asked, fun addr code req ws => ⟨rfl, blockAnswer_pec addr code req ws⟩, fun x o n i pec h => ?silent, rfl,
    fun hr => ?running, fun hr => ?reset, fun cells => ⟨_, rfl⟩, fun o ho hlt => ?status, ?clear, fun code hc => ?bypass,
    fun code hc => ?others⟩
  case asked =>
    have here : a.smbusAt own = true := by
      rw [addr]
      exact smbusAt_own (running.trans hr)
    have cleared (ok : Bool) (h : ok = true) : doSmbusAccessClear own ok a = a.setAcc 128 (fresh 128) := by
      rw [doSmbusAccessClear_eq, if_pos (by simp [here, h])]
      rfl
    refine ⟨fun o n ho hlt hn hmax => congrArg Host.Outcome.next (doSmbusStatusRead_of_asked here ho hlt hn hmax),
      fun i hi => congrArg Host.Outcome.next (doSmbusPowerSample_of_asked here hi),
      congrArg Host.Outcome.next (?_ : doSmbusAccessStatus own pec a = _), congrArg Host.Outcome.next (?_ : doSmbusSummary own pec a = _),
      congrArg Host.Outcome.next (cleared _ (by simp)), congrArg Host.Outcome.next (cleared _ (by simp)),
      congrArg Host.Outcome.next (?_ : doSmbusAccessClear own false a = _)⟩
    · unfold doSmbusAccessStatus
      rw [if_pos here]
    · unfold doSmbusSummary
      rw [if_pos here]
    · rw [doSmbusAccessClear_eq, if_neg (by simp)]
  case silent =>
    have there : a.smbusAt x = false := smbusAt_of_silent (by rw [running, ← addr]; exact h)
    refine ⟨congrArg Host.Outcome.next (if_pos (by simp [there]) : doSmbusStatusRead x pec o n a = _),
      congrArg Host.Outcome.next (if_pos (by simp [there]) : doSmbusPowerSample x pec i a = _),
      congrArg Host.Outcome.next (?_ : doSmbusAccessStatus x pec a = _), congrArg Host.Outcome.next (?_ : doSmbusSummary x pec a = _),
      fun ok => congrArg Host.Outcome.next (?_ : doSmbusAccessClear x (!pec || ok) a = _)⟩
    · unfold doSmbusAccessStatus
      rw [if_neg (by simp [there])]
    · unfold doSmbusSummary
      rw [if_neg (by simp [there])]
    · rw [doSmbusAccessClear_eq, if_neg (by simp [there])]
  case running =>
    have still : ¬(setIr 0 a).scanDrives = true := by simp [State.scanDrives, setIr, pins, hr]
    exact congrArg Host.Outcome.next (if_neg still : doExtest a = _)
  case reset =>
    have drives : (setIr 0 a).scanDrives = true := by simp [State.scanDrives, setIr, pins, hr]
    exact ⟨_, congrArg Host.Outcome.next (if_pos drives : doExtest a = _)⟩
  case status =>
    refine ⟨_, congrArg Host.Outcome.next (doStatusRead_of_word ho hlt), ?_, rfl, rfl⟩
    obtain ⟨q, hq⟩ := readWord_frame 129 o (setIr 0x20 a)
    rw [hq]
    rfl
  case clear =>
    refine congrArg Host.Outcome.next (?_ : doAccClear a = _)
    unfold doAccClear
    rw [clearOwn_eq]
    rfl
  case bypass =>
    refine congrArg Host.Outcome.next (?_ : doBypass code a = _)
    unfold doBypass setIr
    rw [hc, if_neg (by decide)]
  case others =>
    exact congrArg Host.Outcome.next (if_pos (List.contains_iff_mem.mpr hc) : doBypass code a = _)

end Sys2Proof.Machine

/-! PROOFS. What moves in the tiles leaves the light, the settled ports and the DEGRADED engines alone. -/

namespace Sys2Proof.Machine

/-! ### Writes of a tile's own state -/

theorem updTile_ends (t : Nat) (f : Tile → Tile) (s : State) : Ends s (s.updTile t f) := .of_rest rfl rfl rfl rfl

theorem updTask_ends (t k : Nat) (f : Task → Task) (s : State) : Ends s (s.updTask t k f) := .of_rest rfl rfl rfl rfl

theorem updCmd_ends (t k i : Nat) (f : Cmd → Cmd) (s : State) : Ends s (s.updCmd t k i f) := .of_rest rfl rfl rfl rfl

theorem taskFlags_ends (t k w : Nat) (s : State) : Ends s (s.taskFlags t k w) := .ite (.refl s) (updTask_ends _ _ _ s)

theorem sramWrite_ends (t a : Nat) (bs : List Byte) (s : State) : Ends s (s.sramWrite t a bs) := by
  induction bs generalizing a s with
  | nil => exact .refl s
  | cons b r ih => exact Ends.trans (b := s.sramPut t a b) (.of_rest rfl rfl rfl rfl) (ih _ _)

theorem tagLine_ends (t a : Nat) (poison : Bool) (s : State) : Ends s (s.tagLine t a poison) := .of_rest rfl rfl rfl rfl

theorem tagRange_ends (t a n : Nat) (poison : Bool) (s : State) : Ends s (s.tagRange t a n poison) :=
  .foldl (fun u _ => tagLine_ends _ _ _ u) _ s

theorem sramStore_ends (t a : Nat) (bs : List Byte) (poison : Bool) (s : State) : Ends s (s.sramStore t a bs poison) :=
  (sramWrite_ends t a bs s).trans (.ite (tagRange_ends _ _ _ _ _) (tagRange_ends _ _ _ _ _))

theorem setFull_ends (t i : Nat) (full : Bool) (s : State) : Ends s (s.setFull t i full) := .of_rest rfl rfl rfl rfl

theorem countOutside_ends (c : Nat) (s : State) : Ends s (s.countOutside c) := .of_rest rfl rfl rfl rfl

theorem fillWord_ends (tile i v : Nat) (s : State) : Ends s (fillWord tile i v s) :=
  (sramWrite_ends _ _ _ s).trans (setFull_ends _ _ _ _)

theorem emptyWord_ends (tile i : Nat) (s : State) : Ends s (emptyWord tile i s) := by
  have emptied := setFull_ends tile i false s
  unfold emptyWord
  dsimp only
  split
  · exact emptied
  · next q _ =>
    exact (emptied.trans (b := s.setFull tile i false) (c := (s.setFull tile i false).updCsu (clusterOfTile tile)
      fun u => { u with hfq := u.hfq.erase q }) (.of_rest rfl rfl rfl rfl)).trans (fillWord_ends _ _ _ _)

/-! ### Requests to memory -/

theorem seeCtx_ends (cluster queue ctx a n : Nat) (s : State) : Ends s (seeCtx cluster queue ctx a n s) := by
  unfold seeCtx
  generalize n / 256 + 2 = k
  induction k generalizing a n s with
  | zero => exact .refl s
  | succ k ih =>
    unfold seeCtxRuns
    refine .ite (.refl s) (Ends.trans ?_ (ih _ _ _))
    split
    · exact (updChan_memOnly _ _ s).ends
    · exact countOutside_ends _ s

theorem touchLine_memOnly (cluster ctx queue line phase : Nat) (fp wide : Bool) (s : State) :
    MemOnly s (touchLine cluster ctx queue line phase fp wide s).2 := by
  unfold touchLine
  extract_lets mine fresh
  have made (acc : Nat × State) : MemOnly acc.2 (fresh acc).2 := by
    unfold fresh
    dsimp only
    refine MemOnly.trans ?_ (MemOnly.trans (seeDev_memOnly _ _ _ _) ⟨_, rfl⟩)
    split
    · split
      · exact flushLine_memOnly _ _
      · exact .refl _
    · exact .refl _
  split
  · exact made _
  · split
    · exact .refl s
    · exact (flushLine_memOnly _ s).trans (made _)

theorem lineAdd_memOnly (cluster ctx queue d e : Nat) (fp wide poison : Bool) (s : State) :
    MemOnly s (lineAdd cluster ctx queue d e fp wide poison s).2 := by
  have touched := touchLine_memOnly cluster ctx queue (d / 64) (d % 64 % destBytes wide) fp wide s
  unfold lineAdd
  dsimp only
  split
  · exact touched
  · exact touched.trans ⟨_, rfl⟩

theorem lineAdds_memOnly (cluster ctx queue : Nat) (fp wide poison : Bool) (d : Nat) (es : List Nat) (s : State) :
    MemOnly s (lineAdds cluster ctx queue fp wide poison d es s).2 := by
  induction es generalizing d s with
  | nil => exact .refl s
  | cons e r ih => exact (lineAdd_memOnly _ _ _ _ _ _ _ _ s).trans (ih _ _)

/-! ### Answers of memory -/

theorem storeDone_ends (r : Req) (w : Nat) (s : State) : Ends s (storeDone r w s) :=
  have counted := updCmd_ends r.tile r.slot r.cmd (fun c => { c with stores := c.stores - 1 }) s
  .ite (counted.trans (taskFlags_ends _ _ _ _)) counted

theorem loadDone_ends (id : Nat) (s : State) : Ends s (loadDone id s) :=
  updParcel_ends id (fun p => { p with loadsLeft := p.loadsLeft - 1 }) s fun _ => ⟨rfl, fun h => h⟩

theorem landBytes_ends (t dst : Nat) (bs : List (Byte × Bool)) (s : State) : Ends s (landBytes t dst bs s) :=
  (sramWrite_ends _ _ _ s).trans (.foldl (fun u _ => .ite (tagLine_ends _ _ _ u) (.refl u)) _ _)

theorem landRead_ends (r : Req) (land : List Landing) (data : List (Byte × Bool)) (s : State) : Ends s (landRead r land data s) :=
  .foldl (fun u _ => .ite (landBytes_ends _ _ _ u) (.refl u)) _ s

theorem answerRead_ends (r : Req) (data : List (Byte × Bool)) (s : State) : Ends s (answerRead r data s) := by
  unfold answerRead
  split
  case h_1 => exact landRead_ends _ _ _ s
  case h_2 => exact updCmd_ends _ _ _ _ s
  case h_3 => exact updCmd_ends _ _ _ _ s
  case h_4 => exact .of_rest rfl rfl rfl rfl
  all_goals exact .refl s

theorem ackWrite_ends (r : Req) (w : Nat) (s : State) : Ends s (ackWrite r w s) := by
  unfold ackWrite
  split
  case h_4 => exact .of_rest rfl rfl rfl rfl
  case h_5 => exact loadDone_ends _ s
  case h_1 | h_2 | h_3 => exact storeDone_ends _ _ s
  all_goals exact .refl s

theorem discardAck_ends (r : Req) (s : State) : Ends s (discardAck r s) := (answerRead_ends _ _ s).trans (ackWrite_ends _ _ _)

theorem answerOutside_ends (r : Req) (s : State) : Ends s (answerOutside r s) :=
  Ends.trans (.ite (countOutside_ends _ s) (.refl s)) (discardAck_ends r _)

theorem enqueueReq_ends (r : Req) (s : State) : Ends s (enqueueReq r s) := by
  have pushed : Ends s (if r.dev.isNone then answerOutside r s else pushReq r s) :=
    .ite (answerOutside_ends r s) (updChan_memOnly _ _ s).ends
  unfold enqueueReq
  split
  case h_1 => exact .refl s
  case h_2 => exact .of_rest rfl rfl rfl rfl
  case h_3 =>
    split
    · exact answerOutside_ends r s
    · exact (lineAdds_memOnly _ _ _ _ _ _ _ _ s).ends.trans (ackWrite_ends _ _ _)
  all_goals exact pushed

theorem issueReq_ends (r : Req) (s : State) : Ends s (issueReq r s) := by
  unfold issueReq
  split
  · exact enqueueReq_ends r s
  · split
    · exact Ends.trans (MemOnly.ends ⟨_, rfl⟩) (enqueueReq_ends r _)
    · exact .of_rest rfl rfl rfl rfl

/-! ### Tasks that end -/

theorem endTask_ends (tile slot fault : Nat) (s : State) : Ends s (endTask tile slot fault s) := by
  unfold endTask
  extract_lets t told
  exact ((reportFlags_ends _ _ _ s).trans (purgeTask_ends tile slot told)).trans
    ((updTask_ends _ _ _ _).trans (fillPipeline_ends _ _))

theorem reap_ends (s : State) : Ends s (reap s) := by
  refine .foldl (fun u k => .ite ?_ (.refl u)) _ s
  unfold endParcel
  split
  · exact .refl u
  · exact (endCore_ends _ _ _ _ u).trans (armContext_ends _ _ _)

theorem poisonConsumed_ends (tile slot : Nat) (s : State) : Ends s (poisonConsumed tile slot s) :=
  ((updTile_ends _ _ s).trans (raiseFor_ends _ _ _ _)).trans (endTask_ends _ _ _ _)

theorem cmdInvalid_ends (tile slot : Nat) (s : State) : Ends s (cmdInvalid tile slot s) :=
  ((updTile_ends _ _ s).trans (raiseFor_ends _ _ _ _)).trans (endTask_ends _ _ _ _)

theorem counterForeign_ends (tile slot : Nat) (s : State) : Ends s (counterForeign tile slot s) := by
  have counted (c : Nat) (f : Csu → Csu) : Ends s (s.updCsu c f) := .of_rest rfl rfl rfl rfl
  exact ((counted _ _).trans (raiseFor_ends _ _ _ _)).trans (endTask_ends _ _ _ _)

theorem checkCommand_ends (tile slot : Nat) (s : State) : Ends s (checkCommand tile slot s) := by
  unfold checkCommand
  dsimp only
  split
  · exact .refl s
  · exact .ite (.refl s) (.ite (poisonConsumed_ends _ _ s) (.ite (cmdInvalid_ends _ _ s) (.ite (counterForeign_ends _ _ s)
      (updTask_ends _ _ _ s))))

theorem checkCommands_ends (tile : Nat) (s : State) (slot : Nat) : Ends s (checkCommands tile s slot) :=
  .foldl (fun u _ => checkCommand_ends _ _ u) _ s

theorem lensRefused_ends (tile slot : Nat) (s : State) : Ends s (lensRefused tile slot s) :=
  (raiseFor_ends _ _ _ s).trans (endTask_ends _ _ _ _)

/-! ### Reads of a tile's own memory -/

theorem takeRun_ends (tile k a n : Nat) (s : State) : Ends s (takeRun tile k a n s).2 := by
  induction k generalizing a n s with
  | zero => exact .refl s
  | succ k ih =>
    unfold takeRun
    split
    · exact .refl s
    · exact Ends.trans (.ite (emptyWord_ends _ _ s) (.refl s)) (ih _ _ _)

theorem readPart_ends (tile a n : Nat) (got : List (Byte × Bool)) (s : State) : Ends s (readPart tile a n got s).2 :=
  takeRun_ends _ _ _ _ s

theorem takeSegs_ends (tile : Nat) (l : List (Nat × Nat)) (s : State) : Ends s (takeSegs tile l s).2 := by
  induction l generalizing s with
  | nil => exact .refl s
  | cons x r ih =>
    have run := takeRun_ends tile (x.2 + 1) x.1 x.2 s
    unfold takeSegs
    dsimp only
    split
    · exact run
    · exact run.trans (ih _)

theorem readRows_ends (tile n : Nat) (stop : Bool) (l : List RowRef) (got : List (List (Byte × Bool))) (s : State) :
    Ends s (readRows tile n stop l got s).2.2 := by
  induction l generalizing got s with
  | nil => exact .refl s
  | cons r rest ih =>
    have part (len : Nat) := readPart_ends tile r.place len (got.headD []) s
    unfold readRows
    generalize (if r.bad then 0 else n) = len
    dsimp only
    split
    · exact part len
    · split
      · exact part len
      · exact (part len).trans (ih _ _)

theorem poolBag_ends (ws : List Nat) (g : Gather) (s : State) : Ends s (poolBag ws g s).2 := by
  unfold poolBag
  extract_lets flags
  split
  · exact .refl s
  · split
    · exact .refl s
    · exact .of_rest rfl rfl rfl rfl

end Sys2Proof.Machine

/-! PROOFS. Fetch, compute and store leave the light, the settled ports and the DEGRADED engines alone. -/

namespace Sys2Proof.Machine

/-! ### The fetch of rows -/

theorem countOverlong_ends (cluster hub : Nat) (ws : List Nat) (bags : List IdxBag) (s : State) :
    Ends s (countOverlong cluster hub ws bags s) :=
  .ite (.of_rest rfl rfl rfl rfl) (.refl s)

theorem putPends_ends (tile : Nat) (ps : List Pend) (s : State) : Ends s (putPends tile ps s) := updTile_ends _ _ s

theorem noteUnresolved_ends (q : RowReq) (s : State) : Ends s (noteUnresolved q s) := by
  refine Ends.trans ?_ (.foldl (fun u _ => raiseOnce_ends _ _ _ u) _ _)
  exact .of_rest rfl rfl rfl rfl

theorem issuePend_ends (tile : Nat) (p : Pend) (s : State) : Ends s (issuePend tile p s) := by
  unfold issuePend
  dsimp only
  split
  · exact .ite (enqueueReq_ends _ s) (Ends.trans (.foldl (fun u _ => issueReq_ends _ u) _ s) (issueReq_ends _ _))
  · exact issueReq_ends _ s

theorem issueHead_ends (tile : Nat) (s : State) : Ends s (issueHead tile s) := by
  unfold issueHead
  split
  · exact .refl s
  · exact .ite (.refl s) ((updTile_ends _ _ s).trans (issuePend_ends _ _ _))

theorem issueMore_ends (tile : Nat) (s : State) : Ends s (issueMore tile s) := .foldl (fun u _ => issueHead_ends tile u) _ s

theorem resolveBag_ends (k : Task) (tile slot : Nat) (c : Cmd) (l : List (Nat × Int × Bool)) (s : State) :
    Ends s (resolveBag k tile slot c l s).2.2 := by
  induction l generalizing s with
  | nil => exact .refl s
  | cons x r ih =>
    unfold resolveBag
    split
    · exact ih s
    · exact Ends.trans (.ite (noteUnresolved_ends _ s) (.refl s)) (ih _)

theorem resolveBags_ends (k : Task) (tile slot : Nat) (c : Cmd) (l : List (List (Nat × Int × Bool) × Bool)) (s : State) :
    Ends s (resolveBags k tile slot c l s).2.2 := by
  induction l generalizing s with
  | nil => exact .refl s
  | cons b r ih => exact (resolveBag_ends k tile slot c b.1 s).trans (ih _)

theorem placeRows_ends (tile slot : Nat) (c : Cmd) (s : State) : Ends s (placeRows tile slot c s) := by
  unfold placeRows
  extract_lets k bags step total start hub tagged counted placed d r
  have read : Ends s counted := (tagRange_ends _ _ _ _ s).trans (countOverlong_ends _ _ _ _ _)
  have resolved : Ends counted r.2.2 := by
    unfold r
    split
    · exact resolveBags_ends _ _ _ _ _ _
    · exact .refl _
  exact (read.trans resolved).trans ((updTask_ends _ _ _ _).trans ((updCmd_ends _ _ _ _ _).trans (putPends_ends _ _ _)))

theorem beginStage_ends (tile slot : Nat) (c : Cmd) (s : State) : Ends s (beginStage tile slot c s) :=
  .ite (.refl s) (putPends_ends _ _ s)

theorem takeStage_ends (tile slot : Nat) (c : Cmd) (s : State) : Ends s (takeStage tile slot c s) :=
  .ite (.refl s) ((takeSegs_ends _ _ s).trans (updCmd_ends _ _ _ _ _))

theorem advanceStream_ends (tile : Nat) (s : State) (slot : Nat) : Ends s (advanceStream tile s slot) := by
  unfold advanceStream
  split
  · exact .refl s
  · next c _ =>
    have taken := takeStage_ends tile slot c s
    dsimp only
    split
    · exact placeRows_ends _ _ _ s
    · split
      · exact taken
      · exact .ite taken (.ite (taken.trans ((updCmd_ends _ _ _ _ _).trans (beginStage_ends _ _ _ _)))
          (taken.trans (placeRows_ends _ _ _ _)))

theorem settleFetch_ends (tile : Nat) (s : State) : Ends s (settleFetch tile s) :=
  .foldl (fun u _ => Ends.trans (.foldl (advanceStream_ends tile) _ u) (issueMore_ends tile _)) _ s

/-! ### Stores -/

theorem fillRow_ends (tile : Nat) (poison : Bool) (n a : Nat) (bs : List Byte) (s : State) : Ends s (fillRow tile poison n a bs s).2 := by
  induction n generalizing a bs s with
  | zero => exact .refl s
  | succ n ih =>
    unfold fillRow
    split
    · exact .refl s
    · dsimp only
      split
      · exact .refl s
      · refine Ends.trans ?_ (ih _ _ _)
        have written := sramWrite_ends tile a (bs.take (8 - a % 8)) s
        have tagged := Ends.ite (c := poison = true) (written.trans (tagLine_ends tile a true _)) written
        exact .ite (tagged.trans (setFull_ends _ _ _ _)) tagged

theorem fillRows_ends (tile : Nat) (l : List (Nat × List Byte × Bool)) (s : State) : Ends s (fillRows tile l s).2 := by
  induction l generalizing s with
  | nil => exact .refl s
  | cons x r ih =>
    have filled := fillRow_ends tile x.2.2 (x.2.1.length + 1) x.1 x.2.1 s
    unfold fillRows
    dsimp only
    split
    · exact filled.trans (ih _)
    · exact filled

theorem flushRest_ends (tile slot i : Nat) (s : State) : Ends s (flushRest tile slot i s) := by
  unfold flushRest
  split
  · exact .refl s
  · exact (fillRows_ends _ _ s).trans (updCmd_ends _ _ _ _ _)

theorem issueStore_ends (r : Req) (s : State) : Ends s (issueStore r s) := (updCmd_ends _ _ _ _ s).trans (issueReq_ends r _)

theorem storeLines_ends (tile slot cmd : Nat) (poison : Bool) (n a : Nat) (bs : List Byte) (s : State) :
    Ends s (storeLines tile slot cmd poison n a bs s) := by
  induction n generalizing a bs s with
  | zero => exact .refl s
  | succ n ih => exact .ite (.refl s) ((issueStore_ends _ s).trans (ih _ _ _))

theorem addLines_ends (tile slot cmd : Nat) (fp int32 poison : Bool) (n a : Nat) (es : List Nat) (s : State) :
    Ends s (addLines tile slot cmd fp int32 poison n a es s) := by
  induction n generalizing a es s with
  | zero => exact .refl s
  | succ n ih => exact .ite (.refl s) ((issueStore_ends _ s).trans (ih _ _ _))

theorem notePoisonOut_ends (tile : Nat) (poison : Bool) (s : State) : Ends s (notePoisonOut tile poison s) :=
  .ite (updTile_ends _ _ s) (.refl s)

theorem storeRow_ends (tile slot : Nat) (c : Cmd) (i : Nat) (es : List Nat) (poison : Bool) (s : State) :
    Ends s (storeRow tile slot c i es poison s) := by
  have noted (u : State) := notePoisonOut_ends tile poison u
  have seen (k : Task) := seeCtx_ends (clusterOfTile tile) k.partition k.context (addr48 (stIdxAddr c.words + i * idxBytes c.words))
    (idxBytes c.words) s
  unfold storeRow
  dsimp only
  split
  · exact .refl s
  · split
    · exact .ite (((noted s).trans (updCmd_ends _ _ _ _ _)).trans (flushRest_ends _ _ _ _)) ((noted s).trans (sramStore_ends _ _ _ _ _))
    · split
      · exact (noted s).trans (storeLines_ends _ _ _ _ _ _ _ _)
      · split
        · exact seen _
        · exact .ite (((seen _).trans (noted _)).trans (addLines_ends _ _ _ _ _ _ _ _ _ _))
            (((seen _).trans (noted _)).trans (storeLines_ends _ _ _ _ _ _ _ _))

theorem noteRing_ends (tile pid : Nat) (c : Cmd) (s : State) : Ends s (noteRing tile pid c s) := by
  unfold noteRing
  split
  · exact .refl s
  · split
    · exact .refl s
    · exact .of_rest rfl rfl rfl rfl

/-! ### Rows computed -/

theorem vxeStore_ends (tile slot : Nat) (c : Cmd) (w : Work) (got : List (Byte × Bool)) (s : State) :
    Ends s (vxeStore tile slot c w got s).2 := by
  have read := readPart_ends tile (biasAddr c.words) (biasBytes c.words w.elems.length) got s
  unfold vxeStore
  dsimp only
  split
  · exact read
  · exact read.trans ((taskFlags_ends _ _ _ _).trans (storeRow_ends _ _ _ _ _ _ _))

theorem lensSend_ends (tile slot : Nat) (c : Cmd) (peak : FVal) (levels : List Int) (flags : Nat) (poison : Bool) (s : State) :
    Ends s (lensSend tile slot c peak levels flags poison s) := by
  unfold lensSend
  extract_lets k q sent counted
  have told : Ends s counted := ((taskFlags_ends tile slot flags s).trans (updCmd_ends _ _ _ _ _)).trans (updTile_ends _ _ _)
  exact told.trans ⟨fun _ => rfl, fun _ => .refl _, ⟨_, rfl⟩, ⟨_, _, rfl⟩, .refl _, fun _ => id⟩

theorem keepGot_ends (tile slot i : Nat) (got : List (List (Byte × Bool))) (s : State) : Ends s (keepGot tile slot i got s).2 :=
  updCmd_ends _ _ _ _ s

theorem nextRow_ends (tile slot i zeroed : Nat) (s : State) : Ends s (nextRow tile slot i zeroed s).2 :=
  Ends.trans (.ite (.refl s) (updTile_ends _ _ s)) (updCmd_ends _ _ _ _ _)

theorem finishHere_ends (tile slot : Nat) (c : Cmd) (w : Work) (zeroed : Nat) (got : List (List (Byte × Bool))) (s : State) :
    Ends s (finishHere tile slot c w zeroed got s).2 := by
  have stored := vxeStore_ends tile slot c w (c.got.getD got.length []) s
  unfold finishHere
  dsimp only
  split
  · exact stored.trans (keepGot_ends _ _ _ _ _)
  · exact stored.trans (nextRow_ends _ _ _ _ _)

theorem lensRow_ends (tile slot : Nat) (c : Cmd) (p : Pooled) (g : Gather) (got : List (List (Byte × Bool))) (s : State) :
    Ends s (lensRow tile slot c p g got s).2 := by
  unfold lensRow
  extract_lets here
  have done (v : FVal) (w : Nat) : Ends s (here v w).2 := by
    unfold here
    split
    · exact keepGot_ends _ _ _ _ s
    · exact finishHere_ends _ _ _ _ _ _ s
  split
  · exact done _ _
  · exact done _ _
  · split
    · exact keepGot_ends _ _ _ _ s
    · exact (lensSend_ends _ _ _ _ _ _ _ s).trans (nextRow_ends _ _ _ _ _)

theorem mxeStep_ends (tile slot : Nat) (c : Cmd) (p : Pooled) (g : Gather) (got : List (List (Byte × Bool))) (s : State) :
    Ends s (mxeStep tile slot c p g got s).2 := by
  have read := readPart_ends tile (weightAddr c.words) (weightBytes c.words) (c.got.getD got.length []) s
  unfold mxeStep
  dsimp only
  split
  · exact read.trans (keepGot_ends _ _ _ _ _)
  · exact read.trans (finishHere_ends _ _ _ _ _ _ _)

theorem computeRow_ends (tile slot : Nat) (c : Cmd) (s : State) : Ends s (computeRow tile slot c s).2 := by
  have read := readRows_ends tile (rowBytes c.words) (poisonMode c.words = 2) (c.bags.getD c.row ⟨[], false⟩).rows c.got s
  unfold computeRow
  dsimp only
  split
  · exact read.trans (keepGot_ends _ _ _ _ _)
  · exact read.trans (poisonConsumed_ends _ _ _)
  · have pooled (g : Gather) := read.trans (poolBag_ends c.words g _)
    split
    · exact (pooled _).trans (finishHere_ends _ _ _ _ _ _ _)
    · split
      · exact (pooled _).trans (lensRow_ends _ _ _ _ _ _ _)
      · exact (pooled _).trans (mxeStep_ends _ _ _ _ _ _ _)

theorem landBack_ends (tile slot : Nat) (c : Cmd) (b : LensBack) (s : State) : Ends s (landBack tile slot c b s).2 := by
  unfold landBack
  extract_lets w r
  have stored : Ends s r.2 := vxeStore_ends _ _ _ _ _ s
  split
  · exact stored.trans (updCmd_ends _ _ _ _ _)
  · exact stored.trans (updCmd_ends _ _ _ _ _)

theorem poisonRows_ends (tile slot : Nat) (c : Cmd) (n i : Nat) (s : State) : Ends s (poisonRows tile slot c n i s) := by
  induction n generalizing i s with
  | zero => exact .refl s
  | succ n ih => exact (storeRow_ends _ _ _ _ _ _ s).trans (ih _ _)

theorem poisonRest_ends (tile slot : Nat) (c : Cmd) (s : State) : Ends s (poisonRest tile slot c s) :=
  ((poisonRows_ends _ _ _ _ _ s).trans (updCmd_ends _ _ _ _ _)).trans (noteRing_ends _ _ _ _)

theorem startCompute_ends (tile slot : Nat) (c : Cmd) (s : State) : Ends s (startCompute tile slot c s).2 := by
  unfold startCompute
  dsimp only
  split
  · exact .refl s
  · split
    · exact lensRefused_ends _ _ s
    · exact updCmd_ends _ _ _ _ s

theorem pumpStep_ends (holds : Bool) (tile slot : Nat) (s : State) : Ends s (pumpStep holds tile slot s).2 := by
  have or (b : Prop) [Decidable b] {x : Bool × State} (h : Ends s x.2) : Ends s (if b then x else (false, s)).2 := by
    split
    · exact h
    · exact .refl s
  unfold pumpStep
  dsimp only
  split
  · exact .refl s
  · split
    · exact or _ (startCompute_ends _ _ _ s)
    · split
      · exact .refl s
      · split
        · exact landBack_ends _ _ _ _ s
        · split
          · exact or _ (poisonRest_ends _ _ _ s)
          · split
            · exact or _ (computeRow_ends _ _ _ s)
            · exact or _ ((updCmd_ends _ _ _ _ s).trans (noteRing_ends _ _ _ _))

theorem pumpTask_ends (n tile slot : Nat) (s : State) : Ends s (pumpTask n tile slot s) := by
  induction n generalizing s with
  | zero => exact .refl s
  | succ n ih =>
    have stepped (h : Bool) := pumpStep_ends h tile slot s
    exact .ite (.refl s) (.ite ((stepped _).trans (ih _)) (stepped _))

/-! ### Tiles that move -/

theorem flushTask_ends (tile : Nat) (s : State) (slot : Nat) : Ends s (flushTask tile s slot) :=
  .foldl (fun u _ => .ite (.refl u) (flushRest_ends _ _ _ u)) _ s

theorem runTile_ends (tile : Nat) (s : State) : Ends s (runTile tile s) := by
  have flushed (u : State) : Ends u ((List.range 4).foldl (flushTask tile) u) := .foldl (flushTask_ends tile) _ u
  unfold runTile
  generalize pumpFuel = n
  have pumped (u : State) : Ends u ((List.range 4).foldl (fun s k => pumpTask n tile k s) u) :=
    .foldl (fun v k => pumpTask_ends n tile k v) _ u
  exact ((flushed s).trans (pumped _)).trans (flushed _)

theorem switchTo_ends (tile slot next : Nat) (st : TaskState) (s : State) : Ends s (switchTo tile slot next st s) := by
  unfold switchTo
  extract_lets left taken
  exact Ends.trans (b := taken) (.of_rest rfl rfl rfl rfl) (updTile_ends _ _ _)

theorem wakeTile_ends (tile : Nat) (s : State) : Ends s (wakeTile tile s) :=
  .ite (.refl s) (Ends.trans (.foldl (fun u _ => updTask_ends _ _ _ u) _ s) (fillPipeline_ends _ _))

theorem yieldLate_ends (tile : Nat) (s : State) : Ends s (yieldLate tile s) := by
  unfold yieldLate
  split
  · exact .refl s
  · split
    · exact .refl s
    · exact .ite ((switchTo_ends _ _ _ _ s).trans (runTile_ends _ _)) (.refl s)

theorem noteMiss_ends (tile slot : Nat) (c : Cmd) (s : State) : Ends s (noteMiss tile slot c s) :=
  ((updTile_ends _ _ s).trans (updCmd_ends _ _ _ _ _)).trans (raiseFor_ends _ _ _ _)

theorem stampCmd_ends (tile slot : Nat) (s : State) (c : Cmd) : Ends s (stampCmd tile slot s c) := by
  have stamped (late : Bool) := updCmd_ends tile slot c.index (fun x => { x with late := some late }) s
  exact .ite (.refl s) (.ite ((stamped _).trans (noteMiss_ends _ _ _ _)) (stamped _))

theorem stampTask_ends (tile : Nat) (s : State) (slot : Nat) : Ends s (stampTask tile s slot) :=
  .ite (.foldl (stampCmd_ends tile slot) _ s) (.refl s)

theorem moveTile_ends (tile : Nat) (s : State) : Ends s (moveTile tile s) := by
  have checked : Ends s ((List.range 4).foldl (checkCommands tile) s) := .foldl (checkCommands_ends tile) _ s
  have moved := (((checked.trans (settleFetch_ends tile _)).trans (wakeTile_ends tile _)).trans (runTile_ends tile _)).trans
    (yieldLate_ends tile _)
  exact moved.trans (.foldl (stampTask_ends tile) _ _)

theorem moveTiles_ends (tiles : List Nat) (s : State) : Ends s (moveTiles tiles s) :=
  Ends.trans (.foldl (fun u t => moveTile_ends t u) tiles s) (reap_ends _)

theorem pumpTiles_ends (tiles : List Nat) (s : State) : Ends s (pumpTiles tiles s) :=
  .ite ((moveTiles_ends tiles s).trans (moveTiles_ends tiles _)) (.refl s)

end Sys2Proof.Machine

/-! PROOFS. Calibration of the engines, and a light source that is lost. -/

namespace Sys2Proof.Machine

/-! ### An engine that becomes DEGRADED -/

/-- The engine drops its matrix and its requests, and those on their way to it are gone. -/
def dimEngine (n cause : Nat) (s : State) : State :=
  let v := s.updEngine n (Engine.lostTo cause)
  { v with lens := { v.lens with flight := v.lens.flight.filter fun q => v.engineOf q.tile ≠ n } }

theorem dimEngine_same (n cause : Nat) (s : State) : (dimEngine n cause s).engine n = (s.engine n).lostTo cause :=
  State.engine_updEngine_same n (Engine.lostTo cause) s

theorem dimEngine_ends {n : Nat} (cause : Nat) {s : State} (h : (s.engine n).state ≠ .degraded) :
    Ends s (dimEngine n cause s) := by
  refine (updEngine_ends (n := n) (Engine.lostTo cause) fun hd => absurd hd h).trans ?_
  exact ⟨fun _ => rfl, fun _ => .refl _, ⟨_, rfl⟩, ⟨_, _, rfl⟩, .refl _, fun _ => id⟩

theorem loseEngine_ends (tile slot sent : Nat) (c : Cmd) (s : State) : Ends s (loseEngine tile slot sent c s) :=
  .ite (.refl s) (updCmd_ends _ _ _ _ s)

theorem degradeEngine_after (n cause : Nat) (s : State) : Ends (dimEngine n cause s) (degradeEngine n cause s) := by
  unfold degradeEngine
  extract_lets waiting lost _ left tasks released
  refine Ends.trans (b := released) ?_ (pumpTiles_ends _ _)
  refine .foldl (fun u k => ?_) tasks left
  exact (updTile_ends k.1 _ u).trans (.foldl (fun w c => loseEngine_ends _ _ _ c w) _ _)

theorem degradeEngine_ends {n : Nat} (cause : Nat) {s : State} (h : (s.engine n).state ≠ .degraded) :
    Ends s (degradeEngine n cause s) :=
  (dimEngine_ends cause h).trans (degradeEngine_after n cause s)

/-- The engine is DEGRADED with its cause, and the mark that it was told stays (R282). -/
theorem degradeEngine_spec (n cause : Nat) (s : State) : ((degradeEngine n cause s).engine n).state = .degraded ∧
    ((degradeEngine n cause s).engine n).cause = cause ∧
    ((degradeEngine n cause s).engine n).stDegraded = (s.engine n).stDegraded := by
  have lost := (degradeEngine_after n cause s).engines n
  rw [dimEngine_same] at lost
  obtain ⟨state, cause, told⟩ := lost rfl
  exact ⟨state, cause, told⟩

/-! ### Calibration -/

/-- A calibration's engine serves again (R281, step 6). -/
def servesAgain (n : Nat) (s : State) : State :=
  nextMatrix n (s.updEngine n fun e => { e.quieted with
    state := .serving, loads := if e.matrix.isSome then bump e.loads else e.loads })

theorem servesAgain_of_nil {n : Nat} {s : State} (hc : s.clocked = true) (hq : (s.engine n).queue = []) :
    servesAgain n s = s.updEngine n fun e => { e.quieted with
      state := .serving, loads := if e.matrix.isSome then bump e.loads else e.loads, drain := none } := by
  unfold servesAgain
  rw [nextMatrix_of_nil, updEngine_updEngine]
  · rw [State.engine_updEngine_same]
  · exact hc
  · rw [State.engine_updEngine_same]
    exact hq

theorem doCalibrationDone_of_run {n dark : Nat} {fit : Bool} {s : State} (hs : (s.engine n).state = .calibrating)
    (hc : s.clocked = true) : doCalibrationDone n dark fit s =
      let u := calRun n dark fit s
      let v := if fit && dark ≤ s.im.lens.darkThresh * 16 then
        { u with lens := { u.lens with calTurn := (u.turnFrom ((n + 1) % 32)).getD n } } else u
      if (v.engine n).state = .degraded then v else servesAgain n v := by
  unfold doCalibrationDone
  rw [if_neg (by simp [hs, hc])]
  rfl

/-- The run of a calibration that aborts takes note of it (R281). -/
def notedAbort (dark : Nat) (e : Engine) : Engine :=
  { e with dark := min dark 65535, stCalAbort := true, calAborted := min (e.calAborted + 1) 4294967295, aborts := e.aborts + 1 }

/-- The run of a calibration that passes is adopted (R281). -/
def adoptedRun (dark now : Nat) (e : Engine) : Engine :=
  { e with dark := min dark 65535, aborts := 0, calDone := min (e.calDone + 1) 4294967295, calDevtime := now
           adopted := e.adopted + 1, drift := 0 }

theorem calRun_of_pass {n dark : Nat} {s : State} (hd : dark ≤ s.im.lens.darkThresh * 16) :
    calRun n dark true s = s.updEngine n (adoptedRun dark s.devCount) := by
  unfold calRun
  dsimp only
  rw [if_neg (by simp [show (s.updEngine n fun e => { e with dark := min dark 0xFFFF }).im = s.im from rfl]; omega)]
  unfold passCal
  rw [updEngine_updEngine]
  rfl

theorem calRun_of_fail {n dark : Nat} {fit : Bool} {s : State} (h : fit = false ∨ s.im.lens.darkThresh * 16 < dark) :
    calRun n dark fit s =
      if 3 ≤ (s.engine n).aborts + 1 then
        raise 0x8003 n (degradeEngine n 1 ((raise 0x8002 n (s.updEngine n (notedAbort dark))).updEngine n fun e =>
          { e with stDegraded := true }))
      else raise 0x8002 n (s.updEngine n (notedAbort dark)) := by
  have noted : (s.updEngine n fun e => { e with dark := min dark 0xFFFF }).updEngine n (fun e => { e with
      stCalAbort := true, calAborted := bump e.calAborted, aborts := e.aborts + 1 }) = s.updEngine n (notedAbort dark) := by
    rw [updEngine_updEngine]
    rfl
  have count : ((raise 0x8002 n (s.updEngine n (notedAbort dark))).engine n).aborts = (s.engine n).aborts + 1 :=
    congrArg Engine.aborts (State.engine_updEngine_same n (notedAbort dark) s)
  unfold calRun
  dsimp only
  rw [if_pos (by simpa [show (s.updEngine n fun e => { e with dark := min dark 0xFFFF }).im = s.im from rfl, or_comm] using h)]
  unfold abortCal
  rw [noted]
  dsimp only
  rw [count]

theorem not_passed {dark : Nat} {fit : Bool} {s : State} (h : fit = false ∨ s.im.lens.darkThresh * 16 < dark) :
    ¬(fit && decide (dark ≤ s.im.lens.darkThresh * 16)) = true := by
  obtain h | h := h
  · simp [h]
  · simp
    omega

theorem updEngine_eq (n : Nat) (f : Engine → Engine) (s : State) :
    s.updEngine n f = { s with lens := { s.lens with engines := tset s.lens.engines n (f (s.engine n)) } } :=
  rfl

/-- A run that passes is adopted and the turn moves on. -/
theorem doCalibrationDone_of_pass {n dark : Nat} {s : State} (hs : (s.engine n).state = .calibrating) (hc : s.clocked = true)
    (hd : dark ≤ s.im.lens.darkThresh * 16) (hq : (s.engine n).queue = []) : ∃ turn,
    doCalibrationDone n dark true s = { s with lens := { s.lens with
      calTurn := turn
      engines := tset s.lens.engines n { (adoptedRun dark s.devCount (s.engine n)).quieted with
        state := .serving
        loads := if (s.engine n).matrix.isSome then min ((s.engine n).loads + 1) 4294967295 else (s.engine n).loads
        drain := none } } } := by
  set u := s.updEngine n (adoptedRun dark s.devCount) with hu
  have at_n : u.engine n = adoptedRun dark s.devCount (s.engine n) := State.engine_updEngine_same n _ s
  set v : State := { u with lens := { u.lens with calTurn := (u.turnFrom ((n + 1) % 32)).getD n } } with hv
  have v_n : v.engine n = adoptedRun dark s.devCount (s.engine n) := at_n
  have state : (v.engine n).state = .calibrating := by rw [v_n]; exact hs
  have passed : (true && decide (dark ≤ s.im.lens.darkThresh * 16)) = true := by simp [hd]
  have whole : doCalibrationDone n dark true s = servesAgain n v := by
    rw [doCalibrationDone_of_run hs hc, calRun_of_pass hd]
    simp only [passed, if_true]
    exact if_neg (by rw [state]; decide)
  refine ⟨(u.turnFrom ((n + 1) % 32)).getD n, ?_⟩
  rw [whole, servesAgain_of_nil (show v.clocked = true from hc) (by rw [v_n]; exact hq), updEngine_eq, v_n]
  simp only [hv, hu, updEngine_eq, tset_tset_same, bump_eq]
  rfl

/-- The third abort in a row leaves the engine DEGRADED, and the turn stays (R282). -/
theorem doCalibrationDone_of_third {n dark : Nat} {fit : Bool} {s : State} (hs : (s.engine n).state = .calibrating)
    (hc : s.clocked = true) (hf : fit = false ∨ s.im.lens.darkThresh * 16 < dark) (ha : 2 ≤ (s.engine n).aborts) :
    ((doCalibrationDone n dark fit s).engine n).state = .degraded ∧ ((doCalibrationDone n dark fit s).engine n).cause = 1 ∧
      ((doCalibrationDone n dark fit s).engine n).stDegraded = true ∧
      (doCalibrationDone n dark fit s).lens.calTurn = s.lens.calTurn := by
  set u := (raise 0x8002 n (s.updEngine n (notedAbort dark))).updEngine n fun e => { e with stDegraded := true } with hu
  have at_n : u.engine n = { notedAbort dark (s.engine n) with stDegraded := true } := by
    rw [hu, State.engine_updEngine_same]
    exact congrArg (fun e : Engine => { e with stDegraded := true }) (State.engine_updEngine_same n (notedAbort dark) s)
  have awake : (u.engine n).state ≠ .degraded := by
    rw [at_n]
    exact fun h => absurd (hs.symm.trans h) (by decide)
  obtain ⟨state, cause, told⟩ := degradeEngine_spec n 1 u
  have whole : doCalibrationDone n dark fit s = raise 0x8003 n (degradeEngine n 1 u) := by
    have ran : calRun n dark fit s = raise 0x8003 n (degradeEngine n 1 u) := by
      rw [calRun_of_fail hf, if_pos (by omega)]
    rw [doCalibrationDone_of_run hs hc, ran]
    simp only [not_passed hf, Bool.false_eq_true, if_false]
    exact if_pos state
  obtain ⟨_, _, lens⟩ := (degradeEngine_ends 1 awake).lens
  rw [whole]
  refine ⟨state, cause, told.trans (by rw [at_n]), ?_⟩
  exact (congrArg LensSt.calTurn lens).trans rfl

/-- A first or a second abort is told, and the engine serves again (R281). -/
theorem doCalibrationDone_of_abort {n dark : Nat} {fit : Bool} {s : State} (hs : (s.engine n).state = .calibrating)
    (hc : s.clocked = true) (hf : fit = false ∨ s.im.lens.darkThresh * 16 < dark) (ha : (s.engine n).aborts < 2)
    (hq : (s.engine n).queue = []) : ∃ f,
    doCalibrationDone n dark fit s = { s with
      lens := { s.lens with engines := tset s.lens.engines n { (notedAbort dark (s.engine n)).quieted with
        state := .serving, loads := if (s.engine n).matrix.isSome then bump (s.engine n).loads else (s.engine n).loads
        drain := none } }
      flt := f } := by
  set u := raise 0x8002 n (s.updEngine n (notedAbort dark)) with hu
  have at_n : u.engine n = notedAbort dark (s.engine n) := State.engine_updEngine_same n (notedAbort dark) s
  have ran : calRun n dark fit s = u := by rw [calRun_of_fail hf, if_neg (by omega)]
  have whole : doCalibrationDone n dark fit s = servesAgain n u := by
    rw [doCalibrationDone_of_run hs hc, ran]
    simp only [not_passed hf, Bool.false_eq_true, if_false]
    exact if_neg (by rw [at_n]; exact fun h => absurd (hs.symm.trans h) (by decide))
  refine ⟨u.flt, ?_⟩
  rw [whole, servesAgain_of_nil (show u.clocked = true from hc) (by rw [at_n]; exact hq), updEngine_eq, at_n]
  have engines : u.lens = { s.lens with engines := tset s.lens.engines n (notedAbort dark (s.engine n)) } := rfl
  rw [engines]
  dsimp only
  rw [tset_tset_same]
  rfl

/-! ### A light source that is lost -/

/-- A port that went by the loss of its light: its core as it was, or FAILED with cause 3. -/
def PortLost (p q : PortCore) : Prop :=
  q = p ∨ (p.state ≠ .failed ∧ q.state = .failed ∧ q.failCause = 3)

theorem PortLost.trans {p q r : PortCore} (h : PortLost p q) (k : PortLost q r) : PortLost p r := by
  obtain rfl | ⟨up, failed, cause⟩ := h
  · exact k
  · obtain rfl | ⟨up', -, -⟩ := k
    · exact .inr ⟨up, failed, cause⟩
    · exact absurd failed up'

theorem PortLost.failed {p q : PortCore} (h : PortLost p q) (hp : p.state = .failed) : q.state = .failed := by
  obtain rfl | ⟨up, -, -⟩ := h
  · exact hp
  · exact absurd hp up

theorem PortLost.cause {p q : PortCore} (h : PortLost p q) (hp : p.state ≠ .failed) (hq : q.state = .failed) :
    q.failCause = 3 := by
  obtain rfl | ⟨-, -, cause⟩ := h
  · exact absurd hq hp
  · exact cause

/-- A port that is not FAILED already fails with cause 3. -/
def darkPort (s : State) (n : Nat) : State :=
  if (s.port n).state = .failed then s else failPort n 3 s

theorem darkPort_spec (s : State) (n : Nat) :
    (darkPort s n).lens = s.lens ∧ (∀ k, PortLost (s.port k).core ((darkPort s n).port k).core) ∧
      ((darkPort s n).port n).state = .failed := by
  unfold darkPort
  split
  next failed => exact ⟨rfl, fun _ => .inl rfl, failed⟩
  next up =>
    obtain ⟨rest, here, others, -⟩ := failPort_spec n 3 s
    have state : ((failPort n 3 s).port n).state = .failed := congrArg PortCore.state here
    refine ⟨by rw [rest], fun k => ?_, state⟩
    by_cases hk : k = n
    · subst hk
      exact .inr ⟨up, state, congrArg PortCore.failCause here⟩
    · exact .inl (others k hk)

theorem darkPorts_spec (l : List Nat) (s : State) :
    (l.foldl darkPort s).lens = s.lens ∧ (∀ k, PortLost (s.port k).core ((l.foldl darkPort s).port k).core) ∧
      ∀ k ∈ l, ((l.foldl darkPort s).port k).state = .failed := by
  induction l generalizing s with
  | nil => exact ⟨rfl, fun _ => .inl rfl, fun _ h => absurd h List.not_mem_nil⟩
  | cons n l ih =>
    obtain ⟨lens, ports, here⟩ := darkPort_spec s n
    obtain ⟨lens', ports', there⟩ := ih (darkPort s n)
    refine ⟨lens'.trans lens, fun k => (ports k).trans (ports' k), fun k hk => ?_⟩
    obtain rfl | hk := List.mem_cons.mp hk
    · exact (ports' k).failed here
    · exact there k hk

/-- An engine whose light is gone becomes DEGRADED with cause 2, where the light was on (R293). -/
def darkEngine (s : State) (n : Nat) : State :=
  if !s.lens.lit || (s.engine n).state = .degraded then s else degradeEngine n 2 s

theorem darkEngine_ends (s : State) (n : Nat) : Ends s (darkEngine s n) := by
  unfold darkEngine
  split
  · exact .refl s
  next h =>
    simp only [Bool.or_eq_true, decide_eq_true_eq, not_or] at h
    exact degradeEngine_ends 2 h.2

theorem darkEngines_degraded (l : List Nat) (s : State) (hl : s.lens.lit = true) :
    ∀ n ∈ l, ((l.foldl darkEngine s).engine n).state = .degraded := by
  have all : ∀ n ∈ l, (l.foldl darkEngine s).lens.lit = true → ((l.foldl darkEngine s).engine n).state = .degraded := by
    refine Ends.foldl_gone (P := fun n u => u.lens.lit = true → (u.engine n).state = .degraded) darkEngine_ends ?_ ?_ l s
    · intro s u n h hs lit
      obtain ⟨_, _, lens⟩ := h.lens
      rw [lens] at lit
      exact (h.engines n (hs lit)).1
    · intro s n lit
      obtain ⟨_, _, lens⟩ := (darkEngine_ends s n).lens
      rw [lens] at lit
      by_cases hd : (s.engine n).state = .degraded
      · exact ((darkEngine_ends s n).engines n hd).1
      · unfold darkEngine
        rw [if_neg (by simp [hd, show s.lens.lit = true from lit])]
        exact (degradeEngine_spec n 2 s).1
  obtain ⟨_, _, lens⟩ := (Ends.foldl darkEngine_ends l s).lens
  exact fun n hn => all n hn (by rw [lens]; exact hl)

theorem darkEngine_keeps {s u : State} (h : Keeps s u) (n : Nat) : Keeps s (darkEngine u n) :=
  .ite (fun _ => h) fun _ => degradeEngine_keeps h

/-- The source of a bank is known as lost. -/
def bankDark (n : Nat) (s : State) : State :=
  { s with lens := { s.lens with bankLost := setBit s.lens.bankLost n, stLight := true } }

/-- The bank's engines are DEGRADED and the fault is told. -/
def bankTold (n : Nat) (s : State) : State :=
  raise 0x8005 n (((List.range 8).map fun i => 8 * n + i).foldl darkEngine (bankDark n s))

theorem bankTold_ends (n : Nat) (s : State) : Ends (bankDark n s) (bankTold n s) :=
  (Ends.foldl darkEngine_ends _ _).trans (raiseFull_ends _ _ _ _ _)

theorem bankTold_im (n : Nat) (s : State) : (bankTold n s).im = s.im := by
  have keeps : Keeps (bankDark n s) (bankTold n s) := raise_keeps (.foldl (fun _ k h => darkEngine_keeps h k) (.refl _))
  exact congrArg (Option.getD · {}) keeps.img

/-- The engines and the ports of a lost source. -/
def lostFrom (n : Nat) (s : State) : State :=
  let dark := (s.litBy n).foldl darkEngine s
  let told := raise 0x8005 (if dark.lens.comb then 4 + n else n) dark
  if !told.im.fab.present then told else (told.portsBy n).foldl darkPort told

theorem loseSource_eq (n : Nat) (s : State) : loseSource n s = lostFrom n (if s.lens.comb then
    { s with lens := { s.lens with combLost := setBit s.lens.combLost n, stLight := true } } else bankDark n s) :=
  rfl

theorem loseSource_of_bank (n : Nat) (s : State) (hcomb : s.lens.comb = false) :
    loseSource n s = if s.im.fab.present then ((List.range 4).map fun i => 4 * n + i).foldl darkPort (bankTold n s)
      else bankTold n s := by
  obtain ⟨flight, engines, lens⟩ := (Ends.foldl darkEngine_ends ((List.range 8).map fun i => 8 * n + i) (bankDark n s)).lens
  have comb : (((List.range 8).map fun i => 8 * n + i).foldl darkEngine (bankDark n s)).lens.comb = false := by
    rw [lens]
    exact hcomb
  have told : (bankTold n s).lens.comb = false := comb
  have whole : loseSource n s = lostFrom n (bankDark n s) :=
    (loseSource_eq n s).trans (congrArg (lostFrom n) (if_neg (by simp [hcomb])))
  have engines : (bankDark n s).litBy n = (List.range 8).map fun i => 8 * n + i := if_neg (by simp [bankDark, hcomb])
  have ports : (bankTold n s).portsBy n = (List.range 4).map fun i => 4 * n + i := if_neg (by simp [told])
  rw [whole]
  unfold lostFrom
  rw [engines]
  dsimp only
  rw [comb, if_neg Bool.false_ne_true]
  change (if !(bankTold n s).im.fab.present then bankTold n s else
    ((bankTold n s).portsBy n).foldl darkPort (bankTold n s)) = _
  rw [bankTold_im, ports]
  cases s.im.fab.present
  · rfl
  · rfl

/-- What the loss of a bank's light source comes to. -/
theorem loseSource_spec (n : Nat) (s : State) (hcomb : s.lens.comb = false) :
    (loseSource n s).lens.bankLost = setBit s.lens.bankLost n ∧ (loseSource n s).lens.stLight = true ∧
      (s.lens.lit = true → ∀ k, 8 * n ≤ k → k < 8 * n + 8 → ((loseSource n s).engine k).state = .degraded) ∧
      (s.im.fab.present = true → ∀ k, 4 * n ≤ k → k < 4 * n + 4 → ((loseSource n s).port k).state = .failed ∧
        ((s.port k).state ≠ .failed → ((loseSource n s).port k).failCause = 3)) := by
  obtain ⟨lens, ports, failed⟩ := darkPorts_spec ((List.range 4).map fun i => 4 * n + i) (bankTold n s)
  have lens : (loseSource n s).lens = (bankTold n s).lens := by
    rw [loseSource_of_bank n s hcomb]
    split
    · exact lens
    · rfl
  obtain ⟨flight, engines, told⟩ := (bankTold_ends n s).lens
  refine ⟨by rw [lens, told]; rfl, by rw [lens, told]; rfl, fun lit k hlo hhi => ?_, fun fab k hlo hhi => ?_⟩
  · rw [show (loseSource n s).engine k = (bankTold n s).engine k by rw [State.engine, lens]; rfl]
    refine darkEngines_degraded _ (bankDark n s) lit k ?_
    exact List.mem_map.mpr ⟨k - 8 * n, List.mem_range.mpr (by omega), by omega⟩
  · rw [loseSource_of_bank n s hcomb, if_pos fab]
    have state := failed k (List.mem_map.mpr ⟨k - 4 * n, List.mem_range.mpr (by omega), by omega⟩)
    have lost := ports k
    rw [show ((bankTold n s).port k).core = (s.port k).core from (bankTold_ends n s).core k] at lost
    generalize ((List.range 4).map fun i => 4 * n + i).foldl darkPort (bankTold n s) = w at state lost ⊢
    exact ⟨state, fun up => lost.cause up state⟩

theorem doLightSourceLost_of_on {n : Nat} {s : State} (hc : s.clocked = true) (hon : s.lens.lit = true ∨ s.quarantined = true)
    (hcomb : s.lens.comb = false) (hn : n < 4) (hb : bit s.lens.bankLost n = false) :
    doLightSourceLost n s = loseSource n s := by
  have running : s.running = true := (Bool.and_eq_true_iff.mp hc).1
  refine if_neg ?_
  simp only [State.sourcesOn, State.sourceLost, hcomb, running, hb]
  obtain on | on := hon <;> simp [on, hn]

theorem doLightSourceLost_of_dark {n : Nat} {s : State} (hc : s.clocked = true) (hl : s.lens.lit = false)
    (hq : s.quarantined = false) : doLightSourceLost n s = s := by
  have awake : s.lehr.state ≠ .tripped := by simpa using (Bool.and_eq_true_iff.mp hc).2
  exact if_pos (by simp [State.sourcesOn, hl, hq, awake])

theorem doPilotCorrection_of_serving {n drift : Nat} {s : State} (hc : s.clocked = true) (hs : (s.engine n).state = .serving)
    (hf : (s.engine n).frozen = false) : doPilotCorrection n drift s =
      { s with lens := { s.lens with engines := tset s.lens.engines n { s.engine n with drift := min drift 65535 } } } :=
  if_neg (by simp [hc, hs, hf])

theorem doPilotCorrection_of_not {n drift : Nat} {s : State} (h : (s.engine n).state ≠ .serving ∨ (s.engine n).frozen = true) :
    doPilotCorrection n drift s = s :=
  if_pos (by simpa using .inl h)

/-- Settles O49. -/
theorem lensCalibrates : Obligations.LensCalibrates := by
  unfold Obligations.LensCalibrates
  intro t n dark fit s a e hc
  have im : a.im = s.im := State.advance_im ..
  have kept : Keeps a (doCalibrationDone n dark fit a) := doCalibrationDone_keeps (.refl _)
  have lost : Keeps a (doLightSourceLost n a) := doLightSourceLost_keeps (.refl _)
  have quarantined : a.quarantined = s.quarantined := by
    rw [State.quarantined, State.advance_fab]
    rfl
  refine ⟨fun hs => ⟨?pass, ?abort, ?third⟩,
    fun hs => congrArg Host.Outcome.next (?idle : doCalibrationDone n dark fit a = a),
    fun hs hf => congrArg Host.Outcome.next (doPilotCorrection_of_serving hc hs hf),
    fun h => congrArg Host.Outcome.next (doPilotCorrection_of_not h), ?lightLost, ?lightOff⟩
  case pass =>
    rintro rfl hd hq
    obtain ⟨turn, whole⟩ := doCalibrationDone_of_pass hs hc (dark := dark) (by rw [im]; exact hd) hq
    refine ⟨_, congrArg Host.Outcome.next (show doCalibrationDone n dark true a = _ from whole), rfl, ?_, fun k hk => ?_⟩
    · exact tget_tset_same ..
    · exact tget_tset_other _ _ _ hk
  case abort =>
    intro hf ha hq
    obtain ⟨flt, whole⟩ := doCalibrationDone_of_abort hs hc (dark := dark) (fit := fit) (by rw [im]; exact hf) ha hq
    refine ⟨_, congrArg Host.Outcome.next (show doCalibrationDone n dark fit a = _ from whole), rfl, ?_⟩
    simp [State.engine, notedAbort, Engine.quieted, e]
  case third =>
    intro hf ha
    obtain ⟨state, cause, told, turn⟩ := doCalibrationDone_of_third hs hc (dark := dark) (fit := fit) (by rw [im]; exact hf) ha
    exact ⟨_, rfl, state, cause, told, turn.trans (State.advance_lens_calTurn ..), kept.nv.trans (State.advance_nv ..),
      kept.pins.trans (State.advance_pins ..)⟩
  case idle => exact if_pos (by simp [show (a.engine n).state ≠ .calibrating from hs])
  case lightLost =>
    intro on hcomb hn hb
    have comb : a.lens.comb = false := (State.advance_lens_comb ..).trans hcomb
    have whole : doLightSourceLost n a = loseSource n a := by
      refine doLightSourceLost_of_on hc ?_ comb hn ((congrArg (bit · n) (State.advance_lens_bankLost ..)).trans hb)
      rw [quarantined]
      exact on.imp_left (State.advance_lens_lit ..).trans
    obtain ⟨bank, told, engines, ports⟩ := loseSource_spec n a comb
    rw [← whole] at bank told engines ports
    refine ⟨_, rfl, bank.trans (congrArg (setBit · n) (State.advance_lens_bankLost ..)), told,
      fun lit => engines ((State.advance_lens_lit ..).trans lit), fun fab k hlo hhi => ?_,
      lost.nv.trans (State.advance_nv ..), lost.pins.trans (State.advance_pins ..), lost.start.trans (State.advance_start ..)⟩
    obtain ⟨failed, cause⟩ := ports (by rw [im]; exact fab) k hlo hhi
    exact ⟨failed, fun up => cause (by rw [State.advance_port]; exact up)⟩
  case lightOff =>
    intro hl hq
    exact congrArg Host.Outcome.next
      (doLightSourceLost_of_dark hc ((State.advance_lens_lit ..).trans hl) (quarantined.trans hq) : doLightSourceLost n a = a)

end Sys2Proof.Machine
